-- ==== Sys2Proof/Word.lean ====
section
/-! DEFINITION. The plainest numbers of the part: bytes, and flags as numbers (R2 to R6). Values of objects, registers and
frames are natural numbers; the width of each is what its table gives (R6), and the operations that wrap, saturate or cut
fields stand in Machine/Operands.lean and Machine/Flags.lean. -/

namespace Sys2Proof

/-- The number 1 for true and 0 for false. -/
abbrev num (b : Bool) : Nat := if b then 1 else 0

/-- The numbers 0 to 255. -/
abbrev isByte (b : Nat) : Bool := b < 256

end Sys2Proof
end

