-- ==== Sys2Proof/Syntax.lean ====
section
/-! DEFINITION. The commands of the block: one constructor per row of the table of operations and events, with the row's
operands. The first operand of every command is the time since the command before it, in ticks of 62.5 ns (R2); the others are
what the host, the ring, the pins or the analogue front end bring. -/

namespace Sys2Proof

/-- Who sent a command packet: a client of the node's own host port (0 on SPI), or a session of another node, through the
ring (R351, R354). -/
inductive Source where
  | host (client : Nat)
  | ring (node session : Nat)
deriving DecidableEq, Repr

/-- What a command packet carries beside its object and data: its source, its TAG, its byte 2 (R42), and whether the NVM stores
the value, for a P object (R34). -/
structure Ctx where
  src : Source
  tag : Nat
  addr : Nat
  storeOk : Bool
deriving DecidableEq, Repr

/-- The origin of a write to WatchdogService, as the hardware tags it (R430). -/
inductive WdOrigin where
  | core (privileged : Bool)
  | host (c : Ctx)
deriving DecidableEq, Repr

/-- The two ports of a node (R335). -/
inductive Side where
  | north | south
deriving DecidableEq, Repr

/-- The supervised rails (R74). -/
inductive Rail where
  | vpre | vcore | vana | vmir | vao
deriving DecidableEq, Repr

/-- What a cell converter delivers for an aperture: the calibrated value in 10 uV, whether its quantiser stood still for 64 periods
(R160), the checks of R184 that failed (bit 0 the clock, bit 1 the accumulator), and whether the record failed its word check
at H1 (R441). -/
structure CellRaw where
  value : Int
  stuck : Bool
  checks : Nat
  badWord : Bool
deriving DecidableEq, Repr

/-- What the current converter delivers for an aperture: the value in 40 nV, and the rest as CellRaw (R190, R197). -/
structure CurRaw where
  value : Int
  stuck : Bool
  checks : Nat
  badWord : Bool
deriving DecidableEq, Repr

/-- A word of a bound or calibration table that failed its check, in a scrubber pass or at a use: the converter whose terms it holds (0 for
a word of every converter), and whether the calibration copies 0 and 1 in NVM were good (R446, R496, R497). -/
structure TableWord where
  converter : Nat
  copy0 : Bool
  copy1 : Bool
deriving DecidableEq, Repr

/-- A factory table as the firmware reads it at a SUP start: whether it passes its CRC-32C in calibration copy 0 and in copy 1 (R497). -/
structure CalRead where
  copy0 : Bool
  copy1 : Bool
deriving DecidableEq, Repr

/-- What hand-off H3 finds of a set (R441, R443, R445): the converters whose record fails its word check, with whether its recomputation, or
the second read of it, passes; whether the CRC-32C of the set is right, and whether it is when the set is read again. -/
structure SetCheck where
  bad : List (Nat × Bool)
  setOk : Bool
  rereadOk : Bool
deriving DecidableEq, Repr

/-- What a Mirror comparator finds in a sample of its 1 MHz clock: the cell beyond the trip voltage, between it and the release voltage, or
inside the release voltage (R402, R404). -/
inductive MirrorSample where
  | beyond | between | inside
deriving DecidableEq, Repr

/-- The samples of one comparator since the last command that brought samples of it, in order, each with how many times it came in a row; in
SLEEP those of the checks alone (R404, R408). -/
structure MirrorRun where
  cell : Nat
  isOv : Bool
  samples : List (MirrorSample × Nat)
deriving DecidableEq, Repr

/-- What the Mirror channel has found up to a write to MirrorRelease: the samples of its comparators (R404), and the self-fault causes whose checks
fail, by their bits (R406). -/
structure MirrorFinds where
  samples : List MirrorRun
  failing : Nat
deriving DecidableEq, Repr

/-- The samples of one comparator of a cell: which comparator, and what it finds (R404). -/
structure TripRun where
  isOv : Bool
  samples : List (MirrorSample × Nat)
deriving DecidableEq, Repr

/-- The CRC-32C of a set at H3, and when the set is read again (R441, R445). -/
structure SetCrc where
  setOk : Bool
  rereadOk : Bool
deriving DecidableEq, Repr

/-- A REPORT: its PARAM (R240), and what H3 finds of the set when it is one for the node's own host (R441). -/
structure ReportOp where
  param : Nat
  host : SetCheck
deriving DecidableEq, Repr

/-- The auxiliary side of an aperture's end: whether VANA stood inside its window throughout (R75), and the table words that fail their check at this use (R446). -/
structure ApertureEnd where
  vanaOk : Bool
  words : List TableWord
deriving DecidableEq, Repr

/-- The pins SRQA and SRQB at a tick (R411). -/
structure SrqPins where
  a : Bool
  b : Bool
deriving DecidableEq, Repr

/-- Two further pins at that tick: whether another device holds nFAULT low (R407), and the level of CFB (R420). -/
structure SafetyPins where
  nFaultOther : Bool
  cfb : Bool
deriving DecidableEq, Repr

/-- A host write or a ROM boot that a brown-out has cut short while it programmed the NVM (R499, R505, R514): the record of a P object; a word
of the marker row of slot A (false) or B, numbered as R505 does; the erase or the programming of a plan slot. -/
inductive CutWrite where
  | record (index sub value : Nat)
  | marker (slotB : Bool) (word : Nat)
  | planSlot (slot : Nat)
deriving DecidableEq, Repr

/-- What a brown-out leaves of the NVM operation in progress: nothing done, part of it, or all of it (R495); and the write it has cut short. -/
structure NvmCut where
  done : Nat
  write : Option CutWrite
deriving DecidableEq, Repr

/-- A brown-out (R76): the ticks since the command before it, and what it leaves in the NVM (R495). -/
structure BrownOut where
  dt : Nat
  cut : NvmCut
deriving DecidableEq, Repr

/-- What a slice of each kind measures (R466): loop-back errors eL and eH in uV (R474); the switch test's currents in mA, voltages in
mV and steps on the three cells in uV (R300); the three samples of a FILTER slice in uV (R476); the agreement window and the first
changed codes of a MIRROR slice (R477); the replica check and a completed eye scan (R479); the sources tested and those
outside their limits, as SourceStatus numbers them; and the sync slot of the Facet check. -/
inductive SliceMeas where
  | loop (eL eH : Int)
  | switch (ioff ion voff von below own above : Nat)
  | filter (v0 v1 v2 : Int)
  | mirror (disagree : Bool) (ovCode uvCode : Option Nat)
  | phy (mismatch : Bool) (eye : Option Nat)
  | sources (tested bad : Nat)
  | facet (seen good : Bool)
deriving DecidableEq, Repr

/-- The outcome that a slice's block hands over: whether the signature equals the fixed value (R469), the measurement, and the
calibration and threshold words that fail their check as the block is re-initialised (R446, R467). -/
structure SliceOut where
  signature : Bool
  m : SliceMeas
  words : List TableWord
deriving DecidableEq, Repr

/-- What the March test finds in one macro (R480, R481): the failing words in the order found, each with its address and first failing bit, and
whether the macro passes once their rows are mapped. -/
structure MacroMeas where
  words : List (Nat × Nat)
  retestOk : Bool
deriving DecidableEq, Repr

/-- What a start of the SUP domain finds: the March test of the ROM boot (R480), and the factory tables (R497). -/
structure StartFinds where
  mem : List MacroMeas
  cal : List CalRead
deriving DecidableEq, Repr

/-- A frame as it arrived: the port, the bytes between the delimiters, whether it ended in ED (true) or in ABORT (R342, R345), and, of a
frame in which a MARK came between SUSPEND and RESUME, how many of its symbols came before them (R348). -/
structure RingFrame where
  side : Side
  bytes : List Nat
  ended : Bool
  cut : Option Nat
deriving DecidableEq, Repr

/-- The two samples of the seven strap leads (R524), in the order of StrapStatus [6:0]. -/
structure StrapPins where
  a : Nat
  b : Nat
deriving DecidableEq, Repr

/-- What one execution of a sleep-plan entry finds at the input of the auxiliary converter (R246): the voltages of its channel and of the
three die sensors in nV, at the samples in order; an input stays at its last voltage. -/
structure SleepReading where
  volts : List Int
  die1 : List Int
  die2 : List Int
  die3 : List Int
deriving DecidableEq, Repr

/-- A SLEEP check (R104): the ticks for which ICX is on, and what the 16 entries find, first and on their repetition. -/
structure SleepMeas where
  icxTicks : Nat
  first : List SleepReading
  again : List SleepReading
deriving DecidableEq, Repr

/-- What the supply supervisor and the transfer sense converter deliver at a frame start: STK and XBS in 10 mV (R77), the mean
current of the frame in mA and its largest peak in mA (R321), whether VGD lies in 9.5 V to 10.5 V and nXFLT is high (R323), and the charge of
the frame in mC. -/
structure FrameMeas where
  stk : Nat
  xbs : Nat
  mean : Int
  peak : Nat
  vgdOk : Bool
  nxfltHigh : Bool
  charge : Int
deriving DecidableEq, Repr

/-- A slot on the Facet line (R227): when the line rises, in ns from the slot start in a data slot and from the master's release in a sync
slot, none when it is still low at the end of the slot; and whether a low longer than 0.5 us follows. -/
structure FacetSlot where
  rise : Option Nat
  stray : Bool
deriving DecidableEq, Repr

/-- A window on the Facet line (R226): its sync slot and its data slots 1 to 24. -/
structure FacetLine where
  sync : FacetSlot
  slots : List FacetSlot
deriving DecidableEq, Repr

/-- The commands. -/
inductive Instr where
  /-- READ (R48). -/
  | read (dt : Nat) (c : Ctx) (index sub : Nat) (data : List Nat)
  /-- WRITE (R48). -/
  | write (dt : Nat) (c : Ctx) (index sub : Nat) (data : List Nat)
  /-- SEG_READ_START (R51). -/
  | segReadStart (dt : Nat) (c : Ctx) (index sub : Nat)
  /-- SEG_WRITE_START (R50). -/
  | segWriteStart (dt : Nat) (c : Ctx) (index sub total : Nat)
  /-- SEG_DATA (R52). -/
  | segData (dt : Nat) (c : Ctx) (index sub seq : Nat) (last : Bool) (payload : List Nat)
  /-- SEG_CANCEL (R52). -/
  | segCancel (dt : Nat) (c : Ctx) (index sub : Nat)
  /-- PING (R43). -/
  | ping (dt : Nat) (c : Ctx)
  /-- STATUS (R64). -/
  | status (dt length : Nat)
  /-- PUT (R67). -/
  | put (dt length seq : Nat) (packet : List Nat) (crc : Nat) (storeOk : Bool)
  /-- GET (R67). -/
  | get (dt length clocked : Nat)
  /-- POP (R67). -/
  | pop (dt length seq crc clocked : Nat)
  /-- CAN_COMMAND_FRAME (R71). -/
  | canCommandFrame (dt ident format : Nat) (data : List Nat) (storeOk : Bool)
  /-- BUS_OFF (R73). -/
  | busOff (dt : Nat)
  /-- BUS_OFF_RECOVERY (R73). -/
  | busOffRecovery (dt : Nat)
  /-- RESET_SUP_DOMAIN (R38). -/
  | resetSupDomain (dt : Nat) (c : Ctx)
  /-- RESET_WHOLE_DEVICE (R38). -/
  | resetWholeDevice (dt : Nat) (c : Ctx)
  /-- RELEASE_HELD_SUP (R465). -/
  | releaseHeldSup (dt : Nat) (c : Ctx)
  /-- RESET_ACTS (R555). -/
  | resetActs (dt : Nat)
  /-- SESSION_CLOSE (R56). -/
  | sessionClose (dt : Nat) (c : Ctx)
  /-- SESSION_OPEN_OBSERVER (R56). -/
  | sessionOpenObserver (dt : Nat) (c : Ctx)
  /-- SESSION_REQUEST_MASTER (R57). -/
  | sessionRequestMaster (dt : Nat) (c : Ctx)
  /-- SESSION_MASTER_TAKE (R57). -/
  | sessionMasterTake (dt : Nat) (c : Ctx)
  /-- SESSION_TIMEOUT (R58). -/
  | sessionTimeout (dt client : Nat)
  /-- TRANSFER_TIMEOUT (R52). -/
  | transferTimeout (dt : Nat) (src : Source) (write : Bool)
  /-- MODE_REQUEST (R92). -/
  | modeRequest (dt : Nat) (c : Ctx) (value : Nat)
  /-- MODE_TRANSITION (R92). -/
  | modeTransition (dt : Nat)
  /-- SHUTDOWN_SEQUENCE_COMPLETE (R96). -/
  | shutdownSequenceComplete (dt : Nat)
  /-- RETIRE (R152). -/
  | retire (dt : Nat) (c : Ctx) (cell : Nat)
  /-- REINSTATE (R154). -/
  | reinstate (dt : Nat) (c : Ctx) (cell : Nat)
  /-- LOAD (R260). -/
  | load (dt : Nat) (c : Ctx) (slot : Nat)
  /-- DISCARD (R260). -/
  | discard (dt : Nat) (c : Ctx)
  /-- ERASE (R260). -/
  | erase (dt : Nat) (c : Ctx) (slot : Nat)
  /-- CANCEL (R260). -/
  | cancel (dt : Nat) (c : Ctx)
  /-- PLAN_SWITCH (R262). -/
  | planSwitch (dt : Nat) (c : Ctx) (planId start : Nat)
  /-- BANK_SWITCH (R263). -/
  | bankSwitch (dt : Nat)
  /-- PLAN_IMAGE_WRITE (R259). -/
  | planImageWrite (dt : Nat) (c : Ctx) (image : List Nat)
  /-- AUX_REQUEST (R212). -/
  | auxRequest (dt : Nat) (c : Ctx) (channel : Nat)
  /-- FACET_SEARCH (R231). -/
  | facetSearch (dt : Nat) (c : Ctx) (value : Nat)
  /-- FACET_ENABLE (R234). -/
  | facetEnable (dt : Nat) (c : Ctx) (value : Nat)
  /-- MIRROR_RELEASE (R405). -/
  | mirrorRelease (dt : Nat) (c : Ctx) (value : Nat) (found : MirrorFinds)
  /-- WATCHDOG_FIRST_KEY (R431). -/
  | watchdogFirstKey (dt : Nat) (o : WdOrigin)
  /-- WATCHDOG_SECOND_KEY (R431). -/
  | watchdogSecondKey (dt : Nat) (o : WdOrigin)
  /-- WATCHDOG_CONFIG_WRITE (R430). -/
  | watchdogConfigWrite (dt : Nat) (c : Ctx) (value : Nat)
  /-- CRC_START (R448). -/
  | crcStart (dt : Nat) (c : Ctx)
  /-- CRC_DATA (R448). -/
  | crcData (dt : Nat) (c : Ctx) (data : List Nat)
  /-- ALIVE_INPUT (R451). -/
  | aliveInput (dt : Nat) (c : Ctx) (value : Nat)
  /-- ALIVE_CONFIG (R451). -/
  | aliveConfig (dt : Nat) (c : Ctx) (value : Nat)
  /-- ENUM_NEW (R362). -/
  | enumNew (dt : Nat) (c : Ctx)
  /-- ENUM_VERIFY (R363). -/
  | enumVerify (dt : Nat) (c : Ctx)
  /-- DEPUTY_CONTROL (R389). -/
  | deputyControl (dt : Nat) (c : Ctx)
  /-- LEGACY_TRANSMIT (R372). -/
  | legacyTransmit (dt : Nat) (c : Ctx) (data : List Nat) (markIn : Nat)
  /-- ACTIVATE (R510). -/
  | activate (dt : Nat) (c : Ctx)
  /-- ABANDON (R510). -/
  | abandon (dt : Nat) (c : Ctx)
  /-- UPDATE_VERIFY (R510). -/
  | updateVerify (dt : Nat) (c : Ctx)
  /-- CONFIRM (R510). -/
  | confirm (dt : Nat) (c : Ctx)
  /-- ROLLBACK (R510). -/
  | rollback (dt : Nat) (c : Ctx)
  /-- FIRMWARE_IMAGE_WRITE (R508). -/
  | firmwareImageWrite (dt : Nat) (c : Ctx) (data : List Nat)
  /-- FAULT_CLEAR (R462). -/
  | faultClear (dt : Nat) (c : Ctx) (source value : Nat)
  /-- FAULT_STATUS_READ_CLEAR (R332). -/
  | faultStatusReadClear (dt : Nat) (c : Ctx) (source : Nat)
  /-- POWER_PATH_POLICY_WRITE (R80). -/
  | powerPathPolicyWrite (dt : Nat) (c : Ctx) (value : Nat)
  /-- CONVERT (R143); `volts` is the shunt voltage in nV from here on. -/
  | convert (dt cells osr : Nat) (through : Bool) (volts : Int)
  /-- SNAP_CURRENT (R200). -/
  | snapCurrent (dt : Nat) (volts : Int)
  /-- BAL_HOLD (R239). -/
  | balHold (dt switches : Nat)
  /-- BAL_RELEASE (R239). -/
  | balRelease (dt switches : Nat)
  /-- AUX (R211). -/
  | aux (dt select : Nat)
  /-- OPENWIRE (R253). -/
  | openwire (dt param : Nat)
  /-- REPORT (R240). -/
  | report (dt : Nat) (op : ReportOp)
  /-- MARK (R113). -/
  | mark (dt offset : Nat) (last : Bool)
  /-- SLICE (R255). -/
  | slice (dt channels param : Nat)
  /-- XFER_ON (R325). -/
  | xferOn (dt : Nat)
  /-- XFER_OFF (R327). -/
  | xferOff (dt : Nat)
  /-- LOUPE_START (R308). -/
  | loupeStart (dt point switches : Nat)
  /-- LOUPE_STOP (R308). -/
  | loupeStop (dt : Nat)
  /-- ADHOC_SLOT (R266). -/
  | adhocSlot (dt : Nat)
  /-- PLAN_CYCLE_BOUNDARY (R126), with the table words that fail their check at the uses of the boundary (R446). -/
  | planCycleBoundary (dt : Nat) (words : List TableWord)
  /-- PLAN_ENTRY_FETCH (R277). -/
  | planEntryFetch (dt entry : Nat) (wordsOk : Bool)
  /-- ENTRY_REFETCH_COMPLETE (R277). -/
  | entryRefetchComplete (dt entry : Nat) (ok inTime : Bool)
  /-- LATE_ENTRY (R278). -/
  | lateEntry (dt entry : Nat)
  /-- PLAN_SCRUB_PASS (R279). -/
  | planScrubPass (dt : Nat) (active inactive : List (Nat × Bool))
  /-- CAL_SCRUB_PASS (R446). -/
  | calScrubPass (dt : Nat) (words : List TableWord)
  /-- APERTURE_COMPLETE (R145). -/
  | apertureComplete (dt a : Nat) (cells : List CellRaw) (s1 s2 : CellRaw) (cur : CurRaw) (sense : List Int) (e : ApertureEnd)
  /-- RECOMPUTATION_COMPLETE (R443). -/
  | recomputationComplete (dt a converter : Nat) (ok : Bool)
  /-- AUX_CONVERSION_COMPLETE (R211). -/
  | auxConversionComplete (dt : Nat) (volts : List Int)
  /-- SPARE_ARMING_COMPLETE (R149). -/
  | spareArmingComplete (dt spare : Nat)
  /-- HAND_BACK_TIMEOUT (R150). -/
  | handBackTimeout (dt spare : Nat)
  /-- SLICE_END (R467). -/
  | sliceEnd (dt kind target : Nat) (token : Bool) (out : SliceOut)
  /-- SELFTEST_COMPLETE (R482): what the memory test of step 01h finds, what its repetition finds, and the table words that fail their check as the
  firmware moves its data (R446, R480). -/
  | selftestComplete (dt : Nat) (mem again : List MacroMeas) (words : List TableWord)
  /-- MARK_COPY (R117). -/
  | markCopy (dt : Nat) (f : RingFrame) (residence sub : Nat)
  /-- LANE_SERVICE_EVALUATION (R382). -/
  | laneServiceEvaluation (dt : Nat)
  /-- MARK_SILENCE (R122). -/
  | markSilence (dt : Nat)
  /-- HOLDOVER_LIMIT (R125). -/
  | holdoverLimit (dt : Nat)
  /-- SYNC_EDGE (R129). -/
  | syncEdge (dt : Nat) (rising : Bool)
  /-- LINK_LOCK (R343). -/
  | linkLock (dt : Nat) (side : Side)
  /-- LINK_LOSS (R343). -/
  | linkLoss (dt : Nat) (side : Side) (violations : Nat)
  /-- TRAINING_GENERATION_SWITCH (R343). -/
  | trainingGenerationSwitch (dt : Nat) (side : Side)
  /-- REMOTE_FAULT_IDLE (R379). -/
  | remoteFaultIdle (dt : Nat) (side : Side)
  /-- PORT_SERVING (R378). -/
  | portServing (dt : Nat) (side : Side)
  /-- COMMAND_FRAME (R354). -/
  | commandFrame (dt : Nat) (f : RingFrame) (storeOk : Bool)
  /-- RESPONSE_FRAME (R354). -/
  | responseFrame (dt : Nat) (f : RingFrame)
  /-- BULK_FRAME (R356). -/
  | bulkFrame (dt : Nat) (f : RingFrame) (storeOk : Bool)
  /-- BULK_REASSEMBLY_TIMEOUT (R356). -/
  | bulkReassemblyTimeout (dt src : Nat)
  /-- RESULT_FRAME (R357). -/
  | resultFrame (dt : Nat) (f : RingFrame)
  /-- SAFETY_FRAME (R428). -/
  | safetyFrame (dt : Nat) (f : RingFrame)
  /-- EVENT_FRAME (R360). -/
  | eventFrame (dt : Nat) (f : RingFrame)
  /-- LEGACY_FRAME (R372). -/
  | legacyFrame (dt : Nat) (f : RingFrame)
  /-- DISCOVER (R363). -/
  | discover (dt : Nat) (f : RingFrame)
  /-- ENUM_REPORT (R364). -/
  | enumReport (dt : Nat) (f : RingFrame)
  /-- ENUM_CONFIRM (R365). -/
  | enumConfirm (dt : Nat) (f : RingFrame)
  /-- GEN_SWITCH (R368). -/
  | genSwitch (dt : Nat) (f : RingFrame)
  /-- PORT_GENERATION_SWITCH (R368). -/
  | portGenerationSwitch (dt : Nat)
  /-- GEN_SWITCH_FAILURE (R369). -/
  | genSwitchFailure (dt : Nat)
  /-- DELAY_REQ (R366). -/
  | delayReq (dt : Nat) (f : RingFrame) (turnaround : Nat)
  /-- DELAY_RESP (R367). -/
  | delayResp (dt : Nat) (f : RingFrame) (roundTrip : Nat)
  /-- DELAY_MEASUREMENT (R366). -/
  | delayMeasurement (dt : Nat) (side : Side)
  /-- ENUMERATION_START (R362). -/
  | enumerationStart (dt : Nat)
  /-- COLLECTION_END (R364). -/
  | collectionEnd (dt : Nat)
  /-- FRAME_TRANSMIT (R347). -/
  | frameTransmit (dt : Nat) (side : Side) (bad : List (Nat × Bool)) (crc : SetCrc)
  /-- RING_COMMAND_TIMEOUT (R47). -/
  | ringCommandTimeout (dt client tag : Nat)
  /-- RING_CRC_INTERVAL (R373). -/
  | ringCrcInterval (dt : Nat)
  /-- DEPUTY_TIMEOUT (R389). -/
  | deputyTimeout (dt : Nat)
  /-- SRQ_TICK (R411), with the levels at two further pins (R407, R420). -/
  | srqTick (dt : Nat) (srq : SrqPins) (pins : SafetyPins)
  /-- CEN_CLOSE (R417). -/
  | cenClose (dt : Nat)
  /-- CEN_STATIC_CHECK (R418). -/
  | cenStaticCheck (dt : Nat) (highAbove lowBelow : Bool)
  /-- CEN_TEST_START (R419). -/
  | cenTestStart (dt : Nat)
  /-- CEN_TEST_TRANSITION (R419). -/
  | cenTestTransition (dt : Nat)
  /-- CEN_TEST_TIMEOUT (R419). -/
  | cenTestTimeout (dt : Nat)
  /-- CFB_MISMATCH (R420). -/
  | cfbMismatch (dt : Nat) (level : Bool)
  /-- MIRROR_TRIP (R405). -/
  | mirrorTrip (dt cell : Nat) (run : TripRun)
  /-- MIRROR_SELF_FAULT (R406). -/
  | mirrorSelfFault (dt cause : Nat)
  /-- WATCHDOG_EXPIRY (R432). -/
  | watchdogExpiry (dt : Nat)
  /-- SUPERVISOR_READY (R30). -/
  | supervisorReady (dt : Nat) (found : StartFinds)
  /-- QUIET_PERIOD_END (R460). -/
  | quietPeriodEnd (dt source : Nat)
  /-- RECOVERY_WINDOW_END (R460). -/
  | recoveryWindowEnd (dt source : Nat)
  /-- POWER_ON_RESET (R109). -/
  | powerOnReset (dt : Nat) (p : StrapPins) (stkOk xbsOk fromShip : Bool)
  /-- CONFIGURATION_CHECK (R97). -/
  | configurationCheck (dt : Nat)
  /-- BROWN_OUT (R76). -/
  | brownOut (x : BrownOut)
  /-- AO_RESET (R76). -/
  | aoReset (dt : Nat)
  /-- SUPPLY_UNDERVOLTAGE (R76). -/
  | supplyUndervoltage (dt : Nat)
  /-- SUPPLY_UV_CLEARS (R76). -/
  | supplyUvClears (dt : Nat)
  /-- SUPPLY_OVERVOLTAGE (R76). -/
  | supplyOvervoltage (dt : Nat)
  /-- SUPPLY_OV_CLEARS (R76). -/
  | supplyOvClears (dt : Nat)
  /-- EXCHANGE_BUS_VALID (R76). -/
  | exchangeBusValid (dt : Nat)
  /-- EXCHANGE_BUS_INVALID (R76). -/
  | exchangeBusInvalid (dt : Nat)
  /-- EXCHANGE_BUS_OVERVOLTAGE (R76). -/
  | exchangeBusOvervoltage (dt : Nat)
  /-- EXCHANGE_BUS_OV_CLEARS (R76). -/
  | exchangeBusOvClears (dt : Nat)
  /-- RAIL_OUT_OF_WINDOW (R74). -/
  | railOutOfWindow (dt : Nat) (rail : Rail)
  /-- NRST_LOW (R106). -/
  | nrstLow (dt : Nat)
  /-- NRST_RELEASE (R106). -/
  | nrstRelease (dt : Nat)
  /-- NRST_STUCK (R108). -/
  | nrstStuck (dt : Nat)
  /-- WAKE_IN (R100). -/
  | wakeIn (dt : Nat)
  /-- WAKE_TONE (R101). -/
  | wakeTone (dt : Nat) (side : Side)
  /-- WAKE_OUT_RELEASE (R103). -/
  | wakeOutRelease (dt : Nat)
  /-- SLEEP_CHECK (R104). -/
  | sleepCheck (dt : Nat) (m : SleepMeas)
  /-- DWELL_COMPLETE (R79). -/
  | dwellComplete (dt : Nat)
  /-- HANDOVER_COMPLETE (R81). -/
  | handoverComplete (dt : Nat)
  /-- BALANCING_FRAME_START (R294). -/
  | balancingFrameStart (dt : Nat) (x : FrameMeas)
  /-- COMMUNICATION_TIMEOUT (R299). -/
  | communicationTimeout (dt : Nat)
  /-- STUCK_ON_DETECTED (R304). -/
  | stuckOnDetected (dt n : Nat)
  /-- LOUPE_WINDOW_END (R308). -/
  | loupeWindowEnd (dt : Nat)
  /-- LOUPE_POINT_RESULT (R310). -/
  | loupePointResult (dt : Nat)
  /-- LOUPE_REFERENCE_TIMEOUT (R311). -/
  | loupeReferenceTimeout (dt a : Nat)
  /-- SAFETY_TIMER_EXPIRY (R330). -/
  | safetyTimerExpiry (dt : Nat)
  /-- STOP_SEQUENCE_COMPLETE (R327). -/
  | stopSequenceComplete (dt : Nat)
  /-- XFER_OVERCURRENT (R331). -/
  | xferOvercurrent (dt : Nat)
  /-- THERMAL_HOLD_EXPIRY (R331). -/
  | thermalHoldExpiry (dt : Nat)
  /-- BUS_RISE_TIMEOUT (R331). -/
  | busRiseTimeout (dt : Nat)
  /-- NXFLT_LOW (R331). -/
  | nxfltLow (dt : Nat)
  /-- FACET_POWER_PHASE_END (R229). -/
  | facetPowerPhaseEnd (dt : Nat)
  /-- FACET_WINDOW_END (R230). -/
  | facetWindowEnd (dt window : Nat) (line : FacetLine)
  /-- FACET_LINE_FAULT (R232). -/
  | facetLineFault (dt : Nat)
  /-- HOURLY_REFERENCE_CHECK (R484). -/
  | hourlyReferenceCheck (dt : Nat)
  /-- DAILY_LEDGER_RECORD (R485). -/
  | dailyLedgerRecord (dt : Nat)
  /-- MARGIN_SCRUB (R501). -/
  | marginScrub (dt : Nat) (margins sectors : List Nat) (lasting : Bool)
  /-- NVM_OPERATION_COMPLETE (R495). -/
  | nvmOperationComplete (dt : Nat) (ok copyOk : Bool)
  /-- UPDATE_TRIAL_EXPIRY (R511). -/
  | updateTrialExpiry (dt : Nat)
  /-- SYNC_EDGE_MISSING (R129). -/
  | syncEdgeMissing (dt : Nat)
  /-- DELAY_RESP_TIMEOUT (R367). -/
  | delayRespTimeout (dt : Nat) (side : Side)
  /-- HAND_BACK_CHANNEL_ACTIVE (R150). -/
  | handBackChannelActive (dt spare : Nat)
  /-- WATCHDOG_KEY_TIMEOUT (R431). -/
  | watchdogKeyTimeout (dt : Nat)
  /-- COUNTER_COPY_DISAGREEMENT (R201); `copy` is the copy that disagrees, 0 to 2, or 3 when all three do. -/
  | counterCopyDisagreement (dt copy : Nat)
  /-- COUNTER_SUSPECT_CLEARS (R201). -/
  | counterSuspectClears (dt : Nat)
  /-- HANDOVER_VPRE_TIMEOUT (R84). -/
  | handoverVpreTimeout (dt : Nat)
  /-- RAIL_BACK_IN_WINDOW (R74). -/
  | railBackInWindow (dt : Nat) (rail : Rail)
  /-- CAN_FRAME_TRANSMITTED (R555). -/
  | canFrameTransmitted (dt : Nat)
  /-- MIRROR_FIRST_COMPARISON_END (R400). -/
  | mirrorFirstComparisonEnd (dt : Nat)
  /-- XFER_RAMP_COMPLETE (R319). -/
  | xferRampComplete (dt : Nat)
  /-- PLAN_REQUEST_REPEAT (R490). -/
  | planRequestRepeat (dt : Nat)
  /-- COALESCED_STATE_STORE (R500). -/
  | coalescedStateStore (dt index sub : Nat) (ok : Bool)
  /-- NRST_HIGH_10_MS (R108). -/
  | nrstHigh10Ms (dt : Nat)
  /-- REF_DORMANT_WARM_UP_END (R484). -/
  | refDormantWarmUpEnd (dt : Nat)
  /-- REF_DORMANT_TIME_LIMIT (R484). -/
  | refDormantTimeLimit (dt : Nat)
  /-- DISCOVER_CCW_ONLY_TIMEOUT (R363). -/
  | discoverCcwOnlyTimeout (dt : Nat)
  /-- SWITCH_BUDGET_SPENT (R295). -/
  | switchBudgetSpent (dt n : Nat)
deriving DecidableEq, Repr

end Sys2Proof
end

