-- ==== Sys2Proof/Config.lean ====
section
/-! DEFINITION. What one device carries and the spec does not publish, and the free values. Every constant here is opaque: no
proof can see its value, so a statement holds for every device and every free value (log entry 4). -/

namespace Sys2Proof

/-- The free value with the given index, where the spec leaves a result open (log entry 4). -/
opaque Config.freeValue : Nat → BitVec 64

/-- The factory base table (R169): the entry of a converter (1 to 24, 25 for S1, 26 for S2) at table point 0 to 9 (-40 to 140 degrees
Celsius), INNER or OUTER, in 10 uV. -/
opaque Config.baseTable : Nat → Nat → Bool → Nat

/-- The factory base table of the current converter, in 200 nV (R192), and its gain entries in ppm (R193), per table point. -/
opaque Config.currentBase : Nat → Nat

/-- The factory gain entry of the current channel per table point, in ppm (R193). -/
opaque Config.currentGain : Nat → Nat

/-- The factory substitution entry for a spare (1, 2) and a cell, before the limit of 10 (R173). -/
opaque Config.substitution : Nat → Nat → Nat

/-- The calibration curve of a die sensor (1 to 3): its code to 0.1 degrees Celsius (R216). -/
opaque Config.dieCurve : Nat → Nat → Int

/-- NodeUid (R374). -/
opaque Config.nodeUid : BitVec 64

/-- Whether the signature of an image verifies against the public key that its KEY names (R509). -/
opaque Config.signatureOk : List Nat → Bool

/-- The version of the ROM boot (R504, R509). -/
opaque Config.romVersion : BitVec 16

/-- VERSION of the factory image (R504, R552). -/
opaque Config.factoryVersion : BitVec 32

/-- SECURITY_VERSION of the factory image (R504, R552). -/
opaque Config.factorySecurity : BitVec 16

/-- The factory readings of the current converter at +160.000 mV (true) and -160.000 mV, in nV (R483). -/
opaque Config.loopFactory : Bool → Int

/-- The factory difference of REF_MAIN and REF_DORMANT, in 0.1 ppm (R484). -/
opaque Config.refFactory : BitVec 16

end Sys2Proof
end

