-- ==== Sys2Proof/Machine/Dict.lean ====
section
/-! DEFINITION. The object dictionary: one row per object of the spec's object tables (R37, R59, R77, R87, R89, R97, R99,
R107, R112, R121, R131, R140, R157, R175, R176, R183, R185, R209, R224, R235, R283, R305, R315, R334, R374, R397, R410,
R415, R423, R429, R434, R447, R449, R452, R457, R458, R492, R515, R531), with its type and size (R6), its access code and
its HW and P marks (R33, R34), its reset value and the range its table gives. -/

namespace Sys2Proof.Machine

/-- How a value of an object is read as a number (R6). -/
inductive ObjKind where
  | bool | uint | int | domain
deriving DecidableEq, Repr

/-- The access codes of R33. -/
inductive Access where
  | ro | rw | wo | rwc | rw1 | const
deriving DecidableEq, Repr

/-- The value range of an object, as its table states it: any value of the type, a range (signed for an `int` object), a
list of codes, or ranges for bit fields (low bit, width, least, greatest). -/
inductive ValueCheck where
  | any
  | range (lo hi : Int)
  | oneOf (codes : List Nat)
  | fields (fs : List (Nat × Nat × Nat × Nat))
deriving DecidableEq, Repr

/-- One row of an object table (R32, R33). A row covers the indices `ixLo` to `ixHi` and the subindices `subLo` to `subHi`.
`mask` holds the bits that are not reserved (R4). -/
structure ObjRow where
  ixLo : Nat
  ixHi : Nat
  subLo : Nat
  subHi : Nat
  kind : ObjKind
  size : Nat
  acc : Access
  p : Bool
  hw : Bool
  observer : Bool
  staged : Bool
  dft : Nat
  mask : Nat
  chk : ValueCheck
deriving DecidableEq, Repr

/-- Objects 0000h to 00FFh (R36). -/
def Dict.hwRows : List ObjRow :=
  [ ⟨0x0000, 0x0000, 0x00, 0x00, .uint, 2, .const, false, true, false, false, 0x100, 0xFFFF, .any⟩ -- DictionaryVersion R37
  , ⟨0x0001, 0x0001, 0x00, 0x00, .uint, 1, .ro, false, true, false, false, 0x0, 0xFF, .any⟩ -- DeviceState R37
  , ⟨0x0002, 0x0002, 0x00, 0x00, .uint, 8, .ro, false, true, false, false, 0x0, 0xFFFFFFFFFFFFFFFF, .any⟩ -- FaultSummary R37
  , ⟨0x0003, 0x0003, 0x00, 0x00, .uint, 2, .wo, false, true, false, false, 0x0, 0xFFFF, .oneOf [0x5A01, 0x5A02, 0x5A03]⟩ -- ResetCommand R37
  , ⟨0x0004, 0x0004, 0x00, 0x00, .uint, 1, .ro, false, true, false, false, 0x0, 0xFF, .any⟩ -- NodeAddress R37
  , ⟨0x0005, 0x0005, 0x00, 0x00, .uint, 4, .rw, false, true, false, false, 0x10000, 0xFFFFFF01, .fields [(16, 16, 1, 65535)]⟩ -- StreamControl R37
  , ⟨0x0006, 0x0006, 0x00, 0x00, .uint, 1, .ro, false, true, false, false, 0x1, 0xFF, .any⟩ -- SupervisorState R37
  , ⟨0x0008, 0x0008, 0x00, 0x00, .domain, 0, .ro, false, true, false, false, 0x0, 0x0, .any⟩ -- LatestResultSet R37
  , ⟨0x0009, 0x0009, 0x00, 0x00, .uint, 1, .ro, false, true, false, false, 0x0, 0xFF, .any⟩ -- QueueDepth R37
  ]

/-- Objects 0100h to 01FFh (R36). -/
def Dict.identityRows : List ObjRow :=
  [ ⟨0x0101, 0x0101, 0x00, 0x00, .uint, 4, .ro, false, false, false, false, 0xF, 0xFFFFFFFF, .any⟩ -- StrapStatus R531
  , ⟨0x0103, 0x0103, 0x00, 0x00, .uint, 1, .ro, true, false, false, false, 0x0, 0xFF, .any⟩ -- GenerationCapStored R531
  ]

/-- Objects 0200h to 02FFh (R36). The model gives ModeRequest the range 01h to 0Ch of the modes' codes (R89): any other value is refused with
VALUE_RANGE before R91 looks at it, and REFUSAL stays (log entry 126). -/
def Dict.powerRows : List ObjRow :=
  [ ⟨0x0202, 0x0202, 0x00, 0x00, .uint, 2, .ro, false, false, false, false, 0x2FF, 0xFFFF, .any⟩ -- DomainStatus R14
  , ⟨0x0210, 0x0210, 0x00, 0x00, .uint, 2, .ro, false, false, false, false, 0x40, 0xFFFF, .any⟩ -- SupplyStatus R77
  , ⟨0x0211, 0x0211, 0x00, 0x00, .uint, 2, .ro, false, false, false, false, 0x0, 0xFFFF, .any⟩ -- StkVoltage R77
  , ⟨0x0212, 0x0212, 0x00, 0x00, .uint, 2, .ro, false, false, false, false, 0x0, 0xFFFF, .any⟩ -- XbsVoltage R77
  , ⟨0x0200, 0x0200, 0x00, 0x00, .uint, 1, .rw, false, false, false, false, 0x0, 0xFF, .range 1 12⟩ -- ModeRequest R89
  , ⟨0x0201, 0x0201, 0x00, 0x00, .uint, 4, .ro, false, false, false, false, 0x1000000, 0xFFFFFFFF, .any⟩ -- ModeStatus R89
  , ⟨0x0203, 0x0203, 0x00, 0x00, .uint, 4, .ro, false, false, false, false, 0x0, 0xFFFFFFFF, .any⟩ -- ConfigCheck R97
  , ⟨0x0220, 0x0220, 0x00, 0x00, .uint, 1, .rw, true, false, false, false, 0xA, 0xFF, .range 1 60⟩ -- SleepCheckPeriod R99
  , ⟨0x0221, 0x0221, 0x00, 0x00, .uint, 1, .rw, true, false, false, false, 0x1F, 0x1F, .any⟩ -- WakeEnable R99
  , ⟨0x0222, 0x0222, 0x00, 0x00, .uint, 2, .rw, false, false, false, false, 0x0, 0x7F, .any⟩ -- WakeCause R99
  , ⟨0x0223, 0x0223, 0x00, 0x00, .uint, 2, .ro, false, false, false, false, 0x0, 0xFFFF, .any⟩ -- SleepTransients R99
  , ⟨0x0204, 0x0204, 0x00, 0x00, .uint, 2, .ro, false, false, false, false, 0x0, 0xFFFF, .any⟩ -- ResetCause R107
  ]

/-- Objects 0300h to 03FFh (R36). -/
def Dict.timeRows : List ObjRow :=
  [ ⟨0x0300, 0x0300, 0x00, 0x00, .uint, 8, .ro, false, false, false, false, 0x0, 0xFFFFFFFFFFFFFFFF, .any⟩ -- RingTime R112
  , ⟨0x0310, 0x0310, 0x00, 0x00, .uint, 8, .ro, false, false, false, false, 0x0, 0xFFFFFFFFFFFFFFFF, .any⟩ -- CycleStart R112
  , ⟨0x0311, 0x0311, 0x00, 0x00, .uint, 4, .ro, false, false, false, false, 0x0, 0xFFFFFFFF, .any⟩ -- CycleCount R112
  , ⟨0x0301, 0x0301, 0x00, 0x00, .uint, 4, .ro, false, false, false, false, 0x0, 0xFFFFFFFF, .any⟩ -- RingTimeStatus R121
  , ⟨0x0302, 0x0302, 0x00, 0x00, .int, 4, .ro, false, false, false, false, 0x0, 0xFFFFFFFF, .any⟩ -- PhaseError R121
  , ⟨0x0303, 0x0303, 0x00, 0x00, .int, 4, .ro, false, false, false, false, 0x0, 0xFFFFFFFF, .any⟩ -- FrequencySteer R121
  , ⟨0x0304, 0x0304, 0x00, 0x00, .uint, 4, .ro, false, false, false, false, 0x0, 0xFFFFFFFF, .any⟩ -- HoldoverTime R121
  , ⟨0x0305, 0x0305, 0x00, 0x00, .uint, 2, .rw, true, false, false, false, 0x14, 0xFFFF, .range 1 1000⟩ -- HoldoverLimit R121
  , ⟨0x0306, 0x0306, 0x00, 0x00, .uint, 2, .ro, false, false, false, false, 0x0, 0xFFFF, .any⟩ -- TimeStepCount R121
  , ⟨0x0307, 0x0307, 0x00, 0x00, .int, 4, .ro, false, false, false, false, 0x0, 0xFFFFFFFF, .any⟩ -- LaneSkew R121
  , ⟨0x0320, 0x0320, 0x00, 0x00, .uint, 4, .rwc, true, false, false, false, 0x10420, 0xFFFF0FF1, .fields [(16, 16, 1, 65535), (8, 4, 1, 15)]⟩ -- SyncConfig R131
  , ⟨0x0321, 0x0321, 0x00, 0x00, .uint, 2, .ro, false, false, false, false, 0x0, 0xFFFF, .any⟩ -- SyncStatus R131
  , ⟨0x0322, 0x0322, 0x00, 0x00, .uint, 4, .ro, false, false, false, false, 0x0, 0xFFFFFFFF, .any⟩ -- SyncPeriod R131
  , ⟨0x0323, 0x0323, 0x00, 0x00, .int, 4, .ro, false, false, false, false, 0x0, 0xFFFFFFFF, .any⟩ -- SyncPhase R131
  ]

/-- Objects 0400h to 04FFh (R36). -/
def Dict.cellRows : List ObjRow :=
  [ ⟨0x0401, 0x0401, 0x00, 0x00, .uint, 1, .rwc, true, false, false, false, 0x18, 0xFF, .range 8 24⟩ -- CellCount R140
  , ⟨0x0410, 0x0410, 0x01, 0x18, .uint, 4, .ro, false, false, false, false, 0xFF1, 0xFFFFFFFF, .any⟩ -- CellResult R157
  , ⟨0x0420, 0x0420, 0x01, 0x18, .uint, 1, .ro, false, false, false, false, 0x0, 0xFF, .any⟩ -- ChannelState R157
  , ⟨0x0421, 0x0421, 0x01, 0x02, .uint, 2, .ro, false, false, false, false, 0x0, 0xFFFF, .any⟩ -- SpareState R157
  , ⟨0x0422, 0x0422, 0x00, 0x00, .uint, 2, .wo, false, false, false, false, 0x0, 0xFFFF, .fields [(0, 8, 1, 2)]⟩ -- ChannelControl R157
  , ⟨0x0423, 0x0423, 0x00, 0x00, .uint, 4, .ro, false, false, false, false, 0x0, 0xFFFFFFFF, .any⟩ -- SubstitutionCount R157
  , ⟨0x0424, 0x0424, 0x00, 0x00, .uint, 4, .ro, true, false, false, false, 0x0, 0xFFFFFFFF, .any⟩ -- RetiredMask R157
  , ⟨0x0430, 0x0430, 0x01, 0x18, .uint, 4, .ro, false, false, false, false, 0xFF1, 0xFFFFFFFF, .any⟩ -- ShadowResult R157
  , ⟨0x0440, 0x0440, 0x01, 0x18, .uint, 2, .rw, true, false, false, false, 0x1BA, 0xFFFF, .range 50 5000⟩ -- FilterTau R175
  , ⟨0x0441, 0x0441, 0x01, 0x18, .uint, 2, .rw, true, false, false, false, 0xBB8, 0xFFFF, .range 0 50000⟩ -- SettleStep R175
  , ⟨0x0442, 0x0442, 0x01, 0x1A, .uint, 1, .ro, true, false, false, false, 0x0, 0xFF, .any⟩ -- DriftTerm R175
  , ⟨0x0443, 0x0443, 0x00, 0x00, .uint, 1, .rw, false, false, true, false, 0x1, 0xFF, .range 1 24⟩ -- BoundSelect R175
  , ⟨0x0444, 0x0444, 0x00, 0x00, .uint, 8, .ro, false, false, false, false, 0x0, 0xFFFFFFFFFFFFFFFF, .any⟩ -- BoundTerms R175
  , ⟨0x0450, 0x0450, 0x00, 0x00, .uint, 2, .rw, true, false, false, true, 0x109A, 0xFFFF, .range 1000 5200⟩ -- CellOvThreshold R176
  , ⟨0x0451, 0x0451, 0x00, 0x00, .uint, 2, .rw, true, false, false, false, 0x9C4, 0xFFFF, .range 0 4500⟩ -- CellUvThreshold R176
  , ⟨0x0452, 0x0452, 0x00, 0x00, .uint, 2, .rw, true, false, false, false, 0x32, 0xFFFF, .range 0 500⟩ -- CellLimitHysteresis R176
  , ⟨0x0453, 0x0453, 0x00, 0x00, .uint, 2, .rw, true, false, false, false, 0x103, 0x10F, .fields [(0, 4, 1, 15)]⟩ -- CellLimitConfig R176
  , ⟨0x0454, 0x0454, 0x00, 0x00, .uint, 4, .ro, false, false, false, false, 0x0, 0xFFFFFFFF, .any⟩ -- CellOvStatus R176
  , ⟨0x0455, 0x0455, 0x00, 0x00, .uint, 4, .ro, false, false, false, false, 0x0, 0xFFFFFFFF, .any⟩ -- CellUvStatus R176
  , ⟨0x0460, 0x0460, 0x00, 0x00, .uint, 2, .rw, true, false, false, false, 0x190, 0xFFFF, .range 50 2000⟩ -- OpenWireThreshold R183
  , ⟨0x0461, 0x0461, 0x00, 0x00, .uint, 4, .ro, false, false, false, false, 0x0, 0xFFFFFFFF, .any⟩ -- OpenWireStatus R183
  , ⟨0x0462, 0x0462, 0x00, 0x00, .uint, 4, .ro, false, false, false, false, 0x0, 0xFFFFFFFF, .any⟩ -- OpenWireSuspect R183
  , ⟨0x0470, 0x0470, 0x00, 0x00, .uint, 2, .rw, true, false, false, false, 0x5DC, 0xFFFF, .range 100 10000⟩ -- StackSumTolerance R185
  , ⟨0x0471, 0x0471, 0x00, 0x00, .int, 4, .ro, false, false, false, false, 0x0, 0xFFFFFFFF, .any⟩ -- StackSumError R185
  , ⟨0x0472, 0x0472, 0x00, 0x00, .uint, 1, .ro, false, false, false, false, 0x0, 0xFF, .any⟩ -- PlausibilityCause R185
  ]

/-- Objects 0500h to 05FFh (R36). -/
def Dict.currentRows : List ObjRow :=
  [ ⟨0x0500, 0x0500, 0x00, 0x00, .bool, 1, .rwc, true, false, false, false, 0x0, 0xFF, .range 0 1⟩ -- ShuntEnable R209
  , ⟨0x0501, 0x0501, 0x00, 0x00, .uint, 4, .rwc, true, false, false, false, 0x186A0, 0xFFFFFFFF, .range 10000 10000000⟩ -- ShuntResistance R209
  , ⟨0x0502, 0x0502, 0x00, 0x00, .int, 2, .rw, true, false, false, true, 0x0, 0xFFFF, .range (-500) 500⟩ -- ShuntTempCoeff R209
  , ⟨0x0503, 0x0503, 0x00, 0x00, .uint, 1, .rw, true, false, false, true, 0x0, 0xFF, .oneOf [0, 1, 2, 3, 4, 5, 6, 7, 8, 9, 10, 11, 12, 13, 14, 15, 16, 32]⟩ -- ShuntTempSource R209
  , ⟨0x0504, 0x0504, 0x00, 0x00, .int, 2, .ro, false, false, false, false, 0xFA, 0xFFFF, .any⟩ -- ShuntTemperature R209
  , ⟨0x0505, 0x0505, 0x00, 0x00, .int, 2, .rw, true, false, false, true, 0x0, 0xFFFF, .range (-250) 250⟩ -- CurrentZeroOffset R209
  , ⟨0x0506, 0x0506, 0x00, 0x00, .uint, 2, .ro, false, false, false, false, 0x0, 0xFFFF, .any⟩ -- GainBound R209
  , ⟨0x0507, 0x0507, 0x00, 0x00, .uint, 1, .ro, true, false, false, false, 0x0, 0xFF, .any⟩ -- CurrentDriftTerm R209
  , ⟨0x0510, 0x0510, 0x00, 0x00, .uint, 4, .ro, false, false, false, false, 0xFF, 0xFFFFFFFF, .any⟩ -- CurrentResult R209
  , ⟨0x0511, 0x0511, 0x00, 0x00, .int, 4, .ro, false, false, false, false, 0x0, 0xFFFFFFFF, .any⟩ -- CurrentAmps R209
  , ⟨0x0512, 0x0512, 0x00, 0x00, .uint, 2, .ro, false, false, false, false, 0x0, 0xFFFF, .any⟩ -- CurrentStatus R209
  , ⟨0x0520, 0x0520, 0x00, 0x00, .uint, 8, .ro, false, false, false, false, 0x0, 0xFFFFFFFFFFFFFFFF, .any⟩ -- CoulombCount R209
  , ⟨0x0521, 0x0521, 0x01, 0x01, .uint, 8, .ro, false, false, false, false, 0x0, 0xFFFFFFFFFFFFFFFF, .any⟩ -- CoulombSnapshot R209
  , ⟨0x0521, 0x0521, 0x02, 0x02, .uint, 8, .ro, false, false, false, false, 0x0, 0xFFFFFFFFFFFFFFFF, .any⟩ -- CoulombSnapshot R209
  , ⟨0x0521, 0x0521, 0x03, 0x03, .uint, 4, .ro, false, false, false, false, 0x0, 0xFFFFFFFF, .any⟩ -- CoulombSnapshot R209
  , ⟨0x0522, 0x0522, 0x00, 0x00, .int, 8, .ro, false, false, false, false, 0x0, 0xFFFFFFFFFFFFFFFF, .any⟩ -- CoulombCharge R209
  , ⟨0x0523, 0x0523, 0x00, 0x00, .uint, 2, .ro, true, false, false, false, 0x0, 0xFFFF, .any⟩ -- CounterGapCount R209
  , ⟨0x0524, 0x0524, 0x00, 0x00, .uint, 2, .ro, false, false, false, false, 0x0, 0xFFFF, .any⟩ -- CurrentRepairCount R209
  , ⟨0x0530, 0x0530, 0x00, 0x00, .uint, 2, .rw, true, false, false, false, 0x7D00, 0xFFFF, .range 1 32000⟩ -- ChargeLimit R209
  , ⟨0x0531, 0x0531, 0x00, 0x00, .uint, 2, .rw, true, false, false, false, 0x7D00, 0xFFFF, .range 1 32000⟩ -- DischargeLimit R209
  , ⟨0x0532, 0x0532, 0x00, 0x00, .uint, 1, .rw, true, false, false, false, 0x2, 0xFF, .range 1 15⟩ -- CurrentDebounce R209
  ]

/-- Objects 0600h to 06FFh (R36). -/
def Dict.planRows : List ObjRow :=
  [ ⟨0x0600, 0x0600, 0x00, 0x00, .uint, 2, .rw, false, false, false, false, 0x0, 0xF03, .fields [(8, 4, 1, 4)]⟩ -- PlanControl R283
  , ⟨0x0601, 0x0601, 0x00, 0x00, .uint, 4, .ro, false, false, false, false, 0x4, 0xFFFFFFFF, .any⟩ -- PlanStatus R283
  , ⟨0x0602, 0x0602, 0x00, 0x00, .uint, 8, .wo, false, false, false, false, 0x0, 0xFF00FFFFFFFFFFFF, .any⟩ -- PlanSwitch R283
  , ⟨0x0603, 0x0603, 0x00, 0x00, .uint, 1, .rw, true, false, false, false, 0x0, 0xFF, .oneOf [0, 1, 2, 3, 255]⟩ -- PlanBootSlot R283
  , ⟨0x0604, 0x0604, 0x00, 0x00, .uint, 2, .ro, false, false, false, false, 0xFFFF, 0xFFFF, .any⟩ -- PlanRejectDetail R283
  , ⟨0x0605, 0x0605, 0x00, 0x00, .uint, 4, .ro, false, false, false, false, 0x0, 0xFFFFFFFF, .any⟩ -- PlanSkipCount R283
  , ⟨0x0606, 0x0606, 0x00, 0x00, .uint, 4, .ro, false, false, false, false, 0x0, 0xFFFFFFFF, .any⟩ -- PlanLateCount R283
  , ⟨0x0607, 0x0607, 0x00, 0x00, .uint, 4, .ro, false, false, false, false, 0x0, 0xFFFFFFFF, .any⟩ -- PlanRefetchCount R283
  , ⟨0x0608, 0x0608, 0x00, 0x00, .uint, 4, .ro, false, false, false, false, 0x3E80, 0xFFFFFFFF, .any⟩ -- AdhocMaxGap R283
  , ⟨0x0609, 0x0609, 0x00, 0x00, .uint, 1, .rw, false, false, false, false, 0x0, 0xFF, .range 0 3⟩ -- PlanSlotSelect R283
  , ⟨0x060A, 0x060A, 0x00, 0x00, .uint, 1, .ro, false, false, false, false, 0x0, 0xFF, .any⟩ -- PlanSwitchRefusal R283
  , ⟨0x060B, 0x060B, 0x00, 0x00, .uint, 4, .ro, false, false, false, false, 0x0, 0xFFFFFFFF, .any⟩ -- ScrubPassCount R283
  , ⟨0x0610, 0x0610, 0x00, 0x00, .domain, 0, .rw, false, false, false, false, 0x0, 0x0, .any⟩ -- PlanImage R283
  , ⟨0x0611, 0x0611, 0x01, 0x04, .uint, 4, .ro, false, false, false, false, 0x0, 0xFFFFFFFF, .any⟩ -- PlanSlotInfo R283
  ]

/-- Objects 0700h to 07FFh (R36). -/
def Dict.auxRows : List ObjRow :=
  [ ⟨0x0701, 0x0701, 0x04, 0x04, .uint, 2, .rwc, true, false, false, false, 0x16, 0x7FF, .fields [(0, 8, 0, 29)]⟩ -- AuxSelect R224
  , ⟨0x0701, 0x0701, 0x03, 0x03, .uint, 2, .rwc, true, false, false, false, 0x15, 0x7FF, .fields [(0, 8, 0, 29)]⟩ -- AuxSelect R224
  , ⟨0x0701, 0x0701, 0x02, 0x02, .uint, 2, .rwc, true, false, false, false, 0x14, 0x7FF, .fields [(0, 8, 0, 29)]⟩ -- AuxSelect R224
  , ⟨0x0701, 0x0701, 0x01, 0x01, .uint, 2, .rwc, true, false, false, false, 0x13, 0x7FF, .fields [(0, 8, 0, 29)]⟩ -- AuxSelect R224
  , ⟨0x0701, 0x0701, 0x05, 0x10, .uint, 2, .rwc, true, false, false, false, 0x0, 0x7FF, .fields [(0, 8, 0, 29)]⟩ -- AuxSelect R224
  , ⟨0x0702, 0x0702, 0x01, 0x10, .uint, 1, .rwc, true, false, false, false, 0x0, 0xF, .fields [(2, 2, 0, 1), (0, 2, 0, 2)]⟩ -- AuxInputConfig R224
  , ⟨0x0703, 0x0703, 0x00, 0x00, .uint, 1, .wo, false, false, false, false, 0x0, 0xFF, .range 0 29⟩ -- AuxRequest R224
  , ⟨0x0704, 0x0704, 0x01, 0x10, .uint, 4, .rwc, true, false, false, false, 0x2710, 0xFFFFFFFF, .range 100 1000000⟩ -- NtcNominal R224
  , ⟨0x0705, 0x0705, 0x01, 0x10, .uint, 2, .rwc, true, false, false, false, 0xD6B, 0xFFFF, .range 1000 10000⟩ -- NtcBeta R224
  , ⟨0x0706, 0x0706, 0x01, 0x10, .uint, 4, .rwc, true, false, false, false, 0x2710, 0xFFFFFFFF, .range 100 1000000⟩ -- NtcPullResistor R224
  , ⟨0x0708, 0x0708, 0x00, 0x00, .uint, 2, .rw, true, false, false, false, 0x1F4, 0xFFFF, .range 50 2900⟩ -- AuxOpenThreshold R224
  , ⟨0x0709, 0x0709, 0x00, 0x00, .uint, 2, .ro, false, false, false, false, 0x0, 0xFFFF, .any⟩ -- AuxOpenStatus R224
  , ⟨0x070A, 0x070A, 0x00, 0x00, .uint, 2, .ro, false, false, false, false, 0x0, 0xFFFF, .any⟩ -- AuxOpenSuspect R224
  , ⟨0x070B, 0x070B, 0x01, 0x10, .uint, 2, .rw, true, false, false, false, 0x0, 0xFFFF, .any⟩ -- AuxLimitLow R224
  , ⟨0x070C, 0x070C, 0x01, 0x10, .uint, 2, .rw, true, false, false, false, 0xFFFF, 0xFFFF, .any⟩ -- AuxLimitHigh R224
  , ⟨0x070D, 0x070D, 0x00, 0x00, .uint, 4, .ro, false, false, false, false, 0x0, 0xFFFFFFFF, .any⟩ -- AuxRangeStatus R224
  , ⟨0x070E, 0x070E, 0x00, 0x00, .uint, 1, .rw, true, false, false, false, 0x2, 0xFF, .range 1 15⟩ -- AuxRangeDebounce R224
  , ⟨0x070F, 0x070F, 0x00, 0x00, .uint, 1, .ro, false, false, false, false, 0x0, 0xFF, .any⟩ -- AuxRangeCause R224
  , ⟨0x0710, 0x0710, 0x01, 0x1E, .uint, 4, .ro, false, false, false, false, 0x1, 0xFFFFFFFF, .any⟩ -- AuxResult R224
  , ⟨0x0711, 0x0711, 0x01, 0x1E, .uint, 8, .ro, false, false, false, false, 0x0, 0xFFFFFFFFFFFFFFFF, .any⟩ -- AuxStamp R224
  , ⟨0x0712, 0x0712, 0x01, 0x10, .uint, 2, .ro, false, false, false, false, 0x0, 0xFFFF, .any⟩ -- AuxDiagResult R224
  , ⟨0x0720, 0x0720, 0x01, 0x03, .int, 2, .ro, false, false, false, false, 0x8000, 0xFFFF, .any⟩ -- DieTemperature R224
  , ⟨0x0721, 0x0721, 0x00, 0x00, .int, 2, .ro, false, false, false, false, 0x8000, 0xFFFF, .any⟩ -- DieTemperatureMax R224
  , ⟨0x0722, 0x0722, 0x00, 0x00, .int, 2, .rw, true, false, false, false, 0x578, 0xFFFF, .range 1000 1500⟩ -- DieOvertempThreshold R224
  , ⟨0x0723, 0x0723, 0x00, 0x00, .uint, 1, .ro, false, false, false, false, 0x0, 0xFF, .any⟩ -- DieSensorStatus R224
  , ⟨0x0730, 0x0730, 0x01, 0x10, .int, 2, .ro, false, false, false, false, 0x8000, 0xFFFF, .any⟩ -- AxTemperature R224
  , ⟨0x0750, 0x0750, 0x00, 0x00, .bool, 1, .rw, true, false, false, false, 0x1, 0xFF, .range 0 1⟩ -- FacetEnable R235
  , ⟨0x0751, 0x0751, 0x00, 0x00, .bool, 1, .wo, false, false, false, false, 0x0, 0xFF, .range 1 1⟩ -- FacetSearch R235
  , ⟨0x0752, 0x0752, 0x00, 0x00, .uint, 4, .ro, false, false, false, false, 0x0, 0xFFFFFFFF, .any⟩ -- FacetStatus R235
  , ⟨0x0753, 0x0753, 0x00, 0x00, .uint, 1, .rw, true, false, false, false, 0x0, 0xFF, .any⟩ -- FacetExpected R235
  , ⟨0x0754, 0x0754, 0x00, 0x00, .uint, 1, .ro, false, false, false, false, 0x0, 0xFF, .any⟩ -- FacetTimingCause R235
  , ⟨0x0755, 0x0755, 0x00, 0x00, .uint, 1, .ro, false, false, false, false, 0x0, 0xFF, .any⟩ -- FacetSearchFrames R235
  , ⟨0x0760, 0x0760, 0x01, 0x08, .uint, 4, .ro, false, false, false, false, 0xFF0, 0xFFFFFFFF, .any⟩ -- FacetValue R235
  , ⟨0x0761, 0x0761, 0x01, 0x08, .uint, 8, .ro, false, false, false, false, 0x0, 0xFFFFFFFFFFFFFFFF, .any⟩ -- FacetStamp R235
  , ⟨0x0762, 0x0762, 0x01, 0x08, .uint, 2, .rw, true, false, false, false, 0x0, 0xFFFF, .any⟩ -- FacetLimitLow R235
  , ⟨0x0763, 0x0763, 0x01, 0x08, .uint, 2, .rw, true, false, false, false, 0xFFFF, 0xFFFF, .any⟩ -- FacetLimitHigh R235
  , ⟨0x0764, 0x0764, 0x01, 0x08, .uint, 2, .ro, false, false, false, false, 0x0, 0xFFFF, .any⟩ -- FacetErrorCount R235
  , ⟨0x0765, 0x0765, 0x00, 0x00, .uint, 2, .ro, false, false, false, false, 0x0, 0xFFFF, .any⟩ -- FacetLimitStatus R235
  ]

/-- Objects 0800h to 08FFh (R36). -/
def Dict.balanceRows : List ObjRow :=
  [ ⟨0x0800, 0x0800, 0x00, 0x00, .uint, 4, .rw, false, false, false, false, 0x0, 0xFFFFFF, .any⟩ -- BalEnable R305
  , ⟨0x0801, 0x0801, 0x01, 0x18, .uint, 2, .rw, false, false, false, false, 0x2710, 0xFFFF, .range 0 10000⟩ -- BalDutyRequest R305
  , ⟨0x0802, 0x0802, 0x00, 0x00, .uint, 2, .rw, true, false, false, false, 0x7D0, 0xFFFF, .range 100 60000⟩ -- BalCommTimeout R305
  , ⟨0x0803, 0x0803, 0x00, 0x00, .uint, 2, .ro, false, false, false, false, 0x0, 0xFFFF, .any⟩ -- BalStatus R305
  , ⟨0x0804, 0x0804, 0x00, 0x00, .uint, 4, .ro, false, false, false, false, 0x0, 0xFFFFFFFF, .any⟩ -- BalConducting R305
  , ⟨0x0805, 0x0805, 0x00, 0x00, .uint, 2, .ro, false, false, false, false, 0x0, 0xFFFF, .any⟩ -- TableDuty R305
  , ⟨0x0806, 0x0806, 0x00, 0x00, .uint, 2, .ro, false, false, false, false, 0x2710, 0xFFFF, .any⟩ -- CapFactor R305
  , ⟨0x0807, 0x0807, 0x00, 0x00, .uint, 2, .ro, false, false, false, false, 0x0, 0xFFFF, .any⟩ -- BalDissipation R305
  , ⟨0x0808, 0x0808, 0x00, 0x00, .uint, 4, .ro, false, false, false, false, 0x0, 0xFFFFFFFF, .any⟩ -- BalCommElapsed R305
  , ⟨0x0809, 0x0809, 0x01, 0x18, .uint, 4, .ro, false, false, false, false, 0x0, 0xFFFFFFFF, .any⟩ -- BalOnTime R305
  , ⟨0x080A, 0x080A, 0x00, 0x00, .uint, 4, .rw, true, false, false, false, 0x0, 0xFFFFFF, .any⟩ -- BalLockout R305
  , ⟨0x080B, 0x080B, 0x00, 0x00, .uint, 4, .ro, false, false, false, false, 0x0, 0xFFFFFFFF, .any⟩ -- BalSwitchSuspect R305
  , ⟨0x080C, 0x080C, 0x00, 0x00, .uint, 2, .rw, true, false, false, false, 0x9C4, 0xFFFF, .range 1000 5000⟩ -- BalRonLimit R305
  , ⟨0x080D, 0x080D, 0x00, 0x00, .uint, 4, .ro, false, false, false, false, 0x0, 0xFFFFFFFF, .any⟩ -- BalTestCount R305
  , ⟨0x0810, 0x0810, 0x01, 0x18, .uint, 4, .ro, false, false, false, false, 0xFFFF0000, 0xFFFFFFFF, .any⟩ -- BalSwitchResult R305
  , ⟨0x0840, 0x0840, 0x00, 0x00, .uint, 4, .rw, false, false, false, false, 0x0, 0x3F03, .fields [(0, 2, 0, 2)]⟩ -- LoupeConfig R315
  , ⟨0x0841, 0x0841, 0x00, 0x00, .uint, 2, .rw, false, false, false, false, 0x0, 0xFFFF, .any⟩ -- LoupePointMask R315
  , ⟨0x0842, 0x0842, 0x01, 0x10, .uint, 4, .rw, false, false, false, false, 0xF4240, 0xFFFFFFFF, .any⟩ -- LoupeFrequency R315
  , ⟨0x0843, 0x0843, 0x01, 0x10, .uint, 4, .rw, false, false, false, false, 0xA0002, 0xFFFF00FF, .fields [(16, 16, 1, 65535)]⟩ -- LoupePeriods R315
  , ⟨0x0844, 0x0844, 0x00, 0x00, .uint, 2, .rw, false, false, false, false, 0x3E8, 0xFFFF, .range 100 3000⟩ -- LoupeTransferCurrent R315
  , ⟨0x0845, 0x0845, 0x00, 0x00, .uint, 4, .rw, false, false, false, false, 0x4E20, 0xFFFFFFFF, .any⟩ -- LoupeMinExcitation R315
  , ⟨0x0846, 0x0846, 0x00, 0x00, .uint, 4, .ro, false, false, false, false, 0x0, 0xFFFFFFFF, .any⟩ -- LoupeSessionStatus R315
  , ⟨0x0848, 0x0848, 0x01, 0x10, .uint, 4, .ro, false, false, false, false, 0x0, 0xFFFFFFFF, .any⟩ -- LoupePointStatus R315
  , ⟨0x0849, 0x0849, 0x01, 0x10, .uint, 4, .ro, false, false, false, false, 0x0, 0xFFFFFFFF, .any⟩ -- LoupeExcitation R315
  , ⟨0x084A, 0x084A, 0x01, 0x10, .uint, 4, .ro, false, false, false, false, 0x0, 0xFFFFFFFF, .any⟩ -- LoupeActualPeriod R315
  , ⟨0x0880, 0x088F, 0x01, 0x18, .int, 4, .ro, false, false, false, false, 0x80000000, 0xFFFFFFFF, .any⟩ -- LoupeZReal R315
  , ⟨0x0890, 0x089F, 0x01, 0x18, .int, 4, .ro, false, false, false, false, 0x80000000, 0xFFFFFFFF, .any⟩ -- LoupeZImag R315
  ]

/-- Objects 0900h to 09FFh (R36). -/
def Dict.transferRows : List ObjRow :=
  [ ⟨0x0940, 0x0940, 0x00, 0x00, .uint, 1, .rw, true, false, false, false, 0x0, 0xFF, .range 0 1⟩ -- PowerPathPolicy R87
  , ⟨0x0941, 0x0941, 0x00, 0x00, .uint, 2, .ro, false, false, false, false, 0x0, 0xFFFF, .any⟩ -- PowerPathStatus R87
  , ⟨0x0942, 0x0942, 0x00, 0x00, .uint, 2, .rw, true, false, false, false, 0x1F4, 0xFFFF, .range 50 5000⟩ -- PowerPathDwell R87
  , ⟨0x0943, 0x0943, 0x00, 0x00, .uint, 4, .ro, true, false, false, false, 0x0, 0xFFFFFFFF, .any⟩ -- HandoverCount R87
  , ⟨0x0900, 0x0900, 0x00, 0x00, .uint, 2, .rw, true, false, false, false, 0x1, 0x3, .fields [(0, 2, 1, 2)]⟩ -- XferConfig R334
  , ⟨0x0901, 0x0901, 0x00, 0x00, .uint, 2, .rw, true, false, false, false, 0xBB8, 0xFFFF, .range 100 3000⟩ -- XferCurrent R334
  , ⟨0x0902, 0x0902, 0x00, 0x00, .uint, 2, .rw, true, false, false, false, 0x4A38, 0xFFFF, .range 1000 30000⟩ -- XferPeakLimit R334
  , ⟨0x0903, 0x0903, 0x00, 0x00, .uint, 2, .rw, true, false, false, false, 0xE10, 0xFFFF, .range 1 14400⟩ -- XferSafetyTime R334
  , ⟨0x0904, 0x0904, 0x00, 0x00, .uint, 4, .rw, true, false, false, false, 0x0, 0xFFFFFFFF, .any⟩ -- XferChargeLimit R334
  , ⟨0x0905, 0x0905, 0x00, 0x00, .uint, 2, .rw, true, false, false, false, 0x1036, 0xFFFF, .range 1000 5000⟩ -- XferCellHigh R334
  , ⟨0x0906, 0x0906, 0x00, 0x00, .uint, 2, .rw, true, false, false, false, 0xCE4, 0xFFFF, .range 1000 5000⟩ -- XferCellLow R334
  , ⟨0x0907, 0x0907, 0x00, 0x00, .uint, 2, .rw, true, false, false, false, 0x9C40, 0xFFFF, .range 36000 60000⟩ -- XferBusFloor R334
  , ⟨0x0908, 0x0908, 0x00, 0x00, .uint, 2, .rw, true, false, false, false, 0xDAC0, 0xFFFF, .range 36000 60000⟩ -- XferBusCeiling R334
  , ⟨0x0909, 0x0909, 0x00, 0x00, .uint, 4, .rw, true, false, false, false, 0x186A0, 0xFFFFFFFF, .range 50000 250000⟩ -- XferSwitchFreq R334
  , ⟨0x090A, 0x090A, 0x00, 0x00, .uint, 2, .rw, true, false, false, false, 0x2710, 0xFFFF, .range 1000 50000⟩ -- XferSenseResistor R334
  , ⟨0x090B, 0x090B, 0x00, 0x00, .uint, 1, .rw, true, false, false, false, 0x0, 0xFF, .range 0 16⟩ -- XferFetTempSource R334
  , ⟨0x090C, 0x090C, 0x00, 0x00, .int, 2, .rw, true, false, false, false, 0x44C, 0xFFFF, .range 600 1500⟩ -- XferFetTempLimit R334
  , ⟨0x090D, 0x090D, 0x00, 0x00, .uint, 2, .rw, true, false, false, false, 0x3C, 0xFFFF, .range 1 600⟩ -- XferThermalHold R334
  , ⟨0x090E, 0x090E, 0x00, 0x00, .uint, 2, .rw, true, false, false, false, 0xC8, 0xFFFF, .range 10 2000⟩ -- XferBusRiseTime R334
  , ⟨0x0910, 0x0910, 0x00, 0x00, .uint, 4, .ro, false, false, false, false, 0x0, 0xFFFFFFFF, .any⟩ -- XferStatus R334
  , ⟨0x0911, 0x0911, 0x00, 0x00, .uint, 2, .ro, false, false, false, false, 0x0, 0xFFFF, .any⟩ -- XferAllowed R334
  , ⟨0x0912, 0x0912, 0x00, 0x00, .uint, 2, .ro, false, false, false, false, 0x2710, 0xFFFF, .any⟩ -- XferFoldback R334
  , ⟨0x0913, 0x0913, 0x00, 0x00, .int, 2, .ro, false, false, false, false, 0x0, 0xFFFF, .any⟩ -- XferMeasCurrent R334
  , ⟨0x0914, 0x0914, 0x00, 0x00, .uint, 2, .ro, false, false, false, false, 0x0, 0xFFFF, .any⟩ -- XferPeakMeas R334
  , ⟨0x0915, 0x0915, 0x00, 0x00, .int, 4, .ro, false, false, false, false, 0x0, 0xFFFFFFFF, .any⟩ -- XferCharge R334
  , ⟨0x0916, 0x0916, 0x00, 0x00, .uint, 4, .ro, false, false, false, false, 0x0, 0xFFFFFFFF, .any⟩ -- XferElapsed R334
  , ⟨0x0917, 0x0917, 0x00, 0x00, .uint, 4, .ro, false, false, false, false, 0x0, 0xFFFFFFFF, .any⟩ -- XferOnTime R334
  , ⟨0x0918, 0x0918, 0x00, 0x00, .uint, 4, .ro, true, false, false, false, 0x0, 0xFFFFFFFF, .any⟩ -- XferSessionCount R334
  ]

/-- Objects 0A00h to 0AFFh (R36). -/
def Dict.ringRows : List ObjRow :=
  [ ⟨0x0A01, 0x0A01, 0x00, 0x00, .uint, 1, .ro, false, false, false, false, 0x0, 0xFF, .any⟩ -- RingRole R28
  , ⟨0x0A00, 0x0A00, 0x00, 0x00, .uint, 1, .ro, false, false, false, false, 0x0, 0xFF, .any⟩ -- RingGeneration R374
  , ⟨0x0A02, 0x0A02, 0x00, 0x00, .uint, 1, .rwc, true, false, false, false, 0x0, 0xFF, .range 0 2⟩ -- RingRoleConfig R374
  , ⟨0x0A03, 0x0A03, 0x00, 0x00, .uint, 1, .rwc, true, false, false, false, 0x0, 0xFF, .range 0 3⟩ -- RingGenerationLimit R374
  , ⟨0x0A04, 0x0A04, 0x00, 0x00, .uint, 1, .ro, true, false, false, false, 0x0, 0xFF, .any⟩ -- RingEpoch R374
  , ⟨0x0A05, 0x0A05, 0x00, 0x00, .uint, 1, .wo, false, false, false, false, 0x0, 0xFF, .range 1 2⟩ -- EnumControl R374
  , ⟨0x0A06, 0x0A06, 0x00, 0x00, .uint, 4, .ro, false, false, false, false, 0xFF000000, 0xFFFFFFFF, .any⟩ -- EnumStatus R374
  , ⟨0x0A07, 0x0A07, 0x00, 0x00, .uint, 1, .rw, true, false, false, false, 0x0, 0xFF, .range 0 62⟩ -- EnumExpected R374
  , ⟨0x0A08, 0x0A08, 0x00, 0x00, .uint, 8, .ro, false, false, false, false, 0x0, 0xFFFFFFFFFFFFFFFF, .any⟩ -- NodeMap R374
  , ⟨0x0A09, 0x0A09, 0x00, 0x00, .uint, 2, .rw, true, false, false, false, 0xA, 0xFFFF, .range 1 1000⟩ -- RingCrcLimit R374
  , ⟨0x0A0A, 0x0A0A, 0x00, 0x00, .uint, 8, .const, false, false, false, false, 0x0, 0xFFFFFFFFFFFFFFFF, .any⟩ -- NodeUid R374
  , ⟨0x0A0B, 0x0A0B, 0x00, 0x00, .uint, 4, .ro, false, false, false, false, 0x0, 0xFFFFFFFF, .any⟩ -- StaleEpochCount R374
  , ⟨0x0A0C, 0x0A0C, 0x00, 0x00, .uint, 1, .ro, false, false, false, false, 0x0, 0xFF, .any⟩ -- RingCrcPort R374
  , ⟨0x0A10, 0x0A10, 0x01, 0x02, .uint, 2, .ro, false, false, false, false, 0x0, 0xFFFF, .any⟩ -- LinkStatus R374
  , ⟨0x0A11, 0x0A11, 0x01, 0x02, .uint, 4, .ro, false, false, false, false, 0x0, 0xFFFFFFFF, .any⟩ -- LinkDelay R374
  , ⟨0x0A12, 0x0A12, 0x01, 0x02, .uint, 4, .ro, false, false, false, false, 0x0, 0xFFFFFFFF, .any⟩ -- RxFrames R374
  , ⟨0x0A13, 0x0A13, 0x01, 0x02, .uint, 4, .ro, false, false, false, false, 0x0, 0xFFFFFFFF, .any⟩ -- RxCheckErrors R374
  , ⟨0x0A14, 0x0A14, 0x01, 0x02, .uint, 4, .ro, false, false, false, false, 0x0, 0xFFFFFFFF, .any⟩ -- RxAborted R374
  , ⟨0x0A15, 0x0A15, 0x01, 0x02, .uint, 4, .ro, false, false, false, false, 0x0, 0xFFFFFFFF, .any⟩ -- RxDiscarded R374
  , ⟨0x0A16, 0x0A16, 0x01, 0x02, .uint, 4, .ro, false, false, false, false, 0x0, 0xFFFFFFFF, .any⟩ -- CodeViolations R374
  , ⟨0x0A17, 0x0A17, 0x01, 0x02, .uint, 4, .ro, false, false, false, false, 0x0, 0xFFFFFFFF, .any⟩ -- TxFrames R374
  , ⟨0x0A18, 0x0A18, 0x01, 0x02, .uint, 2, .ro, false, false, false, false, 0x0, 0xFFFF, .any⟩ -- DelayRejects R374
  , ⟨0x0A30, 0x0A30, 0x00, 0x00, .domain, 0, .wo, false, false, false, false, 0x0, 0x0, .any⟩ -- LegacyTransmit R374
  , ⟨0x0A31, 0x0A31, 0x00, 0x00, .domain, 0, .ro, false, false, false, false, 0x0, 0x0, .any⟩ -- LegacyReceive R374
  , ⟨0x0A32, 0x0A32, 0x00, 0x00, .uint, 2, .ro, false, false, false, false, 0x0, 0xFFFF, .any⟩ -- LegacyReceiveCount R374
  , ⟨0x0A20, 0x0A20, 0x00, 0x00, .uint, 2, .ro, false, false, false, false, 0x3, 0xFFFF, .any⟩ -- LaneService R397
  , ⟨0x0A21, 0x0A21, 0x00, 0x00, .uint, 2, .ro, false, false, false, false, 0x0, 0xFFFF, .any⟩ -- SingleLaneCount R397
  , ⟨0x0A22, 0x0A22, 0x00, 0x00, .uint, 4, .ro, false, false, false, false, 0x0, 0xFFFFFFFF, .any⟩ -- RequeuedSets R397
  , ⟨0x0A23, 0x0A23, 0x00, 0x00, .uint, 4, .ro, false, false, false, false, 0x0, 0xFFFFFFFF, .any⟩ -- QueueOverflow R397
  , ⟨0x0A24, 0x0A24, 0x01, 0x02, .uint, 4, .ro, false, false, false, false, 0x0, 0xFFFFFFFF, .any⟩ -- TxDropped R397
  , ⟨0x0A25, 0x0A25, 0x00, 0x00, .uint, 2, .rw, true, false, false, false, 0x32, 0xFFFF, .range 25 1000⟩ -- DeputyTimeout R397
  , ⟨0x0A26, 0x0A26, 0x00, 0x00, .uint, 1, .wo, false, false, true, false, 0x0, 0xFF, .range 1 1⟩ -- DeputyControl R397
  , ⟨0x0A27, 0x0A27, 0x00, 0x00, .uint, 2, .ro, true, false, false, false, 0x0, 0xFFFF, .any⟩ -- TakeoverCount R397
  , ⟨0x0A28, 0x0A28, 0x00, 0x00, .uint, 1, .ro, false, false, false, false, 0x0, 0xFF, .any⟩ -- HeadAddress R397
  , ⟨0x0A29, 0x0A29, 0x00, 0x00, .uint, 2, .ro, false, false, false, false, 0x0, 0xFFFF, .any⟩ -- RingEventsLost R397
  ]

/-- Objects 0B00h to 0BFFh (R36). -/
def Dict.hostRows : List ObjRow :=
  [ ⟨0x0B00, 0x0B00, 0x00, 0x00, .uint, 1, .ro, false, false, false, false, 0x1, 0xFF, .any⟩ -- HostPortActive R59
  , ⟨0x0B01, 0x0B01, 0x00, 0x00, .uint, 1, .rwc, true, false, false, false, 0x0, 0xFF, .range 0 2⟩ -- HostPortSelect R59
  , ⟨0x0B10, 0x0B10, 0x00, 0x00, .uint, 2, .wo, false, false, true, false, 0x0, 0xF03, .any⟩ -- SessionRequest R59
  , ⟨0x0B11, 0x0B11, 0x00, 0x00, .uint, 2, .ro, false, false, false, false, 0x0, 0xFFFF, .any⟩ -- SessionStatus R59
  , ⟨0x0B12, 0x0B12, 0x00, 0x00, .uint, 2, .rw, true, false, false, false, 0x1F4, 0xFFFF, .range 50 10000⟩ -- SessionTimeout R59
  , ⟨0x0B20, 0x0B20, 0x01, 0x01, .uint, 4, .rwc, true, false, false, false, 0x7A120, 0xFFFFFFFF, .oneOf [125000, 250000, 500000, 1000000]⟩ -- NominalBitRate R59
  , ⟨0x0B20, 0x0B20, 0x02, 0x02, .uint, 4, .rwc, true, false, false, false, 0x1E8480, 0xFFFFFFFF, .oneOf [500000, 1000000, 2000000, 4000000, 5000000]⟩ -- DataBitRate R59
  , ⟨0x0B20, 0x0B20, 0x03, 0x03, .uint, 1, .rwc, true, false, false, false, 0x50, 0xFF, .range 60 90⟩ -- NominalSamplePoint R59
  , ⟨0x0B20, 0x0B20, 0x04, 0x04, .uint, 1, .rwc, true, false, false, false, 0x4B, 0xFF, .range 60 90⟩ -- DataSamplePoint R59
  , ⟨0x0B21, 0x0B21, 0x00, 0x00, .uint, 1, .rwc, true, false, false, false, 0x0, 0xFF, .range 0 15⟩ -- CanPortId R59
  , ⟨0x0B22, 0x0B22, 0x00, 0x00, .uint, 1, .rw, true, false, false, false, 0x2, 0xFF, .range 0 2⟩ -- CanTxFormat R59
  , ⟨0x0B30, 0x0B30, 0x00, 0x00, .uint, 2, .rw, false, false, true, false, 0xFE, 0xFFFF, .any⟩ -- EventMask R59
  , ⟨0x0B31, 0x0B31, 0x00, 0x00, .uint, 2, .ro, false, false, false, false, 0x0, 0xFFFF, .any⟩ -- EventsLost R59
  , ⟨0x0B32, 0x0B32, 0x00, 0x00, .uint, 2, .ro, false, false, false, false, 0x0, 0xFFFF, .any⟩ -- StreamLost R59
  , ⟨0x0B33, 0x0B33, 0x00, 0x00, .uint, 2, .ro, false, false, false, false, 0x0, 0xFFFF, .any⟩ -- LinkErrors R59
  ]

/-- Objects 0C00h to 0CFFh (R36). -/
def Dict.safetyRows : List ObjRow :=
  [ ⟨0x0C00, 0x0C00, 0x00, 0x00, .uint, 2, .rw, true, false, false, false, 0x10CC, 0xFFFF, .range 2000 4900⟩ -- MirrorOvLimit R410
  , ⟨0x0C01, 0x0C01, 0x00, 0x00, .uint, 2, .rw, true, false, false, false, 0x960, 0xFFFF, .range 800 3600⟩ -- MirrorUvLimit R410
  , ⟨0x0C02, 0x0C02, 0x00, 0x00, .uint, 1, .rw, true, false, false, false, 0x10, 0xFF, .range 1 255⟩ -- MirrorDeglitch R410
  , ⟨0x0C03, 0x0C03, 0x00, 0x00, .uint, 2, .ro, false, false, false, false, 0x14, 0xFFFF, .any⟩ -- MirrorGuardBand R410
  , ⟨0x0C04, 0x0C04, 0x00, 0x00, .uint, 2, .ro, true, false, false, false, 0x0, 0xFFFF, .any⟩ -- MirrorDrift R410
  , ⟨0x0C05, 0x0C05, 0x00, 0x00, .uint, 2, .ro, false, false, false, false, 0xC896, 0xFFFF, .any⟩ -- MirrorCodes R410
  , ⟨0x0C06, 0x0C06, 0x00, 0x00, .uint, 2, .ro, false, false, false, false, 0x6100, 0xFFFF, .any⟩ -- MirrorStatus R410
  , ⟨0x0C07, 0x0C07, 0x00, 0x00, .uint, 4, .ro, false, false, false, false, 0x0, 0xFFFFFFFF, .any⟩ -- MirrorOvTripped R410
  , ⟨0x0C08, 0x0C08, 0x00, 0x00, .uint, 4, .ro, false, false, false, false, 0x0, 0xFFFFFFFF, .any⟩ -- MirrorUvTripped R410
  , ⟨0x0C09, 0x0C09, 0x00, 0x00, .uint, 2, .wo, false, false, false, false, 0x0, 0xFFFF, .range 23100 23100⟩ -- MirrorRelease R410
  , ⟨0x0C0A, 0x0C0A, 0x00, 0x00, .uint, 1, .ro, false, false, false, false, 0x0, 0xFF, .any⟩ -- MirrorFaultCause R410
  , ⟨0x0C10, 0x0C10, 0x00, 0x00, .uint, 4, .rwc, true, false, false, false, 0x640001, 0x3FF0003, .fields [(16, 10, 10, 1000), (0, 2, 0, 2)]⟩ -- SrqConfig R415
  , ⟨0x0C11, 0x0C11, 0x00, 0x00, .uint, 4, .ro, false, false, false, false, 0x0, 0xFFFFFFFF, .any⟩ -- SrqStatus R415
  , ⟨0x0C20, 0x0C20, 0x00, 0x00, .bool, 1, .rw, false, false, false, false, 0x0, 0xFF, .range 0 1⟩ -- CenRequest R423
  , ⟨0x0C21, 0x0C21, 0x00, 0x00, .uint, 2, .ro, false, false, false, false, 0x0, 0xFFFF, .any⟩ -- CenStatus R423
  , ⟨0x0C22, 0x0C22, 0x00, 0x00, .uint, 4, .rw, true, false, false, false, 0x320000, 0x3FF0003, .fields [(16, 10, 1, 1000), (0, 2, 0, 2)]⟩ -- CenConfig R423
  , ⟨0x0C23, 0x0C23, 0x00, 0x00, .uint, 4, .rw, true, false, false, false, 0x1F40, 0xFFFFFFFF, .range 0 15999999⟩ -- CenTestOffset R423
  , ⟨0x0C24, 0x0C24, 0x00, 0x00, .uint, 4, .ro, false, false, false, false, 0x0, 0xFFFFFFFF, .any⟩ -- CenTestCount R423
  , ⟨0x0C25, 0x0C25, 0x00, 0x00, .uint, 1, .ro, false, false, false, false, 0x0, 0xFF, .any⟩ -- CenFailCause R423
  , ⟨0x0C30, 0x0C30, 0x00, 0x00, .uint, 1, .rwc, true, false, false, false, 0x2, 0x3, .any⟩ -- SafeDataConfig R429
  , ⟨0x0C31, 0x0C31, 0x00, 0x00, .uint, 1, .rw, true, false, false, false, 0x2, 0xFF, .range 0 15⟩ -- SafeTolerance R429
  , ⟨0x0C32, 0x0C32, 0x00, 0x00, .uint, 2, .rw, true, false, false, false, 0x1E, 0xFFFF, .range 0 3600⟩ -- SafeGrace R429
  , ⟨0x0C33, 0x0C33, 0x01, 0x3E, .uint, 4, .ro, false, false, false, false, 0x0, 0xFFFFFFFF, .any⟩ -- SafeNodeStatus R429
  , ⟨0x0C34, 0x0C34, 0x00, 0x00, .uint, 1, .ro, false, false, false, false, 0x0, 0xFF, .any⟩ -- SafeDataCause R429
  , ⟨0x0C35, 0x0C35, 0x00, 0x00, .uint, 8, .ro, false, false, false, false, 0x0, 0xFFFFFFFFFFFFFFFF, .any⟩ -- SafeTripMap R429
  , ⟨0x0C36, 0x0C36, 0x00, 0x00, .bool, 1, .ro, false, false, false, false, 0x0, 0xFF, .any⟩ -- RingSafe R429
  , ⟨0x0C40, 0x0C40, 0x00, 0x00, .uint, 2, .wo, false, false, false, false, 0x0, 0xFFFF, .any⟩ -- WatchdogService R434
  , ⟨0x0C41, 0x0C41, 0x00, 0x00, .uint, 4, .rw1, false, false, false, false, 0x64, 0x1FFFF, .fields [(0, 16, 10, 1000)]⟩ -- WatchdogConfig R434
  , ⟨0x0C42, 0x0C42, 0x00, 0x00, .uint, 4, .ro, false, false, false, false, 0x0, 0xFFFFFFFF, .any⟩ -- WatchdogStatus R434
  , ⟨0x0C43, 0x0C43, 0x00, 0x00, .uint, 2, .ro, false, false, false, false, 0x0, 0xFFFF, .any⟩ -- WatchdogCount R434
  , ⟨0x0C44, 0x0C44, 0x00, 0x00, .uint, 2, .ro, false, false, false, false, 0x0, 0xFFFF, .any⟩ -- WatchdogRefused R434
  ]

/-- Objects 0D00h to 0DFFh (R36). -/
def Dict.integrityRows : List ObjRow :=
  [ ⟨0x0D01, 0x0D01, 0x00, 0x00, .uint, 2, .ro, false, false, false, false, 0x0, 0xFFFF, .any⟩ -- NotifyLost R19
  , ⟨0x0D02, 0x0D02, 0x01, 0x03, .uint, 4, .ro, false, false, false, false, 0x0, 0xFFFFFFFF, .any⟩ -- IntegrityTransients R447
  , ⟨0x0D03, 0x0D03, 0x00, 0x00, .uint, 4, .ro, false, false, false, false, 0x0, 0xFFFFFFFF, .any⟩ -- IntegrityLasting R447
  , ⟨0x0D04, 0x0D04, 0x00, 0x00, .uint, 4, .ro, false, false, false, false, 0x0, 0xFFFFFFFF, .any⟩ -- IntegrityLast R447
  , ⟨0x0D05, 0x0D05, 0x00, 0x00, .uint, 4, .ro, false, false, false, false, 0x0, 0xFFFFFFFF, .any⟩ -- IntegrityDiscards R447
  , ⟨0x0D06, 0x0D06, 0x00, 0x00, .uint, 4, .ro, false, false, false, false, 0x0, 0xFFFFFFFF, .any⟩ -- BoundTableRefetch R447
  , ⟨0x0D07, 0x0D07, 0x00, 0x00, .uint, 4, .ro, false, false, false, false, 0x0, 0xFFFFFFFF, .any⟩ -- CalScrubPassCount R447
  , ⟨0x0D10, 0x0D10, 0x00, 0x00, .uint, 4, .rw, false, false, true, false, 0x30020, 0x3003F, .fields [(0, 6, 3, 32)]⟩ -- CrcConfig R449
  , ⟨0x0D11, 0x0D11, 0x00, 0x00, .uint, 4, .rw, false, false, true, false, 0x1EDC6F41, 0xFFFFFFFF, .any⟩ -- CrcPoly R449
  , ⟨0x0D12, 0x0D12, 0x00, 0x00, .uint, 4, .rw, false, false, true, false, 0xFFFFFFFF, 0xFFFFFFFF, .any⟩ -- CrcInit R449
  , ⟨0x0D13, 0x0D13, 0x00, 0x00, .uint, 4, .rw, false, false, true, false, 0xFFFFFFFF, 0xFFFFFFFF, .any⟩ -- CrcXorOut R449
  , ⟨0x0D14, 0x0D14, 0x00, 0x00, .uint, 1, .wo, false, false, true, false, 0x0, 0xFF, .range 1 1⟩ -- CrcControl R449
  , ⟨0x0D15, 0x0D15, 0x00, 0x00, .domain, 0, .wo, false, false, true, false, 0x0, 0x0, .any⟩ -- CrcData R449
  , ⟨0x0D16, 0x0D16, 0x00, 0x00, .uint, 4, .ro, false, false, false, false, 0x0, 0xFFFFFFFF, .any⟩ -- CrcResult R449
  , ⟨0x0D17, 0x0D17, 0x00, 0x00, .uint, 4, .ro, false, false, false, false, 0x0, 0xFFFFFFFF, .any⟩ -- CrcByteCount R449
  , ⟨0x0D20, 0x0D20, 0x00, 0x00, .uint, 4, .rw, false, false, true, false, 0x10008, 0xFFFFFF1F, .fields [(0, 5, 4, 16), (16, 16, 1, 65535)]⟩ -- AliveConfig R452
  , ⟨0x0D21, 0x0D21, 0x00, 0x00, .uint, 2, .wo, false, false, true, false, 0x0, 0xFFFF, .any⟩ -- AliveInput R452
  , ⟨0x0D22, 0x0D22, 0x00, 0x00, .uint, 4, .ro, false, false, false, false, 0x0, 0xFFFFFFFF, .any⟩ -- AliveResult R452
  , ⟨0x0D23, 0x0D23, 0x01, 0x03, .uint, 4, .ro, false, false, false, false, 0x0, 0xFFFFFFFF, .any⟩ -- AliveCounts R452
  ]

/-- Objects 0E00h to 0EFFh (R36). -/
def Dict.faultRows : List ObjRow :=
  [ ⟨0x0E34, 0x0E34, 0x03, 0x03, .uint, 2, .rw, true, false, false, false, 0xA, 0xFFFF, .range 10 60000⟩ -- FaultQuietPeriod R457
  , ⟨0x0E38, 0x0E38, 0x02, 0x02, .uint, 1, .rwc, true, false, false, false, 0x0, 0xFF, .range 0 3⟩ -- FaultSeverity R457
  , ⟨0x0E1D, 0x0E1D, 0x02, 0x02, .uint, 1, .rwc, true, false, false, false, 0x0, 0xFF, .range 0 3⟩ -- FaultSeverity R457
  , ⟨0x0E15, 0x0E15, 0x02, 0x02, .uint, 1, .rwc, true, false, false, false, 0x0, 0xFF, .range 0 3⟩ -- FaultSeverity R457
  , ⟨0x0E29, 0x0E29, 0x02, 0x02, .uint, 1, .rwc, true, false, false, false, 0x2, 0xFF, .range 0 3⟩ -- FaultSeverity R457
  , ⟨0x0E1F, 0x0E1F, 0x02, 0x02, .uint, 1, .rwc, true, false, false, false, 0x2, 0xFF, .range 0 3⟩ -- FaultSeverity R457
  , ⟨0x0E28, 0x0E28, 0x02, 0x02, .uint, 1, .rwc, true, false, false, false, 0x3, 0xFF, .range 0 3⟩ -- FaultSeverity R457
  , ⟨0x0E10, 0x0E11, 0x02, 0x02, .uint, 1, .rwc, true, false, false, false, 0x3, 0xFF, .range 0 3⟩ -- FaultSeverity R457
  , ⟨0x0E00, 0x0E00, 0x00, 0x00, .uint, 2, .rw, true, false, false, false, 0xE10, 0xFFFF, .range 1 65535⟩ -- FaultRecoveryWindow R458
  , ⟨0x0E01, 0x0E01, 0x00, 0x00, .uint, 8, .ro, false, false, false, false, 0x0, 0xFFFFFFFFFFFFFFFF, .any⟩ -- FaultLatched R458
  , ⟨0x0E02, 0x0E02, 0x00, 0x00, .domain, 0, .ro, false, false, false, false, 0x0, 0x0, .any⟩ -- FaultLog R458
  , ⟨0x0E03, 0x0E03, 0x00, 0x00, .uint, 4, .ro, false, false, false, false, 0x0, 0xFFFFFFFF, .any⟩ -- FaultLogCount R458
  , ⟨0x0E10, 0x0E3F, 0x01, 0x01, .uint, 1, .rw, false, false, false, false, 0x0, 0xFF, .range 0 0⟩ -- FaultStatus R457
  , ⟨0x0E10, 0x0E3F, 0x02, 0x02, .uint, 1, .rwc, true, false, false, false, 0x1, 0xFF, .range 0 3⟩ -- FaultSeverity R457
  , ⟨0x0E10, 0x0E3F, 0x03, 0x03, .uint, 2, .rw, true, false, false, false, 0x3E8, 0xFFFF, .range 10 60000⟩ -- FaultQuietPeriod R457
  , ⟨0x0E10, 0x0E3F, 0x04, 0x04, .uint, 1, .rw, false, false, false, false, 0x0, 0xFF, .range 0 0⟩ -- FaultRecoveryCount R457
  , ⟨0x0E10, 0x0E3F, 0x05, 0x05, .uint, 1, .rw, true, false, false, false, 0x3, 0xFF, .any⟩ -- FaultRecoveryLimit R457
  , ⟨0x0E10, 0x0E3F, 0x06, 0x06, .uint, 2, .ro, false, false, false, false, 0x0, 0xFFFF, .any⟩ -- FaultCollisionCount R457
  ]

/-- Objects 0F00h to 0FFFh (R36). -/
def Dict.selftestRows : List ObjRow :=
  [ ⟨0x0F00, 0x0F00, 0x00, 0x00, .uint, 4, .ro, false, false, false, false, 0x0, 0xFFFFFFFF, .any⟩ -- SelftestStatus R492
  , ⟨0x0F01, 0x0F01, 0x01, 0x0A, .uint, 4, .ro, false, false, false, false, 0x0, 0xFFFFFFFF, .any⟩ -- SliceLast R492
  , ⟨0x0F02, 0x0F02, 0x00, 0x00, .uint, 4, .ro, false, false, false, false, 0x0, 0xFFFFFFFF, .any⟩ -- SliceNotRun R492
  , ⟨0x0F03, 0x0F03, 0x00, 0x00, .uint, 4, .ro, false, false, false, false, 0x0, 0xFFFFFFFF, .any⟩ -- SliceIncomplete R492
  , ⟨0x0F10, 0x0F10, 0x01, 0x1A, .int, 2, .ro, true, false, false, false, 0x0, 0xFFFF, .any⟩ -- LoopbackOffset R492
  , ⟨0x0F11, 0x0F11, 0x01, 0x1A, .int, 2, .ro, true, false, false, false, 0x0, 0xFFFF, .any⟩ -- LoopbackGain R492
  , ⟨0x0F12, 0x0F12, 0x00, 0x00, .uint, 2, .rw, true, false, false, false, 0x1F4, 0xFFFF, .range 100 5000⟩ -- LoopbackLimit R492
  , ⟨0x0F13, 0x0F13, 0x00, 0x00, .uint, 4, .ro, false, false, false, false, 0x0, 0xFFFFFFFF, .any⟩ -- LoopbackSuspect R492
  , ⟨0x0F14, 0x0F14, 0x00, 0x00, .uint, 4, .ro, true, false, false, false, 0x0, 0xFFFFFFFF, .any⟩ -- CurrentLoopback R492
  , ⟨0x0F15, 0x0F15, 0x01, 0x18, .uint, 4, .ro, false, false, false, false, 0x0, 0xFFFFFFFF, .any⟩ -- MirrorDeviation R492
  , ⟨0x0F20, 0x0F20, 0x00, 0x00, .uint, 4, .ro, false, false, false, false, 0x0, 0xFFFFFFFF, .any⟩ -- MemBistResult R492
  , ⟨0x0F21, 0x0F21, 0x01, 0x04, .uint, 4, .ro, true, false, false, false, 0x0, 0xFFFFFFFF, .any⟩ -- RepairMap R492
  , ⟨0x0F30, 0x0F30, 0x01, 0x02, .uint, 1, .ro, false, false, false, false, 0x0, 0xFF, .any⟩ -- EyeMargin R492
  , ⟨0x0F31, 0x0F31, 0x00, 0x00, .uint, 1, .rw, true, false, false, false, 0x19, 0xFF, .range 5 60⟩ -- EyeMarginLimit R492
  , ⟨0x0F32, 0x0F32, 0x00, 0x00, .uint, 8, .ro, false, false, false, false, 0x0, 0xFFFFFFFFFFFFFFFF, .any⟩ -- SourceStatus R492
  , ⟨0x0F40, 0x0F40, 0x00, 0x00, .int, 2, .ro, true, false, false, false, 0x0, 0xFFFF, .any⟩ -- RefDrift R492
  , ⟨0x0F41, 0x0F41, 0x00, 0x00, .domain, 0, .ro, false, false, false, false, 0x0, 0x0, .any⟩ -- LedgerLatest R492
  , ⟨0x0F42, 0x0F42, 0x00, 0x00, .domain, 0, .ro, false, false, false, false, 0x0, 0x0, .any⟩ -- Ledger R492
  , ⟨0x0F43, 0x0F43, 0x00, 0x00, .uint, 4, .ro, true, false, false, false, 0x0, 0xFFFFFFFF, .any⟩ -- LedgerCount R492
  , ⟨0x0F50, 0x0F50, 0x00, 0x00, .uint, 8, .ro, false, false, false, false, 0x6464646464, 0xFFFFFFFFFFFFFFFF, .any⟩ -- MarginStatus R492
  , ⟨0x0F51, 0x0F51, 0x00, 0x00, .uint, 1, .ro, false, false, false, false, 0x0, 0xFF, .any⟩ -- AgeingMarginCause R492
  , ⟨0x0F52, 0x0F52, 0x00, 0x00, .uint, 4, .rw, true, false, false, false, 0x3C281E0F, 0xFFFFFFFF, .fields [(24, 8, 1, 254), (16, 8, 1, 254), (8, 8, 1, 100), (0, 8, 1, 25)]⟩ -- AgeingLimits R492
  , ⟨0x0F60, 0x0F60, 0x00, 0x00, .uint, 4, .ro, false, false, false, false, 0x0, 0xFFFFFFFF, .any⟩ -- PlanRequestStatus R492
  ]

/-- Objects 1000h to 10FFh (R36). -/
def Dict.nvmRows : List ObjRow :=
  [ ⟨0x1000, 0x1000, 0x00, 0x00, .uint, 2, .ro, false, false, false, false, 0x0, 0xFFFF, .any⟩ -- NvmStatus R515
  , ⟨0x1001, 0x1001, 0x01, 0x06, .uint, 4, .ro, false, false, false, false, 0x64, 0xFFFFFFFF, .any⟩ -- NvmLogSector R515
  , ⟨0x1002, 0x1002, 0x01, 0x08, .uint, 1, .ro, false, false, false, false, 0x64, 0xFF, .any⟩ -- NvmRegionMargin R515
  , ⟨0x1003, 0x1003, 0x01, 0x08, .uint, 4, .ro, true, false, false, false, 0x0, 0xFFFFFFFF, .any⟩ -- NvmRegionAge R515
  , ⟨0x1004, 0x1004, 0x00, 0x00, .uint, 4, .ro, false, false, false, false, 0x0, 0xFFFFFFFF, .any⟩ -- NvmRereads R515
  , ⟨0x1005, 0x1005, 0x00, 0x00, .uint, 4, .ro, false, false, false, false, 0x0, 0xFFFFFFFF, .any⟩ -- NvmLastFault R515
  , ⟨0x1006, 0x1006, 0x00, 0x00, .uint, 4, .rw, true, false, false, false, 0x15F90, 0xFFFFFFFF, .range 10000 100000⟩ -- NvmWearLimit R515
  , ⟨0x1007, 0x1007, 0x00, 0x00, .uint, 1, .rw, true, false, false, false, 0x1E, 0xFF, .range 10 80⟩ -- NvmMarginLimit R515
  , ⟨0x1008, 0x1008, 0x00, 0x00, .uint, 1, .rw, true, false, false, false, 0x32, 0xFF, .range 20 90⟩ -- NvmRefreshMargin R515
  , ⟨0x1009, 0x1009, 0x00, 0x00, .uint, 2, .ro, false, false, false, false, 0xF80, 0xFFFF, .any⟩ -- NvmLogFree R515
  , ⟨0x100A, 0x100A, 0x00, 0x00, .uint, 2, .ro, false, false, false, false, 0x0, 0xFFFF, .any⟩ -- NvmTornRecords R515
  , ⟨0x100B, 0x100B, 0x00, 0x00, .uint, 4, .ro, false, false, false, false, 0x0, 0xFFFFFFFF, .any⟩ -- NvmScrubPassCount R515
  , ⟨0x1010, 0x1010, 0x00, 0x00, .domain, 0, .wo, false, false, false, false, 0x0, 0x0, .any⟩ -- FirmwareImage R515
  , ⟨0x1011, 0x1011, 0x00, 0x00, .uint, 1, .wo, false, false, false, false, 0x0, 0xFF, .range 1 5⟩ -- UpdateControl R515
  , ⟨0x1012, 0x1012, 0x00, 0x00, .uint, 4, .ro, false, false, false, false, 0x0, 0xFFFFFFFF, .any⟩ -- UpdateStatus R515
  , ⟨0x1013, 0x1013, 0x00, 0x00, .uint, 4, .ro, false, false, false, false, 0x0, 0xFFFFFFFF, .any⟩ -- UpdateProgrammed R515
  , ⟨0x1014, 0x1014, 0x00, 0x00, .uint, 4, .rw, false, false, false, false, 0x0, 0xFFFFFFFF, .any⟩ -- FirmwareWriteOffset R515
  , ⟨0x1015, 0x1015, 0x01, 0x02, .uint, 4, .ro, false, false, false, false, 0x93, 0xFFFFFFFF, .any⟩ -- FirmwareSlotInfo R515
  , ⟨0x1016, 0x1016, 0x01, 0x02, .uint, 4, .ro, false, false, false, false, 0x0, 0xFFFFFFFF, .any⟩ -- FirmwareSlotVersion R515
  , ⟨0x1017, 0x1017, 0x00, 0x00, .uint, 2, .rw, true, false, false, false, 0x78, 0xFFFF, .range 10 3600⟩ -- UpdateTrialTime R515
  , ⟨0x1018, 0x1018, 0x00, 0x00, .uint, 2, .ro, true, false, false, false, 0x0, 0xFFFF, .any⟩ -- SecurityVersionFloor R515
  ]

/-- The rows of one subject, by the high byte of the index (R36). An index outside every allocated range has none. -/
def Dict.rowsOf (hi : Nat) : List ObjRow :=
  match hi with
  | 0 => Dict.hwRows
  | 1 => Dict.identityRows
  | 2 => Dict.powerRows
  | 3 => Dict.timeRows
  | 4 => Dict.cellRows
  | 5 => Dict.currentRows
  | 6 => Dict.planRows
  | 7 => Dict.auxRows
  | 8 => Dict.balanceRows
  | 9 => Dict.transferRows
  | 10 => Dict.ringRows
  | 11 => Dict.hostRows
  | 12 => Dict.safetyRows
  | 13 => Dict.integrityRows
  | 14 => Dict.faultRows
  | 15 => Dict.selftestRows
  | 16 => Dict.nvmRows
  | _ => []

/-- The rows that bear an index, whatever the subindex. -/
def Dict.indexRows (ix : Nat) : List ObjRow :=
  (Dict.rowsOf (ix / 256)).filter fun r => decide (r.ixLo ≤ ix) && decide (ix ≤ r.ixHi)

/-- The row of the object `ix:sub`, if there is one. -/
def Dict.find (ix sub : Nat) : Option ObjRow :=
  (Dict.rowsOf (ix / 256)).find? fun r =>
    decide (r.ixLo ≤ ix) && decide (ix ≤ r.ixHi) && decide (r.subLo ≤ sub) && decide (sub ≤ r.subHi)

/-- R32: an object with several values keeps its highest subindex at subindex 00h, as a U8 that is read only. -/
def Dict.countRow (ix : Nat) : Option ObjRow :=
  match Dict.indexRows ix with
  | [] => none
  | r :: rs =>
    let top := (r :: rs).foldl (fun m q => max m q.subHi) 0
    if (r :: rs).all (fun q => decide (1 ≤ q.subLo)) then
      some ⟨ix, ix, 0, 0, .uint, 1, .ro, false, false, false, false, top, 0xFF, .any⟩
    else none

/-- The row that governs `ix:sub`: the object's own, or the count of R32 at subindex 00h. -/
def Dict.row (ix sub : Nat) : Option ObjRow :=
  match Dict.find ix sub with
  | some r => some r
  | none => if sub = 0 then Dict.countRow ix else none

/-- The key of an object in the state's store: 256 times its index plus its subindex. -/
abbrev objKey (ix sub : Nat) : Nat := ix * 256 + sub

/-- The value an object reads as when the store does not list it: the default of its table. -/
def Dict.default (key : Nat) : Nat :=
  match Dict.row (key / 256) (key % 256) with
  | some r => r.dft
  | none => 0

/-! The keys of the objects, by name: the object itself, or subindex 00h of its index where it has several values. -/

abbrev Obj.faultQuietPeriod : Nat := 0x0E1003
abbrev Obj.faultSeverity : Nat := 0x0E1002
abbrev Obj.auxSelect : Nat := 0x070100
abbrev Obj.domainStatus : Nat := 0x020200
abbrev Obj.notifyLost : Nat := 0x0D0100
abbrev Obj.ringRole : Nat := 0x0A0100
abbrev Obj.dictionaryVersion : Nat := 0x000000
abbrev Obj.deviceState : Nat := 0x000100
abbrev Obj.faultSummary : Nat := 0x000200
abbrev Obj.resetCommand : Nat := 0x000300
abbrev Obj.nodeAddress : Nat := 0x000400
abbrev Obj.streamControl : Nat := 0x000500
abbrev Obj.supervisorState : Nat := 0x000600
abbrev Obj.latestResultSet : Nat := 0x000800
abbrev Obj.queueDepth : Nat := 0x000900
abbrev Obj.hostPortActive : Nat := 0x0B0000
abbrev Obj.hostPortSelect : Nat := 0x0B0100
abbrev Obj.sessionRequest : Nat := 0x0B1000
abbrev Obj.sessionStatus : Nat := 0x0B1100
abbrev Obj.sessionTimeout : Nat := 0x0B1200
abbrev Obj.nominalBitRate : Nat := 0x0B2001
abbrev Obj.dataBitRate : Nat := 0x0B2002
abbrev Obj.nominalSamplePoint : Nat := 0x0B2003
abbrev Obj.dataSamplePoint : Nat := 0x0B2004
abbrev Obj.canPortId : Nat := 0x0B2100
abbrev Obj.canTxFormat : Nat := 0x0B2200
abbrev Obj.eventMask : Nat := 0x0B3000
abbrev Obj.eventsLost : Nat := 0x0B3100
abbrev Obj.streamLost : Nat := 0x0B3200
abbrev Obj.linkErrors : Nat := 0x0B3300
abbrev Obj.supplyStatus : Nat := 0x021000
abbrev Obj.stkVoltage : Nat := 0x021100
abbrev Obj.xbsVoltage : Nat := 0x021200
abbrev Obj.powerPathPolicy : Nat := 0x094000
abbrev Obj.powerPathStatus : Nat := 0x094100
abbrev Obj.powerPathDwell : Nat := 0x094200
abbrev Obj.handoverCount : Nat := 0x094300
abbrev Obj.modeRequest : Nat := 0x020000
abbrev Obj.modeStatus : Nat := 0x020100
abbrev Obj.configCheck : Nat := 0x020300
abbrev Obj.sleepCheckPeriod : Nat := 0x022000
abbrev Obj.wakeEnable : Nat := 0x022100
abbrev Obj.wakeCause : Nat := 0x022200
abbrev Obj.sleepTransients : Nat := 0x022300
abbrev Obj.resetCause : Nat := 0x020400
abbrev Obj.ringTime : Nat := 0x030000
abbrev Obj.cycleStart : Nat := 0x031000
abbrev Obj.cycleCount : Nat := 0x031100
abbrev Obj.ringTimeStatus : Nat := 0x030100
abbrev Obj.phaseError : Nat := 0x030200
abbrev Obj.frequencySteer : Nat := 0x030300
abbrev Obj.holdoverTime : Nat := 0x030400
abbrev Obj.holdoverLimit : Nat := 0x030500
abbrev Obj.timeStepCount : Nat := 0x030600
abbrev Obj.laneSkew : Nat := 0x030700
abbrev Obj.syncConfig : Nat := 0x032000
abbrev Obj.syncStatus : Nat := 0x032100
abbrev Obj.syncPeriod : Nat := 0x032200
abbrev Obj.syncPhase : Nat := 0x032300
abbrev Obj.cellCount : Nat := 0x040100
abbrev Obj.cellResult : Nat := 0x041000
abbrev Obj.channelState : Nat := 0x042000
abbrev Obj.spareState : Nat := 0x042100
abbrev Obj.channelControl : Nat := 0x042200
abbrev Obj.substitutionCount : Nat := 0x042300
abbrev Obj.retiredMask : Nat := 0x042400
abbrev Obj.shadowResult : Nat := 0x043000
abbrev Obj.filterTau : Nat := 0x044000
abbrev Obj.settleStep : Nat := 0x044100
abbrev Obj.driftTerm : Nat := 0x044200
abbrev Obj.boundSelect : Nat := 0x044300
abbrev Obj.boundTerms : Nat := 0x044400
abbrev Obj.cellOvThreshold : Nat := 0x045000
abbrev Obj.cellUvThreshold : Nat := 0x045100
abbrev Obj.cellLimitHysteresis : Nat := 0x045200
abbrev Obj.cellLimitConfig : Nat := 0x045300
abbrev Obj.cellOvStatus : Nat := 0x045400
abbrev Obj.cellUvStatus : Nat := 0x045500
abbrev Obj.openWireThreshold : Nat := 0x046000
abbrev Obj.openWireStatus : Nat := 0x046100
abbrev Obj.openWireSuspect : Nat := 0x046200
abbrev Obj.stackSumTolerance : Nat := 0x047000
abbrev Obj.stackSumError : Nat := 0x047100
abbrev Obj.plausibilityCause : Nat := 0x047200
abbrev Obj.shuntEnable : Nat := 0x050000
abbrev Obj.shuntResistance : Nat := 0x050100
abbrev Obj.shuntTempCoeff : Nat := 0x050200
abbrev Obj.shuntTempSource : Nat := 0x050300
abbrev Obj.shuntTemperature : Nat := 0x050400
abbrev Obj.currentZeroOffset : Nat := 0x050500
abbrev Obj.gainBound : Nat := 0x050600
abbrev Obj.currentDriftTerm : Nat := 0x050700
abbrev Obj.currentResult : Nat := 0x051000
abbrev Obj.currentAmps : Nat := 0x051100
abbrev Obj.currentStatus : Nat := 0x051200
abbrev Obj.coulombCount : Nat := 0x052000
abbrev Obj.coulombSnapshot : Nat := 0x052100
abbrev Obj.coulombCharge : Nat := 0x052200
abbrev Obj.counterGapCount : Nat := 0x052300
abbrev Obj.currentRepairCount : Nat := 0x052400
abbrev Obj.chargeLimit : Nat := 0x053000
abbrev Obj.dischargeLimit : Nat := 0x053100
abbrev Obj.currentDebounce : Nat := 0x053200
abbrev Obj.auxInputConfig : Nat := 0x070200
abbrev Obj.auxRequest : Nat := 0x070300
abbrev Obj.ntcNominal : Nat := 0x070400
abbrev Obj.ntcBeta : Nat := 0x070500
abbrev Obj.ntcPullResistor : Nat := 0x070600
abbrev Obj.auxOpenThreshold : Nat := 0x070800
abbrev Obj.auxOpenStatus : Nat := 0x070900
abbrev Obj.auxOpenSuspect : Nat := 0x070A00
abbrev Obj.auxLimitLow : Nat := 0x070B00
abbrev Obj.auxLimitHigh : Nat := 0x070C00
abbrev Obj.auxRangeStatus : Nat := 0x070D00
abbrev Obj.auxRangeDebounce : Nat := 0x070E00
abbrev Obj.auxRangeCause : Nat := 0x070F00
abbrev Obj.auxResult : Nat := 0x071000
abbrev Obj.auxStamp : Nat := 0x071100
abbrev Obj.auxDiagResult : Nat := 0x071200
abbrev Obj.dieTemperature : Nat := 0x072000
abbrev Obj.dieTemperatureMax : Nat := 0x072100
abbrev Obj.dieOvertempThreshold : Nat := 0x072200
abbrev Obj.dieSensorStatus : Nat := 0x072300
abbrev Obj.axTemperature : Nat := 0x073000
abbrev Obj.facetEnable : Nat := 0x075000
abbrev Obj.facetSearch : Nat := 0x075100
abbrev Obj.facetStatus : Nat := 0x075200
abbrev Obj.facetExpected : Nat := 0x075300
abbrev Obj.facetTimingCause : Nat := 0x075400
abbrev Obj.facetSearchFrames : Nat := 0x075500
abbrev Obj.facetValue : Nat := 0x076000
abbrev Obj.facetStamp : Nat := 0x076100
abbrev Obj.facetLimitLow : Nat := 0x076200
abbrev Obj.facetLimitHigh : Nat := 0x076300
abbrev Obj.facetErrorCount : Nat := 0x076400
abbrev Obj.facetLimitStatus : Nat := 0x076500
abbrev Obj.planControl : Nat := 0x060000
abbrev Obj.planStatus : Nat := 0x060100
abbrev Obj.planSwitch : Nat := 0x060200
abbrev Obj.planBootSlot : Nat := 0x060300
abbrev Obj.planRejectDetail : Nat := 0x060400
abbrev Obj.planSkipCount : Nat := 0x060500
abbrev Obj.planLateCount : Nat := 0x060600
abbrev Obj.planRefetchCount : Nat := 0x060700
abbrev Obj.adhocMaxGap : Nat := 0x060800
abbrev Obj.planSlotSelect : Nat := 0x060900
abbrev Obj.planSwitchRefusal : Nat := 0x060A00
abbrev Obj.scrubPassCount : Nat := 0x060B00
abbrev Obj.planImage : Nat := 0x061000
abbrev Obj.planSlotInfo : Nat := 0x061100
abbrev Obj.balEnable : Nat := 0x080000
abbrev Obj.balDutyRequest : Nat := 0x080100
abbrev Obj.balCommTimeout : Nat := 0x080200
abbrev Obj.balStatus : Nat := 0x080300
abbrev Obj.balConducting : Nat := 0x080400
abbrev Obj.tableDuty : Nat := 0x080500
abbrev Obj.capFactor : Nat := 0x080600
abbrev Obj.balDissipation : Nat := 0x080700
abbrev Obj.balCommElapsed : Nat := 0x080800
abbrev Obj.balOnTime : Nat := 0x080900
abbrev Obj.balLockout : Nat := 0x080A00
abbrev Obj.balSwitchSuspect : Nat := 0x080B00
abbrev Obj.balRonLimit : Nat := 0x080C00
abbrev Obj.balTestCount : Nat := 0x080D00
abbrev Obj.balSwitchResult : Nat := 0x081000
abbrev Obj.loupeConfig : Nat := 0x084000
abbrev Obj.loupePointMask : Nat := 0x084100
abbrev Obj.loupeFrequency : Nat := 0x084200
abbrev Obj.loupePeriods : Nat := 0x084300
abbrev Obj.loupeTransferCurrent : Nat := 0x084400
abbrev Obj.loupeMinExcitation : Nat := 0x084500
abbrev Obj.loupeSessionStatus : Nat := 0x084600
abbrev Obj.loupePointStatus : Nat := 0x084800
abbrev Obj.loupeExcitation : Nat := 0x084900
abbrev Obj.loupeActualPeriod : Nat := 0x084A00
abbrev Obj.xferConfig : Nat := 0x090000
abbrev Obj.xferCurrent : Nat := 0x090100
abbrev Obj.xferPeakLimit : Nat := 0x090200
abbrev Obj.xferSafetyTime : Nat := 0x090300
abbrev Obj.xferChargeLimit : Nat := 0x090400
abbrev Obj.xferCellHigh : Nat := 0x090500
abbrev Obj.xferCellLow : Nat := 0x090600
abbrev Obj.xferBusFloor : Nat := 0x090700
abbrev Obj.xferBusCeiling : Nat := 0x090800
abbrev Obj.xferSwitchFreq : Nat := 0x090900
abbrev Obj.xferSenseResistor : Nat := 0x090A00
abbrev Obj.xferFetTempSource : Nat := 0x090B00
abbrev Obj.xferFetTempLimit : Nat := 0x090C00
abbrev Obj.xferThermalHold : Nat := 0x090D00
abbrev Obj.xferBusRiseTime : Nat := 0x090E00
abbrev Obj.xferStatus : Nat := 0x091000
abbrev Obj.xferAllowed : Nat := 0x091100
abbrev Obj.xferFoldback : Nat := 0x091200
abbrev Obj.xferMeasCurrent : Nat := 0x091300
abbrev Obj.xferPeakMeas : Nat := 0x091400
abbrev Obj.xferCharge : Nat := 0x091500
abbrev Obj.xferElapsed : Nat := 0x091600
abbrev Obj.xferOnTime : Nat := 0x091700
abbrev Obj.xferSessionCount : Nat := 0x091800
abbrev Obj.ringGeneration : Nat := 0x0A0000
abbrev Obj.ringRoleConfig : Nat := 0x0A0200
abbrev Obj.ringGenerationLimit : Nat := 0x0A0300
abbrev Obj.ringEpoch : Nat := 0x0A0400
abbrev Obj.enumControl : Nat := 0x0A0500
abbrev Obj.enumStatus : Nat := 0x0A0600
abbrev Obj.enumExpected : Nat := 0x0A0700
abbrev Obj.nodeMap : Nat := 0x0A0800
abbrev Obj.ringCrcLimit : Nat := 0x0A0900
abbrev Obj.nodeUid : Nat := 0x0A0A00
abbrev Obj.staleEpochCount : Nat := 0x0A0B00
abbrev Obj.ringCrcPort : Nat := 0x0A0C00
abbrev Obj.linkStatus : Nat := 0x0A1000
abbrev Obj.linkDelay : Nat := 0x0A1100
abbrev Obj.rxFrames : Nat := 0x0A1200
abbrev Obj.rxCheckErrors : Nat := 0x0A1300
abbrev Obj.rxAborted : Nat := 0x0A1400
abbrev Obj.rxDiscarded : Nat := 0x0A1500
abbrev Obj.codeViolations : Nat := 0x0A1600
abbrev Obj.txFrames : Nat := 0x0A1700
abbrev Obj.delayRejects : Nat := 0x0A1800
abbrev Obj.legacyTransmit : Nat := 0x0A3000
abbrev Obj.legacyReceive : Nat := 0x0A3100
abbrev Obj.legacyReceiveCount : Nat := 0x0A3200
abbrev Obj.laneService : Nat := 0x0A2000
abbrev Obj.singleLaneCount : Nat := 0x0A2100
abbrev Obj.requeuedSets : Nat := 0x0A2200
abbrev Obj.queueOverflow : Nat := 0x0A2300
abbrev Obj.txDropped : Nat := 0x0A2400
abbrev Obj.deputyTimeout : Nat := 0x0A2500
abbrev Obj.deputyControl : Nat := 0x0A2600
abbrev Obj.takeoverCount : Nat := 0x0A2700
abbrev Obj.headAddress : Nat := 0x0A2800
abbrev Obj.ringEventsLost : Nat := 0x0A2900
abbrev Obj.mirrorOvLimit : Nat := 0x0C0000
abbrev Obj.mirrorUvLimit : Nat := 0x0C0100
abbrev Obj.mirrorDeglitch : Nat := 0x0C0200
abbrev Obj.mirrorGuardBand : Nat := 0x0C0300
abbrev Obj.mirrorDrift : Nat := 0x0C0400
abbrev Obj.mirrorCodes : Nat := 0x0C0500
abbrev Obj.mirrorStatus : Nat := 0x0C0600
abbrev Obj.mirrorOvTripped : Nat := 0x0C0700
abbrev Obj.mirrorUvTripped : Nat := 0x0C0800
abbrev Obj.mirrorRelease : Nat := 0x0C0900
abbrev Obj.mirrorFaultCause : Nat := 0x0C0A00
abbrev Obj.srqConfig : Nat := 0x0C1000
abbrev Obj.srqStatus : Nat := 0x0C1100
abbrev Obj.cenRequest : Nat := 0x0C2000
abbrev Obj.cenStatus : Nat := 0x0C2100
abbrev Obj.cenConfig : Nat := 0x0C2200
abbrev Obj.cenTestOffset : Nat := 0x0C2300
abbrev Obj.cenTestCount : Nat := 0x0C2400
abbrev Obj.cenFailCause : Nat := 0x0C2500
abbrev Obj.safeDataConfig : Nat := 0x0C3000
abbrev Obj.safeTolerance : Nat := 0x0C3100
abbrev Obj.safeGrace : Nat := 0x0C3200
abbrev Obj.safeNodeStatus : Nat := 0x0C3300
abbrev Obj.safeDataCause : Nat := 0x0C3400
abbrev Obj.safeTripMap : Nat := 0x0C3500
abbrev Obj.ringSafe : Nat := 0x0C3600
abbrev Obj.watchdogService : Nat := 0x0C4000
abbrev Obj.watchdogConfig : Nat := 0x0C4100
abbrev Obj.watchdogStatus : Nat := 0x0C4200
abbrev Obj.watchdogCount : Nat := 0x0C4300
abbrev Obj.watchdogRefused : Nat := 0x0C4400
abbrev Obj.integrityTransients : Nat := 0x0D0200
abbrev Obj.integrityLasting : Nat := 0x0D0300
abbrev Obj.integrityLast : Nat := 0x0D0400
abbrev Obj.integrityDiscards : Nat := 0x0D0500
abbrev Obj.boundTableRefetch : Nat := 0x0D0600
abbrev Obj.calScrubPassCount : Nat := 0x0D0700
abbrev Obj.crcConfig : Nat := 0x0D1000
abbrev Obj.crcPoly : Nat := 0x0D1100
abbrev Obj.crcInit : Nat := 0x0D1200
abbrev Obj.crcXorOut : Nat := 0x0D1300
abbrev Obj.crcControl : Nat := 0x0D1400
abbrev Obj.crcData : Nat := 0x0D1500
abbrev Obj.crcResult : Nat := 0x0D1600
abbrev Obj.crcByteCount : Nat := 0x0D1700
abbrev Obj.aliveConfig : Nat := 0x0D2000
abbrev Obj.aliveInput : Nat := 0x0D2100
abbrev Obj.aliveResult : Nat := 0x0D2200
abbrev Obj.aliveCounts : Nat := 0x0D2300
abbrev Obj.faultRecoveryWindow : Nat := 0x0E0000
abbrev Obj.faultLatched : Nat := 0x0E0100
abbrev Obj.faultLog : Nat := 0x0E0200
abbrev Obj.faultLogCount : Nat := 0x0E0300
abbrev Obj.selftestStatus : Nat := 0x0F0000
abbrev Obj.sliceLast : Nat := 0x0F0100
abbrev Obj.sliceNotRun : Nat := 0x0F0200
abbrev Obj.sliceIncomplete : Nat := 0x0F0300
abbrev Obj.loopbackOffset : Nat := 0x0F1000
abbrev Obj.loopbackGain : Nat := 0x0F1100
abbrev Obj.loopbackLimit : Nat := 0x0F1200
abbrev Obj.loopbackSuspect : Nat := 0x0F1300
abbrev Obj.currentLoopback : Nat := 0x0F1400
abbrev Obj.mirrorDeviation : Nat := 0x0F1500
abbrev Obj.memBistResult : Nat := 0x0F2000
abbrev Obj.repairMap : Nat := 0x0F2100
abbrev Obj.eyeMargin : Nat := 0x0F3000
abbrev Obj.eyeMarginLimit : Nat := 0x0F3100
abbrev Obj.sourceStatus : Nat := 0x0F3200
abbrev Obj.refDrift : Nat := 0x0F4000
abbrev Obj.ledgerLatest : Nat := 0x0F4100
abbrev Obj.ledger : Nat := 0x0F4200
abbrev Obj.ledgerCount : Nat := 0x0F4300
abbrev Obj.marginStatus : Nat := 0x0F5000
abbrev Obj.ageingMarginCause : Nat := 0x0F5100
abbrev Obj.ageingLimits : Nat := 0x0F5200
abbrev Obj.planRequestStatus : Nat := 0x0F6000
abbrev Obj.nvmStatus : Nat := 0x100000
abbrev Obj.nvmLogSector : Nat := 0x100100
abbrev Obj.nvmRegionMargin : Nat := 0x100200
abbrev Obj.nvmRegionAge : Nat := 0x100300
abbrev Obj.nvmRereads : Nat := 0x100400
abbrev Obj.nvmLastFault : Nat := 0x100500
abbrev Obj.nvmWearLimit : Nat := 0x100600
abbrev Obj.nvmMarginLimit : Nat := 0x100700
abbrev Obj.nvmRefreshMargin : Nat := 0x100800
abbrev Obj.nvmLogFree : Nat := 0x100900
abbrev Obj.nvmTornRecords : Nat := 0x100A00
abbrev Obj.nvmScrubPassCount : Nat := 0x100B00
abbrev Obj.firmwareImage : Nat := 0x101000
abbrev Obj.updateControl : Nat := 0x101100
abbrev Obj.updateStatus : Nat := 0x101200
abbrev Obj.updateProgrammed : Nat := 0x101300
abbrev Obj.firmwareWriteOffset : Nat := 0x101400
abbrev Obj.firmwareSlotInfo : Nat := 0x101500
abbrev Obj.firmwareSlotVersion : Nat := 0x101600
abbrev Obj.updateTrialTime : Nat := 0x101700
abbrev Obj.securityVersionFloor : Nat := 0x101800
abbrev Obj.strapStatus : Nat := 0x010100
abbrev Obj.generationCapStored : Nat := 0x010300
abbrev Obj.faultStatus : Nat := 0x0E1001
abbrev Obj.faultRecoveryCount : Nat := 0x0E1004
abbrev Obj.faultRecoveryLimit : Nat := 0x0E1005
abbrev Obj.faultCollisionCount : Nat := 0x0E1006
abbrev Obj.loupeZReal : Nat := 0x088000
abbrev Obj.loupeZImag : Nat := 0x089000

end Sys2Proof.Machine
end

