-- ==== Sys2Proof/Machine/Operands.lean ====
section
/-! DEFINITION. The forms in which values stand in objects, packets and frames: bit fields, two's complement, little-endian
byte sequences and rounding (R2 to R6). -/

namespace Sys2Proof.Machine

/-- The bits `[lo + w - 1 : lo]` of a value (R3). -/
abbrev bits (v lo w : Nat) : Nat := v / 2 ^ lo % 2 ^ w

/-- Bit `n` of a value. -/
abbrev bit (v n : Nat) : Bool := v / 2 ^ n % 2 == 1

/-- The value with the field `[lo + w - 1 : lo]` replaced by `x` (R3). -/
def setBits (v lo w x : Nat) : Nat := v - bits v lo w * 2 ^ lo + x % 2 ^ w * 2 ^ lo

/-- The value with bit `n` set or cleared. -/
def setBit (v n : Nat) (b : Bool) : Nat := setBits v n 1 (if b then 1 else 0)

/-- The signed number that a `w`-bit value stands for (two's complement, R6). -/
def toInt (w v : Nat) : Int := if v % 2 ^ w < 2 ^ (w - 1) then (v % 2 ^ w : Nat) else (v % 2 ^ w : Nat) - (2 ^ w : Nat)

/-- The `w`-bit value of a signed number, modulo `2 ^ w` (R6). -/
def ofInt (w : Nat) (i : Int) : Nat := (i % (2 ^ w : Nat)).toNat

/-- The `n` bytes of a value, least significant first (R5). -/
def leBytes : Nat → Nat → List Nat
  | 0, _ => []
  | n + 1, v => v % 256 :: leBytes n (v / 256)

/-- The value of a byte sequence, least significant first (R5). -/
def ofLe : List Nat → Nat
  | [] => 0
  | b :: bs => b + 256 * ofLe bs

/-- The field of `n` bytes that starts at byte `i` of a byte sequence (R5). -/
def leAt (bs : List Nat) (i n : Nat) : Nat := ofLe ((bs.drop i).take n)

/-- The integer nearest to `n / d`, halves away from zero. -/
def roundDiv (n d : Int) : Int := if n < 0 then -((2 * -n + d) / (2 * d)) else (2 * n + d) / (2 * d)

/-- The natural number nearest to `n / d`, halves up. -/
def roundNat (n d : Nat) : Nat := (2 * n + d) / (2 * d)

/-- The quotient rounded up. -/
def ceilDiv (n d : Nat) : Nat := (n + d - 1) / d

/-- The bit numbers, from `n - 1` down, whose bits are set in `v`, smallest first. -/
def bitList (v n : Nat) : List Nat := (List.range n).filter (fun i => bit v i)

/-- The value whose bits are `f 0` to `f (n - 1)`. -/
def ofBits (n : Nat) (f : Nat → Bool) : Nat := (List.range n).foldl (fun a i => a + num (f i) * 2 ^ i) 0

/-- The code of the auxiliary converter for an input of `v` nV (R210). -/
def auxCode (v : Int) : Nat := (max 0 (min 65535 (roundDiv (v * 65536) 3000000000))).toNat

/-- The codes of `n` samples of an input, which stays at the last voltage listed (R211). -/
def auxCodes (n : Nat) (volts : List Int) : List Nat :=
  (List.range n).map (fun i => auxCode (volts.getD i (volts.getLastD 0)))

/-- The mean of some codes, rounded half up (R211). -/
def meanCode (codes : List Nat) : Nat := roundNat codes.sum (max 1 codes.length)

/-- The bits of a value below `w` in reverse order. -/
def reflect (v w : Nat) : Nat := ofBits w (fun i => bit v (w - 1 - i))

end Sys2Proof.Machine
end

