-- ==== Sys2Proof/Machine/Flags.lean ====
section
/-! DEFINITION. Saturation and the check values of the part: the parametric CRC model of R448 and the instances of it that
R450 lists. -/

namespace Sys2Proof.Machine

/-- A count that saturates at `top`, as its object's table says. -/
abbrev sat (top n : Nat) : Nat := min top n

/-- A signed number clamped to the range of a `w`-bit signed value. -/
def clampInt (w : Nat) (i : Int) : Int := max (-(2 ^ (w - 1) : Nat)) (min ((2 ^ (w - 1) : Nat) - 1) i)

/-- One bit of the register of R448. -/
def crcBit (width poly reg : Nat) (b : Bool) : Nat :=
  let top := xor (bit reg (width - 1)) b
  let r := reg * 2 % 2 ^ width
  if top then r ^^^ poly else r

/-- One byte into the register of R448. -/
def crcByte (width poly : Nat) (refin : Bool) (reg b : Nat) : Nat :=
  let b' := if refin then reflect b 8 else b
  (List.range 8).foldl (fun r i => crcBit width poly r (bit b' (7 - i))) reg

/-- The register of R448 after a byte sequence. -/
def crcFeed (width poly : Nat) (refin : Bool) (reg : Nat) (bs : List Nat) : Nat :=
  bs.foldl (crcByte width poly refin) reg

/-- The result that R448 reads from the register. -/
def crcOut (width : Nat) (refout : Bool) (xorout reg : Nat) : Nat :=
  ((if refout then reflect reg width else reg) ^^^ xorout) % 2 ^ width

/-- CRC-32C: result sets, ring FCS and plan images (R247, R353, R450). -/
def crc32c (bs : List Nat) : Nat := crcOut 32 true 0xFFFFFFFF (crcFeed 32 0x1EDC6F41 true 0xFFFFFFFF bs)

/-- The CRC of safety records (R359, R450). -/
def crcSafety (bs : List Nat) : Nat := crcOut 32 true 0xFFFFFFFF (crcFeed 32 0xF4ACFB13 true 0xFFFFFFFF bs)

/-- CRC-16: SPI, plan entries and family frames (R66, R248, R371). -/
def crc16 (bs : List Nat) : Nat := crcOut 16 false 0 (crcFeed 16 0x1021 false 0xFFFF bs)

/-- CRC-8: the ring header check (R353). -/
def crc8 (bs : List Nat) : Nat := crcOut 8 false 0 (crcFeed 8 0x07 false 0 bs)

/-- CRC-4 over the 20 bits [23:4] of a Facet word, bit 23 first (R228, R450). -/
def crc4 (w : Nat) : Nat := (List.range 20).foldl (fun r i => crcBit 4 0x3 r (bit w (23 - i))) 0xF

/-! SHA-256, by which R504 defines DIGEST: FIPS 180-4 (log entry 150). -/

/-- The round constants. -/
def shaK : List Nat :=
  [0x428A2F98, 0x71374491, 0xB5C0FBCF, 0xE9B5DBA5, 0x3956C25B, 0x59F111F1, 0x923F82A4, 0xAB1C5ED5,
   0xD807AA98, 0x12835B01, 0x243185BE, 0x550C7DC3, 0x72BE5D74, 0x80DEB1FE, 0x9BDC06A7, 0xC19BF174,
   0xE49B69C1, 0xEFBE4786, 0x0FC19DC6, 0x240CA1CC, 0x2DE92C6F, 0x4A7484AA, 0x5CB0A9DC, 0x76F988DA,
   0x983E5152, 0xA831C66D, 0xB00327C8, 0xBF597FC7, 0xC6E00BF3, 0xD5A79147, 0x06CA6351, 0x14292967,
   0x27B70A85, 0x2E1B2138, 0x4D2C6DFC, 0x53380D13, 0x650A7354, 0x766A0ABB, 0x81C2C92E, 0x92722C85,
   0xA2BFE8A1, 0xA81A664B, 0xC24B8B70, 0xC76C51A3, 0xD192E819, 0xD6990624, 0xF40E3585, 0x106AA070,
   0x19A4C116, 0x1E376C08, 0x2748774C, 0x34B0BCB5, 0x391C0CB3, 0x4ED8AA4A, 0x5B9CCA4F, 0x682E6FF3,
   0x748F82EE, 0x78A5636F, 0x84C87814, 0x8CC70208, 0x90BEFFFA, 0xA4506CEB, 0xBEF9A3F7, 0xC67178F2]

/-- The initial hash value. -/
def shaInit : List Nat := [0x6A09E667, 0xBB67AE85, 0x3C6EF372, 0xA54FF53A,
  0x510E527F, 0x9B05688C, 0x1F83D9AB, 0x5BE0CD19]

/-- A 32-bit word rotated to the right. -/
def rotr (n x : Nat) : Nat := x / 2 ^ n + x * 2 ^ (32 - n) % 2 ^ 32

/-- The words of the schedule from the latest 16, newest first: `n` more. -/
def shaSchedule : Nat → List Nat → List Nat
  | 0, w => w
  | n + 1, w =>
    let a := w.getD 14 0
    let b := w.getD 1 0
    let x := (rotr 7 a ^^^ rotr 18 a ^^^ a / 2 ^ 3) + (rotr 17 b ^^^ rotr 19 b ^^^ b / 2 ^ 10) + w.getD 6 0 + w.getD 15 0
    shaSchedule n (x % 2 ^ 32 :: w)

/-- One round, with its constant and its word. -/
def shaRound (h : List Nat) (kw : Nat × Nat) : List Nat :=
  let a := h.getD 0 0
  let b := h.getD 1 0
  let c := h.getD 2 0
  let e := h.getD 4 0
  let ch := (e &&& h.getD 5 0) ^^^ ((2 ^ 32 - 1 - e) &&& h.getD 6 0)
  let t := h.getD 7 0 + (rotr 6 e ^^^ rotr 11 e ^^^ rotr 25 e) + ch + kw.1 + kw.2
  let u := (rotr 2 a ^^^ rotr 13 a ^^^ rotr 22 a) + ((a &&& b) ^^^ (a &&& c) ^^^ (b &&& c))
  [(t + u) % 2 ^ 32, a, b, c, (h.getD 3 0 + t) % 2 ^ 32, e, h.getD 5 0, h.getD 6 0]

/-- The big-endian words of a byte sequence, newest first: `n` words. -/
def shaWords : Nat → List Nat → List Nat → List Nat
  | 0, _, w => w
  | n + 1, bs, w => shaWords n (bs.drop 4) ((bs.take 4).foldl (fun a b => a * 256 + b) 0 :: w)

/-- A block of 64 bytes into the hash value. -/
def shaBlock (h block : List Nat) : List Nat :=
  let w := (shaSchedule 48 (shaWords 16 block [])).reverse
  List.zipWith (fun a b => (a + b) % 2 ^ 32) h ((shaK.zip w).foldl shaRound h)

/-- `n` blocks into the hash value. -/
def shaBlocks : Nat → List Nat → List Nat → List Nat
  | 0, _, h => h
  | n + 1, bs, h => shaBlocks n (bs.drop 64) (shaBlock h (bs.take 64))

/-- SHA-256 of a byte sequence: its 32 bytes. -/
def sha256 (bs : List Nat) : List Nat :=
  let pad := bs ++ [0x80] ++ List.replicate ((119 - bs.length % 64) % 64) 0 ++ (leBytes 8 (8 * bs.length)).reverse
  (shaBlocks (pad.length / 64) pad shaInit).flatMap (fun x => (leBytes 4 x).reverse)

end Sys2Proof.Machine
end

