-- ==== Sys2Proof/Machine/State.lean ====
section
/-! DEFINITION. The state of one node as plain data, one structure per block of the spec, the reasons a step can stop, and the
state after reset. Objects live in the object store (Machine/Dict.lean names them); the structures hold what the chapters give a block
beside its objects. -/

namespace Sys2Proof.Machine

/-- A session of the host port (R56). `role` is 1 for OBSERVER and 2 for MASTER; `number` is the SESSION that its ring
commands carry (R351); `lastAt` is the time of its last packet (R58). -/
structure Session where
  client : Nat
  role : Nat
  number : Nat
  lastAt : Nat
deriving DecidableEq, Repr

/-- A response that R46 keeps, with what a repeated command is matched by. -/
structure Kept where
  src : Source
  tag : Nat
  op : Nat
  index : Nat
  sub : Nat
  answer : List Nat
deriving DecidableEq, Repr

/-- The node's one segmented write (R50, R52, R53). `total` is the announced size, `next` the SEQ expected. -/
structure WriteXfer where
  src : Source
  index : Nat
  sub : Nat
  total : Nat
  next : Nat
  data : List Nat
deriving DecidableEq, Repr

/-- A segmented read of a session: the content as it was read, and the SEQ expected (R51, R52). -/
structure ReadXfer where
  src : Source
  index : Nat
  sub : Nat
  data : List Nat
  next : Nat
deriving DecidableEq, Repr

/-- The kinds of slot of the output queue (R62). A response names the client it waits for. -/
inductive OutKind where
  | response (client : Nat)
  | event (code : Nat)
  | result
deriving DecidableEq, Repr

/-- A packet that waits in the output queue (R62). -/
structure OutPkt where
  kind : OutKind
  bytes : List Nat
deriving DecidableEq, Repr

/-- A segmented transfer that ended by time (R52): its source, its object, and whether it was the write. Its next packet is refused. -/
structure EndedXfer where
  src : Source
  index : Nat
  sub : Nat
  write : Bool
deriving DecidableEq, Repr

/-- The fragments of a COMMAND that a CAN client has begun (R71): the COUNT expected, the packet bytes so far, and the NODE of each
frame (R70). `bad` says that the packet has been discarded, so that what is still to come of it belongs to no packet. -/
structure CanRx where
  client : Nat
  next : Nat
  bytes : List Nat
  nodes : List Nat
  bad : Bool
deriving DecidableEq, Repr

/-- A frame on CTX (R69, R71, R72): its 29-bit identifier, its format (0 classical, 1 FD, 2 FD with bit-rate switch), its data. -/
structure CanFrame where
  ident : Nat
  format : Nat
  data : List Nat
deriving DecidableEq, Repr

/-- A reset that a ResetCommand requested and that waits for its response to leave (R555): the command's value and the
client whose response must leave (none: the response leaves on the ring). -/
structure ResetReq where
  code : Nat
  client : Option Nat
deriving DecidableEq, Repr

/-- A command that waits for a slice, or behind one that does (R472): its context, OP, object and data, and what its row
carries beside them. -/
structure Cmd where
  c : Ctx
  op : Nat
  index : Nat
  sub : Nat
  data : List Nat
  aux : Nat
deriving DecidableEq, Repr

/-- The host port (R45 to R73). `ended` lists the transfers that ended by time and whose next packet is refused
(R52); `kept` the responses kept under R46; `evLost` the events lost and not yet announced (R62); `waiting` the
commands that R472 holds, oldest first; `sdo` the bytes that SDO gave in the last SPI transaction (R64); `canTx` the frames of the packet sent
last on CTX, and `canFormats` the format in which each command arrived, by 256 * CLIENT + TAG (R72). -/
structure Port where
  sessions : List Session
  kept : List Kept
  writeXfer : Option WriteXfer
  readXfers : List ReadXfer
  ended : List EndedXfer
  outQ : List OutPkt
  evSeq : Nat
  evLost : Nat
  spiLastSeq : Nat
  spiCrcErr : Bool
  spiFrameErr : Bool
  spiBadRow : Nat
  canRx : List CanRx
  busOff : Bool
  resetReq : Option ResetReq
  waiting : List Cmd
  sdo : List Nat
  canTx : List CanFrame
  canFormats : List (Nat × Nat)
deriving DecidableEq, Repr

/-- The host port with nothing open and nothing queued. -/
def Port.empty : Port :=
  { sessions := [], kept := [], writeXfer := none, readXfers := [], ended := [], outQ := [], evSeq := 0, evLost := 0,
    spiLastSeq := 0, spiCrcErr := false, spiFrameErr := false, spiBadRow := 0, canRx := [], busOff := false,
    resetReq := none, waiting := [], sdo := [], canTx := [], canFormats := [] }

/-- An automatic transition that waits for its boundary (R93): the target and its ModeStatus CAUSE. -/
structure AutoMode where
  target : Nat
  cause : Nat
deriving DecidableEq, Repr

/-- A power-path hand-over in progress (R81): to XBS or to STK, when it started, and whether XBS has failed since the XBS switch started to
close (R82). -/
structure Handover where
  toXbs : Bool
  startAt : Nat
  failed : Bool
deriving DecidableEq, Repr

/-- Power path, modes, wake and reset (03_power_and_modes.md). `staged` is the target of the host's request that waits (R92),
`auto` an automatic transition that waits (R93), and `autoTaken` that one has acted at once in this plan cycle (R94, R95); `xferEntry` the mode from which TRANSFER
was entered (R93); `shutdown` the target of a power-down sequence in progress and `wakeKept` a wake condition kept during
it (R96), as WakeCause bits; `dwell` the dwell of R79; `reverseWait` a reverse session that waits for a hand-over (R86);
`nrstLow`, `nrstStuck` the pin (R106, R108); `wakeOut` the pin and `wakeOutAt` when it rose (R103); `toneSentAt` when a wake
tone was last sent (R102); `tones` how many were sent; `supResetAt` when the SUP domain last entered reset (R30), `powerAt` when power last returned (R541), and `noImage` that its ROM boot finds no image to
start (R506); `resetting` a device reset in progress while nRST is low (R106). -/
structure ModeEng where
  staged : Option Nat
  auto : Option AutoMode
  autoTaken : Bool
  xferEntry : Nat
  shutdown : Option Nat
  wakeKept : Nat
  dwell : Bool
  handover : Option Handover
  reverseWait : Bool
  nrstLow : Bool
  nrstStuck : Bool
  resetting : Bool
  wakeOut : Bool
  wakeOutAt : Nat
  toneSentAt : Option Nat
  tones : Nat
  supResetAt : Nat
  powerAt : Option Nat
  noImage : Bool
deriving DecidableEq, Repr

/-- No transition, sequence or hand-over in progress; the pins at rest. -/
def ModeEng.idle : ModeEng :=
  { staged := none, auto := none, autoTaken := false, xferEntry := 0, shutdown := none, wakeKept := 0, dwell := false, handover := none,
    reverseWait := false, nrstLow := false, nrstStuck := false, resetting := false, wakeOut := false, wakeOutAt := 0,
    toneSentAt := none, tones := 0, supResetAt := 0, powerAt := none, noImage := false }

/-- The discipline of the counter and the plan cycles (04_ring_time.md). `locks` counts accepted copies toward LOCKED (R118);
`bigs` the copies with a large error that agree with the other lane (R120); `lastE` the e of the last accepted copy (R123) and `lastBig` that
of a copy more than 1 us off in HOLDOVER (R120); `selE` and `otherE` ORIGIN and
e of the latest copy on the selected lane and on the other; `skewRun` the run of the SKEW bit; `holdStart` when the holdover
began and `holdTime` its length in microseconds when it ended (R121); `hopsCw` and `hopsCcw` the HOPS of the copies since enumeration and
`laneSet` that both have chosen the lane (R116). `adopt` is the schedule to adopt at the next boundary: CYCLE + 2 and START2 (R127);
`pendingAdj` the adjustment that is announced and not applied, for the cycle `adjCycle` (R130), and `phi` the distance from the cycle start to
the accepted edge nearest to it (R130). `slewFrom` is the steer of the holdover whose remaining error is steered out (R123). `edges` are the intervals of accepted SYNC edges, newest first, `edgeAt`
the last accepted edge, `edgeRun` and `missRun` the runs of R129; `cycleLen` is Lc in force, and `counted`
that a step has ended the cycle and counted its entries that have not fired (R120). -/
structure TimeEng where
  locks : Nat
  bigs : Nat
  lastE : Option Int
  lastBig : Option Int
  selE : Option (Nat × Int)
  otherE : Option (Nat × Int)
  skewRun : Nat
  holdStart : Option Nat
  holdTime : Nat
  hopsCw : Option Nat
  hopsCcw : Option Nat
  laneSet : Bool
  adopt : Option (Nat × Nat)
  pendingAdj : Int
  adjCycle : Nat
  edges : List Nat
  edgeAt : Option Nat
  edgeRun : Nat
  missRun : Nat
  phi : Option Int
  slewFrom : Option Int
  cycleLen : Nat
  counted : Bool
deriving DecidableEq, Repr

/-- No copy, no edge and no plan cycle has been seen. -/
def TimeEng.empty : TimeEng :=
  { locks := 0, bigs := 0, lastE := none, lastBig := none, selE := none, otherE := none, skewRun := 0, holdStart := none, holdTime := 0,
    hopsCw := none, hopsCcw := none, laneSet := false, adopt := none, pendingAdj := 0, adjCycle := 0, edges := [],
    edgeAt := none, edgeRun := 0, missRun := 0, phi := none, slewFrom := none, cycleLen := 0, counted := false }

/-- An open aperture (R143): its start A, OSR code, cells, THROUGH, the plan and cycle of its CONVERT, whether it is
diagnostic (R179), the plan cycles that have ended since its CONVERT (R442), what the current converter is connected to, 1 for +160 mV and 2 for
-160 mV of R483, whether VANA or 17h has already spoiled it (R75), the counter latch (R200), whether it falls in a Loupe session
(R241) or in FREE, ACQUIRE or HOLDOVER (R121), the cell each spare serves in it and whether it is that spare's overlap
aperture (R149, R150), the switches that have conducted during it (R172), the retired channels whose shadow conversion it
overlaps with a loop-back (R471), and, of a diagnostic one, the reference values of the cells (R179). -/
structure Aperture where
  a : Nat
  clkA : Nat
  osr : Nat
  mask : Nat
  through : Bool
  planId : Nat
  cycle : Nat
  diag : Bool
  age : Nat
  calib : Nat
  spoilt : Bool
  latch : Nat
  loupe : Bool
  holdover : Bool
  s1 : Nat
  s2 : Nat
  s1ov : Bool
  s2ov : Bool
  conduct : Nat
  noShadow : Nat
  ref : List (Option Int)
deriving DecidableEq, Repr

/-- The records of one aperture, which replace their predecessors as one unit (R23, R145), with the terms that BoundTerms shows;
`waits` lists the converters whose record is being recomputed (R443, R444), `s1` and `s2` the cells that the spares serve in it,
`ovl` an overlap aperture's spare, cell and spare record (R151), `sense` the current senses of R307, `ref` the references of R179, and
`part` what of a diagnostic aperture it is: 1 its cell records, 2 its current record, each a unit of its own (R179). -/
structure CellUnit where
  a : Nat
  clkEnd : Nat
  osr : Nat
  mask : Nat
  planId : Nat
  cycle : Nat
  diag : Bool
  latch : Nat
  loupe : Bool
  holdover : Bool
  conduct : Nat
  cells : List Nat
  cur : Nat
  curSat : Bool
  shadow : List (Nat × Nat)
  terms : List Nat
  waits : List Nat
  clkA : Nat
  s1 : Nat
  s2 : Nat
  ovl : List (Nat × Nat × Nat)
  sense : List Int
  ref : List (Option Int)
  part : Nat
deriving DecidableEq, Repr

/-- The raw decimator snapshots of an aperture (R10, R442): its start and cycle, what each converter delivered, the terms that its records
used, by converter with the cell of its record in the set, 0 for none, and the sum as BOUND, CurrentZeroOffset, the die temperature that they
used, and the plan cycles that have ended since its CONVERT. -/
structure RawSnapshot where
  a : Nat
  cycle : Nat
  cells : List CellRaw
  s1 : CellRaw
  s2 : CellRaw
  cur : CurRaw
  bounds : List (Nat × Nat × Nat)
  trim : Int
  die : Option Int
  age : Nat
deriving DecidableEq, Repr

/-- A REPORT that waits for its unit to be written (R444): A, and what the set takes from its REPORT, the absence of the core (R29), the
shunt resistance (R203) and what H3 finds of the set for the host (R441) among it. -/
structure WaitingReport where
  a : Nat
  param : Nat
  degraded : Bool
  hd : Bool
  absent : Bool
  rsh : Int
  host : SetCheck
deriving DecidableEq, Repr

/-- A spare beyond SpareState: whether it is to cover a retired channel, the cell that an earlier retirement has claimed it
for (R152), whether a hand-back of it is settling (R150), whether its overlap aperture is still to come, the cell whose channel
returns without one (R152), and when its take-over or hand-back began. -/
structure SpareEng where
  cover : Bool
  claim : Nat
  returning : Bool
  overlapDue : Bool
  back : Nat
  since : Nat
deriving DecidableEq, Repr

/-- The four debounce counts of a cell (R177): toward and away from over- and undervoltage. -/
structure LimitCount where
  ovIn : Nat
  ovOut : Nat
  uvIn : Nat
  uvOut : Nat
deriving DecidableEq, Repr

/-- Cell measurement (05_cell_measurement.md). `count` is the cell count in effect (R140); `releasing` are the channels whose input opens at the end of the last aperture
they serve (R149), `retiring` those whose retirement is decided and whose take-over has not completed (R152); `tOff` when each switch
last stopped conducting and `wireOff` when the sense-pin currents ended (R172); `conducting` the switches that conduct now;
`counts` R177, `convFail` the checks that failed in the latest aperture of each converter (R184, R197), `openRef` the reference values that
the test currents found when they came on, of this plan cycle (R179), `tests` the latest conductions that a slice has forced, as switch, first and last clock tick (R300, R476), `sumRow` the run of R185, `stk` the latest STK readings and `sums` the latest stack sums, newest first, each with its cycle, `sumCycle` the
cycle last compared; `snapshots` those of the two most recent plan cycles (R10); `recent` the latest regular units
written, newest first, `terms` what BoundTerms shows of each cell, `cycleVals` the values of the cells' latest regular records of the cycle (R179), `prevSetA` the aperture of the node's previous set (R240), `unit` the unit that waits for recomputation, `reports` the REPORTs that wait for
it, `confirmed` the converters with a confirmed fault that are not out of the path yet (R184),
`ovlFail` the channels that failed R151 and whose loop-back is outstanding, `lbFail` the channels whose last loop-back failed
(R154), `badConv` the converters whose latest record failed its checks (R443). -/
structure CellEng where
  count : Nat
  apertures : List Aperture
  sp1 : SpareEng
  sp2 : SpareEng
  releasing : Nat
  retiring : Nat
  reinstate : Nat
  tOff : List (Nat × Nat)
  wireOff : Option Nat
  conducting : Nat
  counts : List LimitCount
  convFail : List (Nat × Nat)
  openRef : List (Option Int)
  tests : List (Nat × Nat × Nat)
  sumRow : Nat
  stk : List (Nat × Int)
  sums : List (Nat × Int)
  sumCycle : Option Nat
  snapshots : List RawSnapshot
  recent : List CellUnit
  terms : List Nat
  cycleVals : List (Option Int)
  prevSetA : Option Nat
  unit : List CellUnit
  reports : List WaitingReport
  confirmed : Nat
  ovlFail : Nat
  lbFail : Nat
  badConv : Nat
  tableBad : List Nat
deriving DecidableEq, Repr

/-- A spare that serves no cell. -/
def SpareEng.free : SpareEng :=
  { cover := false, claim := 0, returning := false, overlapDue := false, back := 0, since := 0 }

/-- No aperture has been opened. -/
def CellEng.empty : CellEng :=
  { count := 24, apertures := [], sp1 := SpareEng.free, sp2 := SpareEng.free, releasing := 0, retiring := 0, reinstate := 0,
    tOff := [], wireOff := none, conducting := 0, counts := List.replicate 24 ⟨0, 0, 0, 0⟩, convFail := [],
    openRef := List.replicate 24 none, tests := [], sumRow := 0, stk := [], sums := [], sumCycle := none, snapshots := [], recent := [], terms := List.replicate 24 0,
    cycleVals := List.replicate 24 none, prevSetA := none, unit := [], reports := [],
    confirmed := 0, ovlFail := 0, lbFail := 0, badConv := 0, tableBad := [] }

/-- The current channel (06_current_channel.md): the coulomb counter, its value at its last start and its residue below 1 nV s, in nV ticks
(R198, R202), `volts` the shunt voltage in nV that the counter adds now and `next` the voltages at ISP and ISN that it adds from a clock tick
on, 1.75 us after they came (R199, log entry 111), `mutedAt` the clock tick from which on it adds 0 for 2 ms (R483), `latched` the A of the latest latch and its value (R200), the AO retention
register, whether the copies are suspect, R197 has a confirmed fault, or the latest record was lasting (R201, R208), when a copy was last
rewritten and which, the gain drift of R488 in force and the one
that waits for the next boundary, the previous latch and the charge carry as a fraction of mC (R203), the runs of R207, and
the last valid temperature of each source of R204 since power-on, with its time. -/
structure CurEng where
  counter : Nat
  start : Nat
  residue : Nat
  volts : Int
  next : List (Nat × Int)
  mutedAt : Option Nat
  latched : Option (Nat × Nat)
  retained : Nat
  copyBad : Bool
  checkBad : Bool
  recBad : Bool
  repairAt : Option (Nat × Nat)
  gainDrift : Nat
  gainNext : Nat
  prevLatch : Nat
  carryNum : Int
  carryDen : Nat
  satRun : Nat
  limitRun : Nat
  okRun : Nat
  temps : List (Nat × Int × Nat)
deriving DecidableEq, Repr

/-- The counter at 0 with no set made. -/
def CurEng.reset : CurEng :=
  { counter := 0, start := 0, residue := 0, volts := 0, next := [], mutedAt := none, latched := none, retained := 0, copyBad := false, checkBad := false, recBad := false, repairAt := none, gainDrift := 0, gainNext := 0, prevLatch := 0, carryNum := 0, carryDen := 1, satRun := 0,
    limitRun := 0, okRun := 0, temps := [] }

/-- A conversion in progress (R211): its channel, AVERAGE, the ring time of its E, whether the AX pull of its input has been on during it
(R222), its plan cycle, and whether an ad-hoc slot started it (R266). -/
structure AuxConv where
  channel : Nat
  avg : Nat
  e : Nat
  diag : Bool
  cycle : Nat
  adhoc : Bool
deriving DecidableEq, Repr

/-- Auxiliary converter (07_aux_and_facet.md). `busy` is the conversion in progress; `request` the pending ad-hoc request with the clock
tick of its arrival (R212, R266); `notYet` the channels not converted since ICX powered up again (R215); `runs` the
runs of results out of and in range per channel code (R221); `cycleRes` the regular results of the AX inputs of the plan cycle and `pullRef`
those that served as references when the pulls came on (R222); `dieAt` when each die sensor was last read (R216); `hotRun` R218. -/
structure AuxEng where
  busy : Option AuxConv
  request : Option (Nat × Nat)
  notYet : Nat
  runs : List (Nat × Nat × Nat)
  cycleRes : List (Nat × Nat)
  pullRef : List (Nat × Nat)
  dieAt : List (Nat × Nat)
  hotRun : Nat
deriving DecidableEq, Repr

/-- No conversion in progress. -/
def AuxEng.empty : AuxEng := { busy := none, request := none, notYet := 0, runs := [], cycleRes := [], pullRef := [], dieAt := [], hotRun := 0 }

/-- One Facet window beyond FacetValue: the run of bad words, the run of values outside the limits, and the TYPE of the last clean
word while in CANDIDATE (R230, R233). -/
structure FacetWin where
  badRun : Nat
  limitRun : Nat
  lastType : Nat
deriving DecidableEq, Repr

/-- The Facet bus (R225 to R234): the windows, whether the power phase has ended, the frames of the search in progress,
whether a search is to start at the next frame, whether a line fault stopped the frame, whether a window was bad or lost in it, the clock
tick at which the frame began (R226), the windows of the frame that have had their word, whether a slot of the frame was a line fault, and
whether the latest slot was one (R232). -/
structure FacetEng where
  wins : List FacetWin
  powered : Bool
  searchFrames : Option Nat
  searchWait : Bool
  stopped : Bool
  badFrame : Bool
  frameAt : Nat
  done : Nat
  faulty : Bool
  lastFault : Bool
deriving DecidableEq, Repr

/-- Every window empty, the bus not yet powered. -/
def FacetEng.empty : FacetEng :=
  { wins := List.replicate 8 ⟨0, 0, 0⟩, powered := false, searchFrames := none, searchWait := false, stopped := false,
    badFrame := false, frameAt := 0, done := 0, faulty := false, lastFault := false }

/-- A plan bank (R257 to R260): its image, empty when the bank is empty, the slot that backs it, and whether it is valid. -/
structure Bank where
  image : List Nat
  slot : Nat
  valid : Bool
deriving DecidableEq, Repr

/-- Which plan runs (R236, PlanStatus RUNNING). -/
inductive RunningPlan where
  | none | rom | bank
deriving DecidableEq, Repr

/-- The plan engine (08_sampling_plan.md). `slots` are the four NVM plan slots' images; `switchAt` the START of a pending
switch (R262); `running` the plan that runs, and `startAt` the S0 at which a bank or the ROM plan is to start (R264);
`held` the hold states as a mask, bit n-1 for switch n held, and `heldAt` the clock ticks E of the BAL entries that have changed the hold
state of a switch and whose gate changes 2 ticks later (R132, R285), `cellCurrents` the sense-pin currents, `axPulls` the pull
currents as a mask, `gateEnable` as XFER_ON and XFER_OFF leave it, with the clock ticks E of those that changed it (`gateAt`), and `loupeOn`
(R132, R239). `refetch` are the entries of the
active bank that wait for their re-read and `withdraw` an entry for which the bank is withdrawn at the next boundary (R277); `sleepPlan` the entries in the AO sequencer (R282); `rejected` that code 08h of R97 stands. -/
structure PlanEng where
  bankA : Bank
  bankB : Bank
  activeB : Bool
  slots : List (List Nat)
  switchAt : Option Nat
  running : RunningPlan
  startAt : Option Nat
  held : Nat
  heldAt : List (Nat × Nat)
  cellCurrents : Bool
  axPulls : Nat
  gateEnable : Bool
  gateAt : List Nat
  loupeOn : Bool
  refetch : List Nat
  withdraw : Option Nat
  sleepPlan : List Nat
  rejected : Bool
deriving DecidableEq, Repr

/-- An empty bank. -/
def Bank.empty : Bank := { image := [], slot := 0, valid := false }

/-- No bank loaded, the ROM minimal plan running, every output of the plan closed (R239, PlanStatus RUNNING 01b). -/
def PlanEng.reset : PlanEng :=
  { bankA := Bank.empty, bankB := Bank.empty, activeB := false, slots := [[], [], [], []], switchAt := Option.none,
    running := RunningPlan.rom, startAt := Option.none, held := 0xFFFFFF, heldAt := [], cellCurrents := false, axPulls := 0,
    gateEnable := false, gateAt := [], loupeOn := false, refetch := [], withdraw := Option.none, sleepPlan := [], rejected := false }

/-- The steps that a switch test saw on cells m-1, m and m+1 (R302), scaled, in microvolts. -/
structure SwitchSteps where
  switch : Nat
  below : Nat
  own : Nat
  above : Nat
deriving DecidableEq, Repr

/-- Balancing (10_balancing_and_loupe.md). `budget` holds the budgets tn of switches 1 to 24 in the current frame (R295), `spent`
the mask of switches whose budget is used up, `conducted` those that have conducted in the frame, `enabled` BalEnable as the frame took
it (R298), `forced` the switches that a slice holds off (R300), `steps` what R302 keeps, `lastActivity` the time of the last ring
activity (R299), `lockedIn` and `unlockedIn` the lockouts set and cleared by the host in the current frame (R303), `frame` the frame number (R294), and `onTicks` the conduction of
switches 1 to 24 since reset (BalOnTime). -/
structure BalEng where
  frame : Nat
  budget : List Nat
  spent : Nat
  conducted : Nat
  enabled : Nat
  forced : Nat
  steps : List SwitchSteps
  lastActivity : Nat
  lockedIn : Nat
  unlockedIn : Nat
  onTicks : List Nat
deriving DecidableEq, Repr

/-- Balancing with every gate off. -/
def BalEng.reset : BalEng :=
  { frame := 0, budget := [], spent := 0, conducted := 0, enabled := 0, forced := 0, steps := [], lastActivity := 0, lockedIn := 0, unlockedIn := 0, onTicks := List.replicate 24 0 }

/-- A sample of a Loupe point (R310): the centroid's time since t0 in ticks, the cell values in 10 uV, and the reference of each cell in
microamperes once it has arrived (R311). -/
structure LoupeSample where
  a : Nat
  at_ : Nat
  cells : List Int
  refs : Option (List Int)
  refSat : Bool
deriving DecidableEq, Repr

/-- The Loupe point in progress (R308): its number, t0 and P in ticks, SETTLE and M, the switches it chops, whether its
excitation runs and its window is open, its samples, and `badCells` the cells of which some record in the window was ABS or without a valid
bound, whether or not its sample has found a reference (R312). -/
structure LoupePoint where
  point : Nat
  t0 : Nat
  period : Nat
  settle : Nat
  m : Nat
  chopped : Nat
  exciting : Bool
  samples : List LoupeSample
  badCells : Nat
deriving DecidableEq, Repr

/-- A chopping of R309: its switches, t0 and P, when it stopped, in clock ticks, when a switch that was locked out in its course left
it, and the times over which a slice forced one of its switches off (R300), the last of a switch without its end while it lasts. -/
structure Chop where
  mask : Nat
  start : Nat
  period : Nat
  stop : Option Nat
  offs : List (Nat × Nat)
  cuts : List (Nat × Nat × Option Nat)
deriving DecidableEq, Repr

/-- Loupe mode (R306 to R315): `point` the point in progress, `pend` the points whose window has ended and whose result is still to be
written, oldest first; `expired` that the safety timer has expired in the session, so that no point excites (R333),
`endAtBoundary` a session that a communication timeout ends (R313), and
`refs` the apertures and current records of SHUNT_NODE that have come before the node's own aperture completed (R311), and
`chops` the latest choppings, newest first, which open apertures may have seen (R172, R309). -/
structure LoupeEng where
  point : Option LoupePoint
  pend : List LoupePoint
  expired : Bool
  endAtBoundary : Bool
  refs : List (Nat × Nat)
  chops : List Chop
deriving DecidableEq, Repr

/-- No point in progress. -/
def LoupeEng.idle : LoupeEng := { point := none, pend := [], expired := false, endAtBoundary := false, refs := [], chops := [] }

/-- Transfer sessions (11_module_transfer.md). `start` is the session start (R330), `firstOn` when the first XFER_ON came,
`lastOff` and `lastOn` the last XFER_OFF and XFER_ON (R328), `thermalRun` that XferAllowed is 0 by temperature (R331), `haltAt` the clock
tick of the latest trigger that has ended a session or an excitation, with the STATE it found (R328), `chargeDue` that the charge of the frame in which a session has ended is still to be counted (R334), `overRun` and `signRun` the runs of R331, `onTicks`
the time in RUN and EXCITE (XferOnTime), `loupe` a Loupe excitation instead of a transfer session (R333), `vgdOk` and `nxflt` the levels last seen, `ended` a
session that has ended and whose device returns at the next boundary, with its END code; `stop` a stop sequence that ends a session, with
the END code and the clock tick of its trigger (R327, R328). -/
structure XferEng where
  start : Option Nat
  firstOn : Option Nat
  lastOff : Option Nat
  lastOn : Option Nat
  thermalRun : Bool
  overRun : Nat
  signRun : Nat
  loupe : Bool
  vgdOk : Bool
  nxfltLow : Bool
  ended : Option Nat
  stop : Option (Nat × Nat)
  haltAt : Option (Nat × Nat)
  chargeDue : Bool
  onTicks : Nat
deriving DecidableEq, Repr

/-- No session. -/
def XferEng.idle : XferEng :=
  { start := none, firstOn := none, lastOff := none, lastOn := none, thermalRun := false, overRun := 0, signRun := 0,
    loupe := false, vgdOk := true, nxfltLow := false, ended := none, stop := none, haltAt := none, chargeDue := false,
    onTicks := 0 }

/-- One port of the ring beyond its objects: the generation it last held (R343), the identifier of the delay measurement it waits for
(R366), the last accepted delays (R367) and how many measurements it has begun; `downAt` is the clock tick at which the receiver last left UP,
or the domain powered up (R343, R379). Of what it sends (R347, R348): `sentAt` the clock tick at which the frame last on the pair started, `inset`
the MARK that has preempted it, with the symbols before it and the clock tick at which the MARK's start delimiter leaves, `held` the frames that wait in the insertion buffer, each with the tick at which
it is to start, and `till` the tick from which nothing is left to send. `faulted` says that remote-fault idle has stopped the port, which has
not served or trained since (R380). -/
structure RingPort where
  lastGen : Nat
  waitId : Option Nat
  delays : List Nat
  measures : Nat
  downAt : Nat
  sentAt : Nat
  inset : Option (Nat × Nat × List Nat)
  held : List (Nat × List Nat)
  till : Nat
  faulted : Bool
deriving DecidableEq, Repr

/-- An own frame that waits to be sent (R347): TYPE, TFLAGS, DST, SEQ, payload or body, and the lanes it has still to
leave on. -/
structure TxFrame where
  type : Nat
  flags : Nat
  dst : Nat
  seq : Nat
  body : List Nat
  cw : Bool
  ccw : Bool
deriving DecidableEq, Repr

/-- A frame acted on in the last 20 ms (R355). -/
structure SeenFrame where
  src : Nat
  type : Nat
  seq : Nat
  at_ : Nat
deriving DecidableEq, Repr

/-- A packet whose BULK fragments are arriving (R356). -/
structure BulkRx where
  src : Nat
  xid : Nat
  response : Bool
  session : Nat
  frags : List (Nat × List Nat)
  last : Option Nat
deriving DecidableEq, Repr

/-- A command of a host session that the head has sent on the ring and that waits for its answer, or for the return of
the broadcast (R47): of a broadcast, the head's own answer once it has executed the command, and whether the frame has returned. -/
structure RingCmd where
  client : Nat
  session : Nat
  op : Nat
  tag : Nat
  addr : Nat
  index : Nat
  sub : Nat
  seq : Nat
  own : List Nat
  returned : Bool
deriving DecidableEq, Repr

/-- A result set in its slot (R385): its bytes, the host-delivery flag, whether it waits, the lanes its REPORT selects,
the lanes that have carried it, and those by which it has left since it last began to wait (R388). -/
structure SetSlot where
  bytes : List Nat
  hd : Bool
  waiting : Bool
  laneCw : Bool
  laneCcw : Bool
  sentCw : Bool
  sentCcw : Bool
  outCw : Bool
  outCcw : Bool
deriving DecidableEq, Repr

/-- A REPORT of an enumeration (R361). -/
structure EnumReport where
  addr : Nat
  gmax : Nat
  caps : Nat
  uid : Nat
deriving DecidableEq, Repr

/-- Enumeration (R362 to R369): running and its mode, the copies of DISCOVER that returned with their HOPS, the REPORTs
collected, what the last NEW found, the copies of DISCOVER this node saw, the cap of R369, and the generation switch that
waits. `unconfirmed` holds from a switch until a VERIFY confirms it (R369);
`due` an enumeration that is to start by itself: true for a VERIFY (R368, R369, R388, R390); `reported` that the node has answered the
last DISCOVER, `head`, `epoch` and `discNew` that DISCOVER's SRC, its EPOCH and whether it was NEW (R361, R363); `fallback` a ring that has
fallen back (R369); `confirmDue` that the head's CONFIRM has still to return (R368), `target` the generation of the last switch (R368, R369), and
`seq` the SEQ of the head's own DISCOVER, by which it knows its copies from another head's (R362). -/
structure EnumEng where
  running : Bool
  verify : Bool
  cwBack : Option Nat
  ccwBack : Option Nat
  reports : List EnumReport
  lastNew : List (Nat × Nat)
  discCw : Option Nat
  discCcw : Option Nat
  expected : Nat
  cap : Nat
  switchTo : Option Nat
  unconfirmed : Bool
  roleTaken : Bool
  due : Option Bool
  reported : Bool
  head : Nat
  epoch : Nat
  fallback : Bool
  discNew : Bool
  confirmDue : Bool
  target : Nat
  seq : Nat
deriving DecidableEq, Repr

/-- The ring ports, the frame engine and the ring's service (12_ring_link.md, 13_ring_service.md). `lineN` and `lineS` are the
bytes last sent on each transmit pair, with 256 for ED or 257 for ABORT at the end; `setBad` that a set was discarded under R445 and
none has passed H3 since (R443). `deputy` is the DEPUTY of the last CONFIRM; `markCw`, `markCcw` the lanes that have
delivered the MARK of the current V, `prevCw`, `prevCcw` those of the previous V (R382); `stopAt` the tick at which a port last stopped serving; `delivered` the first 12 bytes of the
flagged sets delivered (R357); `laneWas` the lane state before the change at tick `laneAt` (R383); `eventsWait` the EVENT records lost and not announced (R395); `reportCount` the REPORTs of the
node (R39); `headAt` the tick of the takeover (R390), and `deposedAt` that of a deposition with the epoch before it (R392). -/
structure RingEng where
  north : RingPort
  south : RingPort
  lineN : List Nat
  lineS : List Nat
  txQ : List TxFrame
  seqs : List (Nat × Nat)
  seen : List SeenFrame
  bulk : List BulkRx
  xid : Nat
  cmds : List RingCmd
  slots : List SetSlot
  legacyWait : Option (List Nat)
  legacyRx : List Nat
  enm : EnumEng
  deputy : Nat
  markCw : Bool
  markCcw : Bool
  prevCw : Bool
  prevCcw : Bool
  stopAt : Option Nat
  lastMarkAt : Option Nat
  delivered : List (List Nat)
  eventsWait : Nat
  rxBase : List (Nat × Nat)
  reportCount : Nat
  setBad : Bool
  laneWas : Nat
  laneAt : Option Nat
  headAt : Option Nat
  deposedAt : Option (Nat × Nat)
deriving DecidableEq, Repr

/-- A port that is DOWN and has held no generation (R343). -/
def RingPort.down : RingPort := 
  { lastGen := 1, waitId := none, delays := [], measures := 0, downAt := 0, sentAt := 0, inset := none, held := [], till := 0,
    faulted := false }

/-- No enumeration since reset (R364). -/
def EnumEng.idle : EnumEng :=
  { running := false, verify := false, cwBack := none, ccwBack := none, reports := [], lastNew := [], discCw := none,
    discCcw := none, expected := 0, cap := 3, switchTo := none, unconfirmed := false, roleTaken := false, due := none,
    reported := false, head := 0, epoch := 0, fallback := false, discNew := false, confirmDue := false, target := 0,
    seq := 0 }

/-- The ring at the power-up of the RNG domain. -/
def RingEng.empty : RingEng :=
  { north := RingPort.down, south := RingPort.down, lineN := [], lineS := [], txQ := [], seqs := [], seen := [],
    bulk := [], xid := 0, cmds := [], slots := [], legacyWait := none, legacyRx := [], enm := EnumEng.idle, deputy := 0,
    markCw := false, markCcw := false, prevCw := false, prevCcw := false, stopAt := none, lastMarkAt := none, delivered := [],
    eventsWait := 0, rxBase := [], reportCount := 0, setBad := false, laneWas := 3,
    laneAt := none, headAt := none, deposedAt := none }

/-- A copy of a safety record that has arrived in the current cycle (R426): its sender, lane and 12 checked bytes. -/
structure SafeCopy where
  node : Nat
  cw : Bool
  bytes : List Nat
deriving DecidableEq, Repr

/-- What a comparing node keeps of each address: the last accepted ALIVE and CYCLE since the baseline, and PACK_TRIP of
the latest good copy (R426, R428). -/
structure SafeNode where
  node : Nat
  accepted : Option (Nat × Nat)
  packTrip : Bool
deriving DecidableEq, Repr

/-- Safety functions (14_safety.md). Mirror: `firstDone` (R400), `latched` (R405), `selfFaults` the causes of R406 present as a
mask, `failing` those whose check fails now (R405), `cells` the Mirror cell count, `ovCount` and `uvCount` the integrators of the comparators
(R404), `tripAt` the clock tick of the latest trip (R405), `nFaultOther` that another device holds nFAULT low (R407), `sweep` and `defaults` of R409. CEN: `cenOn`, `testing` with the switch under test,
`lastTested`, `nextTest` the switch that the next test opens (true for CEN_L), `cenSince` when CEN closed, `staticOk` with the failure runs of R418, `cfb`. `permitSup`, `permitMir` and `packTrip` are as they stood after the
last command, so that a drop or a rise is seen (R425); `permitSince` when both permits came to be given (R417). `alive` is R424, and `record` is 1 while a regular record is due and 2 while it waits for what takes effect at its boundary (R425).
`copies` and `nodes` are R426; `leftDual` when LaneService left DUAL (R427). Watchdog: `wdStart` the start of the period,
`wdFirst` a first period, `wdKey` when a pending 9E37h arrived, `wdHalted`, and `wdWritten` that WatchdogConfig has been written since the last
whole-device reset (R430 to R433). -/
structure SafetyEng where
  firstDone : Bool
  latched : Bool
  selfFaults : Nat
  failing : Nat
  cells : Nat
  ovCount : List Nat
  uvCount : List Nat
  tripAt : Option Nat
  nFaultOther : Bool
  sweep : Bool
  defaults : Bool
  cenOn : Bool
  testing : Option Bool
  lastTested : Bool
  nextTest : Bool
  cenSince : Nat
  staticOk : Bool
  staticH : Nat
  staticL : Nat
  cfb : Bool
  permitSup : Bool
  permitMir : Bool
  packTrip : Bool
  permitSince : Nat
  alive : Nat
  record : Nat
  copies : List SafeCopy
  nodes : List SafeNode
  leftDual : Option Nat
  wdStart : Nat
  wdFirst : Bool
  wdKey : Option Nat
  wdHalted : Bool
  wdWritten : Bool
deriving DecidableEq, Repr

/-- The safety blocks at power-up: no permit, both CEN switches open, the watchdog in a first period. -/
def SafetyEng.reset : SafetyEng :=
  { firstDone := false, latched := false, selfFaults := 0, failing := 0, cells := 24, ovCount := List.replicate 24 0,
    uvCount := List.replicate 24 0, tripAt := none, nFaultOther := false, sweep := false, defaults := true, cenOn := false,
    testing := none, lastTested := false, nextTest := false, cenSince := 0, staticOk := false, staticH := 0, staticL := 0, cfb := false,
    permitSup := false, permitMir := false, packTrip := true, permitSince := 0, alive := 0, record := 0, copies := [], nodes := [],
    leftDual := none, wdStart := 0, wdFirst := true, wdKey := none, wdHalted := false,
    wdWritten := false }

/-- The safety blocks without their power: the levels that others drive at the pins stay. -/
def SafetyEng.down (x : SafetyEng) : SafetyEng := { SafetyEng.reset with nFaultOther := x.nFaultOther, cfb := x.cfb }

/-- The registers of the 48 fault sources that are not objects of their own, as masks in which bit c stands for source c
(R453 to R463): `status` set, `latched`, `cond` the source's condition holds, `quiet` its quiet period runs, `warn`, `safe` and
`degrade` the severity at which it was set (at least WARN; SAFE; DEGRADE), `setIn` and `clearedIn` whether it set or recurred, and whether a host clear of it was
applied, in the current collision window (R463). `quietAt` is when the quiet period of a source started or its recurrence restarted it (R460).
`log` is the fault log, newest first (R458). -/
structure FaultEng where
  status : Nat
  latched : Nat
  cond : Nat
  quiet : Nat
  warn : Nat
  safe : Nat
  degrade : Nat
  setIn : Nat
  clearedIn : Nat
  quietAt : List (Nat × Nat)
  log : List Nat
deriving DecidableEq, Repr

/-- Every source clear, the log empty. -/
def FaultEng.clear : FaultEng :=
  { status := 0, latched := 0, cond := 0, quiet := 0, warn := 0, safe := 0, degrade := 0, setIn := 0, clearedIn := 0, quietAt := [], log := [] }

/-- The CRC engine and the alive-counter checker (R448, R451): the parameters latched at START, the register, whether a
START has come since reset, and whether the next AliveInput sets a baseline. -/
structure CheckEng where
  crcConfig : Nat
  crcPoly : Nat
  crcXorOut : Nat
  crcReg : Nat
  crcStarted : Bool
  baseline : Bool
deriving DecidableEq, Repr

/-- The engines at their defaults. -/
def CheckEng.reset : CheckEng :=
  { crcConfig := 0x30020, crcPoly := 0x1EDC6F41, crcXorOut := 0xFFFFFFFF, crcReg := 0xFFFFFFFF, crcStarted := false,
    baseline := true }

/-- A slice that runs (R466 to R471): its kind, the clock tick of E, LENGTH in us, its target, the spare it has taken (1, 2 or 0), the clock
tick at which its loop-back starts (R473), the latest record of its cell at E, of a switch test that at E + 180 us (R301), the sources that a
plan entry has had on since E, numbered as in SourceStatus (R479), and whether its result is written (R473). -/
structure Slice where
  kind : Nat
  e : Nat
  length : Nat
  target : Nat
  spare : Nat
  loopAt : Option Nat
  word : Nat
  planOn : Nat
  told : Bool
deriving DecidableEq, Repr

/-- A run of failures that a check keeps: its kind, its target and how many in a row (R474 to R479). -/
structure FailRun where
  kind : Nat
  target : Nat
  count : Nat
deriving DecidableEq, Repr

/-- Self-test and ageing (16_selftest_and_ageing.md). `slices` are the slices that run and `runs` the runs of failures; `loop` holds the
last results (eL, eH) in uV of each converter, newest first, at most 8 (R475); `drift` the gk computed and `mirrorDev` the MIRROR results,
each with `supTicks` at its time (R487, R489); `shortRun` the runs of NOT_RUN for LENGTH per kind (R490); `set` what is left of the foreground
set, in order, as kind, target and how often it has failed, with the kinds 0 for MEMORY and 11 for CURRENT beside those of R466 (R482);
`loopPos` the reading at +160 mV of a current loop-back in progress (R483); `eyeDone` the ports of which a scan has completed, bit 1 North and bit
2 South (R479); `supTicks` the ticks of SUP operation and `recordAt` those at the last record (R485). Of the period since the last record:
`hours` and `refSum` the hourly results, `steerSum` and `steerN` the steer at the plan-cycle boundaries, `hadLoop`, `hadSwitch` and
`hadEye` what was tested, `worstMargin` the worst NVM margin (R486). `refOn` is REF_DORMANT powered, `refWarm` its warm-up ended, with the
conversions taken and their sum (R484). -/
structure TestEng where
  slices : List Slice
  runs : List FailRun
  loop : List (Nat × List (Int × Int))
  drift : List (Nat × Nat × Nat)
  mirrorDev : List (Nat × Nat)
  shortRun : List (Nat × Nat)
  set : List (Nat × Nat × Nat)
  loopPos : Option Int
  eyeDone : Nat
  supTicks : Nat
  hours : Nat
  recordAt : Nat
  steerSum : Int
  steerN : Nat
  refSum : Int
  refTaken : Nat
  refOn : Bool
  refWarm : Bool
  refConv : Int
  hadLoop : Bool
  hadSwitch : Bool
  hadEye : Bool
  worstMargin : Nat
deriving DecidableEq, Repr

/-- Nothing tested yet. -/
def TestEng.empty : TestEng :=
  { slices := [], runs := [], loop := [], drift := [], mirrorDev := [], shortRun := [], set := [], loopPos := none, eyeDone := 0,
    supTicks := 0, hours := 0,
    recordAt := 0, steerSum := 0, steerN := 0, refSum := 0, refTaken := 0, refOn := false, refWarm := false, refConv := 0,
    hadLoop := false, hadSwitch := false, hadEye := false, worstMargin := 256 }

/-- How a marker of a slot's marker row reads (R505): erased, neither erased nor all 0, or all 0. -/
inductive Marker where
  | erased | torn | zero
deriving DecidableEq, Repr

/-- A firmware slot (R503 to R505): the image bytes programmed, empty when erased, and its marker row. -/
structure FwSlot where
  image : List Nat
  seq : Nat
  writtenM : Marker
  trialM : Marker
  bootedM : Marker
  confirmedM : Marker
  revokedM : Marker
deriving DecidableEq, Repr

/-- The update journal of the log: TARGET, LENGTH and SECTORS_DONE (R509). -/
structure Journal where
  target : Nat
  length : Nat
  done : Nat
deriving DecidableEq, Repr

/-- A record of the log (R498): STREAM, SUB, KEY, its data bytes, CHECK as it is programmed, and whether COMMIT reads all 0. -/
structure LogRec where
  stream : Nat
  sub : Nat
  key : Nat
  data : List Nat
  check : Nat
  commit : Bool
deriving DecidableEq, Repr

/-- A sector of the log (R498, R501): its state 0 erased, 1 open (SEQ programmed), 2 full (FULL programmed) or 3 retired; whether header word 0
passes its check; ERASE_COUNT, SEQ, its margin in percent, and its records in order. -/
structure LogSector where
  state : Nat
  headerOk : Bool
  erases : Nat
  seq : Nat
  margin : Nat
  recs : List LogRec
deriving DecidableEq, Repr

/-- What an NVM operation is for (R495): the erase, program or read-back of an update (R508, R509), with the bytes of a row; a word of the
marker row of a slot (R505), 0 for SEQ; a record of the device's own (R500); the collector's copies from a sector of the log and its erase
(R501); the restoration of calibration copy 0 (R497), its erase and its programming. -/
inductive NvmWork where
  | update (row : List Nat)
  | marker (slotB : Bool) (word : Nat)
  | record (r : LogRec)
  | copy (sector : Nat)
  | reclaim (sector : Nat)
  | calErase
  | calProgram
deriving DecidableEq, Repr

/-- An NVM operation in progress or requested (R495): its code in NvmStatus, the byte address it works on, and what it is for. -/
structure NvmOp where
  code : Nat
  addr : Nat
  work : NvmWork
deriving DecidableEq, Repr

/-- An answer to a segment of FirmwareImage that waits for the controller (R508, R509): SEQ, and whether the segment was the last. -/
structure OwedAnswer where
  c : Ctx
  seq : Nat
  last : Bool
deriving DecidableEq, Repr

/-- A calibration copy (R493, R497): whether each of its tables passes its CRC-32C, and the first RON of each switch that is appended to it
(R486). -/
structure CalCopy where
  tables : List Bool
  rons : List (Nat × Nat)
deriving DecidableEq, Repr

/-- Non-volatile memory and update (17_nvm_and_update.md): the operation in progress and the requests that wait, the log's sectors 58 to 63, the
calibration copies 0 and 1, the two firmware slots with the running one. Of an update: its LENGTH, the bytes received from offset 0, where each
segment received ends, how many bytes are programmed and how many sectors are erased, whether the last segment has come, and the answer owed.
`trialAt` is when the trial firmware reported ready (R511), `ageAt` when each region of NvmRegionAge was last programmed. `calBad` says that a
calibration table failed its check in both copies at the last SUP start (R497). -/
structure NvmEng where
  op : Option NvmOp
  queue : List NvmOp
  log : List LogSector
  cal0 : CalCopy
  cal1 : CalCopy
  slotA : FwSlot
  slotB : FwSlot
  runningB : Bool
  length : Nat
  received : List Nat
  segs : List Nat
  programmed : Nat
  erased : Nat
  final : Bool
  owed : Option OwedAnswer
  trialAt : Option Nat
  ageAt : List Nat
  calBad : Bool
deriving DecidableEq, Repr

/-- An erased slot. -/
def FwSlot.erased : FwSlot :=
  { image := [], seq := 0, writtenM := .erased, trialM := .erased, bootedM := .erased, confirmedM := .erased, revokedM := .erased }

/-- The slot that the factory programs: SEQ, WRITTEN and CONFIRMED set (R505, R552). The model does not hold the
bytes of its image, which the empty list stands for (log entry 16). -/
def FwSlot.factory : FwSlot :=
  { FwSlot.erased with writtenM := .zero, confirmedM := .zero }

/-- WRITTEN, of which a word that is neither erased nor all 0 does not count (R505). -/
def FwSlot.written (f : FwSlot) : Bool := f.writtenM == .zero

/-- TRIAL; of a torn one R505 says nothing, and the model does not count it (log entry 144). -/
def FwSlot.trial (f : FwSlot) : Bool := f.trialM == .zero

/-- TRIAL_BOOTED, of which a word that is neither erased nor all 0 counts (R505). -/
def FwSlot.trialBooted (f : FwSlot) : Bool := f.bootedM != .erased

/-- CONFIRMED, as WRITTEN (R505). -/
def FwSlot.confirmed (f : FwSlot) : Bool := f.confirmedM == .zero

/-- REVOKED, as TRIAL_BOOTED (R505). -/
def FwSlot.revoked (f : FwSlot) : Bool := f.revokedM != .erased

/-- An erased log sector. -/
def LogSector.fresh : LogSector := { state := 0, headerOk := true, erases := 0, seq := 0, margin := 100, recs := [] }

/-- The log as it leaves manufacture (R552): no sector holds a record; the first is open, the others are erased (log entry 2). -/
def factoryLog : List LogSector := { LogSector.fresh with state := 1, seq := 1 } :: List.replicate 5 LogSector.fresh

/-- The NVM as the factory leaves it (R552). -/
def NvmEng.factory : NvmEng :=
  { op := none, queue := [], log := factoryLog, cal0 := ⟨[], []⟩, cal1 := ⟨[], []⟩, slotA := FwSlot.factory, slotB := FwSlot.erased,
    runningB := false, length := 0, received := [], segs := [], programmed := 0, erased := 0, final := false, owed := none, trialAt := none,
    ageAt := List.replicate 8 0, calBad := false }

/-- The state of one node, and the queue of the commands that wait (first in, first out). `clk` is the time in ticks of 62.5 ns
since reset, which no counter step changes (R411, R432, R467); `ringTime` the 48-bit counter (R110); `freeCtr` the MODEL's own
field: the index of the next free value; `objs` the object store (R32), canonical: keys rising, no entry equal to the
object's default; `latest` the LatestResultSet (R37); `staged` the writes that wait for the next plan-cycle boundary (R21); `notifyQ`
the items in the timebase-to-core notification FIFO (R19). -/
structure State where
  pending : List Instr
  clk : Nat
  ringTime : Nat
  freeCtr : Nat
  objs : List (Nat × Nat)
  latest : List Nat
  staged : List (Nat × Nat)
  notifyQ : Nat
  port : Port
  mode : ModeEng
  time : TimeEng
  cells : CellEng
  cur : CurEng
  aux : AuxEng
  facet : FacetEng
  plan : PlanEng
  bal : BalEng
  loupe : LoupeEng
  xfer : XferEng
  ring : RingEng
  safe : SafetyEng
  flt : FaultEng
  check : CheckEng
  test : TestEng
  nvm : NvmEng
deriving DecidableEq, Repr

/-- What stops the machine. -/
inductive Fault where
  /-- No meaning raises it: a command whose operands do not exist on the wire or at the pins is no command of the part, and only its
  time passes (`run`, log entry 101). Safe: such a command cannot be sent to the part. -/
  | malformedCommand
deriving DecidableEq, Repr

/-- Why a command has no meaning. -/
inductive Refusal where
  /-- Raised by Machine/Dispatch.lean for a command whose meaning the model does not hold. Safe: the machine stops where the
  part goes on. No arm raises it now. -/
  | notModelled (mnemonic : String)
deriving DecidableEq, Repr

/-- The node right after power-on reset, with every object at the value that its table gives and every block as its chapter
says; the values that no rule gives stand in the log (entries 2 and 3). -/
def State.reset : State :=
  { pending := [], clk := 0, ringTime := 0, freeCtr := 0, objs := [(0x020400, 1), (0x022200, 0x20)], latest := [], staged := [], notifyQ := 0, port := Port.empty,
    mode := ModeEng.idle, time := TimeEng.empty, cells := CellEng.empty, cur := CurEng.reset, aux := AuxEng.empty,
    facet := FacetEng.empty, plan := PlanEng.reset, bal := BalEng.reset, loupe := LoupeEng.idle, xfer := XferEng.idle,
    ring := RingEng.empty, safe := SafetyEng.reset, flt := FaultEng.clear, check := CheckEng.reset, test := TestEng.empty,
    nvm := NvmEng.factory }

end Sys2Proof.Machine
end

