-- ==== Sys2Proof/WellFormed.lean ====
section
/-! DEFINITION. The operands that exist on the wire and at the pins: what a command must satisfy to be one the part can
receive: bytes and fields within their widths, lists as long as what they list. Values and lengths the spec refuses are well formed here;
the meanings answer them. -/

namespace Sys2Proof

/-- At most `n` bytes, each below 256. -/
def bytesOk (n : Nat) (bs : List Nat) : Bool := bs.length ≤ n && bs.all isByte

/-- A CAN frame's data (R69): a classical frame (format 0) has up to 8 bytes, an FD frame (1, or 2 with bit-rate switch) one of the lengths of
ISO 11898-1. -/
def canDataOk (format : Nat) (bs : List Nat) : Bool :=
  bs.all isByte && format < 3 &&
    (bs.length ≤ 8 || (format != 0 && [12, 16, 20, 24, 32, 48, 64].contains bs.length))

/-- CLIENT is 4 bits (R69), a node address 6 bits, SESSION 0 to 4 (R351). -/
def Source.wf : Source → Bool
  | .host c => c < 16
  | .ring n k => n < 64 && k ≤ 4

/-- TAG and byte 2 are bytes (R42). -/
def Ctx.wf (c : Ctx) : Bool := c.src.wf && c.tag < 256 && c.addr < 256

/-- As the packet that the host sends. -/
def WdOrigin.wf : WdOrigin → Bool
  | .core _ => true
  | .host c => c.wf

/-- Two checks (R184). -/
def CellRaw.wf (r : CellRaw) : Bool := r.checks < 4

/-- As CellRaw (R197). -/
def CurRaw.wf (r : CurRaw) : Bool := r.checks < 4

/-- Bytes, whatever their number: frames of a wrong length arrive too (R345). -/
def RingFrame.wf (f : RingFrame) : Bool := f.bytes.all isByte

/-- Seven leads. -/
def StrapPins.wf (p : StrapPins) : Bool := p.a < 128 && p.b < 128

/-- 24 data slots (R226). -/
def FacetLine.wf (l : FacetLine) : Bool := l.slots.length == 24

/-- The 16 entries (R246). -/
def SleepMeas.wf (m : SleepMeas) : Bool := m.first.length == 16 && m.again.length == 16

/-- Readings within the converters' words. -/
def FrameMeas.wf (x : FrameMeas) : Bool :=
  x.stk < 65536 && x.xbs < 65536 && x.peak < 65536 && -32768 ≤ x.mean && x.mean ≤ 32767

/-- Addresses of 12 bits, bits 0 to 39 (R480). -/
def MacroMeas.wf (m : MacroMeas) : Bool := m.words.length ≤ 4096 && m.words.all (fun x => x.1 < 4096 && x.2 < 40)

/-- A converter, or 0 for every one (R446). -/
def TableWord.wf (w : TableWord) : Bool := w.converter < 0x1C

/-- Converters. -/
def SetCheck.wf (x : SetCheck) : Bool := x.bad.all (fun p => 1 ≤ p.1 && p.1 ≤ 0x1B)

/-- A comparator (R404). -/
def MirrorRun.wf (x : MirrorRun) : Bool := 1 ≤ x.cell && x.cell ≤ 24

/-- A key and a value, a marker of R505, a plan slot. -/
def CutWrite.wf : CutWrite → Bool
  | .record index sub value => index < 65536 && sub < 256 && value < 2 ^ 64
  | .marker _ word => 1 ≤ word && word ≤ 5
  | .planSlot slot => slot < 4

/-- None, part or all of the operation. -/
def NvmCut.wf (x : NvmCut) : Bool := x.done < 3 && x.write.all CutWrite.wf

/-- Four macros. -/
def memOk (ms : List MacroMeas) : Bool := ms.length = 4 && ms.all MacroMeas.wf

/-- A measurement is of a slice's kind; the currents, voltages and steps are unsigned words, and the Mirror codes are those of an 8-bit DAC. -/
def SliceMeas.fits (kind : Nat) : SliceMeas → Bool
  | .loop _ _ => 1 ≤ kind && kind ≤ 3
  | .switch a b c d x y z => kind = 4 && [a, b, c, d].all (fun n => n < 2 ^ 16) && [x, y, z].all (fun n => n < 2 ^ 24)
  | .filter _ _ _ => kind = 5
  | .mirror _ o u => kind = 6 && (o.all (fun c => 1 ≤ c && c ≤ 255)) && u.all (fun c => 1 ≤ c && c ≤ 255)
  | .phy _ e => (kind = 7 || kind = 8) && e.all (fun n => n ≤ 100)
  | .sources a b => kind = 9 && a < 2 ^ 48 && b < 2 ^ 48
  | .facet _ _ => kind = 10

/-- The operands of each command. -/
def Instr.wf : Instr → Bool
  | .read _ c index sub data => c.wf && index < 65536 && sub < 256 && bytesOk 65535 data
  | .write _ c index sub data => c.wf && index < 65536 && sub < 256 && bytesOk 65535 data
  | .segReadStart _ c index sub => c.wf && index < 65536 && sub < 256
  | .segWriteStart _ c index sub total => c.wf && index < 65536 && sub < 256 && total < 2 ^ 32
  | .segData _ c index sub seq _ payload => c.wf && index < 65536 && sub < 256 && seq < 65536 && bytesOk 65531 payload
  | .segCancel _ c index sub => c.wf && index < 65536 && sub < 256
  | .ping _ c => c.wf
  | .status _ length => length < 65536
  | .put _ length seq packet crc _ => length < 65536 && seq < 256 && bytesOk 65535 packet && crc < 65536
  | .get _ length _ => length < 65536
  | .pop _ length seq crc _ => length < 65536 && seq < 256 && crc < 65536
  | .canCommandFrame _ ident format data _ => ident < 2 ^ 29 && canDataOk format data
  | .busOff _ => true
  | .busOffRecovery _ => true
  | .resetSupDomain _ c => c.wf
  | .resetWholeDevice _ c => c.wf
  | .releaseHeldSup _ c => c.wf
  | .resetActs _ => true
  | .sessionClose _ c => c.wf
  | .sessionOpenObserver _ c => c.wf
  | .sessionRequestMaster _ c => c.wf
  | .sessionMasterTake _ c => c.wf
  | .sessionTimeout _ client => client < 16
  | .transferTimeout _ src _ => src.wf
  | .modeRequest _ c value => c.wf && value < 256
  | .modeTransition _ => true
  | .shutdownSequenceComplete _ => true
  | .retire _ c cell => c.wf && cell < 256
  | .reinstate _ c cell => c.wf && cell < 256
  | .load _ c slot => c.wf && slot < 256
  | .discard _ c => c.wf
  | .erase _ c slot => c.wf && slot < 256
  | .cancel _ c => c.wf
  | .planSwitch _ c planId start => c.wf && planId < 256 && start < 2 ^ 48
  | .bankSwitch _ => true
  | .planImageWrite _ c image => c.wf && bytesOk (2 ^ 32 - 1) image
  | .auxRequest _ c channel => c.wf && channel < 256
  | .facetSearch _ c value => c.wf && value < 256
  | .facetEnable _ c value => c.wf && value < 256
  | .mirrorRelease _ c value x => c.wf && value < 65536 && x.samples.all MirrorRun.wf && x.failing < 64
  | .watchdogFirstKey _ o => o.wf
  | .watchdogSecondKey _ o => o.wf
  | .watchdogConfigWrite _ c value => c.wf && value < 2 ^ 32
  | .crcStart _ c => c.wf
  | .crcData _ c data => c.wf && bytesOk (2 ^ 32 - 1) data
  | .aliveInput _ c value => c.wf && value < 65536
  | .aliveConfig _ c value => c.wf && value < 2 ^ 32
  | .enumNew _ c => c.wf
  | .enumVerify _ c => c.wf
  | .deputyControl _ c => c.wf
  | .legacyTransmit _ c data _ => c.wf && bytesOk (2 ^ 32 - 1) data
  | .activate _ c => c.wf
  | .abandon _ c => c.wf
  | .updateVerify _ c => c.wf
  | .confirm _ c => c.wf
  | .rollback _ c => c.wf
  | .firmwareImageWrite _ c data => c.wf && bytesOk (2 ^ 32 - 1) data
  | .faultClear _ c source value => c.wf && source < 61936 && value < 256
  | .faultStatusReadClear _ c source => c.wf && source < 61936
  | .powerPathPolicyWrite _ c value => c.wf && value < 256
  | .convert _ cells osr _ _ => cells < 2 ^ 24 && osr < 5
  | .snapCurrent _ _ => true
  | .balHold _ switches => 0 < switches && switches < 2 ^ 24
  | .balRelease _ switches => 0 < switches && switches < 2 ^ 24
  | .aux _ select => 1 ≤ select && select ≤ 16
  | .openwire _ param => param < 2 ^ 32
  | .report _ op => op.param < 2 ^ 32 && op.host.wf
  | .mark _ offset _ => offset < 2 ^ 24
  | .slice _ channels param => channels < 2 ^ 26 && param < 2 ^ 32
  | .xferOn _ => true
  | .xferOff _ => true
  | .loupeStart _ point switches => point < 16 && switches < 2 ^ 24
  | .loupeStop _ => true
  | .adhocSlot _ => true
  | .planCycleBoundary _ words => words.all TableWord.wf
  | .planEntryFetch _ entry _ => entry < 256 || entry == 0xFFFF
  | .entryRefetchComplete _ entry _ _ => entry < 256 || entry == 0xFFFF
  | .lateEntry _ entry => entry < 256
  | .planScrubPass _ active inactive => (active ++ inactive).all (fun x => x.1 < 256 || x.1 == 0xFFFF)
  | .calScrubPass _ words => words.all TableWord.wf
  | .apertureComplete _ a cells s1 s2 cur sense e =>
    a < 2 ^ 48 && cells.length = 24 && cells.all CellRaw.wf && s1.wf && s2.wf && cur.wf && sense.length ≤ 25 && e.words.all TableWord.wf
  | .recomputationComplete _ a converter _ => a < 2 ^ 48 && 1 ≤ converter && converter ≤ 0x1B
  | .auxConversionComplete _ _ => true
  | .spareArmingComplete _ spare => spare = 1 || spare = 2
  | .handBackTimeout _ spare => spare = 1 || spare = 2
  | .sliceEnd _ kind target _ out => 1 ≤ kind && kind ≤ 10 && target ≤ 26 && out.m.fits kind && out.words.all TableWord.wf
  | .selftestComplete _ mem again words => memOk mem && memOk again && words.all TableWord.wf
  | .markCopy _ f _ sub => f.wf && sub < 125
  | .laneServiceEvaluation _ => true
  | .markSilence _ => true
  | .holdoverLimit _ => true
  | .syncEdge _ _ => true
  | .linkLock _ _ => true
  | .linkLoss _ _ _ => true
  | .trainingGenerationSwitch _ _ => true
  | .remoteFaultIdle _ _ => true
  | .portServing _ _ => true
  | .commandFrame _ f _ => f.wf
  | .responseFrame _ f => f.wf
  | .bulkFrame _ f _ => f.wf
  | .bulkReassemblyTimeout _ src => src < 64
  | .resultFrame _ f => f.wf
  | .safetyFrame _ f => f.wf
  | .eventFrame _ f => f.wf
  | .legacyFrame _ f => f.wf
  | .discover _ f => f.wf
  | .enumReport _ f => f.wf
  | .enumConfirm _ f => f.wf
  | .genSwitch _ f => f.wf
  | .portGenerationSwitch _ => true
  | .genSwitchFailure _ => true
  | .delayReq _ f turnaround => f.wf && turnaround < 2 ^ 32
  | .delayResp _ f roundTrip => f.wf && roundTrip < 2 ^ 32
  | .delayMeasurement _ _ => true
  | .enumerationStart _ => true
  | .collectionEnd _ => true
  | .frameTransmit _ _ bad crc => SetCheck.wf ⟨bad, crc.setOk, crc.rereadOk⟩
  | .ringCommandTimeout _ client tag => client < 16 && tag < 256
  | .ringCrcInterval _ => true
  | .deputyTimeout _ => true
  | .srqTick _ _ _ => true
  | .cenClose _ => true
  | .cenStaticCheck _ _ _ => true
  | .cenTestStart _ => true
  | .cenTestTransition _ => true
  | .cenTestTimeout _ => true
  | .cfbMismatch _ _ => true
  | .mirrorTrip _ cell _ => 1 ≤ cell && cell ≤ 24
  | .mirrorSelfFault _ cause => 1 ≤ cause && cause ≤ 5
  | .watchdogExpiry _ => true
  | .supervisorReady _ x => memOk x.mem
  | .quietPeriodEnd _ source => source < 48
  | .recoveryWindowEnd _ source => source < 48
  | .powerOnReset _ p _ _ _ => p.wf
  | .configurationCheck _ => true
  | .brownOut x => x.cut.wf
  | .aoReset _ => true
  | .supplyUndervoltage _ => true
  | .supplyUvClears _ => true
  | .supplyOvervoltage _ => true
  | .supplyOvClears _ => true
  | .exchangeBusValid _ => true
  | .exchangeBusInvalid _ => true
  | .exchangeBusOvervoltage _ => true
  | .exchangeBusOvClears _ => true
  | .railOutOfWindow _ _ => true
  | .nrstLow _ => true
  | .nrstRelease _ => true
  | .nrstStuck _ => true
  | .wakeIn _ => true
  | .wakeTone _ _ => true
  | .wakeOutRelease _ => true
  | .sleepCheck _ m => m.wf
  | .dwellComplete _ => true
  | .handoverComplete _ => true
  | .balancingFrameStart _ x => x.wf
  | .communicationTimeout _ => true
  | .stuckOnDetected _ n => 1 ≤ n && n ≤ 24
  | .loupeWindowEnd _ => true
  | .loupePointResult _ => true
  | .loupeReferenceTimeout _ a => a < 2 ^ 48
  | .safetyTimerExpiry _ => true
  | .stopSequenceComplete _ => true
  | .xferOvercurrent _ => true
  | .thermalHoldExpiry _ => true
  | .busRiseTimeout _ => true
  | .nxfltLow _ => true
  | .facetPowerPhaseEnd _ => true
  | .facetWindowEnd _ window line => window < 8 && line.wf
  | .facetLineFault _ => true
  | .hourlyReferenceCheck _ => true
  | .dailyLedgerRecord _ => true
  | .marginScrub _ margins sectors _ => margins.length = 8 && margins.all isByte && sectors.length = 6 && sectors.all isByte
  | .nvmOperationComplete _ _ _ => true
  | .updateTrialExpiry _ => true
  | .syncEdgeMissing _ => true
  | .delayRespTimeout _ _ => true
  | .handBackChannelActive _ spare => spare = 1 || spare = 2
  | .watchdogKeyTimeout _ => true
  | .counterCopyDisagreement _ copy => copy < 4
  | .counterSuspectClears _ => true
  | .handoverVpreTimeout _ => true
  | .railBackInWindow _ _ => true
  | .canFrameTransmitted _ => true
  | .mirrorFirstComparisonEnd _ => true
  | .xferRampComplete _ => true
  | .planRequestRepeat _ => true
  | .coalescedStateStore _ index sub _ => index < 65536 && sub < 256
  | .nrstHigh10Ms _ => true
  | .refDormantWarmUpEnd _ => true
  | .refDormantTimeLimit _ => true
  | .discoverCcwOnlyTimeout _ => true
  | .switchBudgetSpent _ n => 1 ≤ n && n ≤ 24

end Sys2Proof
end

