-- ==== Sys2Proof/Machine/Ops.lean ====
section
/-! DEFINITION. The named operations over the object store and time, and the common questions about a state: its mode, its
domains, its roles. Every meaning goes through them. -/

namespace Sys2Proof.Machine

/-! The object store (R32): a list of key and value pairs, canonical. -/

/-- The store holds its canonical form: keys strictly rising, and no entry equal to the object's default. -/
abbrev storeWf (l : List (Nat × Nat)) : Prop :=
  l.Pairwise (fun p q => p.1 < q.1) ∧ ∀ p ∈ l, p.2 ≠ Dict.default p.1

/-- The value of a key: the listed one, or the object's default. -/
def storeGet : List (Nat × Nat) → Nat → Nat
  | [], k => Dict.default k
  | (k', v) :: rest, k => if k' = k then v else storeGet rest k

/-- The store with a key removed. -/
def storeErase : List (Nat × Nat) → Nat → List (Nat × Nat)
  | [], _ => []
  | (k', v) :: rest, k => if k' = k then storeErase rest k else (k', v) :: storeErase rest k

/-- The store with a pair put at its place. -/
def storeInsert : List (Nat × Nat) → Nat → Nat → List (Nat × Nat)
  | [], k, v => [(k, v)]
  | (k', v') :: rest, k, v => if k < k' then (k, v) :: (k', v') :: rest else (k', v') :: storeInsert rest k v

/-- The store with a key at a value: writing the default removes the entry. -/
def storeSet (l : List (Nat × Nat)) (k v : Nat) : List (Nat × Nat) :=
  let l' := storeErase l k
  if v = Dict.default k then l' else storeInsert l' k v

/-- The value of an object. -/
def State.get (s : State) (k : Nat) : Nat := storeGet s.objs k

/-- The state with an object at a value. -/
def State.set (s : State) (k v : Nat) : State := { s with objs := storeSet s.objs k v }

/-- The state with an object's field `[lo + w - 1 : lo]` at a value. -/
def State.setField (s : State) (k lo w x : Nat) : State := s.set k (setBits (s.get k) lo w x)

/-- The state with a bit of an object at a value. -/
def State.setBitOf (s : State) (k n : Nat) (b : Bool) : State := s.setField k n 1 (num b)

/-- The state with a saturating count of `w` bits one higher (its table says saturating). -/
def State.count (s : State) (k w : Nat) : State := s.set k (sat (2 ^ w - 1) (s.get k + 1))

/-- The state with a wrapping count of `w` bits one higher (its table says wraps). -/
def State.wrap (s : State) (k w : Nat) : State := s.set k ((s.get k + 1) % 2 ^ w)

/-- An object at its default. -/
def State.clear (s : State) (k : Nat) : State := s.set k (Dict.default k)

/-- The objects of a list at their values. -/
def State.setAll (s : State) (l : List (Nat × Nat)) : State := l.foldl (fun t p => t.set p.1 p.2) s

/-- A signed object as a number. -/
def State.getInt (s : State) (k w : Nat) : Int := toInt w (s.get k)

/-! Time. -/

/-- Ticks of ring time in 48 bits (R110). -/
abbrev wrap48 (t : Nat) : Nat := t % 2 ^ 48

/-- The difference a - b of ring times, modulo 2 ^ 48 (R111). -/
abbrev since48 (a b : Nat) : Nat := wrap48 (a + (2 ^ 48 - wrap48 b))

/-- The ring time a is later than b (R111). -/
abbrev later48 (a b : Nat) : Bool := 1 ≤ since48 a b && since48 a b < 2 ^ 47

/-- A difference of ring times as a signed number (R111). -/
def signed48 (a b : Nat) : Int :=
  let d := since48 a b
  if d < 2 ^ 47 then d else (d : Int) - 2 ^ 48

/-- Ticks in a millisecond (R110). -/
abbrev ms : Nat := 16000

/-- The power domains by their bit in DomainStatus (R14). -/
inductive Domain where
  | ao | pre | cva | cvb | icx | rng | sup | nvm | bal | mir
deriving DecidableEq, Repr

/-- The bit of a domain in DomainStatus (R14). -/
def Domain.bitNo : Domain → Nat
  | .ao => 0 | .pre => 1 | .cva => 2 | .cvb => 3 | .icx => 4 | .rng => 5 | .sup => 6 | .nvm => 7 | .bal => 8 | .mir => 9

/-- A domain is powered (R14). -/
def State.on (s : State) (d : Domain) : Bool := bit (s.get Obj.domainStatus) d.bitNo

/-- The state with a domain powered or not. -/
def State.power (s : State) (d : Domain) (b : Bool) : State := s.setBitOf Obj.domainStatus d.bitNo b

/-- The first 20 us of a reset of the SUP domain, in ticks (R30). -/
abbrev bootDelay : Nat := 320

/-- The SUP domain is held in reset: SupervisorState 02h (R31, R506). A trial that ran in it is not timed any more. -/
def holdSup (s : State) : State :=
  let t := (s.set Obj.supervisorState 2).power .sup false
  { t with mode := { t.mode with noImage := false }, nvm := { t.nvm with trialAt := none } }

/-- The ROM boot: SupervisorState passes from 03h to 01h 20 us after the reset acts (R30); a boot that finds no image to start then holds
the SUP domain (R506), no earlier than the next passing of time after its start (log entry 102). -/
def bootStarts (s : State) : State :=
  if s.get Obj.supervisorState = 3 && s.on .rng && !s.mode.resetting && s.mode.supResetAt + bootDelay ≤ s.clk then
    (s.set Obj.supervisorState 1).power .sup true
  else if s.get Obj.supervisorState = 1 && s.mode.noImage && s.mode.supResetAt < s.clk then holdSup s
  else s

/-- Time passes: the timebase edges, ring time while its domain is on (R110), and the ROM boot that a reset leads to. -/
def advance (dt : Nat) (s : State) : State :=
  bootStarts { s with clk := s.clk + dt, ringTime := if s.on .rng then wrap48 (s.ringTime + dt) else s.ringTime }

/-! Free values (log entry 4). -/

/-- The next free value in `w` bits. -/
def State.free (s : State) (w : Nat) : Nat := (Config.freeValue s.freeCtr).toNat % 2 ^ w

/-- The free value has been used. -/
def State.freeUsed (s : State) : State := { s with freeCtr := s.freeCtr + 1 }

/-- An I16 object at a value; outside its range the spec states none, and the value is free (log entry 4). -/
def State.setI16 (s : State) (k : Nat) (i : Int) : State :=
  if clampInt 16 i = i then s.set k (ofInt 16 i) else (s.set k (s.free 16)).freeUsed

/-- An I16 as a field; outside its range it is free. -/
def State.fieldI16 (s : State) (i : Int) : Nat × State := if clampInt 16 i = i then (ofInt 16 i, s) else (s.free 16, s.freeUsed)

/-- A field of `w` bits at a value, or free where the spec states no value for it (log entry 4). -/
def State.fieldOr (s : State) (w : Nat) (x : Option Nat) : Nat × State :=
  match x with
  | some v => (v % 2 ^ w, s)
  | none => (s.free w, s.freeUsed)

/-! Modes (R88, R89). -/

/-- The mode codes (R88). -/
abbrev Mode.ship : Nat := 1
abbrev Mode.sleep : Nat := 2
abbrev Mode.standby : Nat := 3
abbrev Mode.configHold : Nat := 4
abbrev Mode.ready : Nat := 5
abbrev Mode.measure : Nat := 6
abbrev Mode.balance : Nat := 7
abbrev Mode.transfer : Nat := 8
abbrev Mode.loupe : Nat := 9
abbrev Mode.selftest : Nat := 10
abbrev Mode.safeMode : Nat := 11
abbrev Mode.update : Nat := 12

/-- The current mode: ModeStatus [7:0], which DeviceState always equals (R89). -/
def State.modeCode (s : State) : Nat := bits (s.get Obj.modeStatus) 0 8

/-- The current mode is one of a list. -/
def State.modeIn (s : State) (l : List Nat) : Bool := l.contains s.modeCode

/-- The modes in which the active bank runs and the supervisor permit may be given (R88, R399). -/
abbrev bankModes : List Nat := [Mode.measure, Mode.balance, Mode.transfer, Mode.loupe]

/-- The modes in which the BAL domain acts on the module (R88, R293). -/
abbrev outputModes : List Nat := [Mode.balance, Mode.transfer, Mode.loupe]

/-- SupervisorState reads 00h: the core serves objects (R37). -/
def State.supReady (s : State) : Bool := s.get Obj.supervisorState == 0

/-- A plan runs (R236): its cycle starts exist. -/
def State.planRuns (s : State) : Bool := s.plan.running != RunningPlan.none

/-- The node's address, 0 when unassigned (R37). -/
def State.address (s : State) : Nat := bits (s.get Obj.nodeAddress) 0 6

/-- RingRole [1]: the node is head (R28). -/
def State.isHead (s : State) : Bool := bit (s.get Obj.ringRole) 1

/-- RingRole [2]: the node is deputy (R28). -/
def State.isDeputy (s : State) : Bool := bit (s.get Obj.ringRole) 2

/-- The cell count in effect (R140). -/
def State.cellCount (s : State) : Nat := s.cells.count

/-- CycleCount in force (R112). -/
def State.cycle (s : State) : Nat := s.get Obj.cycleCount

/-- The active bank (R257). -/
def State.active (s : State) : Bank := if s.plan.activeB then s.plan.bankB else s.plan.bankA

/-- The inactive bank. -/
def State.inactive (s : State) : Bank := if s.plan.activeB then s.plan.bankA else s.plan.bankB

/-- The plan ID of a bank: byte 5 of its image, 0 when empty (R243). -/
def Bank.planId (b : Bank) : Nat := b.image.getD 5 0

/-- The entries of a bank's image, 16 bytes each (R242, R248). -/
def imageEntries (image : List Nat) : List (List Nat) :=
  (List.range (leAt image 6 2)).map (fun i => (image.drop (352 + 16 * i)).take 16)

/-- ACTION of an entry (R248). -/
def entryAction (e : List Nat) : Nat := e.getD 3 0

/-- The plan ID of the running plan; the ROM minimal plan has 00h (R240). -/
def State.runningId (s : State) : Nat := if s.plan.running = RunningPlan.bank then s.active.planId else 0

end Sys2Proof.Machine
end

