-- ==== Sys2Proof/Machine/Log.lean ====
section
/-! DEFINITION. The log of the NVM (R498 to R502): its records with their bytes, the collector, the queue of the NVM controller (R495), and the P
objects that the device itself writes (R500). -/

namespace Sys2Proof.Machine

/-! Records (R498). -/

/-- The bytes of a record that CHECK covers: bytes 0 to 5 and the data. -/
def LogRec.covered (r : LogRec) : List Nat := [r.stream, r.sub] ++ leBytes 2 r.key ++ leBytes 2 r.data.length ++ r.data

/-- The committed record of a stream with its CHECK, the CRC-16 of R66. -/
def LogRec.of (stream key sub : Nat) (data : List Nat) : LogRec :=
  let r : LogRec := ⟨stream, sub, key, data, 0, true⟩
  { r with check := crc16 r.covered }

/-- The record is committed and passes CHECK (R499). -/
def LogRec.good (r : LogRec) : Bool := r.commit && r.check == crc16 r.covered

/-- The bytes of a record with `len` bytes of data. -/
def recordSize (len : Nat) : Nat := 16 + (len + 7) / 8 * 8

/-- The bytes of a record. -/
def LogRec.size (r : LogRec) : Nat := recordSize r.data.length

/-- A record as it stands in the NVM: the data padded with FFh, and COMMIT. -/
def LogRec.bytes (r : LogRec) : List Nat :=
  [r.stream, r.sub] ++ leBytes 2 r.key ++ leBytes 2 r.data.length ++ leBytes 2 r.check ++ r.data ++
    List.replicate ((r.data.length + 7) / 8 * 8 - r.data.length) 0xFF ++ List.replicate 8 (if r.commit then 0 else 0xFF)

/-- What a record is the value of: an object's key for CONFIG and STATE, NUMBER for LEDGER, one for JOURNAL. -/
def LogRec.id (r : LogRec) : Nat := if r.stream ≤ 2 then r.key * 256 + r.sub else r.stream * 2 ^ 24 + r.key

/-! Sectors. -/

/-- The bytes that a log sector has for records (R502). -/
abbrev sectorRoom : Nat := 4064

/-- The bytes of a sector's records. -/
def LogSector.used (x : LogSector) : Nat := (x.recs.map (·.size)).sum

/-- The bytes of a log sector (R498): MAGIC and ERASE_COUNT, SEQ, FULL, and the records from byte 32 on; what is not programmed reads as
FFh. -/
def LogSector.bytes (x : LogSector) : List Nat :=
  let b := [0x4C, 0x4F, 0x47, 0x31] ++ leBytes 4 x.erases ++ (if x.state = 0 then List.replicate 8 0xFF else leBytes 4 x.seq ++
    List.replicate 4 0) ++ List.replicate 8 (if x.state = 2 then 0 else 0xFF) ++ List.replicate 8 0xFF ++ x.recs.flatMap (·.bytes)
  b ++ List.replicate (4096 - b.length) 0xFF

/-- The byte address of log sector i (R493). -/
def logAddress (i : Nat) : Nat := 0x3A000 + 0x1000 * i

/-- A sector at its place by SEQ. -/
def bySeq (x : Nat × LogSector) : List (Nat × LogSector) → List (Nat × LogSector)
  | [] => [x]
  | y :: l => if x.2.seq ≤ y.2.seq then x :: y :: l else y :: bySeq x l

/-- The records of the log, oldest first, each with its sector. -/
def taggedRecs (l : List LogSector) : List (Nat × LogRec) :=
  (((l.zipIdx.map (fun x => (x.2, x.1))).filter (fun x => x.2.state != 0)).foldr bySeq []).flatMap (fun x => x.2.recs.map (fun r => (x.1, r)))

/-- The records of the log, oldest first. -/
def logRecs (l : List LogSector) : List LogRec := (taggedRecs l).map (·.2)

/-- The value of an object after a record of the log (R499): its data, or the default after a record with LEN 0 (R498). -/
def applyRec (v : List (Nat × Nat)) (r : LogRec) : List (Nat × Nat) :=
  if !r.good || 2 < r.stream then v
  else
    let e := storeErase v r.id
    if r.data = [] then e else storeInsert e r.id (ofLe r.data)

/-- The P objects as the NVM holds them: the latest record of each that is committed and passes CHECK (R499). -/
def State.stored (s : State) : List (Nat × Nat) := (logRecs s.nvm.log).foldl applyRec []

/-- The latest good record of a stream. -/
def latestOf (stream : Nat) (l : List LogRec) : Option LogRec := (l.filter (fun r => r.stream = stream && r.good)).getLast?

/-- The ledger (R485): its latest 256 records, newest first. -/
def State.ledger (s : State) : List (List Nat) :=
  ((((logRecs s.nvm.log).filter (fun r => r.stream = 3 && r.good)).map (·.data)).reverse).take 256

/-- The records that the operations in progress and requested will add. -/
def State.requestedRecs (s : State) : List LogRec :=
  (s.nvm.op.toList ++ s.nvm.queue).filterMap (fun o => match o.work with
    | .record r => some r
    | _ => none)

/-- A JOURNAL record (R506, R509; log entry 145): TARGET, SECTORS_DONE and LENGTH of the update in progress, and the marker about to be programmed,
0 for none, else 80h with the slot in bit 3 and the word of R505. -/
def journalRecord (j : Option Journal) (mark : Nat) : LogRec :=
  let x := j.getD ⟨0, 0, 0⟩
  LogRec.of 4 0 0 ([x.target, x.done, mark, 0] ++ leBytes 4 x.length)

/-- The record that closes the journal of an update: LEN 0 (log entry 145). -/
def journalClose : LogRec := LogRec.of 4 0 0 []

/-- The update that a JOURNAL record describes, if one is in progress. -/
def LogRec.journal (r : LogRec) : Option Journal :=
  if r.data = [] || leAt r.data 4 4 = 0 then none else some ⟨r.data.getD 0 0, leAt r.data 4 4, r.data.getD 1 0⟩

/-- The update journal (R509): what the latest JOURNAL record says, those requested among them. -/
def State.journal (s : State) : Option Journal := (latestOf 4 (logRecs s.nvm.log ++ s.requestedRecs)).bind (·.journal)

/-! The collector (R501, R502). -/

/-- The sectors that are not retired. -/
def usableIn (l : List LogSector) : Nat := (l.filter (fun x => x.state != 3)).length

/-- The sectors of the node's log that are not retired. -/
def State.usableSectors (s : State) : Nat := usableIn s.nvm.log

/-- The records that the collector keeps, of those after `old`: the latest good one of each object; one with LEN 0 as long as another sector
holds an older one; and the latest CONFIG record without COMMIT, which R499 reports (log entry 146). -/
def liveAfter (old : List (Nat × LogRec)) : List (Nat × LogRec) → List (Nat × LogRec)
  | [] => []
  | x :: rest =>
    let gone := rest.any (fun y => y.2.id = x.2.id && (y.2.good || !x.2.good))
    let keep := if x.2.good then x.2.data != [] || old.any (fun y => y.1 != x.1 && y.2.good && y.2.id = x.2.id)
      else x.2.stream = 1 && !x.2.commit
    if !gone && keep then x :: liveAfter (x :: old) rest else liveAfter (x :: old) rest

/-- The live records of the log, oldest first, each with its sector. Of the ledger the 256 latest are live, fewer where retired sectors leave
less space, the oldest dropped first (R485, R502). -/
def liveRecs (l : List LogSector) : List (Nat × LogRec) :=
  let v := liveAfter [] (taggedRecs l)
  let other := ((v.filter (fun x => x.2.stream ≤ 2)).map (·.2.size)).sum
  let k := min 256 (((usableIn l - 2) * sectorRoom - other) / recordSize 32)
  let drop := (v.filter (fun x => x.2.stream = 3)).length - k
  let ids := ((v.filter (fun x => x.2.stream = 3)).take drop).map (·.2.id)
  v.filter (fun x => !ids.contains x.2.id)

/-- The bytes of the live records of sector i. -/
def liveBytes (l : List LogSector) (i : Nat) : Nat := (((liveRecs l).filter (fun x => x.1 = i)).map (·.2.size)).sum

/-- The sector of a list that the collector prefers: the fewest live bytes, ties to the lower ERASE_COUNT (R501); a sector stands here as its
number, ERASE_COUNT and live bytes. -/
def bestVictim : List (Nat × Nat × Nat) → Option (Nat × Nat × Nat)
  | [] => none
  | x :: l =>
    match bestVictim l with
    | none => some x
    | some y => if y.2.2 < x.2.2 || (y.2.2 = x.2.2 && y.2.1 < x.2.1) then some y else some x

/-- The full sector that the collector picks: one below NvmRefreshMargin, one more than 1000 erases above the lowest, or the one with the
fewest live bytes (R501). -/
def pickVictim (refresh : Nat) (l : List LogSector) : Option Nat :=
  let full := l.zipIdx.filter (fun x => x.1.state = 2)
  let low := ((l.filter (fun x => x.state != 3)).map (·.erases)).foldl min (2 ^ 32)
  let weak := full.filter (fun x => x.1.margin < refresh)
  let worn := full.filter (fun x => low + 1000 < x.1.erases)
  (bestVictim ((if !weak.isEmpty then weak else if !worn.isEmpty then worn else full).map
    (fun x => (x.2, x.1.erases, liveBytes l x.2)))).map (·.1)

/-- The open sector can take a record. -/
def hasRoom (size : Nat) (l : List LogSector) : Bool := l.any (fun x => x.state = 1 && x.used + size ≤ sectorRoom)

/-- A record is programmed in the open sector. -/
def pushRec (r : LogRec) (l : List LogSector) : List LogSector :=
  l.map (fun x => if x.state = 1 then { x with recs := x.recs ++ [r] } else x)

/-- The open sector closes as full (2) or is retired (3), and the reserve becomes the open one with SEQ one above the highest (R501). -/
def openReserve (close : Nat) (l : List LogSector) : List LogSector :=
  let seq := (l.map (·.seq)).foldl max 0 + 1
  let r := (l.zipIdx.find? (fun x => x.1.state = 0)).map (·.2)
  l.zipIdx.map (fun (x : LogSector × Nat) =>
    if x.1.state = 1 then { x.1 with state := close }
    else if r = some x.2 then { x.1 with state := 1, seq := seq }
    else x.1)

/-- There is an erased sector. -/
def hasReserve (l : List LogSector) : Bool := l.any (fun x => x.state = 0)

/-- Sector i is erased, its count one higher; a retired one stays as it is. -/
def eraseSector (i : Nat) (l : List LogSector) : List LogSector :=
  l.zipIdx.map (fun (x : LogSector × Nat) =>
    if x.2 = i && x.1.state != 3 then { LogSector.fresh with erases := x.1.erases + 1 } else x.1)

/-- The oldest live record of sector i. -/
def firstLive (i : Nat) (l : List LogSector) : Option LogRec := ((liveRecs l).find? (fun x => x.1 = i)).map (·.2)

/-- The live records of sector i are copied into the open one, and it is erased; `fuel` bounds the copies. -/
def finishCollect (i : Nat) : Nat → List LogSector → List LogSector
  | 0, l => l
  | n + 1, l =>
    match firstLive i l with
    | some r => finishCollect i n (pushRec r l)
    | none => eraseSector i l

/-- The copies that sector i can need. -/
def collectFuel (i : Nat) (l : List LogSector) : Nat := ((l[i]?).map (·.recs.length)).getD 0 + 1

/-- The collector makes a new reserve where there is none (R501). -/
def collectOnce (refresh : Nat) (l : List LogSector) : List LogSector :=
  if hasReserve l then l
  else
    match pickVictim refresh l with
    | none => l
    | some i => finishCollect i (collectFuel i l) l

/-- Sectors change until the open one can take a record; `fuel` bounds the changes. -/
def makeRoom (refresh size : Nat) : Nat → List LogSector → List LogSector
  | 0, l => l
  | n + 1, l => if hasRoom size l || !hasReserve l then l else makeRoom refresh size n (collectOnce refresh (openReserve 2 l))

/-- A record is appended, whatever the collector has to do for it; a log that has no sector left to take it loses it (log entry 147). -/
def logAppend (refresh : Nat) (r : LogRec) (l : List LogSector) : List LogSector :=
  let m := makeRoom refresh r.size 12 l
  if hasRoom r.size m then pushRec r m else m

/-! The space for CONFIG and STATE records (R502). -/

/-- The bytes of an object's data. -/
def objectSize (k : Nat) : Nat := ((Dict.row (k / 256) (k % 256)).map (·.size)).getD 4

/-- The live bytes of CONFIG and STATE records, a key's own apart. -/
def State.configBytes (s : State) (k : Nat) : Nat :=
  (((liveRecs s.nvm.log).filter (fun x => x.2.stream ≤ 2 && x.2.id != k)).map (·.2.size)).sum

/-- NvmLogFree (R502, R515). -/
def State.logFree (s : State) : Nat := 3968 - s.configBytes (2 ^ 24)

/-- A CONFIG or STATE record of an object finds space (R502). -/
def State.logTakes (s : State) (k : Nat) (dft : Bool) : Bool :=
  5 ≤ s.usableSectors && s.configBytes k + (if dft then 0 else recordSize (objectSize k)) ≤ 3968

/-! The controller's queue (R495). -/

/-- The state with the log changed. -/
def State.setLog (s : State) (l : List LogSector) : State := { s with nvm := { s.nvm with log := l } }

/-- The operation that waits in front starts, if none is in progress. A record that finds no room has the reserve opened for it, and the
collector's first copy goes ahead of it; one for which no sector is left is lost (log entry 147). -/
def startNext (s : State) : State :=
  match s.nvm.op, s.nvm.queue with
  | none, o :: rest =>
    match o.work with
    | .record r =>
      if hasRoom r.size s.nvm.log then { s with nvm := { s.nvm with op := some o, queue := rest } }
      else if !hasReserve s.nvm.log then { s with nvm := { s.nvm with queue := rest } }
      else
        let l := openReserve 2 s.nvm.log
        let t := s.setLog l
        (match if hasReserve l then none else pickVictim (s.get Obj.nvmRefreshMargin) l with
         | some i => { t with nvm := { t.nvm with op := some ⟨2, logAddress i, .copy i⟩ } }
         | none => { t with nvm := { t.nvm with op := some o, queue := rest } })
    | _ => { s with nvm := { s.nvm with op := some o, queue := rest } }
  | _, _ => s

/-- An operation is requested (R495): requests wait in the order of arrival, but a read goes ahead of programs and erases that have not
started. -/
def requestOp (o : NvmOp) (s : State) : State :=
  let q := s.nvm.queue
  let new := if o.code = 1 then q.takeWhile (fun x => x.code = 1) ++ o :: q.dropWhile (fun x => x.code = 1) else q ++ [o]
  startNext { s with nvm := { s.nvm with queue := new } }

/-- The open sector. -/
def State.openSector (s : State) : Nat := ((s.nvm.log.zipIdx.find? (fun x => x.1.state = 1)).map (·.2)).getD 0

/-- A record of the device's own is requested. -/
def requestRecord (r : LogRec) (s : State) : State := requestOp ⟨2, logAddress s.openSector, .record r⟩ s

/-- A record of the journal is programmed: UpdateProgrammed follows one of a verified sector (R509). -/
def journalWritten (r : LogRec) (s : State) : State :=
  match r.journal.filter (fun _ => r.stream = 4 && r.data.getD 2 0 = 0) with
  | some j => s.set Obj.updateProgrammed (min j.length (j.done * 4096))
  | none => s

/-- A record is appended at once. -/
def appendRecord (r : LogRec) (s : State) : State :=
  journalWritten r (s.setLog (logAppend (s.get Obj.nvmRefreshMargin) r s.nvm.log))

/-- The operation is one on the log. -/
def NvmWork.onLog : NvmWork → Bool
  | .record _ => true
  | .copy _ => true
  | .reclaim _ => true
  | _ => false

/-- What an operation on the log has done in the end. -/
def finishWork (w : NvmWork) (s : State) : State :=
  match w with
  | .record r => appendRecord r s
  | .copy i => s.setLog (finishCollect i (collectFuel i s.nvm.log) s.nvm.log)
  | .reclaim i => s.setLog (finishCollect i (collectFuel i s.nvm.log) s.nvm.log)
  | _ => s

/-- The operations on the log that have been requested come to their end, in order. -/
def drainLog (s : State) : State :=
  let l := (s.nvm.op.toList ++ s.nvm.queue).filter (·.work.onLog)
  l.foldl (fun t o => finishWork o.work t)
    { s with nvm := { s.nvm with op := s.nvm.op.filter (fun o => !o.work.onLog), queue := s.nvm.queue.filter (fun o => !o.work.onLog) } }

/-- A record is written at once, after what was requested before it (R500). -/
def writeRecord (r : LogRec) (s : State) : State := appendRecord r (drainLog s)

/-- The open sector fails twice and is retired (R496, R502): the reserve opens, the live records follow into it, and NvmStatus shows the sectors
left. -/
def retireSector (s : State) : State :=
  let i := s.openSector
  let t := s.setLog (openReserve 3 s.nvm.log)
  let u := t.setField Obj.nvmStatus 8 8 t.usableSectors
  if (firstLive i u.nvm.log).isSome then
    startNext { u with nvm := { u.nvm with queue := ⟨2, logAddress i, .copy i⟩ :: u.nvm.queue } }
  else u

/-! Stores. -/

/-- The record of an object at a value; its default is a record with LEN 0 (R498). -/
def objectRecord (stream k v : Nat) (dft : Bool) : LogRec :=
  LogRec.of stream (k / 256) (k % 256) (if dft then [] else leBytes (objectSize k) v)

/-- A P object is stored at a value by a host write; `dft` says that it is the object's default (R498, R500). -/
def storeRecord (k v : Nat) (dft : Bool) (s : State) : State := writeRecord (objectRecord 1 k v dft) s

/-- A device-written object is to be stored as it stands, while the core runs (R29) and the log takes it (R500, R502). -/
def storeState (k : Nat) (s : State) : State :=
  let dft := s.get k == Dict.default k
  if s.supReady && s.logTakes k dft then requestRecord (objectRecord 2 k (s.get k) dft) s else s

/-- The state with a P object at a value that the device itself has written, which is stored at once (R34, R500). -/
def State.keep (s : State) (k v : Nat) : State := storeState k (s.set k v)

/-- The object is a P object that the device writes (R34, R500): a read-only one, FilterTau or SettleStep (R302, R476). -/
def deviceP (k : Nat) : Bool :=
  match Dict.row (k / 256) (k % 256) with
  | some r => r.p && (r.acc == .ro || k / 256 == 0x0440 || k / 256 == 0x0441)
  | none => false

/-- Every device-written P object that the log does not hold as it stands is to be stored (R500). -/
def storeDeviceP (s : State) : State :=
  let soon := s.requestedRecs.foldl applyRec s.stored
  let changed := (s.objs.filter (fun p => deviceP p.1 && !soon.contains p)).map (·.1)
  let gone := (soon.filter (fun p => deviceP p.1 && s.get p.1 == Dict.default p.1)).map (·.1)
  (changed ++ gone).foldl (fun t k => storeState k t) s

/-! The scan at a SUP start (R499). -/

/-- The first object whose latest record is an uncommitted CONFIG record. -/
def State.tornConfig (s : State) : Option Nat :=
  let l := (liveRecs s.nvm.log).map (·.2)
  (l.filter (fun r => r.stream = 1 && !r.commit && !((l.dropWhile (· != r)).any (fun y => y.good && y.id = r.id)))).foldl
    (fun b r => some (match b with
      | none => r.id
      | some k => min k r.id)) none

/-- The first object with a committed CONFIG record that fails CHECK and has no good one after it. -/
def State.badConfig (s : State) : Option Nat :=
  let l := logRecs s.nvm.log
  (l.filter (fun r => r.stream = 1 && r.commit && !r.good && !((l.dropWhile (· != r)).any (fun y => y.good && y.id = r.id)))).foldl
    (fun b r => some (match b with
      | none => r.id
      | some k => min k r.id)) none

/-- The scan of the log: uncommitted records of STATE, LEDGER and JOURNAL count in NvmTornRecords; a sector whose header word 0 fails its check
is erased again, with ERASE_COUNT one above the highest of the others (R499), of which one must be valid: a log without a valid header is not
formatted (R97); a collection that was cut short is taken up (R501). -/
def scanLog (s : State) : State :=
  let torn := ((logRecs s.nvm.log).filter (fun r => r.stream != 1 && !r.commit)).length
  let top := ((s.nvm.log.filter (·.headerOk)).map (·.erases)).foldl max 0
  let a := s.set Obj.nvmTornRecords (sat 65535 (s.get Obj.nvmTornRecords + torn))
  let b := if !s.nvm.log.any (·.headerOk) then a
    else a.setLog (a.nvm.log.map (fun x => if x.headerOk then x else { LogSector.fresh with erases := top + 1 }))
  let t := b.setField Obj.nvmStatus 8 8 b.usableSectors
  if hasReserve t.nvm.log || (t.nvm.op.toList ++ t.nvm.queue).any (·.work.onLog) then t
  else
    match pickVictim (t.get Obj.nvmRefreshMargin) t.nvm.log with
    | some i => requestOp ⟨2, logAddress i, .copy i⟩ t
    | none => t

end Sys2Proof.Machine
end

