-- ==== Sys2Proof/Machine/Views.lean ====
section
/-! DEFINITION. What the blocks read off the state: the states of channels and spares, the switches that conduct, the Mirror
flags, the two permits, RING_SAFE, and the objects that are views of hidden state. -/

namespace Sys2Proof.Machine

/-! Fault sources as masks (R453). -/

/-- Source c has its status set. -/
def State.faultOn (s : State) (c : Nat) : Bool := bit s.flt.status c

/-- Some source whose severity was SAFE when it set has its status set (R94, R399). -/
def State.safeFault (s : State) : Bool := s.flt.status &&& s.flt.safe != 0

/-- Some source whose severity was DEGRADE when it set has its status set (R456). -/
def State.degradeFault (s : State) : Bool := s.flt.status &&& s.flt.degrade != 0

/-! Channels and spares (R148). -/

/-- The domain of channel n: CVA for 1 to 12, CVB for 13 to 24 (R11). -/
def channelDomain (n : Nat) : Domain := if n ≤ 12 then .cva else .cvb

/-- The domain of spare 1 or 2. -/
def spareDomain (k : Nat) : Domain := if k = 1 then .cva else .cvb

/-- ChannelState of channel n: UNPOWERED with its domain off, UNUSED above CellCount, else as held (R148). -/
def State.channel (s : State) (n : Nat) : Nat :=
  if !s.on (channelDomain n) then 5 else if s.cellCount < n then 4 else s.get (Obj.channelState + n)

/-- SpareState STATE of spare k: UNPOWERED with its domain off (R148). -/
def State.spare (s : State) (k : Nat) : Nat :=
  if !s.on (spareDomain k) then 6 else bits (s.get (Obj.spareState + k)) 0 3

/-- SpareState CELL of spare k. -/
def State.spareCell (s : State) (k : Nat) : Nat := bits (s.get (Obj.spareState + k)) 8 8

/-- The hidden state of spare k. -/
def State.sp (s : State) (k : Nat) : SpareEng := if k = 1 then s.cells.sp1 else s.cells.sp2

/-- The state with the hidden state of spare k changed. -/
def State.setSp (s : State) (k : Nat) (e : SpareEng) : State :=
  if k = 1 then { s with cells := { s.cells with sp1 := e } } else { s with cells := { s.cells with sp2 := e } }

/-- AxTemperature of input n as it reads (R220): 8000h while KIND is not NTC, and until a conversion since ICX powered up. -/
def State.axTemp (s : State) (n : Nat) : Nat :=
  if bits (s.get (Obj.auxInputConfig + n)) 2 2 != 1 || bit s.aux.notYet (n - 1) then 0x8000 else s.get (Obj.axTemperature + n)

/-- AuxResult of channel code c as it reads (R215): ABS until a conversion since ICX powered up. -/
def State.auxWord (s : State) (c : Nat) : Nat :=
  if bit s.aux.notYet c then setBit (s.get (Obj.auxResult + (c + 1))) 0 true else s.get (Obj.auxResult + (c + 1))

/-- The Facet bus runs (R229, R234). -/
def State.facetRuns (s : State) : Bool := s.on .icx && s.facet.powered && s.get Obj.facetEnable == 1

/-- What drives FCT (R11, R229, R232, R234): the device holds it low while the bus does not run, holds it high on the strong pull-up in the
power phase, leaves it with both pull-ups off after a line fault, and opens slots otherwise. -/
inductive FctDrive where
  | low | high | off | slots
deriving DecidableEq, Repr

/-- FCT as this device drives it; after power-on the pull-ups stay off until T + 25000 us is past (R541). -/
def State.fct (s : State) : FctDrive :=
  if !s.on .icx || s.get Obj.facetEnable != 1 then .low
  else if s.mode.powerAt.any (fun t => s.clk ≤ t + 25 * ms) then .off
  else if !s.facet.powered then .high
  else if s.facet.stopped then .off
  else .slots

/-- FacetStatus as it reads (R235): ACTIVE and SEARCHING while the bus runs. -/
def State.facetStatusNow (s : State) : Nat :=
  setBit (setBit (s.get Obj.facetStatus) 0 s.facetRuns) 2 s.facet.searchFrames.isSome

/-- XferStatus STATE (R324). -/
def State.xferState (s : State) : Nat := bits (s.get Obj.xferStatus) 0 4

/-! Balancing (R293 to R295, R309). -/

/-- Row 2 of R293: switch n exists, is enabled and is not locked out. -/
def State.balWanted (s : State) (n : Nat) : Bool :=
  1 ≤ n && n ≤ s.cellCount && bit s.bal.enabled (n - 1) && !bit (s.get Obj.balLockout) (n - 1)

/-- The frame parity permits switch n (R294). -/
def State.balParity (s : State) (n : Nat) : Bool :=
  if s.balWanted (n - 1) || s.balWanted (n + 1) then
    (if n % 2 = 1 then s.bal.frame % 2 == 0 else s.bal.frame % 2 == 1)
  else true

/-- Rows 1, 2, 4 and 5 of R293, those by which R297 counts a switch. -/
def State.balPermitted (s : State) (n : Nat) : Bool :=
  s.modeIn outputModes && s.on .bal && s.balWanted n && !s.faultOn 0x11 && s.balParity n

/-- The switches that a Loupe point chops, while its excitation runs (R309). -/
def State.chopped (s : State) : Nat :=
  match s.loupe.point with
  | some p => if p.exciting && bits (s.get Obj.loupeConfig) 0 2 = 0 then p.chopped else 0
  | none => 0

/-- The half of the period in which a chopped switch conducts, from t0 on (R309). -/
def State.chopConducts (s : State) (n : Nat) : Bool :=
  match s.loupe.point with
  | none => false
  | some p =>
    let ph := since48 s.ringTime p.t0 % max 1 p.period
    if later48 p.t0 s.ringTime then false
    else if n % 2 = 1 then 16 ≤ ph && ph < p.period / 2 else p.period / 2 + 16 ≤ ph

/-- A slice or a check of the foreground set has switch n conduct now (R300, R476); `tests` ends each interval 1 us after it (R172). -/
def State.testConducts (s : State) (n : Nat) : Bool :=
  s.cells.tests.any (fun t => t.1 = n && t.2.1 ≤ s.clk && s.clk + 16 < t.2.2)

/-- Switch n conducts (R293): every condition of the table, or the chopping of R309. What a slice forces off does neither (R300). -/
def State.conducts (s : State) (n : Nat) : Bool :=
  if s.chopped != 0 && (bit s.chopped (n - 1) || bit (s.chopped * 2) (n - 1) || bit s.chopped n) then
    bit s.chopped (n - 1) && s.on .bal && s.modeIn outputModes && !s.faultOn 0x11 &&
      !bit (s.get Obj.balLockout) (n - 1) && !bit s.bal.forced (n - 1) && s.chopConducts n
  else
    s.balPermitted n && !bit s.plan.held (n - 1) && !bit s.bal.spent (n - 1) && !bit s.bal.forced (n - 1) &&
      16 ≤ s.ringTime % ms

/-- The mask of the switches that conduct. -/
def State.conductMask (s : State) : Nat := ofBits 24 (fun i => s.conducts (i + 1))

/-- The switches that conduct but for the break of 1 us at a frame start; the chopped ones of R309 apart. -/
def State.mayConduct (s : State) : Nat :=
  ofBits 24 (fun i =>
    if s.chopped != 0 && (bit s.chopped i || bit (s.chopped * 2) i || bit s.chopped (i + 1)) then false
    else s.balPermitted (i + 1) && !bit s.plan.held i && !bit s.bal.spent i && !bit s.bal.forced i)

/-- The BAL entries whose gates have still to change, newest first, after one at the present tick that changes some hold states (R132, R285). -/
def State.balAt (s : State) (m : Nat) : List (Nat × Nat) :=
  (bitList m 24).map (fun i => (i + 1, s.clk)) ++ s.plan.heldAt.filter (fun p => s.clk < p.2 + 2)

/-- The ticks from now after which the gate of switch n changes over, in the order of time (R132, R285). -/
def State.gateTurns (s : State) (n : Nat) : List Nat :=
  ((s.plan.heldAt.filter (fun p => p.1 = n && s.clk < p.2 + 2)).map (fun p => p.2 + 2 - s.clk)).reverse

/-- The hold state of switch n that its gate follows now is `released`: each entry still to act has changed it over. -/
def State.gateOpen (s : State) (n : Nat) : Bool := bit s.plan.held (n - 1) == ((s.gateTurns n).length % 2 == 1)

/-- Where in its period a chopped switch conducts (R309): from the first tick to the second. -/
def chopSpan (n period : Nat) : Nat × Nat := if n % 2 = 1 then (16, period / 2) else (period / 2 + 16, period)

/-- Clock tick `t`, or an earlier one at which switch n has left the chopping or the chopping has stopped. -/
def Chop.until_ (c : Chop) (n t : Nat) : Nat :=
  ((c.offs.filter (fun p => p.1 = n)).map (·.2) ++ c.stop.toList).foldl min t

/-- The ticks that switch n would have conducted before clock tick `t` if nothing had forced it off (R309). -/
def Chop.free (c : Chop) (n t : Nat) : Nat :=
  let x := t - c.start
  let p := max 1 c.period
  let (lo, hi) := chopSpan n p
  x / p * (hi - lo) + (min (x % p) hi - lo)

/-- The ticks that switch n of a chopping has conducted before clock tick `t` (R309); while a slice forces it off it does not (R300). -/
def Chop.ticks (c : Chop) (n t : Nat) : Nat :=
  if !bit c.mask (n - 1) then 0
  else
    let u := c.until_ n t
    c.free n u - ((c.cuts.filter (fun x => x.1 = n)).map (fun x =>
      c.free n ((x.2.2.getD u).min u) - c.free n (min x.2.1 u))).sum

/-- The tick before clock tick `t` at which switch n of a chopping would have stopped last if nothing had forced it off. -/
def Chop.freeOff (c : Chop) (n t : Nat) : Nat :=
  let p := max 1 c.period
  let (lo, hi) := chopSpan n p
  let x := t - c.start
  if lo < x % p then c.start + x / p * p + min (x % p) hi else c.start + (x / p - 1) * p + hi

/-- When switch n of a chopping last stopped conducting before clock tick `t`, if it has: a stop that lies in a time of forcing, newest first,
is the one before that. -/
def Chop.lastOff (c : Chop) (n t : Nat) : Option Nat :=
  if c.ticks n t = 0 then none
  else
    let u := c.until_ n t
    some (c.freeOff n ((c.cuts.filter (fun x => x.1 = n)).foldl (fun y x =>
      let z := c.freeOff n y
      if x.2.1 < z && z ≤ x.2.2.getD u then x.2.1 else y) u))

/-! The gates of the transfer stage (R316, R319, R320, R322). -/

/-- The XFER_ON and XFER_OFF entries whose gate enable has still to change, 2 ticks after them (R132). -/
def State.gatePending (s : State) : List Nat := s.plan.gateAt.filter (fun e => s.clk < e + 2)

/-- The gate enable as it stands at the gates (R132). -/
def State.gateNow (s : State) : Bool := s.plan.gateEnable != (s.gatePending.length % 2 == 1)

/-- The stage switches: in RUN once its gate enable has come on, for 2 ticks after an XFER_OFF too (R132, log entry 140), or in the on-half of
the excitation, from t0 on, while XferAllowed is above 0 (R324, R333); a hand-over of the power path suspends it (R322). -/
def State.switching (s : State) : Bool :=
  s.mode.handover.isNone &&
    ((s.gateNow && (s.xferState == 2 || (s.xferState == 1 && s.get Obj.xferAllowed != 0))) ||
      (s.xferState == 5 && s.get Obj.xferAllowed != 0 && s.loupe.point.any (fun p =>
        let ph := since48 s.ringTime p.t0 % max 1 p.period
        !later48 p.t0 s.ringTime && 16 ≤ ph && ph < p.period / 2)))

/-- What drives a gate of the stage: low, the on-times of the switching period, the synchronous rectifier, or the rectifier on its way to low
after switching has stopped, at most 8 us (R320, R327). -/
inductive GateDrive where
  | low | onTime | rectifier | releasing
deriving DecidableEq, Repr

/-- XferConfig DIRECTION is forward, which the Loupe excitation is too (R333, R334). -/
def State.stageForward (s : State) : Bool := bits (s.get Obj.xferConfig) 0 2 == 1 || s.xferState == 5

/-- The stage has stopped switching less than 8 us ago (R327). -/
def State.justStopped (s : State) : Bool :=
  (s.xfer.stop.map (·.2)).any (fun t => s.clk < t + 128) || s.xfer.lastOff.any (fun t => s.clk < t + 128)

/-- XGM (R316, R319, R320). -/
def State.xgm (s : State) : GateDrive :=
  if !s.on .bal then .low
  else if s.switching then (if s.stageForward then .rectifier else .onTime)
  else if s.stageForward && s.justStopped then .releasing
  else .low

/-- XGB (R316, R319). -/
def State.xgb (s : State) : GateDrive := if s.on .bal && s.switching && s.stageForward then .onTime else .low

/-! The Mirror channel and the permits (R399, R400, R409). -/

/-- The Mirror permit (R400). -/
def State.mirPermit (s : State) : Bool :=
  s.on .mir && s.safe.firstDone && !s.safe.latched && s.safe.selfFaults == 0

/-- This device drives nFAULT low (R407). -/
def State.nFault (s : State) : Bool :=
  !s.on .mir || !s.safe.firstDone || s.safe.latched || s.safe.selfFaults != 0

/-- The lowest-numbered cell with a latched comparator, 0 for none (R409). -/
def firstCell (m : Nat) : Nat :=
  match bitList m 24 with
  | [] => 0
  | i :: _ => i + 1

/-- The nFAULT pin reads low: this device or another one holds it low (R407, log entry 12). -/
def State.nFaultPin (s : State) : Bool := s.nFault || s.safe.nFaultOther

/-- The Mirror summary flags (R409). -/
def State.mirrorFlags (s : State) : Nat :=
  let ov := s.get Obj.mirrorOvTripped
  let uv := s.get Obj.mirrorUvTripped
  num s.mirPermit * 2 ^ 15 + num s.nFaultPin * 2 ^ 14 + num s.nFault * 2 ^ 13 + num (ov != 0) * 2 ^ 12 +
    num (uv != 0) * 2 ^ 11 + num (s.safe.selfFaults != 0) * 2 ^ 10 + num s.safe.sweep * 2 ^ 9 +
    num s.safe.defaults * 2 ^ 8 + firstCell (ov ||| uv)

/-- SRQ MODE (R411). -/
def State.srqMode (s : State) : Nat := bits (s.get Obj.srqConfig) 0 2

/-- The safety request is active at the last tick (R412). -/
def State.srqRequest (s : State) : Bool := s.srqMode != 0 && bit (s.get Obj.srqStatus) 4

/-- The node compares safety records (R424): the head always, another node with COMPARE. -/
def State.compares (s : State) : Bool := s.isHead || bit (s.get Obj.safeDataConfig) 0

/-- What a comparing node keeps of an address. -/
def State.safeNode (s : State) (a : Nat) : SafeNode :=
  (s.safe.nodes.find? (fun n => n.node = a)).getD ⟨a, none, false⟩

/-- Address a holds RING_SAFE false (R428). -/
def State.holdsUnsafe (s : State) (a : Nat) : Bool :=
  let n := s.safeNode a
  n.packTrip || (s.compares &&
    (n.accepted.isNone || s.get Obj.safeTolerance < bits (s.get (Obj.safeNodeStatus + a)) 8 8))

/-- SafeTripMap (R428). -/
def State.tripMap (s : State) : Nat :=
  ofBits 63 (fun a => bit (s.get Obj.nodeMap) a && s.holdsUnsafe a)

/-- RING_SAFE (R428); a node that does not compare applies the PACK_TRIP part alone. -/
def State.ringSafe (s : State) : Bool := (!s.compares || !s.faultOn 0x20) && s.tripMap == 0

/-- The supervisor permit: every condition of R399. -/
def State.supPermit (s : State) : Bool :=
  s.modeIn bankModes && s.on .sup && s.supReady && s.get Obj.cenRequest == 1 && !s.safeFault && !s.srqRequest &&
    !s.faultOn 0x21 && !s.faultOn 0x23 && (!bit (s.get Obj.safeDataConfig) 1 || s.ringSafe)

/-- PACK_TRIP of SAFE_STATE (R424). -/
def State.packTripNow (s : State) : Bool := !s.mirPermit || s.modeCode == Mode.safeMode || s.srqRequest

/-- SAFE_STATE of a safety record (R424). -/
def State.safeState (s : State) (urgent : Bool) : Nat :=
  num urgent * 2 ^ 15 + num s.safe.cenOn * 2 ^ 14 + num s.supPermit * 2 ^ 13 + num s.mirPermit * 2 ^ 12 +
    num s.packTripNow * 2 ^ 11 + num (s.faultOn 0x22) * 2 ^ 10 + num (s.faultOn 0x21) * 2 ^ 9 +
    num (s.faultOn 0x23) * 2 ^ 8 + num (s.faultOn 0x24) * 2 ^ 7 + num (!s.supReady) * 2 ^ 6

/-- CenStatus (R423). -/
def State.cenStatus (s : State) : Nat :=
  num s.safe.cfb * 2 ^ 7 + num s.safe.lastTested * 2 ^ 6 + num s.safe.testing.isSome * 2 ^ 5 + num s.safe.staticOk * 2 ^ 4 +
    num s.mirPermit * 2 ^ 2 + num s.supPermit * 2 + num s.safe.cenOn

/-! The ring's view of itself (R382, R383). -/

/-- LaneService STATE (R397): 0 DUAL, 1 SINGLE_CW, 2 SINGLE_CCW, 3 ISOLATED. -/
def State.laneState (s : State) : Nat := bits (s.get Obj.laneService) 0 2

/-- A port serves (R378). -/
def State.serving (s : State) (p : Side) : Bool :=
  bit (s.get Obj.laneService) (match p with | .north => 4 | .south => 5)

/-- The current epoch (R352). -/
def State.epoch (s : State) : Nat := s.get Obj.ringEpoch

/-- RingTimeStatus STATE (R118): 0 FREE, 1 ACQUIRE, 2 LOCKED, 3 HOLDOVER, 4 HEAD. -/
def State.timeState (s : State) : Nat := bits (s.get Obj.ringTimeStatus) 0 3

/-- A MASTER session is open at the port (R57). -/
def State.masterSession (s : State) : Option Session := s.port.sessions.find? (fun x => x.role = 2)

end Sys2Proof.Machine
end

