-- ==== Sys2Proof/Machine/Events.lean ====
section
/-! DEFINITION. What leaves the block: the output queue of the host port and its events (R60 to R63), the node's own ring frames
(R347, R350 to R360), EVENT records (R394, R395) and safety records (R424, R425); the notification count (R19); and what every command
ends with, the settling of the permits and of the balancing gates. -/

namespace Sys2Proof.Machine

/-! The output queue (R62). -/

/-- The port works while the SUP domain is powered and out of reset (R29, log entry 13). -/
def State.portUp (s : State) : Bool := s.on .sup && s.get Obj.supervisorState != 2 && s.get Obj.supervisorState != 3

/-- A slot of the event kind. -/
def OutKind.isEvent : OutKind → Bool
  | .event _ => true
  | _ => false

/-- A slot of the response kind. -/
def OutKind.isResponse : OutKind → Bool
  | .response _ => true
  | _ => false

/-- A slot of the result kind. -/
def OutKind.isResult : OutKind → Bool
  | .result => true
  | _ => false

/-- How many packets of a kind wait. -/
def countKind (f : OutKind → Bool) (q : List OutPkt) : Nat := (q.filter (fun p => f p.kind)).length

/-- The queue with its oldest result set discarded. -/
def dropOldestResult : List OutPkt → List OutPkt
  | [] => []
  | p :: q => if p.kind.isResult then q else p :: dropOldestResult q

/-- A packet of R42 as bytes. -/
def packetBytes (op tag addr index sub : Nat) (data : List Nat) : List Nat :=
  [op, tag, addr] ++ leBytes 2 index ++ [sub] ++ leBytes 2 data.length ++ data

/-- The 12-byte event record (R60). -/
def eventRecord (code src detail stamp seq : Nat) : List Nat :=
  [code, src, detail, 0] ++ leBytes 6 stamp ++ leBytes 2 seq

/-- The state with a packet at the end of the output queue. -/
def State.queue (s : State) (p : OutPkt) : State := { s with port := { s.port with outQ := s.port.outQ ++ [p] } }

/-- An event at the port: delivered while EventMask enables its code and an event slot is free, counted as lost otherwise
(R59, R60, R62). Its packet has the node that the event comes from in ADDR as well as in byte 1 of its record (R42, R61, log entry 123). -/
def portEvent (code src detail stamp : Nat) (s : State) : State :=
  if !s.portUp || !bit (s.get Obj.eventMask) code then s
  else if countKind OutKind.isEvent s.port.outQ < 12 then
    let rec_ := eventRecord code src detail stamp s.port.evSeq
    let t := s.queue ⟨.event code, packetBytes 0x88 (s.port.evSeq % 256) src 0 0 rec_⟩
    { t with port := { t.port with evSeq := (s.port.evSeq + 1) % 65536 } }
  else
    let t := s.count Obj.eventsLost 16
    { t with port := { t.port with evLost := sat 255 (s.port.evLost + 1) } }

/-- EVENTS_LOST as soon as a slot is free (R62). -/
def announceLost (s : State) : State :=
  if s.port.evLost != 0 && countKind OutKind.isEvent s.port.outQ < 12 then
    let n := s.port.evLost
    portEvent 5 s.address n s.ringTime { s with port := { s.port with evLost := 0 } }
  else s

/-- A result set for the host, whose TAG no rule gives (R43): the oldest one gives way when all 8 slots are taken (R62). -/
def portResult (node : Nat) (set : List Nat) (s0 : State) : State :=
  if !s0.portUp then s0
  else
    let pkt : OutPkt := ⟨.result, packetBytes 0x8A (s0.free 8) node 8 0 set⟩
    let s := s0.freeUsed
    if countKind OutKind.isResult s.port.outQ < 8 then s.queue pkt
    else
      let t := s.count Obj.streamLost 16
      ({ t with port := { t.port with outQ := dropOldestResult t.port.outQ } }).queue pkt

/-- nINT is held low: a response waits, or an event that EventMask enables; high impedance with SUP off (R63). -/
def State.nInt (s : State) : Bool :=
  s.on .sup && s.port.outQ.any (fun p =>
    match p.kind with
    | .response _ => true
    | .event c => bit (s.get Obj.eventMask) c
    | .result => false)

/-! The node's own frames (R347). -/

/-- The next SEQ of a frame type (R350). -/
def State.nextSeq (s : State) (type : Nat) : Nat := ((s.ring.seqs.find? (fun p => p.1 = type)).map (·.2)).getD 0

/-- An association list with a key at a value. -/
def assocSet {α : Type} (l : List (Nat × α)) (k : Nat) (v : α) : List (Nat × α) := (k, v) :: l.filter (fun p => p.1 != k)

/-- An own frame waits to be sent on the given lanes (R347). -/
def txFrame (type flags dst : Nat) (body : List Nat) (cw ccw : Bool) (s : State) : State :=
  let seq := s.nextSeq type
  { s with ring := { s.ring with
      txQ := s.ring.txQ ++ [⟨type, flags, dst, seq, body, cw, ccw⟩]
      seqs := assocSet s.ring.seqs type ((seq + 1) % 256) } }

/-- EVENT records that wait to be sent (R395). -/
def State.eventsWaiting (s : State) : Nat := (s.ring.txQ.filter (fun f => f.type = 8)).length

/-- An EVENT record for the ring: of a node that holds an address, for the codes of R394; a record that finds 16 waiting is lost
and counted (R395). -/
def ringEvent (code detail : Nat) (s : State) : State :=
  if s.address = 0 || !s.on .rng || !([1, 2, 3, 6, 7, 8].contains code) then s
  else if s.eventsWaiting < 16 then
    txFrame 8 0 63 (eventRecord code s.address detail s.ringTime (s.nextSeq 8)) true true s
  else
    let t := s.count Obj.ringEventsLost 16
    { t with ring := { t.ring with eventsWait := sat 255 (t.ring.eventsWait + 1) } }

/-- EVENTS_LOST on the ring as soon as a place frees (R395). -/
def announceRingLost (s : State) : State :=
  if s.ring.eventsWait != 0 && s.eventsWaiting < 16 then
    let n := s.ring.eventsWait
    txFrame 8 0 63 (eventRecord 5 s.address n s.ringTime (s.nextSeq 8)) true true
      { s with ring := { s.ring with eventsWait := 0 } }
  else s

/-- The device emits an event: at its own port, and as an EVENT record on the ring (R60, R394). -/
def event (code detail : Nat) (s : State) : State := ringEvent code detail (portEvent code s.address detail s.ringTime s)

/-- An item for the core (R17, R19), a result that is ready, a source that has set or a command from the ring: the core reads each at once
while it runs (log entry 14); while it is away 32 items wait, and a further one is discarded and counted. -/
def notify (s : State) : State :=
  if s.supReady then { s with notifyQ := 0 }
  else if s.notifyQ < 32 then { s with notifyQ := s.notifyQ + 1 }
  else s.count Obj.notifyLost 16

/-! Safety records (R359, R424, R425). -/

/-- The 16 bytes of a safety record. -/
def safetyRecord (s : State) (urgent : Bool) : List Nat :=
  let r := [s.address, s.safe.alive] ++ leBytes 4 s.cycle ++ leBytes 2 s.mirrorFlags ++ leBytes 2 (s.safeState urgent) ++
    [s.modeCode, 0]
  r ++ leBytes 4 (crcSafety r)

/-- A safety record on both lanes. -/
def sendSafety (urgent : Bool) (s : State) : State :=
  if s.address = 0 || !s.on .rng then s else txFrame 4 0 63 (safetyRecord s urgent) true true s

/-- The regular record of a cycle start (R424, R425). -/
def regularRecord (s : State) : State :=
  sendSafety false { s with safe := { s.safe with alive := (s.safe.alive + 1) % 256, record := 0 } }

/-- A regular record is due (1), or waits for what takes effect at the same boundary (2). -/
def recordAt (n : Nat) (s : State) : State := { s with safe := { s.safe with record := n } }

/-! Settling. -/

/-- The tick after the end of an aperture, in clock ticks. -/
def Aperture.clkStop (a : Aperture) : Nat := a.clkA + 12 * (128 * 2 ^ a.osr)

/-- What the conduction of the gates leaves behind: an aperture that a gate change reaches before its end sees it, 2 ticks after
the command (R132, R172), and a switch that stops is stamped 1 us after it (R172). -/
def settleGates (s : State) : State :=
  let p := s.mayConduct
  let m := s.conductMask &&& p
  let stopped := s.cells.conducting - (s.cells.conducting &&& m)
  { s with
    cells := { s.cells with
      apertures := s.cells.apertures.map (fun a =>
        if s.clk + 2 < a.clkStop then { a with conduct := a.conduct ||| p } else a)
      tOff := (bitList stopped 24).foldl (fun l i => assocSet l (i + 1) (s.clk + 16)) s.cells.tOff
      conducting := m } }

/-- The ticks of an interval of ring time that lie outside the first 16 of a balancing frame (R294). -/
def frameTicks (t dt : Nat) : Nat :=
  let f (x : Nat) : Nat := x / ms * (ms - 16) + (x % ms - 16)
  f (t + dt) - f t

/-- The ticks of the next `dt` from tick `a` of them on in which a gate that conducts (`on`) or not, and changes over after each of some times,
conducts outside the first 16 ticks of a balancing frame (R132, R285, R294); `t` is the ring time now. -/
def gateTicks (t dt : Nat) : List Nat → Bool → Nat → Nat
  | [], on, a => if on then frameTicks (t + a) (dt - a) else 0
  | d :: ds, on, a => (if on then frameTicks (t + a) (min d dt - a) else 0) + gateTicks t dt ds (!on) (min d dt)

/-- Without a plan the collision window of the fault sources is the 1 ms interval of ring time (R463). -/
def standbyWindow (dt : Nat) (s : State) : State :=
  if !s.planRuns && (s.ringTime + dt) / ms != s.ringTime / ms then { s with flt := { s.flt with setIn := 0, clearedIn := 0 } } else s

/-- Ticks in a second. -/
abbrev second : Nat := 16000000

/-- The modulator output in nV at a shunt voltage (R195, R207): the voltage, clipped at the span, after CurrentZeroOffset. -/
def State.modulator (s : State) (volts : Int) : Int :=
  max (-320000000) (min 320000000 volts) - s.getInt Obj.currentZeroOffset 16 * 40

/-- The integral in nV ticks that `n` ticks from clock tick `t` on add (R198, R199): at a voltage, and from the ticks of some later ones on at
those. -/
def State.integral (s : State) (t n : Nat) (volts : Int) : List (Nat × Int) → Int
  | [] => s.modulator volts * n
  | (u, w) :: l => s.modulator volts * min n (u - t) + s.integral (max t u) (n - (u - t)) w l

/-- What the next `n` ticks add, in nV ticks (R198, R199): nothing in the 2 ms of a current converter loop-back (R483). -/
def State.charge (s : State) (n : Nat) : Int :=
  let upTo (k : Nat) : Int := s.integral s.clk (min n k) s.cur.volts s.cur.next
  match s.cur.mutedAt with
  | none => upTo n
  | some m => upTo n - (upTo (m + 2 * ms - s.clk) - upTo (m - s.clk))

/-- The counter and its residue `n` ticks on (R198): it adds the modulator output, and what is below 1 nV s is carried. -/
def State.counterAfter (s : State) (n : Nat) : Nat × Nat :=
  let x : Int := s.charge n + s.cur.residue
  (ofInt 48 ((s.cur.counter : Int) + x / second), (x % second).toNat)

/-- The shunt voltage that the counter adds `n` ticks on. -/
def State.voltsAfter (s : State) (n : Nat) : Int :=
  (s.cur.next.takeWhile (fun p => p.1 ≤ s.clk + n)).foldl (fun _ p => p.2) s.cur.volts

/-- The counter runs for `n` ticks, while ICX is on (R199). -/
def integrate (n : Nat) (s : State) : State :=
  let t := { s with cur := { s.cur with
    volts := s.voltsAfter n
    next := s.cur.next.dropWhile (fun p => p.1 ≤ s.clk + n) } }
  if !s.on .icx then t
  else { t with cur := { t.cur with counter := (s.counterAfter n).1, residue := (s.counterAfter n).2 } }

/-- The ticks of the next `dt` in which a slice has switch n conduct (R300, R476): the intervals end one microsecond after the switch does
(R172). -/
def State.testTicks (s : State) (n dt : Nat) : Nat :=
  ((s.cells.tests.filter (fun t => t.1 = n)).map (fun t => min (s.clk + dt) (t.2.2 - 16) - max s.clk t.2.1)).sum

/-- What the time before a command adds to the counts of time: BalOnTime, the switches that have conducted in the frame, XferOnTime, the
operation of the SUP domain (R305, R334, R485), and the coulomb counter (R198). -/
def elapse (dt : Nat) (s0 : State) : State :=
  let s := integrate dt (standbyWindow dt s0)
  let r := if s.supReady then { s with test := { s.test with supTicks := s.test.supTicks + dt } } else s
  let t := if s.xferState = 2 || s.xferState = 5 then { r with xfer := { r.xfer with onTicks := r.xfer.onTicks + dt } } else r
  let p := if s.modeIn outputModes then { s with plan := { s.plan with held := 0 } }.mayConduct else 0
  let on (i : Nat) : Nat :=
    (if bit p i then gateTicks s.ringTime dt (s.gateTurns (i + 1)) (s.gateOpen (i + 1)) 0 else 0) + s.testTicks (i + 1) dt +
      (s.loupe.chops.map (fun c => c.ticks (i + 1) (s.clk + dt) - c.ticks (i + 1) s.clk)).sum
  { t with bal := { t.bal with
      onTicks := t.bal.onTicks.zipIdx.map (fun x => x.1 + on x.2)
      conducted := t.bal.conducted ||| ofBits 24 (fun i => on i != 0) } }

/-- A permit that is not given opens both CEN switches and ends a test uncounted (R416, R419). -/
def openCen (s : State) : State := { s with safe := { s.safe with cenOn := false, testing := none } }

/-- The permits after a command: CEN opens without them (R416); an urgent record leaves when PACK_TRIP rises or a permit drops
(R425); the time since both are given is kept (R417). -/
def settlePermits (s : State) : State :=
  let sp := s.supPermit
  let mp := s.mirPermit
  let pt := s.packTripNow
  let t := if sp && mp then s else openCen s
  let u := if (s.safe.permitSup && !sp) || (s.safe.permitMir && !mp) || (pt && !s.safe.packTrip) then sendSafety true t else t
  { u with safe := { u.safe with
      permitSup := sp
      permitMir := mp
      packTrip := pt
      permitSince := if s.safe.permitSup && s.safe.permitMir then s.safe.permitSince else s.clk } }

/-- A regular record that is due leaves; one that waits for the next command becomes due (R425). -/
def settleRecord (s : State) : State :=
  if s.safe.record = 0 then s
  else if s.safe.record = 1 then regularRecord s
  else recordAt 1 s

/-- What every command ends with. -/
def settle (s : State) : State := settlePermits (settleRecord (settleGates s))

/-- The state as a command finds it, `dt` ticks after the one before it. -/
def State.found (s : State) (dt : Nat) : State := advance dt (elapse dt s)

/-- The form of every meaning: time passes, with what it adds to the counts of conduction, then the effect, then the settling. -/
def effect (dt : Nat) (f : State → State) (s : State) : State := settle (f (s.found dt))

/-- A command whose operands exist on the wire and at the pins has its effect; one with operands that no wire and no pin can bring is no
command of the part, and only its time passes (log entry 101). -/
def run (ok : Bool) (dt : Nat) (f : State → State) (s : State) : Host.Outcome State Fault Refusal :=
  .next (effect dt (if ok then f else id) s)

end Sys2Proof.Machine
end

