-- ==== Sys2Proof/Machine/Actions.lean ====
section
/-! DEFINITION. The actions that many commands share: the fault sources (R453 to R463), entry into SAFE and every other mode change
(R88 to R94), the end of a transfer or Loupe session (R313, R328), the abort of slices (R470), the start of the ROM minimal plan (R239,
R264) and the reset of blocks. -/

namespace Sys2Proof.Machine

/-! The fault log (R458). -/

/-- An entry of the log, newest first, at most 32. Flags: 8 SET, 9 LATCHED, 10 COLLISION, 11 HOST, 12 AUTO. -/
def faultLog (c flags : Nat) (s : State) : State :=
  let e := s.ringTime * 2 ^ 16 + flags + c
  { s.wrap Obj.faultLogCount 32 with flt := { s.flt with log := (e :: s.flt.log).take 32 } }

/-- A source of the kind that recovers after a quiet period (R454). -/
def faultKindQ (c : Nat) : Bool := !([0x12, 0x13, 0x14, 0x15, 0x21, 0x23].contains c)

/-- The objects of source c (R457): key of the first index plus 256 per source. -/
abbrev faultObj (base c : Nat) : Nat := base + c * 256

/-- A collision of source c (R463). -/
def faultCollision (c : Nat) (s : State) : State :=
  faultLog c (2 ^ 10) (s.count (faultObj Obj.faultCollisionCount c) 16)

/-- The quiet period of source c starts, if its status is set (R460). -/
def faultEnd (c : Nat) (s : State) : State :=
  let q := s.faultOn c && faultKindQ c && !bit s.flt.latched c
  { s with flt := { s.flt with
      cond := setBit s.flt.cond c false
      quiet := if q then setBit s.flt.quiet c true else s.flt.quiet
      quietAt := if q then assocSet s.flt.quietAt c s.clk else s.flt.quietAt } }

/-- The recovery condition of source c lapses, without a recurrence: its quiet period does not run on, and starts anew when the condition
holds again (R460). -/
def faultLapse (c : Nat) (s : State) : State :=
  if s.faultOn c then { s with flt := { s.flt with cond := setBit s.flt.cond c true, quiet := setBit s.flt.quiet c false } } else s

/-- The status of source c clears (R459, R462): by recovery (`auto`) or by the host. -/
def faultClear (c : Nat) (auto : Bool) (s : State) : State :=
  let t := faultLog c (if auto then 2 ^ 12 else 2 ^ 11) s
  let u := { t with flt := { t.flt with
    status := setBit t.flt.status c false
    latched := setBit t.flt.latched c false
    quiet := setBit t.flt.quiet c false } }
  let v := if c = 0x11 then u.setBitOf Obj.balStatus 4 false else u
  if bit s.flt.warn c then event 2 c v else v

/-! Slices (R466 to R470). -/

/-- The result of a slice of a kind (R469): 1 PASS, 2 FAIL, 3 NOT_RUN, 4 INCOMPLETE, with its target; a slice that carried a token
counts. A switch test without a result reads NOT_RUN or INCOMPLETE in BalSwitchResult too (R300, R301). -/
def sliceResult (kind target result : Nat) (token : Bool) (s : State) : State :=
  let k := Obj.sliceLast + kind
  let n := (bits (s.get k) 0 16 + num token) % 2 ^ 16
  let t0 := s.set k (result * 2 ^ 28 + target * 2 ^ 16 + n)
  let t := if kind = 4 && 3 ≤ result then t0.set (Obj.balSwitchResult + target) (0xFFFF0000 + (if result = 3 then 7 else 8)) else t0
  if result = 3 then t.count Obj.sliceNotRun 32 else if result = 4 then t.count Obj.sliceIncomplete 32 else t

/-- The state with the state code of channel n changed; ShadowResult has ABS set for a channel that is not RETIRED (R157). -/
def setChannel (n c : Nat) (s : State) : State :=
  let t := s.set (Obj.channelState + n) c
  if c = 2 then t else t.clear (Obj.shadowResult + n)

/-- Spare k starts a take-over of a cell: it enters ARMING (R149). A channel that is on its way back from it goes on (R152). -/
def armSpare (k cell : Nat) (cover : Bool) (s : State) : State :=
  let o := Obj.spareState + k
  (s.set o (setBits (setBits (s.get o) 0 3 1) 8 8 cell)).setSp k
    { SpareEng.free with cover := cover, since := s.clk, back := (s.sp k).back }

/-- A spare that serves the channel that has claimed it goes on covering it, and the channel, whose input is open, is RETIRED (R152). -/
def coverHere (k cell : Nat) (s : State) : State :=
  let o := Obj.spareState + k
  let t := (setChannel cell 2 (s.set o (setBits (s.get o) 0 3 3))).keep Obj.retiredMask (setBit (s.get Obj.retiredMask) (cell - 1) true)
  let u := t.setSp k { t.sp k with cover := true, claim := 0 }
  { u with cells := { u.cells with retiring := setBit u.cells.retiring (cell - 1) false } }

/-- The hand-back of spare k starts (R150): its cell's channel reconnects. A spare that a retirement has claimed goes on to that
cell at once, and the channel returns without an overlap aperture (R152). -/
def handBack (k : Nat) (s : State) : State :=
  let e := s.sp k
  let cell := s.spareCell k
  if cell = 0 then s
  else if e.claim = cell then coverHere k cell s
  else if e.claim != 0 then
    let t := armSpare k e.claim true s
    t.setSp k { t.sp k with back := cell }
  else s.setSp k { e with returning := true, cover := false, overlapDue := true, since := s.clk }

/-- A spare is free of its cell at once, without an overlap aperture. -/
def freeSpare (k : Nat) (s : State) : State :=
  let chk := bits (s.get (Obj.spareState + k)) 7 1
  (s.set (Obj.spareState + k) (chk * 2 ^ 7)).setSp k SpareEng.free

/-- The switches that the running slices of kinds 04h and 05h force off: the one under test and its neighbours (R300, R476). -/
def forcedBy (l : List Slice) : Nat :=
  (l.filter (fun x => x.kind = 4 || x.kind = 5)).foldl
    (fun m x => [x.target - 1, x.target, x.target + 1].foldl (fun m n => if 1 ≤ n && n ≤ 24 then setBit m (n - 1) true else m) m) 0

/-- The running slices force their switches off, which the chopping that runs follows too (R300, R309, R476). -/
def forceSwitches (s : State) : State :=
  let f := forcedBy s.test.slices
  let turn (c : Chop) : Chop :=
    let new := ((bitList (c.mask &&& f) 24).filter (fun i => !bit s.bal.forced i)).map (fun i => (i + 1, s.clk, none))
    let old := c.cuts.map (fun x => if x.2.2.isNone && !bit f (x.1 - 1) then (x.1, x.2.1, some s.clk) else x)
    if c.stop.isSome then c else { c with cuts := new ++ old }
  { s with
    bal := { s.bal with forced := f }
    loupe := { s.loupe with chops := s.loupe.chops.map turn } }

/-- The conductions that a slice was to force end now, with their microsecond (R172, R470). -/
def cutTests (n clk : Nat) (l : List (Nat × Nat × Nat)) : List (Nat × Nat × Nat) :=
  l.filterMap (fun x =>
    if x.1 != n || x.2.2 ≤ clk + 16 then some x else if clk ≤ x.2.1 then none else some (x.1, x.2.1, clk + 16))

/-- The blocks that a slice holds go back to normal: forcing ends, the sweep ends, its spare starts its hand-back (R470). -/
def sliceRelease (sl : Slice) (s : State) : State :=
  let t := if sl.kind = 4 || sl.kind = 5 then
      forceSwitches { s with cells := { s.cells with tests := cutTests sl.target s.clk s.cells.tests } }
    else s
  let u := if sl.kind = 6 then { t with safe := { t.safe with sweep := false } } else t
  if sl.kind = 1 && sl.spare != 0 then handBack sl.spare u else u

/-- The running slices that `p` picks end without their token (R470), but for those whose token has come already (R473). -/
def abortSlices (p : Slice → Bool) (s : State) : State :=
  (s.test.slices.filter p).foldl
    (fun t sl => sliceRelease sl (if sl.told then t else sliceResult sl.kind sl.target 4 false t))
    { s with test := { s.test with slices := s.test.slices.filter (fun sl => !p sl) } }

/-! Retirement (R152). -/

/-- The covering spare of channel n (R152): a FREE one of its half, the other FREE one, or one in SLICE that is not claimed;
true for the last kind. -/
def State.coverFor (s : State) (n : Nat) : Option (Nat × Bool) :=
  let order := if n ≤ 12 then [1, 2] else [2, 1]
  match order.find? (fun k => s.spare k = 0) with
  | some k => some (k, false)
  | none => (order.find? (fun k => s.spare k = 2 && (s.sp k).claim = 0 && !(s.sp k).returning)).map (fun k => (k, true))

/-- A retirement takes a spare under its own loop-back: that slice ends (R471). -/
def spareSlice (k : Nat) (sl : Slice) : Bool := (sl.kind == 2 && k == 1) || (sl.kind == 3 && k == 2)

/-- 06h SPARE_EXHAUSTED follows the states of the spares while both halves are powered (R155): each spare is in COVER or FAULTY. -/
def State.exhausted (s : State) : Bool :=
  let held (k : Nat) : Bool := s.spare k == 3 || s.spare k == 5
  held 1 && held 2

/-- The spare that a slice has brought to cell n at this very tick (R152). -/
def State.coincides (s : State) (n : Nat) : Option Nat :=
  [1, 2].find? (fun k => s.spare k = 1 && s.spareCell k = n && !(s.sp k).returning && !(s.sp k).cover && (s.sp k).since = s.clk)

/-- Channel n is decided to retire (R152): a slice take-over of the same cell at the same tick becomes its cover, a spare arms or is claimed,
or the channel is FAULTY. -/
def retireChannel (n : Nat) (s : State) : State :=
  let mark (t : State) : State := { t with cells := { t.cells with retiring := setBit t.cells.retiring (n - 1) true } }
  match s.coincides n with
  | some k =>
    let t := (s.test.slices.filter (fun sl => sl.spare = k)).foldl
      (fun u sl => sliceResult sl.kind sl.target 4 false u)
      { s with test := { s.test with slices := s.test.slices.filter (fun sl => sl.spare != k) } }
    mark (t.setSp k { t.sp k with cover := true })
  | none =>
    match s.coverFor n with
    | some (k, false) => mark (armSpare k n true (abortSlices (spareSlice k) s))
    | some (k, true) => mark (s.setSp k { s.sp k with claim := n })
    | none => setChannel n 3 { s with cells := { s.cells with retiring := setBit s.cells.retiring (n - 1) false } }

/-- The cover of each retired channel in one of some states is re-established, in order of ascending channel number (R141, R156), once the
converters are powered. -/
def coverAgain (states : List Nat) (s : State) : State :=
  if !s.on .cva || !s.on .cvb then s
  else (bitList (s.get Obj.retiredMask) 24).foldl (fun t i =>
    if i + 1 ≤ t.cellCount && states.contains (t.get (Obj.channelState + (i + 1))) && !bit t.cells.retiring i then
      retireChannel (i + 1) t else t) s

/-- The cover of each retired channel that serves its cell itself is re-established (R141, R156). -/
def restoreCovers (s : State) : State := coverAgain [0] s

/-! Transfer and Loupe sessions. -/

/-- A transfer session runs: REST, RUN or PAUSE (R324). -/
def State.xferRuns (s : State) : Bool := s.xferState == 1 || s.xferState == 2 || s.xferState == 3

/-- A session's end trigger falls at the present tick, at which further triggers count too (R328). -/
def State.endsNow (s : State) : Bool := s.xfer.stop.any (fun p => p.2 = s.clk)

/-- A session runs, or has met its end trigger at this very tick (R328). -/
def State.sessionNow (s : State) : Bool := s.xferRuns || s.endsNow

/-- A transfer session or a Loupe session with TRANSFER excitation runs (R325, R333). -/
def State.stageRuns (s : State) : Bool := s.xferRuns || s.xfer.loupe

/-- XferStatus STATE as the first trigger of the present tick found it, if one has ended a session or an excitation (R328, R333). -/
def State.stageState (s : State) : Nat :=
  match s.xfer.haltAt with
  | some (t, st) => if t = s.clk then st else s.xferState
  | none => s.xferState

/-- The stage is in a session, its end trigger at this very tick included (R328, R331, R333). -/
def State.stageNow (s : State) : Bool := s.sessionNow || s.xfer.loupe

/-- The safety-timer count in ms (R330). -/
def State.xferElapsedMs (s : State) : Nat :=
  match s.xfer.start with
  | some t => sat (2 ^ 32 - 1) ((s.clk - t) / ms)
  | none => s.get Obj.xferElapsed

/-! The dwell of the power path (R79); the hand-overs follow in Machine/Modes.lean. -/

/-- XBS_VALID (R87). -/
def State.xbsValid (s : State) : Bool := bit (s.get Obj.powerPathStatus) 3

/-- XBS_OV (R87). -/
def State.xbsOv (s : State) : Bool := bit (s.get Obj.powerPathStatus) 4

/-- The session's direction is forward (R334). -/
def State.forward (s : State) : Bool := bits (s.get Obj.xferConfig) 0 2 == 1

/-- PowerPathStatus STATE: 0 STACK, 1 TO_XBS, 2 XBUS, 3 TO_STACK (R78, R87). -/
def State.pathState (s : State) : Nat := bits (s.get Obj.powerPathStatus) 0 2

/-- The conditions of R79. -/
def State.dwellHolds (s : State) : Bool :=
  s.get Obj.powerPathPolicy == 1 && s.xbsValid && !s.xbsOv && !(s.xferRuns && !s.forward) &&
    s.modeCode != Mode.ship && s.mode.shutdown != some Mode.ship && s.pathState == 0 && s.mode.handover.isNone

/-- The dwell runs while its conditions hold (R79). -/
def dwellFollow (s : State) : State :=
  let b := s.dwellHolds
  { s.setBitOf Obj.powerPathStatus 5 b with mode := { s.mode with dwell := b } }

/-- Another end trigger at the tick of the one that started the stop sequence: the lowest code is recorded (R328). -/
def alsoEnds (code : Nat) (s : State) : State :=
  match s.xfer.stop with
  | some (c, t) =>
    if t = s.clk && code < c then
      { s with xfer := { s.xfer with stop := some (code, t), ended := s.xfer.ended.map (fun _ => code) } }
    else s
  | none => s

/-- A transfer session ends with an END code, and the stop sequence starts (R327, R328); with a reverse session what bars the dwell ends
(R79). -/
def endTransfer (code : Nat) (s : State) : State :=
  if !s.xferRuns then alsoEnds code s
  else
    let e := s.xferElapsedMs
    let t := (((s.setField Obj.xferStatus 0 4 4).setBitOf Obj.xferStatus 4 false).setBitOf Obj.xferStatus 5 false).set
      Obj.xferElapsed e
    dwellFollow { t with
      xfer := { t.xfer with
        start := none, ended := some code, stop := some (code, t.clk), haltAt := some (t.clk, s.xferState), chargeDue := true }
      plan := { t.plan with gateEnable := false, gateAt := [] } }

/-- The stop sequence is complete: both gates are low, END is written, and no session is left (R327). -/
def writeEnd (s : State) : State :=
  match s.xfer.stop with
  | some (c, _) =>
    let t := (s.setField Obj.xferStatus 24 8 c).setField Obj.xferStatus 0 4 0
    { t with xfer := { t.xfer with stop := none, thermalRun := false } }
  | none => s

/-- A transfer session ends by a change of mode for which R328 gives no END code: END is a free value (log entry 18). -/
def endTransferOpen (s : State) : State := if s.xferRuns then (endTransfer (s.free 8) s).freeUsed else s

/-- The chopping that runs stops at the gate change that the command makes (R132, R309). -/
def stopChop (s : State) : State :=
  { s with loupe := { s.loupe with
      chops := s.loupe.chops.map (fun c => if c.stop.isNone then { c with stop := some (s.clk + 2) } else c) } }

/-- Switches of a mask are locked out, and so no longer chopped (R309). -/
def unchop (m : Nat) (s : State) : State :=
  { s with loupe := { s.loupe with
      point := s.loupe.point.map (fun p => { p with chopped := p.chopped - (p.chopped &&& m) })
      chops := s.loupe.chops.map (fun c =>
        if c.stop.isNone then { c with offs := (bitList (c.mask &&& m) 24).map (fun i => (i + 1, s.clk + 2)) ++ c.offs } else c) } }

/-- The result code of a Loupe point is written (R312): its results read 80000000h unless it is VALID. -/
def loupeFinish (p : LoupePoint) (code : Nat) (s : State) : State :=
  let t := s.set (Obj.loupePointStatus + p.point + 1) (code * 2 ^ 28 + p.samples.length % 2 ^ 24)
  let u := t.setBitOf Obj.loupeSessionStatus p.point true
  if code = 1 then u
  else
    (List.range 24).foldl (fun w i =>
      (w.set (Obj.loupeZReal + p.point * 256 + i + 1) 0x80000000).set (Obj.loupeZImag + p.point * 256 + i + 1) 0x80000000) u

/-- STATE leaves EXCITE (R324, R333). -/
def leaveExcite (s : State) : State := if s.xferState = 5 then s.setField Obj.xferStatus 0 4 0 else s

/-- The Loupe point in progress ends with a result code other than VALID (R308, R312). -/
def loupeEndPoint (code : Nat) (s : State) : State :=
  match s.loupe.point with
  | none => s
  | some p =>
    let w := leaveExcite (loupeFinish p code s)
    stopChop { w with loupe := { w.loupe with point := none }, plan := { w.plan with loupeOn := false } }

/-- The excitation of the Loupe point stops (R239, R313). -/
def stopExcitation (s : State) : State :=
  let t := stopChop { s with
    loupe := { s.loupe with point := s.loupe.point.map (fun p => { p with exciting := false }) }
    plan := { s.plan with loupeOn := false } }
  leaveExcite t

/-- The stage's part in a Loupe session ends; XferElapsed keeps its last value (R330, R333). -/
def stageEnds (s : State) : State :=
  if s.xfer.loupe then
    let t := s.set Obj.xferElapsed s.xferElapsedMs
    { t with xfer := { t.xfer with start := none, loupe := false, thermalRun := false, chargeDue := true } }
  else s

/-- The Loupe session ends; an unfinished point ends INCOMPLETE (R313). -/
def endLoupe (s : State) : State :=
  if !bit (s.get Obj.loupeSessionStatus) 16 then s
  else
    let t := stageEnds ((loupeEndPoint 2 s).setBitOf Obj.loupeSessionStatus 16 false)
    { t with loupe := { t.loupe with expired := false, endAtBoundary := false, refs := [] } }

/-! Plan starts (R239, R264). -/

/-- The gate enable goes off: RUN and PAUSE become REST (R325, R329). -/
def restStage (s : State) : State :=
  if s.xferState = 2 || s.xferState = 3 then
    let t := ((s.setField Obj.xferStatus 0 4 1).setBitOf Obj.xferStatus 4 false).setBitOf Obj.xferStatus 5 false
    { t with
      plan := { t.plan with gateEnable := false, gateAt := [] }
      xfer := { t.xfer with lastOff := some t.clk, overRun := 0, signRun := 0 } }
  else s

/-- Every output of the plan closes: all switches held, currents off, gates disabled, Loupe excitation stopped (R239, R278). -/
def closeOutputs (s : State) : State :=
  let u := restStage (stopExcitation s)
  { u with
    plan := { u.plan with held := 0xFFFFFF, heldAt := [], cellCurrents := false, axPulls := 0, gateEnable := false, gateAt := [], loupeOn := false }
    cells := if u.plan.cellCurrents then
        { u.cells with
          wireOff := some u.clk
          apertures := u.cells.apertures.map (fun a => if u.clk ≤ a.clkA then { a with diag := false, ref := [] } else a) }
      else u.cells
    aux := { u.aux with pullRef := [] } }

/-- A spare lets go of a cell above the new count (R141): it goes on to the channel that has claimed it, or is FREE; a channel that is on
its way back from it goes on. -/
def releaseSpare (k n : Nat) (s : State) : State :=
  let e := s.sp k
  if e.claim != 0 && e.claim ≤ n then armSpare k e.claim true s
  else
    let t := freeSpare k s
    t.setSp k { SpareEng.free with back := e.back, since := e.since }

/-- The cell count comes into effect at the start of a plan (R140, R141): the spares that cover a channel above it are
released, and a retired channel within it is covered again. -/
def applyCellCount (s : State) : State :=
  let n := s.get Obj.cellCount
  let t := { s with cells := { s.cells with count := n }, safe := { s.safe with cells := n } }
  let u := [1, 2].foldl (fun u k => if n < u.spareCell k then releaseSpare k n u else u) t
  let v := ((List.range 24).filter (fun i => n ≤ i)).foldl (fun w i => (setChannel (i + 1) 0 w).clear (Obj.cellResult + (i + 1))) u
  restoreCovers { v with cells := { v.cells with
    retiring := v.cells.retiring % 2 ^ n, releasing := v.cells.releasing % 2 ^ n, reinstate := v.cells.reinstate % 2 ^ n } }

/-- The Mirror codes of R403, before their limit to 0 to 255. -/
def mirrorRaw (s : State) : Int × Int :=
  let g : Int := 20 + (s.get Obj.mirrorDrift : Nat)
  (((s.get Obj.mirrorOvLimit : Nat) - g - 1800) * 2 / 25, -(-(((s.get Obj.mirrorUvLimit : Nat) + g - 500) * 2) / 25))

/-- A code is limited at 0 or 255 (R403). -/
def State.codeLimited (s : State) : Bool :=
  let (o, u) := mirrorRaw s
  o < 0 || 255 < o || u < 0 || 255 < u

/-- The device recomputes the Mirror codes and sends them to the MIR island (R403). -/
def mirrorCodes (s : State) : State :=
  let (o, u) := mirrorRaw s
  let t := (s.set Obj.mirrorCodes ((max 0 (min 255 o)).toNat * 256 + (max 0 (min 255 u)).toNat)).set Obj.mirrorGuardBand
    (20 + s.get Obj.mirrorDrift)
  { t with safe := { t.safe with defaults := false } }

/-- A bank has started, an enumeration has ended, or the node has taken over: it takes a fresh baseline of the safety records (R426). -/
def safeBaseline (s : State) : State :=
  { s with safe := { s.safe with
      nodes := s.safe.nodes.map (fun n => { n with accepted := none })
      copies := [] } }

/-- A collision window begins (R463). -/
def newWindow (s : State) : State := { s with flt := { s.flt with setIn := 0, clearedIn := 0 } }

/-- The ticks from a ring time to the next one that is a multiple of 16000, that of the wrap of ring time included (R110, R264). -/
def romCycle (t : Nat) : Nat := min (ms - t % ms) (2 ^ 48 - t)

/-- The ROM minimal plan starts now (R239, R264, R281). -/
def startRom (s : State) : State :=
  let t := mirrorCodes (applyCellCount (closeOutputs (abortSlices (fun _ => true) (newWindow s))))
  let u := ((t.set Obj.cycleStart t.ringTime).set Obj.cycleCount 0).set Obj.adhocMaxGap 16000
  { recordAt 1 u with
    plan := { u.plan with running := RunningPlan.rom, startAt := none }
    cells := { u.cells with stk := [], sums := [], sumCycle := none }
    time := { u.time with cycleLen := romCycle u.ringTime, counted := false, pendingAdj := 0 } }

/-- The plan halts, at its cycle boundary (R96). -/
def haltPlan (s : State) : State :=
  let t := closeOutputs (abortSlices (fun _ => true) (newWindow s))
  { recordAt 0 t with plan := { t.plan with running := RunningPlan.none, startAt := none } }

/-! Mode changes (R88, R89, R93). -/

/-- ICX powers up: the counter is restored from the AO register, and the gap is counted (R202). -/
def icxUp (s : State) : State :=
  { s.count Obj.counterGapCount 16 with
    cur := { s.cur with counter := s.cur.retained, prevLatch := s.cur.retained, residue := 0, latched := none }
    aux := { s.aux with notYet := 2 ^ 30 - 1 } }

/-- ICX powers down: the counter is kept in the AO register (R202), a conversion ends without a result (R11), and the Facet bus stops and
will start anew (R234). -/
def icxDown (s : State) : State :=
  { s with
    cur := { s.cur with retained := s.cur.counter }
    aux := { s.aux with busy := none }
    facet := FacetEng.empty }

/-- The power domains of each mode, as DomainStatus shows them (R88). -/
def modeDomains (m : Nat) : Nat :=
  if m = Mode.ship then 0x001
  else if m = Mode.sleep then 0x203
  else if m = Mode.standby then 0x2E3
  else if m = Mode.balance || m = Mode.transfer || m = Mode.loupe || m = Mode.selftest then 0x3FF
  else 0x2FF

/-- DomainStatus of a mode; a SUP domain in reset or held keeps its bit at 0 (R14). -/
def domainsFor (m : Nat) (s : State) : Nat :=
  let d := modeDomains m
  if bit d 6 && (s.get Obj.supervisorState = 3 || s.get Obj.supervisorState = 2) then setBit d 6 false else d

/-- The first ring time that is a multiple of 160000 and at least 2 ms away (R264); ring time wraps to 0 (R110). -/
def bankStartTime (t : Nat) : Nat :=
  let up (x : Nat) : Nat := (x + 159999) / 160000 * 160000
  let x := t + 2 * ms
  if up x < 2 ^ 48 then up x else up (x - 2 ^ 48)

/-- The modes whose plan is the active bank (R88). -/
abbrev runsBank (m : Nat) : Bool := bankModes.contains m || m == Mode.safeMode

/-- The plan that the new mode runs (R88, R264): a bank mode starts the active bank at its S0, another mode returns to the ROM
minimal plan; SAFE without a usable bank runs the ROM minimal plan. SAFE is entered at once (R94), but where a switch is pending its bank
starts with the swap of the roles, for which `startAt` then stands at START. -/
def planForMode (m : Nat) (s : State) : State :=
  if runsBank m then
    if s.plan.running = RunningPlan.bank then s
    else
      let t := if s.plan.running = RunningPlan.none then startRom s else s
      if m = Mode.safeMode && t.plan.switchAt.isSome then { t with plan := { t.plan with startAt := t.plan.switchAt } }
      else if t.active.valid then
        { t with plan := { t.plan with startAt := some (bankStartTime t.ringTime) } }
      else t
  else if m = Mode.standby || m = Mode.sleep || m = Mode.ship then haltPlan s
  else if s.plan.running = RunningPlan.rom then { s with plan := { s.plan with startAt := none } }
  else startRom s

/-- A foreground set that is still running ends INCOMPLETE, with the slices of its step in progress (R482, R483, R492). -/
def selftestEnds (s : State) : State :=
  if bits (s.get Obj.selftestStatus) 0 4 = 1 then
    let t := (abortSlices (fun _ => true) s).setField Obj.selftestStatus 0 4 4
    { t with test := { t.test with set := [], loopPos := none } }
  else s

/-- The device sets BalEnable to 0, which acts at once (R298, R299). -/
def disableBalancing (s : State) : State :=
  { s.set Obj.balEnable 0 with bal := { s.bal with enabled := 0 } }

/-- The slices that a change into a mode ends: every one where SLICE has no effect (R238, R470), and those on the balancing switches where BAL
is off (R300, R466, R470). -/
def modeCuts (m : Nat) (sl : Slice) : Bool := !runsBank m || ((sl.kind == 4 || sl.kind == 5) && !bit (modeDomains m) 8)

/-- The transition to a mode takes effect (R89, R92): ModeStatus, the domains, the outputs that the mode closes, the slices it ends
(R470), its plan, and MODE_CHANGED (R60). -/
def changeMode (m cause : Nat) (s0 : State) : State :=
  let s := selftestEnds s0
  let a := ((s.setField Obj.modeStatus 8 8 s.modeCode).setField Obj.modeStatus 0 8 m).setField Obj.modeStatus 24 8 cause
  let p := a.set Obj.domainStatus (domainsFor m a)
  let b := if !a.on .icx && p.on .icx then icxUp p else p
  let c := if m = Mode.safeMode || m = Mode.configHold then (disableBalancing b).set Obj.cenRequest 0 else b
  let d := abortSlices (modeCuts m) c
  event 3 m (planForMode m { d with mode := { d.mode with auto := none } })

/-- The codes of R91 that R95 judges a staged request by when an automatic transition takes its place: the lowest of 01h, 02h,
03h, 04h, 09h and 07h that apply to the target in the new mode, 08h in the place of 07h for a DEGRADE source. -/
def requestable (mode target : Nat) : Bool :=
  target == mode ||
  (if mode = Mode.standby then [Mode.ship, Mode.sleep, Mode.ready]
   else if mode = Mode.configHold then [Mode.ship, Mode.sleep, Mode.ready, Mode.update]
   else if mode = Mode.ready then
     [Mode.ship, Mode.sleep, Mode.standby, Mode.configHold, Mode.measure, Mode.selftest, Mode.update]
   else if mode = Mode.measure then [Mode.ready, Mode.balance, Mode.transfer, Mode.loupe]
   else if mode = Mode.balance then [Mode.ready, Mode.measure, Mode.transfer, Mode.loupe]
   else if mode = Mode.transfer then [Mode.ready, Mode.measure, Mode.balance]
   else if mode = Mode.loupe then [Mode.ready, Mode.measure]
   else if mode = Mode.selftest then [Mode.ready]
   else if mode = Mode.safeMode then [Mode.ready, Mode.configHold]
   else []).contains target

/-- The modes that R91 names for codes 02h and 03h. -/
abbrev activeTargets : List Nat := [Mode.ready, Mode.measure, Mode.balance, Mode.transfer, Mode.loupe, Mode.selftest]

/-- The running firmware slot is in trial: TRIAL_BOOTED set and CONFIRMED clear (R507, R511). -/
def State.inTrial (s : State) : Bool :=
  let f := if s.nvm.runningB then s.nvm.slotB else s.nvm.slotA
  f.trialBooted && !f.confirmed

/-- XbsVoltage in mV (R77). -/
def State.xbsMv (s : State) : Nat := s.get Obj.xbsVoltage * 10

/-- The refusal of a transfer request (R323): the lowest code that applies, 0 for none. -/
def xferRefusal (s : State) : Nat :=
  if s.faultOn 0x12 || s.faultOn 0x13 || s.faultOn 0x14 || s.faultOn 0x15 then 1
  else if !(imageEntries s.active.image).any (fun e => entryAction e = 0x0A) then 2
  else if s.xfer.nxfltLow then 3
  else if !s.xfer.vgdOk then 4
  else if s.forward && s.xbsMv < s.get Obj.xferBusFloor then 5
  else if !s.forward && s.xbsOv then 6
  else 0

/-- An enabled Loupe point has a frequency or a period count that R306 refuses. -/
def loupeBadPoint (s : State) : Bool :=
  (bitList (s.get Obj.loupePointMask) 16).any (fun p =>
    let f := s.get (Obj.loupeFrequency + p + 1)
    f < 100 || 2000000 < f || bits (s.get (Obj.loupePeriods + p + 1)) 16 16 == 0)

/-- The refusal of a Loupe request (R306): the lowest code that applies, 0 for none. -/
def loupeRefusal (s : State) : Nat :=
  let exc := bits (s.get Obj.loupeConfig) 0 2
  let shunt := bits (s.get Obj.loupeConfig) 8 6
  if s.get Obj.loupePointMask = 0 then 1
  else if loupeBadPoint s then 2
  else if exc = 1 && (!s.xbsValid || (s.xferRuns && !s.forward)) then 3
  else if exc = 2 && (shunt = 0 || !bit (s.get Obj.nodeMap) shunt) then 4
  else if !(imageEntries s.active.image).any (fun e => entryAction e = 0x0C && bits (leAt e 8 4) 4 4 == 1) then 5
  else 0

/-- The reasons of R91 for a target, given as a set of codes; `busy` adds 07h. -/
def refusalCodes (target : Nat) (busy : Bool) (s : State) : List Nat :=
  let mir := s.get Obj.mirrorOvTripped != 0 || s.get Obj.mirrorUvTripped != 0
  let out := outputModes.contains target
  [(1, !requestable s.modeCode target),
   (2, activeTargets.contains target && (s.safeFault || mir)),
   (3, activeTargets.contains target && bits (s.get Obj.configCheck) 0 8 != 0),
   (4, bankModes.contains target && !s.active.valid),
   (5, target == Mode.transfer && s.forward && !s.xbsValid),
   (6, (target == Mode.transfer && xferRefusal s != 0) || (target == Mode.loupe && loupeRefusal s != 0)),
   (7, busy),
   (8, out && s.degradeFault),
   (9, bankModes.contains target && s.inTrial)].filterMap (fun p => if p.2 then some p.1 else none)

/-- The refusal code of a request (R91): the lowest that applies. -/
def refusal (target : Nat) (busy : Bool) (s : State) : Option Nat := (refusalCodes target busy s).head?

/-- The code for a request that an automatic transition overtakes, judged in the mode that it leads to (R95): 07h joins the reasons, and 08h
takes its place where a DEGRADE source has caused the transition (ModeStatus CAUSE 09h, R456). -/
def overtakenCode (target : Nat) (s : State) : Nat :=
  let c := (refusal target true s).getD 7
  if c = 7 && bits (s.get Obj.modeStatus) 24 8 = 9 then 8 else c

/-- A staged request that an automatic transition overtakes is refused (R95). -/
def overtake (s : State) : State :=
  match s.mode.staged with
  | none => s
  | some r =>
    let t := { s with mode := { s.mode with staged := none, reverseWait := false } }
    t.setField Obj.modeStatus 16 8 (overtakenCode r t)

/-- The modes from which a SAFE source leads to SAFE (R93). -/
abbrev safeFrom : List Nat :=
  [Mode.standby, Mode.ready, Mode.measure, Mode.balance, Mode.transfer, Mode.loupe, Mode.selftest]

/-- Entry into SAFE at once (R94): a transfer session ends with END 05h, a Loupe session ends, the outputs close, and requests of this plan
cycle are refused (R95). -/
def enterSafe (s : State) : State :=
  if s.modeIn safeFrom then
    let t := overtake (changeMode Mode.safeMode 3 (endLoupe (endTransfer 5 s)))
    { t with mode := { t.mode with autoTaken := true } }
  else s

/-- The state with an automatic transition that waits for the next boundary (R93); one to CONFIG HOLD stays in place. -/
def stageAuto (target cause : Nat) (s : State) : State :=
  match s.mode.auto with
  | some a => if a.target = Mode.configHold then s else { s with mode := { s.mode with auto := some ⟨target, cause⟩ } }
  | none => { s with mode := { s.mode with auto := some ⟨target, cause⟩ } }

/-- Source c sets, or recurs (R455, R459, R460): a recurrence restarts the quiet period; a setting is logged, may latch, and acts on
its severity, a DEGRADE source by the transition to MEASURE at the next boundary (R93, R456); 24h counts each occurrence as a new setting, after
an automatic recovery with its event. The tick belongs to the window that a change of the plan begins at it (R463). -/
def faultOccur (c : Nat) (s : State) : State :=
  let hit := bit s.flt.clearedIn c
  let a := { s with flt := { s.flt with
    cond := setBit s.flt.cond c true
    quiet := setBit s.flt.quiet c false
    setIn := setBit s.flt.setIn c true
    clearedIn := setBit s.flt.clearedIn c false } }
  let b := if hit then faultCollision c a else a
  if s.faultOn c && c != 0x24 then b
  else
    let d := if s.faultOn c then (faultClear c true b).count (faultObj Obj.faultRecoveryCount c) 8 else b
    let lim := d.get (faultObj Obj.faultRecoveryLimit c)
    let latch := c = 0x21 || c = 0x23 || (faultKindQ c && lim != 255 && lim ≤ d.get (faultObj Obj.faultRecoveryCount c))
    let sev := if c ≤ 1 then 3 else d.get (faultObj Obj.faultSeverity c)
    let e := faultLog c (2 ^ 8 + num latch * 2 ^ 9) { d with flt := { d.flt with
      status := setBit d.flt.status c true
      latched := setBit d.flt.latched c latch
      warn := setBit d.flt.warn c (1 ≤ sev)
      degrade := setBit d.flt.degrade c (sev == 2)
      safe := setBit d.flt.safe c (sev == 3) } }
    let f := notify (if 1 ≤ sev then event 1 c e else e)
    let inWindow (x : State) : State := { x with flt := { x.flt with setIn := setBit x.flt.setIn c true } }
    if sev = 3 then inWindow (enterSafe f) else if sev = 2 && f.modeIn outputModes then stageAuto Mode.measure 9 f else f

/-- A source whose condition is an instant: it sets, and its quiet period starts (R460). -/
def faultPulse (c : Nat) (s : State) : State := faultEnd c (faultOccur c s)

/-- The source follows a condition: it sets when the condition comes to hold, its quiet period starts when it ends. -/
def faultFollow (c : Nat) (holds : Bool) (s : State) : State :=
  if holds then (if bit s.flt.cond c && s.faultOn c then s else faultOccur c s)
  else if bit s.flt.cond c then faultEnd c s else s

/-! The transfer faults (R331, R332). -/

/-- The FET input reads 5.0 degrees or more above XferFetTempLimit (R331). -/
def State.fetHot (s : State) : Bool :=
  let n := s.get Obj.xferFetTempSource
  n != 0 && s.axTemp n != 0x8000 && s.getInt Obj.xferFetTempLimit 16 + 50 ≤ toInt 16 (s.axTemp n)

/-- The condition of a transfer source still holds once the gates are off: XBS_OV for 15h, the FET temperature for 14h; the other rows
are instants. -/
def transferHolds (c : Nat) (s : State) : Bool := (c == 0x15 && s.xbsOv) || (c == 0x14 && s.fetHot)

/-- The gates are off: the conditions that were instants have ended (R332). -/
def gatesOff (s : State) : State :=
  [0x12, 0x13, 0x14, 0x15].foldl (fun t c => if bit t.flt.cond c && !transferHolds c t then faultEnd c t else t) s

/-- A transfer source sets: a transfer session ends with its END code, a TRANSFER excitation stops and its point ends (R313, R328, R331, R333). -/
def transferFault (c code : Nat) (s : State) : State :=
  let a := endTransfer code s
  let b := if a.xferState = 5 then loupeEndPoint 2 (stopExcitation { a with xfer := { a.xfer with haltAt := some (a.clk, 5) } }) else a
  let d := faultOccur c b
  if d.xferState = 4 then d else gatesOff d

/-- 14h while the FET input is too hot in a session, from its first tick on (R331). -/
def fetCheck (s : State) : State := if s.stageNow && s.fetHot then transferFault 0x14 3 s else s

end Sys2Proof.Machine
end

