-- ==== Sys2Proof/Machine/Checks.lean ====
section
/-! DEFINITION. The integrity checks of R440 that several blocks share: the reads and the wear of the NVM (R496, R503), the words of the bound
and calibration tables (R446), the records with their recomputation from the raw snapshots (R442, R443), the sets at hand-off H3
(R441, R445), and the remaining margins (R491). -/

namespace Sys2Proof.Machine

/-! The NVM (R496, R503). -/

/-- A lasting fault of the NVM (R496, R515): 01h a read, 02h a program verify, 03h an erase verify, 04h a boot image. -/
def slotFault (kind addr : Nat) (s : State) : State := faultOccur 0x27 (s.set Obj.nvmLastFault (kind * 2 ^ 24 + addr % 2 ^ 18))

/-- A read ends: a first failure that the second read cures is transient, another one lasting (R496). -/
def readEnds (ok again : Bool) (addr : Nat) (s : State) : State :=
  if ok then s else if again then s.count Obj.nvmRereads 32 else slotFault 1 addr s

/-- The condition of 28h NVM_WEAR (R503). -/
def State.wearHolds (s : State) : Bool :=
  s.nvm.log.any (fun x => x.state = 3 || s.get Obj.nvmWearLimit ≤ x.erases) ||
    (List.range 8).any (fun i => s.get (Obj.nvmRegionMargin + (i + 1)) < s.get Obj.nvmMarginLimit)

/-- 28h follows its condition (R503). -/
def nvmWear (s : State) : State := faultFollow 0x28 s.wearHolds s

/-- A region of the NVM has been programmed: its age starts again (R515). -/
def programRegion (r : Nat) (s : State) : State :=
  { s.set (Obj.nvmRegionAge + r) 0 with nvm := { s.nvm with ageAt := s.nvm.ageAt.set (r - 1) s.clk } }

/-- The byte address of a calibration copy (R493). -/
def calAddress (copy1 : Bool) : Nat := if copy1 then 0x39000 else 0x38000

/-! The integrity objects (R443, R447). -/

/-- 08h RESULT_INTEGRITY follows its condition: a cell converter whose latest record failed, a faulty table word, or a set discarded with
none good since (R443, R446). -/
def resultIntegrity (s : State) : State :=
  faultFollow 8 (bits s.cells.badConv 1 26 != 0 || s.cells.tableBad != [] || s.ring.setBad) s

/-- The recovery condition of 0Ah CURRENT_INTEGRITY: the checks pass, the counter is not suspect and the latest record is good (R208). -/
def currentIntegrity (s : State) : State :=
  let fail := s.cells.convFail.any (fun p => p.1 = 27 && p.2 != 0)
  if fail || s.cur.copyBad || s.cur.checkBad || s.cur.recBad then faultLapse 0x0A s else faultFollow 0x0A false s

/-- IntegrityLast (R447). -/
def integrityLast (site conv cycle : Nat) (s : State) : State :=
  s.set Obj.integrityLast (site * 2 ^ 24 + conv * 2 ^ 16 + cycle % 256)

/-! Margins (R491). -/

/-- A margin in whole percent: floored, and limited to 0 to 100. -/
def percent (num_ den : Int) : Nat := (max 0 (min 100 (num_ / max 1 den))).toNat

/-- The margin of a used part of a limit. -/
def marginOf (used limit : Nat) : Nat := percent (100 * ((limit : Int) - used)) limit

/-- The largest drift term of the converters in use (R491). -/
def State.cellUsed (s : State) : Nat :=
  let cs := ((List.range s.cellCount).map (· + 1)).filter (fun n => s.get (Obj.channelState + n) != 2 && s.get (Obj.channelState + n) != 3)
  let sp := ([1, 2].filter (fun k => bits (s.get (Obj.spareState + k)) 0 3 != 5)).map (· + 24)
  ((cs ++ sp).map (fun k => s.get (Obj.driftTerm + k))).foldl max 0

/-- The EYE margin (R491): that of the serving ports of which a scan has completed (log entry 22). -/
def State.eyeUsed (s : State) : Nat :=
  let l := s.get Obj.eyeMarginLimit
  let es := ([(1, Side.north), (2, Side.south)].filter (fun p => s.serving p.2 && bit s.test.eyeDone p.1)).map
    (fun p => s.get (Obj.eyeMargin + p.1))
  match es.min? with
  | none => 100
  | some e => percent (100 * ((e : Int) - l)) (100 - l)

/-- STEER_MEAN of the last record, in 0.01 ppm (R486, R491). -/
def State.steerMean (s : State) : Nat :=
  match (((s.requestedRecs.filter (fun r => r.stream = 3)).getLast?).map (·.data)) <|> s.ledger.head? with
  | none => 0
  | some r => (toInt 16 (leAt r 24 2)).natAbs

/-- The margins CELL, MIRROR, CURRENT, EYE and OSC (R491). -/
def State.marginList (s : State) : List Nat :=
  let a := s.get Obj.ageingLimits
  [marginOf s.cellUsed (bits a 24 8), if s.codeLimited then 0 else marginOf (s.get Obj.mirrorDrift) (bits a 8 8),
    marginOf (s.get Obj.currentDriftTerm) (bits a 16 8), s.eyeUsed, marginOf s.steerMean (100 * bits a 0 8)]

/-- The lowest cause code that applies, 0 for none (R491). -/
def State.marginCause (s : State) : Nat :=
  let zero (i : Nat) : Bool := s.marginList.getD i 100 == 0
  if zero 0 then 1 else if s.codeLimited then 3 else if zero 1 then 2 else if zero 2 then 4 else if zero 3 then 5
  else if zero 4 then 6 else 0

/-- The margins after a change of an input, and 2Bh AGEING_MARGIN (R491). -/
def margins (s : State) : State :=
  let t := s.setField Obj.marginStatus 0 40 (ofLe s.marginList)
  if s.marginCause = 0 then faultFollow 0x2B false t
  else if bit t.flt.cond 0x2B && t.faultOn 0x2B then t
  else faultOccur 0x2B (t.set Obj.ageingMarginCause s.marginCause)

/-- The margins follow where a change of the channels, the spares, the cell count or the ports has moved one (R491). -/
def marginsFollow (s : State) : State := if bits (s.get Obj.marginStatus) 0 40 = ofLe s.marginList then s else margins s

/-! Table words (R446). -/

/-- A table word that failed its check is read again from calibration copy 0, and from copy 1 where that fails too (R446, R496, R497): a good
copy is written back; without one the fault is lasting, 27h sets at an address of the calibration that the spec does not name (log entry 4), and
08h follows. -/
def scrubWord (x : TableWord) (s : State) : State :=
  let l := s.cells.tableBad.filter (· != x.converter)
  if x.copy0 || x.copy1 then
    readEnds x.copy0 x.copy1 (calAddress false) (({ s with cells := { s.cells with tableBad := l } }).count Obj.boundTableRefetch 32)
  else
    let t := (slotFault 1 (calAddress false + s.free 12) s).freeUsed
    integrityLast 4 x.converter 0
      (({ t with cells := { t.cells with tableBad := x.converter :: l } }).count Obj.integrityLasting 32)

/-- The table words that failed at a use or in a pass (R446). -/
def scrubWords (words : List TableWord) (s : State) : State :=
  if words.isEmpty then s else resultIntegrity (words.foldl (fun t x => scrubWord x t) s)

/-! Records (R158, R189). -/

/-- A cell record (R158). -/
def cellWord (v : Int) (bound : Nat) (sub rec_ sat : Bool) : Nat :=
  ofInt 20 v * 2 ^ 12 + bound % 256 * 16 + num sub * 8 + num rec_ * 4 + num sat * 2

/-- VALUE of a cell record. -/
def cellValue (w : Nat) : Int := toInt 20 (w / 2 ^ 12)

/-- BOUND of a cell record. -/
def cellBound (w : Nat) : Nat := bits w 4 8

/-- A cell record whose VALUE stays and whose BOUND is FFh. -/
def cellInvalid (w : Nat) : Nat := setBits w 4 8 0xFF

/-- The limits of VALUE (R160), and whether they apply. -/
def clampCell (v : Int) : Int × Bool := if 520000 < v then (520000, true) else if v < -50000 then (-50000, true) else (v, false)

/-- The value of a current record after the trim, at the limits of R190, and whether they apply (log entry 143). -/
def clampCurrent (v trim : Int) : Int × Bool :=
  let w := max (-8000000) (min 8000000 (v - trim))
  (w, w != v - trim)

/-- The reading of a converter. -/
def rawOf (cells : List CellRaw) (r1 r2 : CellRaw) (c : Nat) : CellRaw :=
  if c = 25 then r1 else if c = 26 then r2 else cells.getD (c - 1) r1

/-- BOUND of the record of converter c. -/
def boundOf (c w : Nat) : Nat := if c = 27 then w % 256 else cellBound w

/-- The record of converter c whose VALUE stays and whose BOUND is FFh (R443). -/
def invalidOf (c w : Nat) : Nat := if c = 27 then setBits w 0 8 0xFF else cellInvalid w

/-- What the snapshot store keeps of converter c: the cell of its record, 0 for none in the set, and the bound that the record used. -/
def RawSnapshot.terms (x : RawSnapshot) (c : Nat) : Option (Nat × Nat) := (x.bounds.find? (fun b => b.1 = c)).map (·.2)

/-- The record of converter c computed again from its raw word and the stored terms, with REC set (R442, R443). -/
def RawSnapshot.record (x : RawSnapshot) (c : Nat) : Nat :=
  let b := ((x.terms c).map (·.2)).getD 255
  if c = 27 then ofInt 24 (clampCurrent x.cur.value x.trim).1 * 256 + b
  else
    let r := rawOf x.cells x.s1 x.s2 c
    let (v, out) := clampCell r.value
    cellWord v b (24 < c) true (out || r.stuck)

/-- The record that takes the place of the failed one `w` (R443); a bound that was withdrawn after the record was computed stays so. -/
def RawSnapshot.recompute (x : RawSnapshot) (c w : Nat) : Nat :=
  if boundOf c w = 255 then (if c = 27 then w else setBit w 2 true) else x.record c

/-- The snapshot of an aperture, while it is retained: to the end of the cycle after the one of its CONVERT, and among the 64 most recent
(R442). -/
def State.snapshotOf (s : State) (a : Nat) : Option RawSnapshot := s.cells.snapshots.find? (fun x => x.a = a)

/-- A record of a converter has passed its checks, or been found lasting (R443). -/
def noteRecord (bad : Bool) (c : Nat) (s : State) : State :=
  if c = 27 then { s with cur := { s.cur with recBad := bad } }
  else { s with cells := { s.cells with badConv := setBit s.cells.badConv c bad } }

/-- A record fault at a hand-off that a recomputation or a second read has cured (R443, R447). -/
def transientRecord (site : Nat) (s : State) : State := s.count (Obj.integrityTransients + site) 32

/-- A record fault at a hand-off that is lasting (R443, R447): 08h, or 0Ah for the current record, with IntegrityLast. -/
def lastingRecord (site c cycle : Nat) (s : State) : State :=
  faultOccur (if c = 27 then 0x0A else 8) (noteRecord true c (integrityLast site c cycle (s.count Obj.integrityLasting 32)))

/-! Sets at H3 (R441, R445). -/

/-- A byte sequence with some bytes in the place of those from byte i on. -/
def patch (bs : List Nat) (i : Nat) (new : List Nat) : List Nat := bs.take i ++ new ++ bs.drop (i + new.length)

/-- Where the record of converter c stands in the set of a snapshot's aperture (R241). -/
def RawSnapshot.place (x : RawSnapshot) (c : Nat) : Option Nat :=
  if c = 27 then some 112 else (x.terms c).bind (fun p => if p.1 = 0 then none else some (12 + 4 * p.1))

/-- A record of a set fails its word check: its recomputation takes its place, or it carries BOUND FFh (R443). -/
def rebuildRecord (x : RawSnapshot) (c : Nat) (ok : Bool) (bs : List Nat) (s : State) : List Nat × State :=
  match x.place c with
  | none => (bs, s)
  | some i =>
    let w := leAt bs i 4
    if ok then (patch bs i (leBytes 4 (x.recompute c w)), transientRecord 3 s)
    else (patch bs i (leBytes 4 (invalidOf c w)), lastingRecord 3 c (leAt bs 2 4) s)

/-- A set rebuilt from its snapshots carries RECOMPUTED and a new CRC-32C (R241, R445). -/
def sealSet (bs : List Nat) : List Nat :=
  let b := bs.set 12 (setBit (bs.getD 12 0) 2 true)
  b.take 124 ++ leBytes 4 (crc32c (b.take 124))

/-- A set has passed H3. -/
def setPasses (s : State) : State := resultIntegrity { s with ring := { s.ring with setBad := false } }

/-- A set that fails again is discarded, and the next one carries its charge too (R445). -/
def discardSet (bs : List Nat) (s : State) : State :=
  let t := integrityLast 5 0 (leAt bs 2 4) ((s.count Obj.integrityDiscards 32).count Obj.integrityLasting 32)
  resultIntegrity { t with
    ring := { t.ring with setBad := true }
    cur := { t.cur with carryNum := t.cur.carryNum + toInt 32 (leAt bs 116 4) * t.cur.carryDen } }

/-- H3 of a set (R441, R443, R445): the set as it leaves, none when it is discarded. While the snapshots of its aperture are retained it is
rebuilt with the recomputed records; otherwise it is read again. REC goes to the records whose word check failed (log entry 148). -/
def checkSet (x : SetCheck) (bs : List Nat) (s : State) : Option (List Nat) × State :=
  if x.bad.isEmpty && x.setOk then (some bs, setPasses s)
  else
    let crc (t : State) : State := if x.setOk then t else transientRecord 3 t
    match s.snapshotOf (leAt bs 6 6) with
    | some r =>
      let (b, t) := x.bad.foldl (fun p c => rebuildRecord r c.1 c.2 p.1 p.2) (bs, s)
      if x.rereadOk then (some (sealSet b), setPasses (crc t)) else (none, discardSet bs t)
    | none =>
      let t := x.bad.foldl (fun t c => if c.2 then transientRecord 3 t else lastingRecord 3 c.1 (leAt bs 2 4) t) s
      if x.rereadOk && x.bad.all (·.2) then (some bs, setPasses (crc t)) else (none, discardSet bs t)

end Sys2Proof.Machine
end

