-- ==== Sys2Proof/Machine/Fixed.lean ====
section
/-! DEFINITION. The exponential, the logarithm, sine and cosine that some rules use (R172, R220, R302, R310, R476), in fixed point
with 80 fractional bits (log entry 20). -/

namespace Sys2Proof.Machine

/-- One, in the fixed point of this file. -/
abbrev fixOne : Nat := 2 ^ 80

/-- exp(-1). -/
abbrev fixInvE : Nat := 444738954937557665364703

/-- pi / 2. -/
abbrev fixHalfPi : Nat := 1898976236818169290393997

/-- ln 2. -/
abbrev fixLn2 : Nat := 837963523372001241319908

/-- The alternating series whose first term is `t` and whose term `k` is the one before times `x2 / ((k + a) * (k + b))`, with the
index stepping by `step`: `n` terms. -/
def altSeries (x2 step : Nat) (den : Nat → Nat) : Nat → Nat → Nat → Int
  | 0, _, _ => 0
  | n + 1, k, t => (t : Int) - altSeries x2 step den n (k + step) (t * x2 / (fixOne * den k))

/-- exp(-x) for a fixed-point x below one. -/
def fixExpFrac (x : Nat) : Nat := (altSeries x 1 (fun k => k) 30 1 fixOne).toNat

/-- A fixed-point power with a natural exponent. -/
def fixPow (b : Nat) : Nat → Nat
  | 0 => fixOne
  | n + 1 => fixPow b n * b / fixOne

/-- exp(-n / d), with 0 from an exponent of 60 on. -/
def fixExpNeg (n d : Nat) : Nat :=
  if d = 0 || 60 * d ≤ n then 0
  else fixExpFrac (n % d * fixOne / d) * fixPow fixInvE (n / d) / fixOne

/-- The odd powers of z, each over its exponent: `n` terms. -/
def oddSeries (z z2 : Int) : Nat → Nat → Int
  | 0, _ => 0
  | n + 1, k => z / k + oddSeries (z * z2 / fixOne) z2 n (k + 2)

/-- ln(n / d) of two positive numbers. -/
def fixLn (n d : Nat) : Int :=
  let a := n.log2
  let b := d.log2
  let n' := n * 2 ^ b
  let d' := d * 2 ^ a
  let z := ((n' : Int) - d') * fixOne / (n' + d' : Nat)
  2 * oddSeries z (z * z / fixOne) 60 1 + ((a : Int) - b) * fixLn2

/-- sin and cos of a fixed-point angle in the first quadrant. -/
def fixSinCosQ (x : Nat) : Int × Int :=
  let x2 := x * x / fixOne
  (altSeries x2 2 (fun k => k * (k + 1)) 20 2 x, altSeries x2 2 (fun k => k * (k + 1)) 20 1 fixOne)

/-- sin and cos of n / d of a full turn. -/
def fixSinCos (n d : Nat) : Int × Int :=
  let q := 4 * n / d % 4
  let (s, c) := fixSinCosQ (4 * n % d * fixHalfPi / d)
  match q with
  | 0 => (s, c)
  | 1 => (c, -s)
  | 2 => (-s, -c)
  | _ => (-c, s)

end Sys2Proof.Machine
end

