-- ==== Sys2Proof/Machine/LineCode.lean ====
section
/-! DEFINITION. What stands on a transmit pair (R340 to R342, R379): the symbols of a frame at a generation, the chips of G1 and G2, the
8b/10b characters of G3, and the time that symbols take (R339, R375). -/

namespace Sys2Proof.Machine

/-- A symbol on a pair: a bit of a byte (G1, G2), a byte (G3), a delimiter or control symbol, or idle, which a port whose receiver is not UP
sends as remote-fault idle (R379). -/
inductive LineSym where
  | bit (b : Bool)
  | char (b : Nat)
  | sd | ed | abort | suspend | resume
  | idle (fault : Bool)
deriving DecidableEq, Repr

/-- The symbols of a byte at a generation: at G1 and G2 its bits, least significant first (R342). -/
def byteSyms (gen b : Nat) : List LineSym :=
  if gen = 3 then [.char b] else (List.range 8).map (fun i => .bit (Nat.testBit b i))

/-- The symbols of a frame, given as its bytes with 256 for ED or 257 for ABORT at the end (R342). -/
def frameSyms (gen : Nat) (line : List Nat) : List LineSym :=
  .sd :: line.flatMap (fun x => if x = 256 then [.ed] else if x = 257 then [.abort] else byteSyms gen x)

/-- A frame that a MARK has preempted after `n` symbols (R348): SUSPEND, the whole MARK and RESUME stand in it. -/
def withMark (gen n : Nat) (mark : List Nat) (syms : List LineSym) : List LineSym :=
  syms.take n ++ .suspend :: frameSyms gen mark ++ .resume :: syms.drop n

/-! Time (R339, R375), in twenty-fifths of a tick, that is 2.5 ns. -/

/-- The time of a bit at G1 and G2, of a character at G3. -/
def symUnit (gen : Nat) : Nat := if gen = 3 then 64 else if gen = 2 then 32 else 200

/-- The time of a symbol: at G1 and G2 a control symbol takes 3 bit times, and the least idle 8. -/
def symTime (gen : Nat) : LineSym → Nat
  | .bit _ => symUnit gen
  | .char _ => symUnit gen
  | .idle _ => symUnit gen * (if gen = 3 then 1 else 8)
  | _ => symUnit gen * (if gen = 3 then 1 else 3)

/-- The ticks that symbols hold a lane, rounded up. -/
def symTicks (gen : Nat) (l : List LineSym) : Nat := ((l.map (symTime gen)).sum + 24) / 25

/-- The ticks that a frame holds a lane, the least idle after it included (R375). -/
def frameTime (gen : Nat) (line : List Nat) : Nat := symTicks gen (frameSyms gen line ++ [.idle false])

/-- The symbols that have ended when `budget` units of time have passed: SUSPEND may come at the boundary after them (R348). -/
def symsDone (gen : Nat) : Nat → List LineSym → Nat
  | _, [] => 0
  | budget, x :: l => if symTime gen x ≤ budget then symsDone gen (budget - symTime gen x) l + 1 else 0

/-! The chips of G1 and G2 (R340). -/

/-- Chips from a pattern, H for true. -/
def chips : List Nat → List Bool := List.map (· == 1)

/-- The chips of a symbol (R340, R379): a 1 is low then high, a 0 high then low. -/
def manchester : LineSym → List Bool
  | .bit b => [!b, b]
  | .char b => (List.range 8).flatMap (fun i => [!Nat.testBit b i, Nat.testBit b i])
  | .sd => chips [1, 1, 1, 0, 0, 0]
  | .ed => chips [0, 0, 0, 1, 1, 1]
  | .abort => chips [1, 1, 1, 1, 0, 0]
  | .suspend => chips [0, 0, 0, 0, 1, 1]
  | .resume => chips [1, 1, 0, 0, 0, 0]
  | .idle fault => (List.replicate 8 [fault, !fault]).flatten

/-! The characters of G3 (R341). The spec names the 8b/10b code and its control characters; the tables are those of the code as it is generally
known (log entry 119). Bit a of a code is the highest of its binary number. -/

/-- abcdei of D.x at negative running disparity. -/
def sixCode (x : Nat) : Nat :=
  [0b100111, 0b011101, 0b101101, 0b110001, 0b110101, 0b101001, 0b011001, 0b111000,
   0b111001, 0b100101, 0b010101, 0b110100, 0b001101, 0b101100, 0b011100, 0b010111,
   0b011011, 0b100011, 0b010011, 0b110010, 0b001011, 0b101010, 0b011010, 0b111010,
   0b110011, 0b100110, 0b010110, 0b110110, 0b001110, 0b101110, 0b011110, 0b101011].getD x 0

/-- fghj of D.x.y at negative running disparity, with 8 for the alternate of y = 7. -/
def fourCode (y : Nat) : Nat :=
  [0b1011, 0b1001, 0b0101, 0b1100, 0b1101, 0b1010, 0b0110, 0b1110, 0b0111].getD y 0

/-- fghj of K.x.y at negative running disparity. -/
def fourControl (y : Nat) : Nat := [0b1011, 0b0110, 0b1010, 0b1100, 0b1101, 0b0101, 0b1001, 0b0111].getD y 0

/-- The bits of a code of `n` bits, the highest first. -/
def codeBits (n c : Nat) : List Bool := (List.range n).map (fun i => Nat.testBit c (n - 1 - i))

/-- The ones of a code less its zeros are none. -/
def balanced (l : List Bool) : Bool := 2 * (l.filter id).length == l.length

/-- A sub-block at a running disparity (true for positive), and the disparity after it; `both` says that a balanced code has two forms. -/
def subBlock (n c : Nat) (both rd : Bool) : List Bool × Bool :=
  let l := codeBits n c
  if balanced l then (if both && rd then l.map (!·) else l, rd) else (if rd then l.map (!·) else l, !rd)

/-- The alternate of D.x.7 keeps the code from five equal bits. -/
def alternateSeven (x : Nat) (rd : Bool) : Bool := if rd then [11, 13, 14].contains x else [17, 18, 20].contains x

/-- A data character (R341), with the running disparity after it. -/
def dataCode (b : Nat) (rd : Bool) : List Bool × Bool :=
  let x := b % 32
  let y := b / 32 % 8
  let (l, r) := subBlock 6 (sixCode x) (x == 7) rd
  let (m, q) := subBlock 4 (fourCode (if y = 7 && alternateSeven x r then 8 else y)) (y == 3) r
  (l ++ m, q)

/-- The control character K.x.y (R341), with the running disparity after it. -/
def controlCode (x y : Nat) (rd : Bool) : List Bool × Bool :=
  let (l, r) := subBlock 6 (if x = 28 then 0b001111 else sixCode x) false rd
  let (m, q) := subBlock 4 (fourControl y) true r
  (l ++ m, q)

/-- The characters of a symbol (R341, R379), with the running disparity after it; a bit stands for nothing at G3. -/
def tenBit (rd : Bool) : LineSym → List Bool × Bool
  | .bit _ => ([], rd)
  | .char b => dataCode b rd
  | .sd => controlCode 27 7 rd
  | .ed => controlCode 29 7 rd
  | .abort => controlCode 30 7 rd
  | .suspend => controlCode 23 7 rd
  | .resume => controlCode 28 0 rd
  | .idle fault =>
    let (l, r) := controlCode 28 5 rd
    if fault then
      let (m, q) := dataCode 0x4A r
      (l ++ m, q)
    else (l, r)

/-- The levels that symbols bring on a pair at a generation, in order; `rd` is the running disparity that they find at G3. -/
def wire (gen : Nat) : Bool → List LineSym → List Bool
  | _, [] => []
  | rd, x :: l => if gen = 3 then (tenBit rd x).1 ++ wire gen (tenBit rd x).2 l else manchester x ++ wire gen rd l

end Sys2Proof.Machine
end

