-- ==== Sys2Proof/Machine/Sessions.lean ====
section
/-! DEFINITION. Sessions and their transfers (R46, R52 to R58), the answers of commands, and the packets that a node sends on the
ring (R354, R356). -/

namespace Sys2Proof.Machine

/-! The clients of the port (R56, R69). -/

/-- The port is SPI: HostPortActive reads 01h (R59). -/
def State.onSpi (s : State) : Bool := s.get Obj.hostPortActive == 1

/-- The client of a packet at the port: on SPI the port has one (R56). -/
def State.client (s : State) (c : Nat) : Nat := if s.onSpi then 0 else c

/-- The session of a client at the port. -/
def State.session (s : State) (client : Nat) : Option Session :=
  s.port.sessions.find? (fun x => x.client = client)

/-- The role with which a command is checked: 0 without a session, 1 OBSERVER, 2 MASTER (R35, R56). A command that came by the
ring was checked at the port that sent it. -/
def State.role (s : State) (src : Source) : Nat :=
  match src with
  | .host c => match s.session (s.client c) with
    | some x => x.role
    | none => 0
  | .ring _ _ => 2

/-- The state with the sessions changed. -/
def State.setSessions (s : State) (l : List Session) : State := { s with port := { s.port with sessions := l } }

/-- MASTER_LOST at the port (R58): DETAIL 01h lapse, 02h TAKE, 03h change of head. -/
def masterLost (detail : Nat) (s : State) : State := portEvent 4 s.address detail s.ringTime s

/-- The open transfers of a source end (R55). -/
def endTransfers (src : Source) (s : State) : State :=
  { s with port := { s.port with
      writeXfer := match s.port.writeXfer with
        | some w => if w.src = src then none else some w
        | none => none
      readXfers := s.port.readXfers.filter (fun r => r.src != src)
      ended := s.port.ended.filter (fun r => r.src != src) } }

/-- The segmented write of a source ends (R55). -/
def endWrite (src : Source) (s : State) : State :=
  match s.port.writeXfer with
  | some w => if w.src = src then { s with port := { s.port with writeXfer := none } } else s
  | none => s

/-- The session of a client ends: its transfers end, its kept responses go, and a MASTER session is reported lost with a DETAIL
(R55, R58). -/
def endSession (client detail : Nat) (s : State) : State :=
  match s.session client with
  | none => s
  | some x =>
    let t := endTransfers (.host client) (s.setSessions (s.port.sessions.filter (fun y => y.client != client)))
    let u := { t with port := { t.port with kept := t.port.kept.filter (fun k => k.src != .host client) } }
    if x.role = 2 then masterLost detail u else u

/-- Every MASTER session of the port ends with MASTER_LOST (R58, R392). -/
def endMasters (detail : Nat) (s : State) : State :=
  (s.port.sessions.filter (fun x => x.role = 2)).foldl (fun t x => endSession x.client detail t) s

/-- The holder of MASTER drops to OBSERVER, and the segmented write that it had open ends (R55, R57). -/
def dropMaster (s : State) : State :=
  match s.masterSession with
  | none => s
  | some x =>
    masterLost 2 (endWrite (.host x.client)
      (s.setSessions (s.port.sessions.map (fun y => if y.role = 2 then { y with role := 1 } else y))))

/-- The first of the numbers 1 to 4 that no session has (R351). -/
def freeNumber (l : List Session) : Nat :=
  (([1, 2, 3, 4].filter (fun n => !l.any (fun x => x.number = n))).head?).getD 4

/-- A client opens or changes its session (R56). -/
def openSession (client role : Nat) (s : State) : State :=
  match s.session client with
  | some _ => s.setSessions (s.port.sessions.map (fun y => if y.client = client then { y with role := role } else y))
  | none => s.setSessions (s.port.sessions ++ [⟨client, role, freeNumber s.port.sessions, s.clk⟩])

/-- A packet from a client: its session has sent one now (R58). -/
def touchSession (src : Source) (s : State) : State :=
  match src with
  | .host c => s.setSessions (s.port.sessions.map (fun y => if y.client = s.client c then { y with lastAt := s.clk } else y))
  | .ring _ _ => s

/-! Packets on the ring. -/

/-- The pieces of at most 252 bytes of a long packet (R356); `fuel` bounds their number. -/
def chunks : Nat → List Nat → List (List Nat)
  | 0, _ => []
  | _, [] => []
  | n + 1, l => l.take 252 :: chunks n (l.drop 252)

/-- A packet leaves on both lanes: in one COMMAND or RESPONSE frame up to 256 bytes, otherwise in BULK frames (R354, R356). -/
def ringPacket (response : Bool) (session dst : Nat) (pkt : List Nat) (s : State) : State :=
  if pkt.length ≤ 256 then txFrame (num response) session dst pkt true true s
  else
    let cs := chunks 8 pkt
    let t := cs.zipIdx.foldl
      (fun u p => txFrame 5 (session * 2 + num response) dst
        ([s.ring.xid, p.2, num (p.2 + 1 = cs.length), 0] ++ p.1) true true u) s
    { t with ring := { t.ring with xid := (s.ring.xid + 1) % 256 } }

/-! Answers. -/

/-- The data of an ABORT (R44). -/
def abortData (code detail : Nat) : List Nat := leBytes 4 (detail * 256 + code)

/-- Byte 2 of an answer: LOCAL as the command had it, and the answering node (R42). -/
def State.answerAddr (s : State) (c : Ctx) : Nat := bits c.addr 6 1 * 64 + s.address

/-- A response that the host is to have: it waits in the output queue (R62). -/
def hostResponse (client : Nat) (pkt : List Nat) (s : State) : State :=
  if s.portUp then s.queue ⟨.response (s.client client), pkt⟩ else s

/-- A packet goes back to where its command came from (R354). -/
def sendAnswer (src : Source) (pkt : List Nat) (s : State) : State :=
  match src with
  | .host c => hostResponse c pkt s
  | .ring node session => ringPacket true session node pkt s

/-- The answers that R46 keeps: those of the last 4 commands of each session; a client without a session has none. The latest answer to a
command is the one kept for it. -/
def keepAnswer (c : Ctx) (op index sub : Nat) (pkt : List Nat) (s : State) : State :=
  let open_ := match c.src with
    | .host n => (s.session (s.client n)).isSome
    | .ring _ _ => true
  if !open_ then s
  else
    let mine := s.port.kept.filter (fun k => k.src = c.src && !(k.tag = c.tag && k.op = op && k.index = index && k.sub = sub))
    let others := s.port.kept.filter (fun k => k.src != c.src)
    { s with port := { s.port with kept := others ++ ((⟨c.src, c.tag, op, index, sub, pkt⟩ :: mine).take 4) } }

/-- The kept answer of a repeated command (R46). -/
def State.keptAnswer (s : State) (c : Ctx) (op index sub : Nat) : Option (List Nat) :=
  (s.port.kept.find? (fun k => k.src = c.src && k.tag = c.tag && k.op = op && k.index = index && k.sub = sub)).map (·.answer)

/-- The command is broadcast: its byte 2 names node 63 (R42, R47). -/
def isBroadcast (c : Ctx) : Bool := bits c.addr 0 7 == 63

/-- The head's own answer to a broadcast leaves once the COMMAND frame has returned, and waits until then (R47). -/
def noteOwn (client op tag index sub : Nat) (pkt : List Nat) (s : State) : State :=
  let mine (r : RingCmd) : Bool :=
    r.client == client && r.addr % 64 == 63 && r.op == op && r.tag == tag && r.index == index && r.sub == sub
  match s.ring.cmds.find? mine with
  | none => s
  | some r =>
    if r.returned then hostResponse client pkt { s with ring := { s.ring with cmds := s.ring.cmds.filter (fun x => !mine x) } }
    else { s with ring := { s.ring with cmds := s.ring.cmds.map (fun x => if mine x then { x with own := pkt } else x) } }

/-- An answer goes out: nodes do not answer a broadcast, and the head's own answer to one waits (R47). -/
def deliver (c : Ctx) (op index sub : Nat) (pkt : List Nat) (s : State) : State :=
  if isBroadcast c then
    (match c.src with
     | .host n => noteOwn (s.client n) op c.tag index sub pkt s
     | .ring _ _ => s)
  else sendAnswer c.src pkt s

/-- The command is answered with OP `op + 80h` and data, and the answer is kept (R46 to R48). -/
def answer (c : Ctx) (op index sub : Nat) (data : List Nat) (s : State) : State :=
  let pkt := packetBytes (op + 128) c.tag (s.answerAddr c) index sub data
  keepAnswer c op index sub pkt (deliver c op index sub pkt s)

/-- The command is refused with ABORT (R44); the answer is kept as any other. -/
def abort (c : Ctx) (op index sub code detail : Nat) (s : State) : State :=
  let pkt := packetBytes 255 c.tag (s.answerAddr c) index sub (abortData code detail)
  keepAnswer c op index sub pkt (deliver c op index sub pkt s)

/-- What a write to an object comes to: it takes effect (or is staged); it is refused with a code and a DETAIL, whatever the refusal
leaves behind; or it resets the domain that would answer (R555). -/
inductive WriteRes where
  | done (s : State)
  | refuse (code detail : Nat) (s : State)
  | silent (s : State)
deriving DecidableEq, Repr

/-- The destination refused the value (R44, 0Ah). -/
abbrev rejected (detail : Nat) (s : State) : WriteRes := .refuse 0x0A detail s

end Sys2Proof.Machine
end

