-- ==== Sys2Proof/Machine/RingLink.lean ====
section
/-! DEFINITION. The ring at the level of frames: what a node does with every frame that arrives (R344 to R346, R352, R353, R380), who
may act on it (R352, R355, R391 to R393), and the ring activity of R299. -/

namespace Sys2Proof.Machine

/-! Ports (R335, R343, R378). -/

/-- The subindex of a port in the ring-link objects (R374). -/
def sideSub : Side → Nat
  | .north => 1
  | .south => 2

/-- The port by which a frame from a port leaves (R344). -/
def otherSide : Side → Side
  | .north => .south
  | .south => .north

/-- LinkStatus STATE of a port: 0 DOWN, 1 TRAIN, 2 UP (R343). -/
def State.linkState (s : State) (p : Side) : Nat := bits (s.get (Obj.linkStatus + sideSub p)) 0 2

/-- LinkStatus GEN of a port (R374). -/
def State.linkGen (s : State) (p : Side) : Nat := bits (s.get (Obj.linkStatus + sideSub p)) 8 4

/-- The state of a port with STATE and GEN. -/
def State.setLink (s : State) (p : Side) (st gen : Nat) : State :=
  s.set (Obj.linkStatus + sideSub p) (gen % 16 * 256 + st % 4)

/-- The bits of LaneService that show a port: serving, and remote-fault idle recognised (R397). -/
def laneBits : Side → Nat × Nat
  | .north => (4, 8)
  | .south => (5, 9)

/-- One more in a saturating count of a port (R374). -/
def State.portCount (s : State) (k : Nat) (p : Side) : State := s.count (k + sideSub p) 32

/-- The hidden state of a port. -/
def State.ringPort (s : State) (p : Side) : RingPort :=
  match p with
  | .north => s.ring.north
  | .south => s.ring.south

/-- The state with the hidden state of a port changed. -/
def State.setRingPort (s : State) (p : Side) (x : RingPort) : State :=
  { s with ring := match p with
    | .north => { s.ring with north := x }
    | .south => { s.ring with south := x } }

/-! What a port sends (R340 to R343, R347, R348, R379). -/

/-- What stood on a transmit pair last: the bytes of the frame, then 256 for ED or 257 for ABORT. -/
def State.line (s : State) : Side → List Nat
  | .north => s.ring.lineN
  | .south => s.ring.lineS

/-- A frame stands on a transmit pair from a clock tick on. -/
def setLine (p : Side) (at_ : Nat) (l : List Nat) (s : State) : State :=
  let t : State := { s with ring := match p with
    | .north => { s.ring with lineN := l }
    | .south => { s.ring with lineS := l } }
  t.setRingPort p { t.ringPort p with sentAt := at_, inset := none }

/-- The symbols that a port has sent last, a MARK within the frame included (R348). -/
def State.symbols (s : State) (p : Side) : List LineSym :=
  let l := frameSyms (s.linkGen p) (s.line p)
  match (s.ringPort p).inset with
  | none => l
  | some (n, _, mark) => withMark (s.linkGen p) n mark l

/-- The clock tick at which the frame on a pair ends, with the least idle after it. -/
def State.lineEnd (s : State) (p : Side) : Nat :=
  let g := s.linkGen p
  let l := frameSyms g (s.line p)
  match (s.ringPort p).inset with
  | none => (s.ringPort p).sentAt + symTicks g (l ++ [.idle false])
  | some (n, sd, mark) => sd + symTicks g (frameSyms g mark ++ [.resume] ++ l.drop n ++ [.idle false])

/-- The transmitter sends remote-fault idle (R379): its receiver is not UP. It starts within 10 us of the receiver's leaving UP, for which the
model takes the last moment (log entry 120). -/
def State.remoteFault (s : State) (p : Side) : Bool :=
  s.on .rng && s.linkState p != 2 && decide ((s.ringPort p).downAt + 160 ≤ s.clk)

/-- What a port sends between frames (R340, R341, R379). -/
def State.idleSym (s : State) (p : Side) : LineSym := .idle (s.remoteFault p)

/-- The levels on a transmit pair from the last frame on, the idle after it included, at a running disparity (R340 to R342). -/
def State.pair (s : State) (p : Side) (rd : Bool) : List Bool := wire (s.linkGen p) rd (s.symbols p ++ [s.idleSym p])

/-- LinkStatus as it reads (R343): a port that has lost lock trains, which is to send idle at its generation, once its transmitter sends
remote-fault idle. -/
def State.linkStatusNow (s : State) (p : Side) : Nat :=
  let w := s.get (Obj.linkStatus + sideSub p)
  if w % 4 = 0 && s.linkGen p != 0 && s.remoteFault p then w + 1 else w

/-- The held frames that have started by now are on the pair (R347). -/
def flushLine (p : Side) (s : State) : State :=
  let x := s.ringPort p
  (x.held.filter (fun h => h.1 ≤ s.clk)).foldl (fun t h => setLine p h.1 h.2 t)
    (s.setRingPort p { x with held := x.held.filter (fun h => s.clk < h.1) })

/-- A frame that arrives while the port sends waits in the insertion buffer, and leaves in its turn (R347). The buffer of 320 characters does not
fill: no frame of the node's own is longer than 271. -/
def holdLine (p : Side) (l : List Nat) (s : State) : State :=
  let x := s.ringPort p
  s.setRingPort p { x with held := x.held ++ [(x.till, l)], till := x.till + frameTime (s.linkGen p) l }

/-- A forwarded frame that has ended now: a port has sent it as it arrived (R344), with the MARK that came within it after `cut` symbols (R348),
or sends it from its insertion buffer (R347) when it began to arrive while the port was sending. -/
def forwardLine (p : Side) (cut : Option Nat) (l : List Nat) (s : State) : State :=
  let t := flushLine p s
  let x := t.ringPort p
  let g := t.linkGen p
  let mark := t.line p
  let within : Option Nat := cut.filter (fun _ => mark.getD 0 0 / 16 = 3 && x.inset.isNone)
  let start := t.clk - (match within with
    | some n => symTicks g (withMark g n mark (frameSyms g l) ++ [.idle false])
    | none => frameTime g l)
  if start < x.till then flushLine p (holdLine p l t)
  else
    let u := setLine p start l t
    match within with
    | some n => if start ≤ x.sentAt then u.setRingPort p { u.ringPort p with inset := some (n, x.sentAt, mark) } else u
    | none => u

/-- A frame of the node's own starts (R347); a FRAME_TRANSMIT that comes while the port is sending puts it behind what the port holds (log entry
138). -/
def ownLine (p : Side) (l : List Nat) (s : State) : State :=
  let t := flushLine p s
  if t.clk < (t.ringPort p).till then holdLine p l t
  else
    let u := setLine p t.clk l t
    u.setRingPort p { u.ringPort p with till := u.clk + frameTime (u.linkGen p) l }

/-- A MARK preempts what the port is sending (R348): its start delimiter leaves at a clock tick, SUSPEND before it at a boundary early enough, and
all that follows comes later. A frame is suspended once, so a further MARK follows it. -/
def markLine (p : Side) (at_ : Nat) (l : List Nat) (s : State) : State :=
  let t := flushLine p s
  let x := t.ringPort p
  let g := t.linkGen p
  let later (d : Nat) : List (Nat × List Nat) := x.held.map (fun h => (h.1 + d, h.2))
  if t.lineEnd p ≤ at_ then
    let u := setLine p at_ l t
    u.setRingPort p { u.ringPort p with till := max x.till (at_ + frameTime g l) }
  else if x.inset.isNone then
    let n := symsDone g ((at_ - x.sentAt) * 25 - symTime g .suspend) (frameSyms g (t.line p))
    let u := t.setRingPort p { x with inset := some (n, at_, l) }
    let d := u.lineEnd p - t.lineEnd p
    u.setRingPort p { u.ringPort p with held := later d, till := max x.till (t.lineEnd p) + d }
  else
    let d := frameTime g l
    t.setRingPort p { x with held := (t.lineEnd p, l) :: later d, till := max x.till (t.lineEnd p) + d }

/-- The port sends nothing more: what it held is dropped at its first byte (R380). -/
def dropHeld (p : Side) (s : State) : State :=
  let t := flushLine p s
  let x := t.ringPort p
  let u := t.setRingPort p { x with held := [], till := t.clk }
  u.set (Obj.txDropped + sideSub p) (sat (2 ^ 32 - 1) (u.get (Obj.txDropped + sideSub p) + x.held.length))

/-- The node's own address as frames carry it (R345, R363): the one it holds, or the one it has taken and not yet adopted. By the copies of
DISCOVER it is HOPS + 1 of the CW copy, else by the CCW copy's HOPS; 0 before any copy. -/
def takenAddress (s : State) : Nat :=
  match s.ring.enm.discCw, s.ring.enm.discCcw with
  | some h, _ => (h + 1) % 64
  | none, some h => if s.ring.enm.expected != 0 then (s.ring.enm.expected + 1 - h) % 64 else 63 - h
  | none, none => 0

/-- SRC of an own frame: the node's address, or the one it has taken and not yet adopted (R363, R365). -/
def State.srcAddress (s : State) : Nat := if s.address != 0 then s.address else takenAddress s

/-! Frames (R350, R351, R371). -/

/-- TYPE of a frame. -/
def frameType (bs : List Nat) : Nat := bs.getD 0 0 / 16

/-- TFLAGS of a frame. -/
def frameFlags (bs : List Nat) : Nat := bs.getD 0 0 % 16

/-- RESULT and SAFETY frames have the short header (R351). -/
def isShort (t : Nat) : Bool := t == 2 || t == 4

/-- HOPS of a frame as it arrived. -/
def frameHops (bs : List Nat) : Nat := bs.getD 2 0 % 64

/-- The source address of a frame: byte 3, or byte 4 of a short-header frame (R345). -/
def frameSrc (bs : List Nat) : Nat := bs.getD (if isShort (frameType bs) then 4 else 3) 0 % 64

/-- LEN of a long header. -/
def frameLen (bs : List Nat) : Nat := leAt bs 6 2 % 512

/-- The payload of a long-header frame. -/
def framePayload (bs : List Nat) : List Nat := (bs.drop 8).take (frameLen bs)

/-- The FCS of a long-header frame, or the body check of a short-header frame, is good (R353, R346). -/
def frameChecks (bs : List Nat) : Bool :=
  if frameType bs = 2 then bs.length == 132 && crc32c ((bs.drop 4).take 124) == leAt bs 128 4
  else if frameType bs = 4 then bs.length == 20 && crcSafety ((bs.drop 4).take 12) == leAt bs 16 4
  else
    let n := 8 + frameLen bs
    bs.length == n + 4 && frameLen bs ≤ 256 && crc32c (bs.take n) == leAt bs n 4

/-- HCHK of a short-header frame is good (R353). -/
def headerCheck (bs : List Nat) : Bool := crc8 (bs.take 3) == bs.getD 3 0

/-- A family frame is whole and its CRC-16 good (R371). -/
def familyCheck (bs : List Nat) : Bool :=
  let n := 3 + bs.getD 2 0
  bs.getD 2 0 ≤ 32 && bs.length == n + 2 && crc16 (bs.take n) == leAt bs n 2

/-- e is newer than the epoch E (R352). -/
def newerEpoch (e ec : Nat) : Bool :=
  let d := (e + 256 - ec) % 256
  1 ≤ d && d ≤ 127

/-- e is stale against the epoch E (R352). -/
def staleEpoch (e ec : Nat) : Bool := 128 ≤ (e + 256 - ec) % 256

/-- How a received frame fares: good, or one of the rows of R345, or a family frame with a wrong CRC-16 that passes on (R371). -/
inductive FrameEnd where
  | good | familyBad | reserved | consumed | captured | stale | hops | header | circled | check | aborted
deriving DecidableEq, Repr

/-- The fate of a frame that arrives at a port, decided byte by byte (R345, R371). -/
def frameEnd (s : State) (f : RingFrame) : FrameEnd :=
  let bs := f.bytes
  let n := bs.length
  let t := frameType bs
  let short := if f.ended then FrameEnd.check else FrameEnd.aborted
  if n = 0 then short
  else if t = 7 || 10 ≤ t then .reserved
  else if t = 6 && frameFlags bs % 2 = 1 then .consumed
  else if t = 9 then
    if s.isHead && f.side = .north then .captured
    else if !f.ended then .aborted
    else if familyCheck bs then .good else .familyBad
  else if n < 2 then short
  else if s.address != 0 && staleEpoch (bs.getD 1 0) s.epoch then .stale
  else if n < 3 then short
  else if 62 ≤ frameHops bs then .hops
  else if n < 4 then short
  else if isShort t && !headerCheck bs then .header
  else if n < 5 && isShort t then short
  else if s.srcAddress != 0 && frameSrc bs = s.srcAddress then .circled
  else if !f.ended then .aborted
  else if frameChecks bs then .good else .check

/-- The frame as the node sends it on: HOPS one higher, the header check or the FCS made again over the bytes it sends (R344, R346); the FCS
stands where LEN puts it, and of a frame that ends before it nothing else changes. -/
def regenerate (bs : List Nat) : List Nat :=
  if frameType bs = 9 || bs.length < 3 then bs
  else
    let h := bs.set 2 ((bs.getD 2 0 / 64) * 64 + (frameHops bs + 1) % 64)
    if isShort (frameType bs) then (if bs.length < 4 then h else h.set 3 (crc8 (h.take 3)))
    else
      let n := 8 + frameLen bs
      if 256 < frameLen bs then h else h.take n ++ (leBytes 4 (crc32c (h.take n))).take (bs.length - n) ++ h.drop (n + 4)

/-- What leaves on the other side of a frame with a fate, with its ED (256) or ABORT (257). -/
def sentPart (e : FrameEnd) (bs : List Nat) : List Nat :=
  let r := regenerate bs
  match e with
  | .good => r ++ [256]
  | .familyBad => r ++ [256]
  | .reserved => r.take 1 ++ [257]
  | .consumed => r.take 1 ++ [257]
  | .captured => r.take 1 ++ [257]
  | .stale => r.take 2 ++ [257]
  | .hops => r.take 3 ++ [257]
  | .header => r.take 4 ++ [257]
  | .circled => r.take (if isShort (frameType bs) then 5 else 4) ++ [257]
  | .check => r ++ [257]
  | .aborted => r ++ [257]

/-- A frame of a type may leave by a port (R380): one that serves, and for ENUM frames one that is UP, without which no enumeration could run:
the VERIFY of R368 starts 1 ms after the ports are UP, 9 ms before they can serve (log entry 121). A port that remote-fault idle has stopped
lets none leave. -/
def State.passes (s : State) (p : Side) (type : Nat) : Bool :=
  s.serving p || (type == 6 && s.linkState p == 2 && !(s.ringPort p).faulted)

/-- A forwarded frame of a type leaves by a port, or is dropped there (R380); a MARK leaves `lag` ticks after it has come (R114). -/
def sendLine (p : Side) (type lag : Nat) (cut : Option Nat) (l : List Nat) (s : State) : State :=
  if !s.passes p type then s.portCount Obj.txDropped p
  else if type = 3 then markLine p (s.clk + lag) l s
  else forwardLine p cut l s

/-- Forwarding (R344): not between ports at different generations (R343). -/
def forwardFrame (e : FrameEnd) (f : RingFrame) (lag : Nat) (bs : List Nat) (s : State) : State :=
  let out := otherSide f.side
  if s.linkState out = 2 && s.linkGen out != s.linkGen f.side then s
  else sendLine out (frameType f.bytes) lag f.cut (sentPart e bs) s

/-- What a receiver counts (R345, R374). -/
def countFrame (e : FrameEnd) (f : RingFrame) (s : State) : State :=
  let t := if f.ended then s.wrap (Obj.rxFrames + sideSub f.side) 32 else s.portCount Obj.rxAborted f.side
  match e with
  | .reserved => t.portCount Obj.rxDiscarded f.side
  | .stale => (t.portCount Obj.rxDiscarded f.side).count Obj.staleEpochCount 32
  | .hops => t.portCount Obj.rxDiscarded f.side
  | .header => t.portCount Obj.rxCheckErrors f.side
  | .check => t.portCount Obj.rxCheckErrors f.side
  | .familyBad => t.portCount Obj.rxCheckErrors f.side
  | _ => t

/-! Ring activity (R299). -/

/-- A frame that the node accepts from another node, or a packet at the head's port, starts the communication time anew; 11h may
recover from then on (R299). -/
def ringActivity (s : State) : State :=
  let t := { s with bal := { s.bal with lastActivity := s.clk } }
  if bit s.flt.cond 0x11 then faultEnd 0x11 t else t

/-! Epochs (R391 to R393). -/

/-- The node adopts an epoch and its head (R391). -/
def adoptEpoch (e src : Nat) (s : State) : State := (s.keep Obj.ringEpoch e).set Obj.headAddress src

/-- The ring-time states in which an aperture gets the holdover flag (R121): FREE, ACQUIRE and HOLDOVER. -/
abbrev unsynced (c : Nat) : Bool := c == 0 || c == 1 || c == 3

/-- RingTimeStatus STATE changes (R118). An aperture in progress keeps the flag of R121 or gets it; one that is yet to start has that of the
new state. -/
def setTimeState (c : Nat) (s : State) : State :=
  let t := s.setField Obj.ringTimeStatus 0 3 c
  { t with cells := { t.cells with apertures := t.cells.apertures.map (fun a =>
    { a with holdover := (a.clkA < t.clk && a.holdover) || (unsynced c && !s.isHead) }) } }

/-- The holdover begins (R122). -/
def startHoldover (s : State) : State :=
  let t := setTimeState 3 s
  { t with time := { t.time with holdStart := some t.clk, holdTime := 0, lastE := none, lastBig := none } }

/-- The holdover ends; HoldoverTime keeps its length (R121). -/
def endHoldover (s : State) : State :=
  match s.time.holdStart with
  | none => s
  | some c =>
    { s with time := { s.time with holdStart := none, holdTime := sat (2 ^ 32 - 1) ((s.clk - c) / 16) } }

/-- A head that hears a newer epoch is deposed (R392); a MARK entry at the tick of the frame itself still acts with the epoch before. -/
def deposed (e src : Nat) (s0 : State) : State :=
  let s := { s0 with ring := { s0.ring with deposedAt := some (s0.clk, s0.epoch) } }
  let a := (s.setBitOf Obj.ringRole 1 false).setBitOf Obj.ringRole 4 true
  let b := adoptEpoch e src (faultOccur 0x1F a)
  let c := startHoldover ((endMasters 3 b).set Obj.frequencySteer 0)
  event 8 (c.get Obj.ringRole) c

/-- A head's own enumeration stops (R362): with RESULT CONFLICT when another's DISCOVER has ended it. -/
def stopEnumeration (conflict : Bool) (s : State) : State :=
  if !s.ring.enm.running then s
  else
    let t := if conflict then s.setField Obj.enumStatus 24 8 3 else s
    { t with ring := { t.ring with enm := { t.ring.enm with running := false, due := none, confirmDue := false } } }

/-- The frame is a DISCOVER (R361). -/
def isDiscover (bs : List Nat) : Bool := frameType bs == 6 && (framePayload bs).getD 0 0 == 1

/-- A configured head that has not taken the role hears a newer epoch: it stores it, waits at address 0, and reports CONFLICT
(R393). -/
def headConflict (e : Nat) (s : State) : State :=
  let t := (s.keep Obj.ringEpoch e).setField Obj.enumStatus 24 8 3
  { t with ring := { t.ring with enm := { t.ring.enm with roleTaken := true } } }

/-- What a good frame's epoch does before the frame is acted on (R362, R392, R393). -/
def epochRules (bs : List Nat) (s : State) : State :=
  let e := bs.getD 1 0
  if frameType bs = 9 || !newerEpoch e s.epoch then s
  else if s.isHead then stopEnumeration (isDiscover bs) (deposed e (frameSrc bs) s)
  else if s.address = 0 && s.get Obj.ringRoleConfig = 1 then headConflict e s
  else s

/-- The node acts on frames of its current epoch; at address 0 only on ENUM (R352). -/
def actsOn (bs : List Nat) (s : State) : Bool :=
  if s.address = 0 then frameType bs == 6 else bs.getD 1 0 == s.epoch

/-- A good copy of a safety record (R426, R428): kept for the comparison when it is regular, once for its sender, lane and cycle; the
latest shows PACK_TRIP. `r` is the record, `cw` its lane. -/
def safetyCopy (r : List Nat) (cw : Bool) (s : State) : State :=
  let n := r.getD 0 0 % 64
  let st := leAt r 8 2
  let old := s.safeNode n
  let k (x : SafeCopy) : Bool := decide (x.node = n) && x.cw == cw && leAt x.bytes 2 4 == leAt r 2 4
  { s with safe := { s.safe with
      nodes := { old with packTrip := bit st 11 } :: s.safe.nodes.filter (fun x => x.node != n)
      copies := if bit st 15 || !s.compares || s.safe.copies.any k then s.safe.copies
        else s.safe.copies ++ [⟨n, cw, r.take 12⟩] } }

/-- The node has acted on a copy of the frame in the last 20 ms (R355). -/
def State.hasSeen (s : State) (src type seq : Nat) : Bool :=
  s.ring.seen.any (fun x => x.src = src && x.type = type && x.seq = seq && s.clk < x.at_ + 20 * ms)

/-- The node keeps the frame's SRC, TYPE and SEQ for 20 ms (R355). -/
def keepSeen (src type seq : Nat) (s : State) : State :=
  { s with ring := { s.ring with
      seen := ⟨src, type, seq, s.clk⟩ :: s.ring.seen.filter (fun x => s.clk < x.at_ + 20 * ms) } }

/-- A frame of a type is acted on once (R355). -/
def actOnce (bs : List Nat) (act : State → State) (s : State) : State :=
  let src := frameSrc bs
  let seq := bs.getD 5 0
  if s.hasSeen src (frameType bs) seq then s else act (keepSeen src (frameType bs) seq s)

/-- The port can receive: the RNG domain is on and the receiver UP (R343). -/
def State.receives (s : State) (p : Side) : Bool := s.on .rng && s.linkState p == 2

/-- A frame that carries the node's current epoch, of any type, is ring activity (R299); family frames carry none, and a node at
address 0 has none (R352). -/
def frameActivity (bs : List Nat) (s : State) : State :=
  if frameType bs != 9 && s.address != 0 && bs.getD 1 0 == s.epoch then ringActivity s else s

/-- The common course of a frame: it is counted and forwarded, with the bytes of the copy sent on and their lag given apart, and acted on when it
is good; `own` answers a frame with the node's own address that has its checks good (R344 to R346). The epoch of any good frame comes first
(R392, R393). -/
def ringReceiveAt (f : RingFrame) (lag : Nat) (onward : List Nat) (act own : State → State) (s : State) : State :=
  if !s.receives f.side then s
  else
    let e := frameEnd s f
    let t := forwardFrame e f lag onward (countFrame e f s)
    match e with
    | .good => frameActivity f.bytes (act (epochRules f.bytes t))
    | .consumed => if f.ended && frameChecks f.bytes then frameActivity f.bytes (act (epochRules f.bytes t)) else t
    | .captured => if f.ended && familyCheck f.bytes then act t else t
    | .circled => if f.ended && frameChecks f.bytes then own (epochRules f.bytes t) else t
    | _ => t

/-- The course of a frame that is sent on as it comes. -/
def ringReceive (f : RingFrame) (onward : List Nat) (act own : State → State) (s : State) : State :=
  ringReceiveAt f 0 onward act own s

end Sys2Proof.Machine
end

