-- ==== Sys2Proof/Machine/RingService.lean ====
section
/-! DEFINITION. Running the ring (R375 to R397): ports that lock, fail and serve, the lane-service state, the report queue, and the
sending of the node's own frames. -/

namespace Sys2Proof.Machine

/-! Lane service (R382 to R386). -/

/-- A retained set that no copy has carried on the lane of a SINGLE state, CW for 1 and CCW for 2, waits anew. -/
def requeueSlot (st : Nat) (x : SetSlot) : SetSlot :=
  if !x.waiting && ((st = 1 && !x.sentCw) || (st = 2 && !x.sentCcw)) then { x with waiting := true, outCw := false, outCcw := false } else x

/-- The retained sets that no copy has carried on the new lane wait again (R386). -/
def requeue (st : Nat) (s : State) : State :=
  let l := s.ring.slots.map (requeueSlot st)
  let n := (l.filter (·.waiting)).length - (s.ring.slots.filter (·.waiting)).length
  let t := s.set Obj.requeuedSets (sat (2 ^ 32 - 1) (s.get Obj.requeuedSets + n))
  { t with ring := { t.ring with slots := l } }

/-- LaneService STATE is written; what it was before the tick stands for the REPORTs of the tick (R383). -/
def putLane (st : Nat) (s : State) : State :=
  let t := s.setField Obj.laneService 0 2 st
  { t with ring := { t.ring with laneWas := if t.ring.laneAt = some t.clk then t.ring.laneWas else s.laneState, laneAt := some t.clk } }

/-- The lane state that a REPORT follows: a change applies to every REPORT after its tick (R383). -/
def State.reportLane (s : State) : Nat := if s.ring.laneAt = some s.clk then s.ring.laneWas else s.laneState

/-- The lanes (CW, CCW) on which a set is to leave in the node's lane state (R254, R383, R384). -/
def setLanes (s : State) (x : SetSlot) : Bool × Bool :=
  if s.address = 0 then (false, false)
  else if s.isHead then
    if s.laneState = 0 then (x.laneCw, x.laneCcw) else (s.serving .south, s.serving .north)
  else if s.laneState = 0 then (x.laneCw, x.laneCcw)
  else if s.laneState = 1 then (true, false)
  else if s.laneState = 2 then (false, true)
  else (false, false)

/-- A set that has left by every lane it is to take, of which there is one, is retained (R385). -/
def retainSlot (s : State) (x : SetSlot) : SetSlot :=
  let l := setLanes s x
  if (l.1 || l.2) && (!l.1 || x.outCw) && (!l.2 || x.outCcw) then { x with waiting := false } else x

/-- The sets that a change of lanes leaves nothing to wait for are retained (R385). -/
def retainSent (s : State) : State := { s with ring := { s.ring with slots := s.ring.slots.map (retainSlot s) } }

/-- LaneService STATE changes (R382, R384): a change from DUAL counts (R397), and a node that is not head requeues on entering a SINGLE
state. -/
def setLaneState (st : Nat) (s : State) : State :=
  if s.laneState = st then s
  else
    let t := if s.laneState = 0 then s.count Obj.singleLaneCount 16 else s
    let u := putLane st t
    let v := { u with safe := { u.safe with
      leftDual := if st = 0 then none else if s.laneState = 0 then some u.clk else u.safe.leftDual } }
    let w := retainSent v
    if !s.isHead && (st = 1 || st = 2) then requeue st w else w

/-- The fault source of a port (R381). -/
def linkFault : Side → Nat
  | .north => 0x1C
  | .south => 0x1D

/-- Remote-fault idle has stopped a port, or that is past (R380). -/
def setFaulted (p : Side) (b : Bool) (s : State) : State := s.setRingPort p { s.ringPort p with faulted := b }

/-- A port stops serving (R378, R380 to R382), and the EYE margin follows (R491). -/
def stopServing (p : Side) (s : State) : State :=
  if !s.serving p then s
  else
    let r := dropHeld p (s.setBitOf Obj.laneService (laneBits p).1 false)
    let t := { r with ring := { r.ring with stopAt := some r.clk } }
    let u := if t.address != 0 then faultOccur (linkFault p) t else t
    marginsFollow <|
      if u.address = 0 then u
      else if u.isHead then retainSent u
      else if u.serving (otherSide p) then setLaneState (if p = .north then 1 else 2) u
      else setLaneState 3 u

/-- RingGeneration, and with it the ports that may serve: one that is UP at another generation stops (R378). -/
def setGeneration (g : Nat) (s : State) : State :=
  let t := s.set Obj.ringGeneration g
  [Side.north, Side.south].foldl (fun u p => if u.linkGen p = g then u else stopServing p u) t

/-- A port serves (R378): its receiver is UP at the generation that RingGeneration shows. The EYE margin follows (R491). -/
def startServing (p : Side) (s : State) : State :=
  if s.linkState p != 2 || s.get Obj.ringGeneration != s.linkGen p then s
  else
    let t := setFaulted p false <| (s.setBitOf Obj.laneService (laneBits p).1 true).setBitOf Obj.laneService (laneBits p).2 false
    marginsFollow (if bit t.flt.cond (linkFault p) then faultEnd (linkFault p) t else t)

/-- LINK_LOCK (R343): the receiver finds lock and is UP at the generation at which it trains; after a
generation switch RingGeneration follows, and the head is to start a VERIFY (R368). -/
def effLinkLock (p : Side) (s : State) : State :=
  if !s.on .rng || s.linkState p = 2 then s
  else
    let g := if s.linkGen p = 0 then 1 else s.linkGen p
    let t := (s.setLink p 2 g).setRingPort p { s.ringPort p with lastGen := g }
    if t.ring.enm.unconfirmed && g = t.ring.enm.target && t.linkState (otherSide p) = 2 && t.linkGen (otherSide p) = g then
      let u := setGeneration g t
      if u.isHead then { u with ring := { u.ring with enm := { u.ring.enm with due := some true } } } else u
    else t

/-- LINK_LOCK. -/
def execLinkLock (dt : Nat) (side : Side) (s : State) : Host.Outcome State Fault Refusal :=
  run (Instr.wf (.linkLock dt side)) dt (effLinkLock side) s

/-- LINK_LOSS (R343): lock is lost, the port goes DOWN and trains at the generation it held, which GEN keeps, and it stops serving (R381,
R382). -/
def effLinkLoss (p : Side) (violations : Nat) (s : State) : State :=
  if !s.on .rng || s.linkState p != 2 then s
  else
    let k := Obj.codeViolations + sideSub p
    let t := s.set k (sat (2 ^ 32 - 1) (s.get k + violations))
    setFaulted p false (stopServing p ((t.setLink p 0 (s.linkGen p)).setRingPort p
      { s.ringPort p with lastGen := s.linkGen p, downAt := s.clk }))

/-- LINK_LOSS. -/
def execLinkLoss (dt : Nat) (side : Side) (violations : Nat) (s : State) : Host.Outcome State Fault Refusal :=
  run (Instr.wf (.linkLoss dt side violations)) dt (effLinkLoss side violations) s

/-- TRAINING_GENERATION_SWITCH (R343): a port that is not UP alternates between the generation it last held and G1. -/
def effTrainingGenerationSwitch (p : Side) (s : State) : State :=
  if !s.on .rng || s.linkState p = 2 then s
  else s.setLink p 1 (if s.linkGen p = 1 then (s.ringPort p).lastGen else 1)

/-- TRAINING_GENERATION_SWITCH. -/
def execTrainingGenerationSwitch (dt : Nat) (side : Side) (s : State) : Host.Outcome State Fault Refusal :=
  run (Instr.wf (.trainingGenerationSwitch dt side)) dt (effTrainingGenerationSwitch side) s

/-- REMOTE_FAULT_IDLE (R378, R379): the port recognises it and stops serving. -/
def effRemoteFaultIdle (p : Side) (s : State) : State :=
  if !s.on .rng then s
  else
    let t := stopServing p (s.setBitOf Obj.laneService (laneBits p).2 true)
    if s.serving p then setFaulted p true t else t

/-- REMOTE_FAULT_IDLE. -/
def execRemoteFaultIdle (dt : Nat) (side : Side) (s : State) : Host.Outcome State Fault Refusal :=
  run (Instr.wf (.remoteFaultIdle dt side)) dt (effRemoteFaultIdle side) s

/-- PORT_SERVING (R378): both conditions have held for 10 ms. -/
def effPortServing (p : Side) (s : State) : State := if !s.on .rng then s else startServing p s

/-- PORT_SERVING. -/
def execPortServing (dt : Nat) (side : Side) (s : State) : Host.Outcome State Fault Refusal :=
  run (Instr.wf (.portServing dt side)) dt (effPortServing side) s

/-! The report queue (R385, R387). -/

/-- The slots without the oldest one that `p` picks. -/
def dropFirst (p : SetSlot → Bool) : List SetSlot → List SetSlot
  | [] => []
  | x :: l => if p x then l else x :: dropFirst p l

/-- QueueDepth: the waiting sets (R385). -/
def State.queueDepth (s : State) : Nat := (s.ring.slots.filter (·.waiting)).length

/-- A set takes a slot as waiting (R385, R387): that of the oldest retained set when none is free, else of the oldest waiting set, which
is lost. -/
def queueSet (x : SetSlot) (s : State) : State :=
  if s.ring.slots.length < 64 then { s with ring := { s.ring with slots := s.ring.slots ++ [x] } }
  else if s.ring.slots.any (fun y => !y.waiting) then
    { s with ring := { s.ring with slots := dropFirst (fun y => !y.waiting) s.ring.slots ++ [x] } }
  else
    let t := s.count Obj.queueOverflow 32
    { t with ring := { t.ring with slots := dropFirst (·.waiting) t.ring.slots ++ [x] } }

/-- A waiting set has still to leave by a port. -/
def setDue (s : State) (p : Side) (x : SetSlot) : Bool :=
  let l := setLanes s x
  x.waiting && (match p with
    | .south => l.1 && !x.outCw
    | .north => l.2 && !x.outCcw)

/-- The slot after the set has left by a port: it is retained when every lane it is to take has carried it (R385). -/
def sentSlot (s : State) (p : Side) (x : SetSlot) : SetSlot :=
  retainSlot s (match p with
    | .south => { x with sentCw := true, outCw := true }
    | .north => { x with sentCcw := true, outCcw := true })

/-- The slot after its frame was dropped at a port that does not serve (R380): no copy has carried it there, and it waits for the lanes that are
left. -/
def droppedSlot (s : State) (p : Side) (x : SetSlot) : SetSlot :=
  let y := match p with
    | .south => { x with laneCw := false }
    | .north => { x with laneCcw := false }
  let l := setLanes s y
  { y with waiting := (l.1 && !y.outCw) || (l.2 && !y.outCcw) }

/-- The slots with the first one that `p` picks changed, or removed. -/
def changeFirst (p : SetSlot → Bool) (g : SetSlot → Option SetSlot) : List SetSlot → List SetSlot
  | [] => []
  | x :: l => if p x then (match g x with
    | some y => y :: l
    | none => l) else x :: changeFirst p g l

/-! Own frames (R347, R350). -/

/-- EPOCH of an own frame: the current epoch, or for a node at address 0, which has none (R352), that of the DISCOVER that it answers. -/
def State.sendEpoch (s : State) : Nat := if s.address != 0 then s.epoch else s.ring.enm.epoch

/-- The bytes of an own frame, with the epoch at which it is sent. -/
def frameBytes (s : State) (x : TxFrame) : List Nat :=
  if isShort x.type then
    let h := [x.type * 16 + x.flags, s.sendEpoch, 0]
    h ++ [crc8 h] ++ x.body
  else
    let h := [x.type * 16 + x.flags, s.sendEpoch, 0, s.srcAddress, x.dst, x.seq] ++ leBytes 2 x.body.length ++ x.body
    h ++ leBytes 4 (crc32c h)

/-- The place of a type in the priority order of R347. -/
def typeRank (t : Nat) : Nat :=
  match t with
  | 3 => 0 | 6 => 1 | 4 => 2 | 2 => 3 | 8 => 4 | 1 => 5 | 0 => 6 | _ => 7

/-- An own frame has still to leave by a port; an ISOLATED node holds its EVENT records (R395). -/
def frameDue (s : State) (p : Side) (x : TxFrame) : Bool :=
  (match p with
    | .south => x.cw
    | .north => x.ccw) && !(x.type = 8 && !s.isHead && s.laneState = 3)

/-- The waiting own frame that a port sends first: the first of the best rank (R347). -/
def nextFrame (s : State) (p : Side) : Option TxFrame :=
  (s.ring.txQ.filter (frameDue s p)).foldl (fun b x =>
    match b with
    | none => some x
    | some y => if typeRank x.type < typeRank y.type then some x else some y) none

/-- The frame has left by a port; it goes when no lane is left. -/
def frameLeft (p : Side) (x : TxFrame) : Option TxFrame :=
  let y := match p with
    | .south => { x with cw := false }
    | .north => { x with ccw := false }
  if y.cw || y.ccw then some y else none

/-- The own frames with one changed or gone. -/
def takeFrame (p : Side) (x : TxFrame) : List TxFrame → List TxFrame
  | [] => []
  | y :: l => if y = x then (match frameLeft p y with
    | some z => z :: l
    | none => l) else y :: takeFrame p x l

/-- A frame of the node's own, of a type, leaves by a port, or is dropped there (R374, R380); a MARK two ticks after its entry (R132, R348). -/
def sendOwn (p : Side) (type : Nat) (bs : List Nat) (s : State) : State :=
  if !s.passes p type then s.portCount Obj.txDropped p
  else
    let t := if type = 3 then markLine p (s.clk + 2) (bs ++ [256]) s
      else ownLine p (bs ++ [256]) s
    t.wrap (Obj.txFrames + sideSub p) 32

/-- The first due set of a port leaves, or is discarded (R385, R445). -/
def sendSet (p : Side) (x : SetSlot) (check : SetCheck) (s : State) : State :=
  let (b, t) := checkSet check x.bytes s
  match b with
  | none => { t with ring := { t.ring with slots := changeFirst (setDue s p) (fun _ => none) t.ring.slots } }
  | some bytes =>
    let h := [2 * 16 + num x.hd * 8, t.epoch, 0]
    let u := sendOwn p 2 (h ++ [crc8 h] ++ bytes) t
    { u with ring := { u.ring with
        slots := changeFirst (setDue s p) (fun y => some { sentSlot s p y with bytes := bytes }) u.ring.slots } }

/-- A RESULT frame that would leave by a port that does not serve is dropped there (R380). -/
def dropSet (p : Side) (s : State) : State :=
  let t := s.portCount Obj.txDropped p
  { t with ring := { t.ring with slots := changeFirst (setDue s p) (fun y => some (droppedSlot s p y)) t.ring.slots } }

/-- FRAME_TRANSMIT (R347): a port starts the first of the node's own frames: by rank and, within a type, by age. -/
def effFrameTransmit (p : Side) (check : SetCheck) (s : State) : State :=
  if !s.on .rng then s
  else
    let fr := nextFrame s p
    let due := s.ring.slots.find? (setDue s p)
    let setFirst := match fr with
      | some x => decide (3 < typeRank x.type)
      | none => true
    match due, fr with
    | some x, fr' =>
      if setFirst then (if s.serving p then sendSet p x check s else dropSet p s)
      else match fr' with
        | some y => ship y
        | none => s
    | none, some y => ship y
    | none, none => s
where
  /-- The frame leaves, and the records lost for want of a place are announced (R395); a safety record that leaves by a serving port is
  the node's own copy (R426). -/
  ship (y : TxFrame) : State :=
    let t := sendOwn p y.type (frameBytes s y) s
    let u := if y.type = 4 && s.serving p then safetyCopy y.body (p = .south) t else t
    announceRingLost { u with ring := { u.ring with txQ := takeFrame p y u.ring.txQ } }

/-- FRAME_TRANSMIT. -/
def execFrameTransmit (dt : Nat) (side : Side) (bad : List (Nat × Bool)) (crc : SetCrc) (s : State) : Host.Outcome State Fault Refusal :=
  run (Instr.wf (.frameTransmit dt side bad crc)) dt (effFrameTransmit side ⟨bad, crc.setOk, crc.rereadOk⟩) s

/-! Lane service at V (R382, R384 to R386). -/

/-- A retained set is released by a copy on the lane opposite to one that carried it (R385). -/
def released (cw ccw : Bool) (x : SetSlot) : Bool := !x.waiting && ((x.sentCw && ccw) || (x.sentCcw && cw))

/-- The state of a node that is not head after a V (R382). A port that stopped serving at the tick of this V has set the state. -/
def laneAtV (s : State) (cw ccw : Bool) : Nat :=
  if s.ring.stopAt = some s.clk then s.laneState
  else if !s.serving .north && !s.serving .south then 3
  else if cw && !ccw then 2
  else if ccw && !cw then 1
  else if cw && ccw then
    (if s.ring.prevCw && s.ring.prevCcw && s.serving .north && s.serving .south then 0 else s.laneState)
  else if !s.ring.prevCw && !s.ring.prevCcw then 3
  else s.laneState

/-- RingTimeStatus LANE: the node has selected CCW (R116). -/
def State.laneCcw (s : State) : Bool := bit (s.get Obj.ringTimeStatus) 8

/-- A MARK missed on the selected lane (R122): a LOCKED node enters HOLDOVER; the other lane is selected when its copy was
accepted. A copy more than 1 us off that the other lane bears out counts toward R120 and is no miss. -/
def missedMark (cw ccw : Bool) (s : State) : State :=
  let mine := if s.laneCcw then ccw else cw
  let other := if s.laneCcw then cw else ccw
  if mine || s.isHead || s.timeState = 0 then s
  else
    let borne := match s.time.selE, s.time.otherE with
      | some (o, a), some (o', b) => o = o' && 2000 < a.natAbs && (a - b).natAbs ≤ 40
      | _, _ => false
    let t := if s.timeState = 2 && !borne then startHoldover s else s
    if other then
      let u := t.setBitOf Obj.ringTimeStatus 8 (!s.laneCcw)
      { u with time := { u.time with lastE := none, lastBig := none, locks := 0 } }
    else t

/-- LANE_SERVICE_EVALUATION (R382, R384, R388): the copies of the last MARK are recorded and the state follows. A head that enters DUAL starts a
VERIFY when that closes a ring: one that had left DUAL, or that was enumerated as a chain. -/
def effLaneServiceEvaluation (s : State) : State :=
  if !s.on .rng || s.address = 0 then s
  else
    let cw := s.ring.markCw
    let ccw := s.ring.markCcw
    let a := (s.setBitOf Obj.laneService 2 cw).setBitOf Obj.laneService 3 ccw
    let b := { a with ring := { a.ring with slots := a.ring.slots.filter (fun x => !released cw ccw x) } }
    let c := if b.isHead then
        let both := cw && ccw && b.ring.prevCw && b.ring.prevCcw
        let t := setLaneState (if both then 0 else 1) b
        let closed := b.laneState != 0 && (b.safe.leftDual.isSome || bits (b.get Obj.enumStatus) 24 8 = 1)
        if both && closed then { t with ring := { t.ring with enm := { t.ring.enm with due := some true } } } else t
      else missedMark cw ccw (setLaneState (laneAtV b cw ccw) b)
    { c with
      ring := { c.ring with prevCw := cw, prevCcw := ccw, markCw := false, markCcw := false }
      time := { c.time with selE := none, otherE := none } }

/-- LANE_SERVICE_EVALUATION. -/
def execLaneServiceEvaluation (dt : Nat) (s : State) : Host.Outcome State Fault Refusal :=
  run (Instr.wf (.laneServiceEvaluation dt)) dt effLaneServiceEvaluation s

/-- RING_CRC_INTERVAL (R373): an interval of 16000000 ticks ends; 1Eh sets by the growth of RxCheckErrors of a port, and may recover after
an interval below the limit. -/
def effRingCrcInterval (s : State) : State :=
  let lim := s.get Obj.ringCrcLimit
  let base := fun k => ((s.ring.rxBase.find? (fun p => p.1 = k)).map (·.2)).getD 0
  let grown := fun k => lim ≤ s.get (Obj.rxCheckErrors + k) - base k
  let t := { s with ring := { s.ring with rxBase := [(1, s.get (Obj.rxCheckErrors + 1)), (2, s.get (Obj.rxCheckErrors + 2))] } }
  if grown 1 then faultOccur 0x1E (t.set Obj.ringCrcPort 1)
  else if grown 2 then faultOccur 0x1E (t.set Obj.ringCrcPort 2)
  else faultFollow 0x1E false t

/-- RING_CRC_INTERVAL. -/
def execRingCrcInterval (dt : Nat) (s : State) : Host.Outcome State Fault Refusal :=
  run (Instr.wf (.ringCrcInterval dt)) dt effRingCrcInterval s

end Sys2Proof.Machine
end

