-- ==== Sys2Proof/Machine/Enumeration.lean ====
section
/-! DEFINITION. Enumeration, link delays, generation switches and takeover (R361 to R369, R388 to R393). -/

namespace Sys2Proof.Machine

/-- The state with the enumeration engine changed. -/
def State.setEnm (s : State) (x : EnumEng) : State := { s with ring := { s.ring with enm := x } }

/-- EnumStatus STATE (R374). -/
def enumState (c : Nat) (s : State) : State := s.setField Obj.enumStatus 0 4 c

/-- EnumStatus RESULT (R364). -/
def enumResult (c : Nat) (s : State) : State := s.setField Obj.enumStatus 24 8 c

/-- SGEN as the straps give it (R526). -/
def State.sgen (s : State) : Nat := bits (s.get Obj.strapStatus) 2 2

/-- GMAX of the node: RingGenerationLimit, or the strap; 10b and auto report 3 (R368, R526). -/
def State.gmax (s : State) : Nat :=
  let l := s.get Obj.ringGenerationLimit
  if l != 0 then l else if s.sgen = 0 then 1 else if s.sgen = 1 then 2 else 3

/-- CAPS of a REPORT (R361). -/
def State.caps (s : State) : Nat :=
  num (bit (s.get Obj.ringRole) 0) + num (s.get Obj.ringRoleConfig = 1) * 2 + num (s.get Obj.ringRoleConfig = 2) * 4 +
    num (s.get Obj.shuntEnable = 1) * 8

/-- An ENUM frame for every node, or for DST alone, on both lanes. -/
def sendEnum (dst : Nat) (body : List Nat) (s : State) : State := txFrame 6 0 dst body true true s

/-- A LOCAL ENUM frame by one port (R366). -/
def sendLocal (p : Side) (body : List Nat) (s : State) : State :=
  txFrame 6 1 0 body (p = .south) (p = .north) s

/-- The head starts an enumeration (R362, R363): DISCOVER on both lanes. -/
def startEnumeration (verify : Bool) (s : State) : State :=
  let x := { s.ring.enm with
    running := true, verify := verify, cwBack := none, ccwBack := none, reports := [], due := none, confirmDue := false
    seq := s.nextSeq 6 }
  let t := enumState (if verify then 5 else 1) (s.setEnm x)
  sendEnum 63 [1, num verify, s.linkGen .north, 0, s.get Obj.enumExpected, 0, 0, 0] t

/-- No MARK of the new head's has returned yet (R384). -/
def forgetMarks (s : State) : State :=
  { s with ring := { s.ring with markCw := false, markCcw := false, prevCw := false, prevCcw := false } }

/-- The head role (R362): address 1, RingRole[1], ring-time state HEAD. 1Bh recovers only after LOCKED (R125). -/
def takeHeadRole (s : State) : State :=
  let a := (((s.set Obj.nodeAddress 1).set Obj.headAddress 1).setBitOf Obj.ringRole 1 true).setBitOf Obj.ringRole 2 false
  let b := a.setBitOf Obj.ringRole 4 false
  let c := setTimeState 4 (faultFollow 0x1F false (endHoldover b))
  event 8 (c.get Obj.ringRole) (forgetMarks c)

/-- The node may take the head role: configured, head-capable, and no conflict has kept it from it (R362, R393). -/
def State.mayHead (s : State) : Bool :=
  s.get Obj.ringRoleConfig == 1 && bit (s.get Obj.ringRole) 0 && !s.isHead && !s.ring.enm.roleTaken && s.address == 0 &&
    !bit (s.get Obj.ringRole) 4

/-- ENUMERATION_START: a configured head takes the role and starts NEW (R362); a head starts the enumeration that is due (R368, R369,
R388, R390). -/
def effEnumerationStart (s : State) : State :=
  if !s.on .rng || s.ring.enm.running then s
  else if s.isHead then
    match s.ring.enm.due with
    | some v => startEnumeration v s
    | none => s
  else if s.mayHead && (s.linkState .north = 2 || s.linkState .south = 2) then
    startEnumeration false ((takeHeadRole s).setEnm { s.ring.enm with fallback := false })
  else s

/-- ENUMERATION_START. -/
def execEnumerationStart (dt : Nat) (s : State) : Host.Outcome State Fault Refusal :=
  run (Instr.wf (.enumerationStart dt)) dt effEnumerationStart s

/-- The REPORT of a node (R361, R363). -/
def reportBody (addr : Nat) (s : State) : List Nat :=
  [2, addr, s.gmax, s.caps, s.get Obj.cellCount, 0x24, 0, 0] ++ leBytes 8 Config.nodeUid.toNat ++
    [s.ring.enm.discCw.getD 255, s.ring.enm.discCcw.getD 255, 0, 0, 0, 0, 0, 0]

/-- The node answers the DISCOVER once (R363): in a VERIFY a node keeps the address that it holds. -/
def sendReport (head : Nat) (s : State) : State :=
  if s.ring.enm.reported then s
  else
    let a := if !s.ring.enm.discNew && s.address != 0 then s.address else takenAddress s
    sendEnum head (reportBody a s) (s.setEnm { s.ring.enm with reported := true })

/-- A configured head hears another head's DISCOVER (R362): it yields to a newer epoch, and at equal epochs to a lower UID, which the
frame does not carry (log entry 4). -/
def headYields (e : Nat) (s : State) : Bool :=
  newerEpoch e s.epoch || (e = s.epoch && s.free 1 = 1)

/-- The head gives up its own enumeration and takes part as an ordinary node (R362). The change of head ends the MASTER sessions at its port
(R58). Its ring-time state becomes FREE, which R118 names for a power-up only (log entry 122). -/
def yieldHead (s : State) : State :=
  let a := endMasters 3 (((s.set Obj.nodeAddress 0).setBitOf Obj.ringRole 1 false).set Obj.headAddress 0)
  let b := enumResult 3 (setTimeState 0 (a.setEnm { a.ring.enm with
    running := false, due := none, confirmDue := false, roleTaken := true }))
  event 8 (b.get Obj.ringRole) b

/-- DISCOVER at a node (R363): the copy's HOPS are kept; the CW copy sets the address, and the REPORT follows. -/
def takeDiscover (p : Side) (bs : List Nat) (s : State) : State :=
  let pl := framePayload bs
  let seq := bs.getD 5 0
  let src := frameSrc bs
  let hops := frameHops bs + 1
  let fresh := !s.hasSeen src 6 seq
  let x := if fresh then
      { s.ring.enm with discCw := none, discCcw := none, reported := false, head := src, epoch := bs.getD 1 0, expected := pl.getD 4 0,
                        discNew := pl.getD 1 0 = 0 }
    else s.ring.enm
  let y := match p with
    | .north => { x with discCw := some hops }
    | .south => { x with discCcw := some hops }
  let t := (if fresh then keepSeen src 6 seq s else s).setEnm y
  let u := t.set Obj.headAddress (if t.address = 0 || bs.getD 1 0 != t.epoch then t.get Obj.headAddress else src)
  match p with
  | .north => sendReport src u
  | .south => u

/-- DISCOVER acted on (R362, R363, R393). -/
def actDiscover (p : Side) (bs : List Nat) (s : State) : State :=
  if frameType bs != 6 || (framePayload bs).getD 0 0 != 1 then s
  else
    let e := bs.getD 1 0
    let contender := s.ring.enm.running && s.isHead || s.mayHead
    if contender then
      if headYields e s then takeDiscover p bs (yieldHead s.freeUsed) else s.freeUsed
    else if s.isHead then s
    else takeDiscover p bs s

/-- A DISCOVER with the head's own address has come: its own (R364), of which the HOPS are kept, and the CW copy opens the collecting; or, by its
epoch or its SEQ, another head's (R362). -/
def ownDiscover (p : Side) (bs : List Nat) (s : State) : State :=
  if frameType bs != 6 || (framePayload bs).getD 0 0 != 1 then s
  else if bs.getD 1 0 != s.epoch || bs.getD 5 0 != s.ring.enm.seq then actDiscover p bs s
  else if !s.ring.enm.running then s
  else
    let hops := frameHops bs + 1
    match p with
    | .north =>
      let t := s.setEnm { s.ring.enm with cwBack := some hops }
      if s.ring.enm.verify then t else enumState 2 t
    | .south => s.setEnm { s.ring.enm with ccwBack := some hops }

/-- DISCOVER. -/
def execDiscover (dt : Nat) (f : RingFrame) (s : State) : Host.Outcome State Fault Refusal :=
  run (Instr.wf (.discover dt f))
    dt (ringReceive f f.bytes (actDiscover f.side f.bytes) (ownDiscover f.side f.bytes)) s

/-- DISCOVER_CCW_ONLY_TIMEOUT (R363): only the CCW copy has come within 2 ms; it sets the address. -/
def effDiscoverCcwOnlyTimeout (s : State) : State :=
  if s.ring.enm.discCw.isNone && s.ring.enm.discCcw.isSome then sendReport s.ring.enm.head s else s

/-- DISCOVER_CCW_ONLY_TIMEOUT. -/
def execDiscoverCcwOnlyTimeout (dt : Nat) (s : State) : Host.Outcome State Fault Refusal :=
  run (Instr.wf (.discoverCcwOnlyTimeout dt)) dt effDiscoverCcwOnlyTimeout s

/-- ENUM_REPORT at the head (R364): a REPORT of the enumeration that runs is collected once. -/
def actEnumReport (bs : List Nat) (s : State) : State :=
  let pl := framePayload bs
  if frameType bs != 6 || pl.getD 0 0 != 2 || !s.isHead || !s.ring.enm.running then s
  else
    let r : EnumReport := ⟨pl.getD 1 0 % 64, pl.getD 2 0, pl.getD 3 0, leAt pl 8 8⟩
    if s.ring.enm.reports.contains r then s
    else s.setEnm { s.ring.enm with reports := s.ring.enm.reports ++ [r] }

/-- ENUM_REPORT. -/
def execEnumReport (dt : Nat) (f : RingFrame) (s : State) : Host.Outcome State Fault Refusal :=
  run (Instr.wf (.enumReport dt f)) dt (ringReceive f f.bytes (actEnumReport f.bytes) id) s

/-- The node and its REPORTs as pairs of address and UID. -/
def foundNodes (s : State) : List (Nat × Nat) :=
  (s.address, Config.nodeUid.toNat) :: s.ring.enm.reports.map (fun r => (r.addr, r.uid))

/-- RESULT of an enumeration (R364): RING when no failure code applies, else the lowest that does. A VERIFY fails on a UID that the last NEW did
not find at its address (R388), where the node knows a last NEW. -/
def collectionResult (s : State) : Nat :=
  let x := s.ring.enm
  let found := foundNodes s
  let expected := s.get Obj.enumExpected
  let twice := found.any (fun p => found.any (fun q => p.1 = q.1 && p.2 != q.2))
  let moved := x.verify && x.lastNew != [] &&
    (found.any (fun p => !x.lastNew.contains p) || x.lastNew.any (fun q => !found.any (fun p => p.1 = q.1)))
  if x.cwBack.isNone || x.ccwBack.isNone then 1
  else if (expected != 0 && expected != (found.map (·.1)).dedup.length) || twice then 2
  else if moved then 4
  else if x.fallback then 5
  else 0

/-- The deputy: the lowest address whose REPORT declares head-capable and RingRoleConfig deputy, 0 for none (R365). -/
def chosenDeputy (l : List EnumReport) : Nat :=
  (l.filter (fun r => bit r.caps 0 && bit r.caps 2)).foldl (fun b r => if b = 0 then r.addr else min b r.addr) 0

/-- The target generation (R368). -/
def targetGeneration (s : State) : Nat :=
  min s.ring.enm.cap (s.ring.enm.reports.foldl (fun g r => min g (max 1 r.gmax)) s.gmax)

/-- COLLECTION_END (R364, R365): RESULT is written and CONFIRM leaves on both lanes. In a chain the enumeration ends with it, for the CONFIRM need
not return; where one copy does, the switch of R368 follows. A switch whose VERIFY has brought no CW copy back
stays unconfirmed (R369). -/
def effCollectionEnd (s : State) : State :=
  if !s.isHead || !s.ring.enm.running then s
  else
    let found := foundNodes s
    let addrs := (found.map (·.1)).dedup
    let map := addrs.foldl (fun m a => setBit m a true) 0
    let dep := chosenDeputy s.ring.enm.reports
    let res := collectionResult s
    let tgt := targetGeneration s
    let a := enumState 3 (enumResult res s)
    let b := ((a.setField Obj.enumStatus 16 8 addrs.length).setField Obj.enumStatus 8 8 dep).set Obj.nodeMap map
    let c := { b with ring := { b.ring with
      deputy := dep
      enm := { b.ring.enm with confirmDue := true, lastNew := if b.ring.enm.verify then b.ring.enm.lastNew else found } } }
    let d := sendEnum 63 ([3, addrs.length, tgt, dep, 0, 0, 0, 0] ++ leBytes 8 map) (c.keep Obj.ringEpoch c.epoch)
    if res = 1 then
      safeBaseline (enumState 6 (setGeneration (max (d.linkGen .north) (d.linkGen .south))
        (d.setEnm { d.ring.enm with running := false, unconfirmed := d.ring.enm.unconfirmed && d.ring.enm.cwBack.isNone })))
    else d

/-- COLLECTION_END. -/
def execCollectionEnd (dt : Nat) (s : State) : Host.Outcome State Fault Refusal :=
  run (Instr.wf (.collectionEnd dt)) dt effCollectionEnd s

/-- RingRole changes on a CONFIRM (R365, R392, R396). -/
def confirmRole (named : Bool) (s : State) : State :=
  let old := s.get Obj.ringRole
  let a := s.setBitOf Obj.ringRole 2 named
  let b := if a.ring.enm.discNew then faultFollow 0x1F false (a.setBitOf Obj.ringRole 4 false) else a
  if b.get Obj.ringRole = old then b else event 8 (b.get Obj.ringRole) b

/-- CONFIRM at a node (R365, R391): it adopts its address, the epoch and the head, or returns to address 0, where it has no head (R397); a newer
epoch it adopts even then, when it held an address. -/
def confirmNode (p : Side) (bs : List Nat) (s : State) : State :=
    let pl := framePayload bs
    let e := bs.getD 1 0
    let map := leAt pl 8 8
    let dep := pl.getD 3 0
    let a := if !s.ring.enm.discNew && s.address != 0 then s.address else takenAddress s
    let r := (s.setField Obj.enumStatus 16 8 (pl.getD 1 0)).setField Obj.enumStatus 8 8 dep
    let t := safeBaseline (setGeneration (s.linkGen p) (r.set Obj.nodeMap map))
    let u := { t with
      ring := { t.ring with deputy := dep, enm := { t.ring.enm with
        unconfirmed := t.ring.enm.unconfirmed && t.ring.enm.discNew, discNew := false } }
      time := { t.time with laneSet := false, hopsCw := none, hopsCcw := none } }
    if a != 0 && bit map a then
      let v := adoptEpoch e (frameSrc bs) (u.set Obj.nodeAddress a)
      confirmRole (dep = a) (v.setEnm { v.ring.enm with discNew := s.ring.enm.discNew })
    else
      let v := if s.address != 0 && newerEpoch e s.epoch then adoptEpoch e (frameSrc bs) u else u
      ((v.setEnm { v.ring.enm with discCw := none, discCcw := none }).set Obj.nodeAddress 0).set Obj.headAddress 0

/-- CONFIRM acted on, once (R355, R365). -/
def actEnumConfirm (p : Side) (bs : List Nat) (s : State) : State :=
  if frameType bs != 6 || (framePayload bs).getD 0 0 != 3 || s.isHead || (s.address != 0 && staleEpoch (bs.getD 1 0) s.epoch) then s
  else actOnce bs (confirmNode p bs) s

/-- The first copy of CONFIRM has returned to the head (R368): the ring is enumerated at the ports' generation; a
target other than it is switched to, otherwise the enumeration is done. -/
def ownConfirm (p : Side) (bs : List Nat) (s : State) : State :=
  let pl := framePayload bs
  if frameType bs != 6 || pl.getD 0 0 != 3 || !s.ring.enm.confirmDue then s
  else
    let tgt := pl.getD 2 0
    let t := setGeneration (s.linkGen p) (s.setEnm { s.ring.enm with confirmDue := false })
    if tgt != s.linkGen p && tgt != 0 then enumState 4 (sendEnum 63 [4, tgt, 20, 0] t)
    else safeBaseline (enumState 6 (t.setEnm { t.ring.enm with running := false, unconfirmed := false }))

/-- ENUM_CONFIRM. -/
def execEnumConfirm (dt : Nat) (f : RingFrame) (s : State) : Host.Outcome State Fault Refusal :=
  run (Instr.wf (.enumConfirm dt f))
    dt (ringReceive f f.bytes (actEnumConfirm f.side f.bytes) (ownConfirm f.side f.bytes)) s

/-- GEN_SWITCH (R368): the first good copy, the head's own returning one included, sets the switch that follows 2 ms later. -/
def actGenSwitch (bs : List Nat) (s : State) : State :=
  let pl := framePayload bs
  if frameType bs != 6 || pl.getD 0 0 != 4 then s
  else if 1 ≤ pl.getD 1 0 && pl.getD 1 0 ≤ 3 then
    actOnce bs (fun t => t.setEnm { t.ring.enm with switchTo := some (pl.getD 1 0) }) s
  else s

/-- GEN_SWITCH. -/
def execGenSwitch (dt : Nat) (f : RingFrame) (s : State) : Host.Outcome State Fault Refusal :=
  run (Instr.wf (.genSwitch dt f)) dt (ringReceive f f.bytes (actGenSwitch f.bytes) (actGenSwitch f.bytes)) s

/-- A port trains at a generation (R343, R368). -/
def trainAt (g : Nat) (p : Side) (s : State) : State :=
  let x := s.ringPort p
  let t := s.setRingPort p { x with downAt := if s.linkState p = 2 then s.clk else x.downAt }
  setFaulted p false (stopServing p (t.setLink p 1 g))

/-- PORT_GENERATION_SWITCH (R368): both ports train at GEN. -/
def effPortGenerationSwitch (s : State) : State :=
  match s.ring.enm.switchTo with
  | none => s
  | some g =>
    let t := s.setEnm { s.ring.enm with switchTo := none, unconfirmed := true, running := false, target := g }
    trainAt g .south (trainAt g .north t)

/-- PORT_GENERATION_SWITCH. -/
def execPortGenerationSwitch (dt : Nat) (s : State) : Host.Outcome State Fault Refusal :=
  run (Instr.wf (.portGenerationSwitch dt)) dt effPortGenerationSwitch s

/-- GEN_SWITCH_FAILURE (R369, R528): the ports return to G1; the head lowers its cap, keeps it when strapped auto, and is to run NEW
with RESULT 05h. -/
def effGenSwitchFailure (s : State) : State :=
  if !s.ring.enm.unconfirmed then s
  else
    let failed := s.ring.enm.target
    let a := setGeneration 1 (s.setEnm { s.ring.enm with unconfirmed := false, running := false })
    let b := trainAt 1 .south (trainAt 1 .north a)
    if b.isHead then
      let cap := max 1 (failed - 1)
      let c := enumResult 5 (b.setEnm { b.ring.enm with cap := cap, due := some false, fallback := true })
      if c.sgen = 3 then c.set Obj.generationCapStored cap else c
    else b

/-- GEN_SWITCH_FAILURE. -/
def execGenSwitchFailure (dt : Nat) (s : State) : Host.Outcome State Fault Refusal :=
  run (Instr.wf (.genSwitchFailure dt)) dt effGenSwitchFailure s

/-! Link delays (R366, R367). Times in units of 0.5 ns. -/

/-- DELAY_MEASUREMENT (R366): DELAY_REQ leaves by the port. -/
def effDelayMeasurement (p : Side) (s : State) : State :=
  if !s.receives p || s.address = 0 then s
  else
    let x := s.ringPort p
    let id_ := x.measures % 256
    sendLocal p [0x11, id_, 0, 0] (s.setRingPort p { x with waitId := some id_, measures := x.measures + 1 })

/-- DELAY_MEASUREMENT. -/
def execDelayMeasurement (dt : Nat) (side : Side) (s : State) : Host.Outcome State Fault Refusal :=
  run (Instr.wf (.delayMeasurement dt side)) dt (effDelayMeasurement side) s

/-- DELAY_REQ (R366): the node answers by the same port with its turnaround. -/
def actDelayReq (p : Side) (bs : List Nat) (turnaround : Nat) (s : State) : State :=
  let pl := framePayload bs
  if frameType bs != 6 || pl.getD 0 0 != 0x11 then s
  else sendLocal p ([0x12, pl.getD 1 0, 0, 0] ++ leBytes 4 turnaround) s

/-- DELAY_REQ. -/
def execDelayReq (dt : Nat) (f : RingFrame) (turnaround : Nat) (s : State) : Host.Outcome State Fault Refusal :=
  run (Instr.wf (.delayReq dt f turnaround))
    dt (ringReceive f f.bytes (actDelayReq f.side f.bytes turnaround) id) s

/-- DELAY_RESP (R366, R367): twice the delay is the round trip less the turnaround; it is accepted unless the turnaround exceeds 10 us or
it lies more than 2 ns off the mean of the last 4, and LinkDelay is that mean. -/
def actDelayResp (p : Side) (bs : List Nat) (roundTrip : Nat) (s : State) : State :=
  let pl := framePayload bs
  let x := s.ringPort p
  if frameType bs != 6 || pl.getD 0 0 != 0x12 || x.waitId != some (pl.getD 1 0) then s
  else
    let ta := leAt pl 4 4
    let d := roundTrip - ta
    let n := x.delays.length
    let sum := x.delays.sum
    let far := n != 0 && (8 * n < d * n - sum || 8 * n < sum - d * n)
    let t := s.setRingPort p { x with waitId := none }
    if 20000 < ta || roundTrip < ta || far then t.count (Obj.delayRejects + sideSub p) 16
    else
      let l := (d :: x.delays).take 4
      (t.setRingPort p { x with waitId := none, delays := l }).set (Obj.linkDelay + sideSub p)
        (roundNat l.sum (2 * l.length) % 2 ^ 32)

/-- DELAY_RESP. -/
def execDelayResp (dt : Nat) (f : RingFrame) (roundTrip : Nat) (s : State) : Host.Outcome State Fault Refusal :=
  run (Instr.wf (.delayResp dt f roundTrip))
    dt (ringReceive f f.bytes (actDelayResp f.side f.bytes roundTrip) id) s

/-- DELAY_RESP_TIMEOUT (R367): no DELAY_RESP within 100 us. -/
def effDelayRespTimeout (p : Side) (s : State) : State :=
  match (s.ringPort p).waitId with
  | none => s
  | some _ => (s.setRingPort p { s.ringPort p with waitId := none }).count (Obj.delayRejects + sideSub p) 16

/-- DELAY_RESP_TIMEOUT. -/
def execDelayRespTimeout (dt : Nat) (side : Side) (s : State) : Host.Outcome State Fault Refusal :=
  run (Instr.wf (.delayRespTimeout dt side)) dt (effDelayRespTimeout side) s

/-! Takeover (R389, R390). -/

/-- A takeover (R390): the epoch rises, the roles change without a step of the counter, ROLE_CHANGED leaves, and a VERIFY is due. MARK entries act
from the next tick on. -/
def takeover (s0 : State) : State :=
  let s := { forgetMarks s0 with ring := { (forgetMarks s0).ring with headAt := some s0.clk } }
  let a := s.keep Obj.ringEpoch ((s.epoch + 1) % 256)
  let b := ((a.setBitOf Obj.ringRole 2 false).setBitOf Obj.ringRole 1 true).set Obj.headAddress a.address
  let c := setTimeState 4 (endHoldover b)
  let d := putLane (if c.laneState = 0 then 0 else 1) c
  let e := event 8 (d.get Obj.ringRole) d
  let f := safeBaseline (e.set Obj.takeoverCount (sat 65535 (e.get Obj.takeoverCount + 1)))
  f.setEnm { f.ring.enm with due := some true }

/-- The node has accepted no MARK copy for DeputyTimeout (R389). -/
def State.markSilent (s : State) : Bool :=
  match s.ring.lastMarkAt with
  | some c => c + s.get Obj.deputyTimeout * ms ≤ s.clk
  | none => true

/-- DEPUTY_TIMEOUT (R389): a deputy without a MARK, whose port holds a session, takes over. -/
def effDeputyTimeout (s : State) : State :=
  if s.on .rng && s.isDeputy && s.port.sessions != [] && s.markSilent then takeover s else s

/-- DEPUTY_TIMEOUT. -/
def execDeputyTimeout (dt : Nat) (s : State) : Host.Outcome State Fault Refusal :=
  run (Instr.wf (.deputyTimeout dt)) dt effDeputyTimeout s

/-- A write of DeputyControl (R389): of a session at the deputy's own port. One that comes by the ring is refused as at a node that is not deputy
(log entry 139). -/
def writeDeputyControl (src : Source) (s : State) : WriteRes :=
  match src with
  | .host _ => if s.isDeputy then .done (takeover s) else rejected 1 s
  | .ring _ _ => rejected 1 s

/-- A write of EnumControl (R374): 01h NEW, 02h VERIFY. -/
def writeEnumControl (v : Nat) (s : State) : WriteRes :=
  if !s.isHead then rejected 1 s
  else if s.ring.enm.running || s.ring.enm.unconfirmed then rejected 2 s
  else .done (startEnumeration (v = 2) (s.setEnm { s.ring.enm with fallback := false }))

end Sys2Proof.Machine
end

