-- ==== Sys2Proof/Machine/RingTime.lean ====
section
/-! DEFINITION. Ring time (R110 to R131): the copies of MARK that discipline the counter, the holdover, the head's MARK and its
anchoring to SYNC; and the frames that the head takes for its host: RESULT, EVENT and family frames (R357, R360, R372). -/

namespace Sys2Proof.Machine

/-! The running plan's cycle (R126, R243, R281). -/

/-- Lc of the running plan (R243, R281). -/
def State.planLc (s : State) : Nat := if s.plan.running = RunningPlan.bank then leAt s.active.image 8 4 else ms

/-- An entry as its 14 bytes before the CRC (R248). -/
def entryOf (offset action channels param flags : Nat) : List Nat :=
  leBytes 3 offset ++ [action] ++ leBytes 4 channels ++ leBytes 4 param ++ leBytes 2 flags

/-- The entries of the ROM minimal plan for a cell count (R281); its AUX entries name selections of its own. -/
def romEntries (cells : Nat) : List (List Nat) :=
  [entryOf 0 8 0 0 0, entryOf 16 5 0 1 0, entryOf 208 5 0 2 0, entryOf 400 5 0 3 0, entryOf 592 5 0 4 0,
   entryOf 1600 1 (2 ^ cells - 1) 3 0, entryOf 8000 0 0 0 1, entryOf 14400 7 0 0x020A0000 0, entryOf 15999 15 0 0 0]

/-- The entries of the running plan (R236, R281). -/
def State.planEntries (s : State) : List (List Nat) :=
  match s.plan.running with
  | .none => []
  | .rom => romEntries s.cellCount
  | .bank => imageEntries s.active.image

/-- The running plan anchors to SYNC: ANCHOR 01h (R129, R243). -/
def State.tracks (s : State) : Bool := s.plan.running == RunningPlan.bank && s.active.image.getD 12 0 == 1

/-- The delay compensation of the node's address on a lane, in 0.5 ns (R115, R244); none while the ROM minimal plan runs, whose image the
rule does not give (log entry 115). -/
def compensation (s : State) (p : Side) : Int :=
  if s.plan.running = RunningPlan.bank && 1 ≤ s.address && s.address ≤ 62 then
    toInt 8 (s.active.image.getD ((match p with
      | .north => 31
      | .south => 93) + s.address) 0)
  else 0

/-! A MARK copy (R113, R114, R117). Times in units of 0.5 ns; a tick has 125. -/

/-- 48 bits of ticks in units of 0.5 ns. -/
abbrev timeSpan : Nat := 2 ^ 48 * 125

/-- CORR as the node uses it: the copy's, with the delay of its link and the compensation (R114, R115). -/
def markCorr (s : State) (p : Side) (pl : List Nat) : Nat :=
  ofInt 32 ((leAt pl 6 4 : Nat) + (s.get (Obj.linkDelay + sideSub p) : Nat) + compensation s p)

/-- ORIGIN + CORR, the head's time at the arrival (R117). -/
def markTime (s : State) (p : Side) (pl : List Nat) : Nat := (leAt pl 0 6 * 125 + markCorr s p pl) % timeSpan

/-- The phase error e (R117). -/
def phaseError (s : State) (p : Side) (pl : List Nat) (sub : Nat) : Int :=
  let d := (markTime s p pl + timeSpan - (s.ringTime * 125 + sub)) % timeSpan
  if d < timeSpan / 2 then d else (d : Int) - timeSpan

/-- |e| is at most n. -/
def within (e : Int) (n : Nat) : Bool := -(n : Int) ≤ e && e ≤ n

/-- The tick of the MARK entry that sent a copy, by the node's own plan (R119): of the MARK entries of this cycle and its neighbours the one
nearest to ORIGIN less the 2 ticks of R113; a node whose plan has none takes that time itself. -/
def State.markTick (s : State) (origin : Nat) : Nat :=
  let sent := wrap48 (origin + (2 ^ 48 - 2))
  let ticks := (s.planEntries.filter (fun e => entryAction e = 8)).flatMap (fun e =>
    let t := s.get Obj.cycleStart + leAt e 0 3
    [wrap48 t, wrap48 (t + s.planLc), wrap48 (t + (2 ^ 48 - s.planLc))])
  match ticks with
  | [] => sent
  | t :: ts => ts.foldl (fun b x => if (signed48 x sent).natAbs < (signed48 b sent).natAbs then x else b) t

/-- The copy has come no later than 100 us after the tick of its MARK entry (R111, R119). -/
def State.markInTime (s : State) (origin : Nat) : Bool := signed48 s.ringTime (s.markTick origin) ≤ 1600

/-- The copy is accepted (R119): in time, unless the node is FREE and has no schedule yet, and in LOCKED or HOLDOVER with |e| at most 1 us. -/
def markAccepted (s : State) (origin : Nat) (e : Int) : Bool :=
  (s.timeState = 0 || s.markInTime origin) &&
    (!(s.timeState = 2 || s.timeState = 3) || within e 2000)

/-- The loop steers (R117): the gains are the part's own, so the steer is a free value held to 25 ppm (log entry 4); it stays in HOLDOVER
(R122). What remains of e after a holdover is steered out at no more than 20 ppm from the steer that the holdover held (R123, log entry
116). -/
def steer (s : State) : State :=
  let v := toInt 32 (s.free 32)
  let w := match s.time.slewFrom with
    | some h => max (h - 20000) (min (h + 20000) v)
    | none => v
  (s.set Obj.frequencySteer (ofInt 32 (max (-25000) (min 25000 w)))).freeUsed

/-- The remaining e of a holdover has been steered out (R123). -/
def slewDone (e : Int) (s : State) : State :=
  if within e 40 then { s with time := { s.time with slewFrom := none } } else s

/-- The counter takes the time of a copy: its own plus e, in whole ticks (R118, R120). -/
def stepCounter (sub : Nat) (e : Int) (s : State) : State :=
  { s with ringTime := wrap48 (((s.ringTime * 125 + sub : Nat) + e + timeSpan) / 125).toNat }

/-- An entry of a bank has an effect in the present mode (R238). -/
def State.entryActs (s : State) (e : List Nat) : Bool :=
  match entryAction e with
  | 0 => bit (leAt e 12 2) 0
  | 3 | 4 => s.modeIn outputModes
  | 8 => s.isHead
  | 9 => s.modeIn (Mode.safeMode :: bankModes) && s.supReady
  | 10 | 11 => s.modeIn [Mode.transfer]
  | 12 => s.modeIn [Mode.loupe]
  | 13 | 15 => false
  | _ => true

/-- The entries of the bank that have not fired `t` ticks after the cycle start, those without an effect apart (R238, R280). -/
def State.entriesAfter (s : State) (t : Nat) : Nat :=
  if s.plan.running = RunningPlan.bank then
    ((imageEntries s.active.image).filter (fun e => t < leAt e 0 3 && s.entryActs e)).length
  else 0

/-- The plan at a step (R120): the cycle ends, its entries that have not fired are counted as skipped (R280), and the next cycle starts at
the first start of R127 after the stepped time. -/
def stepPlan (before : Nat) (c start2 : Nat) (s : State) : State :=
  if !s.planRuns then s
  else
    let lc := max 1 s.planLc
    let n := -((signed48 start2 s.ringTime - 1) / lc)
    let k := s.entriesAfter (since48 before (s.get Obj.cycleStart))
    let t := s.set Obj.planSkipCount (sat (2 ^ 32 - 1) (s.get Obj.planSkipCount + k))
    { t with time := { t.time with
        adopt := some (ofInt 32 ((c : Int) + 2 + n), ofInt 48 ((start2 : Int) + n * lc))
        counted := true } }

/-- A step of R120 by a copy with payload `pl`: the counter steps, the plan starts anew, ACQUIRE, and the count; 1Ah when the node was
LOCKED. -/
def timeStep (pl : List Nat) (sub : Nat) (e : Int) (s : State) : State :=
  let t := (setTimeState 1 (stepPlan s.ringTime (leAt pl 10 4) (leAt pl 14 6) (stepCounter sub e s))).count Obj.timeStepCount 16
  let u := { t with time := { t.time with locks := 0, bigs := 0, lastE := none, lastBig := none, selE := none, otherE := none, slewFrom := none } }
  if s.timeState = 2 then faultPulse 0x1A u else endHoldover u

/-- The node is LOCKED: a holdover ends, whose remaining e is to be steered out, and 1Bh may recover (R123, R125). -/
def lockTime (s : State) : State :=
  faultFollow 0x1B false (endHoldover (setTimeState 2 { s with time := { s.time with
    locks := 0, lastE := none, lastBig := none
    slewFrom := if s.timeState = 3 then some (s.getInt Obj.frequencySteer 32) else s.time.slewFrom } }))

/-- What a copy accepted on the selected lane does in each state (R118, R123). A copy that is missed, or not accepted, between accepted ones
breaks no run of theirs (log entry 135). -/
def disciplined (sub : Nat) (e : Int) (s : State) : State :=
  if s.timeState = 0 then
    setTimeState 1 (stepCounter sub e { s with time := { s.time with locks := 0 } })
  else if s.timeState = 1 then
    let n := if within e 40 then s.time.locks + 1 else 0
    let t := steer { s with time := { s.time with locks := n } }
    if 4 ≤ n then lockTime t else t
  else if s.timeState = 2 then steer (slewDone e s)
  else
    let t := { s with time := { s.time with lastE := some e, lastBig := none } }
    match s.time.lastE with
    | some e' => if within (e - e') 40 then steer (lockTime s) else t
    | none => t

/-- A copy on the selected lane more than 1 us off (R120): three in a row that the other lane's copies bear out step a LOCKED node; two
that agree step a node in HOLDOVER. -/
def bigError (pl : List Nat) (sub : Nat) (e : Int) (other : Option Int) (s : State) : State :=
  if s.timeState = 2 then
    match other with
    | some o =>
      if within (o - e) 40 then
        if 2 ≤ s.time.bigs then timeStep pl sub e s else { s with time := { s.time with bigs := s.time.bigs + 1 } }
      else s
    | none => s
  else if s.timeState = 3 then
    let t := { s with time := { s.time with lastBig := some e } }
    match s.time.lastBig with
    | some e' => if within (e - e') 40 then timeStep pl sub e s else t
    | none => t
  else s

/-- LaneSkew and SKEW of a MARK whose copies have come on both lanes (R121). -/
def laneSkew (sel other : Int) (s : State) : State :=
  let d := other - sel
  let n := if within d 80 then 0 else s.time.skewRun + 1
  let t := (s.set Obj.laneSkew (ofInt 32 (clampInt 32 d))).setBitOf Obj.ringTimeStatus 9 (4 ≤ n)
  { t with time := { t.time with skewRun := min 4 n } }

/-- The lane of R116: with the first copies since enumeration, the one with fewer hops, CW at a tie. The selection stays once both lanes have
brought a copy, or one of them two (log entry 134). -/
def selectLane (p : Side) (hops : Nat) (s : State) : State :=
  let x := match p with
    | .north => { s.time with hopsCw := some hops }
    | .south => { s.time with hopsCcw := some hops }
  let t := { s with time := x }
  let again := match p with
    | .north => s.time.hopsCw.isSome
    | .south => s.time.hopsCcw.isSome
  if t.time.laneSet then t
  else if again then { t with time := { t.time with laneSet := true } }
  else
    match t.time.hopsCw, t.time.hopsCcw with
    | some a, some b =>
      let u := t.setBitOf Obj.ringTimeStatus 8 (b < a)
      { u with time := { u.time with laneSet := true } }
    | some _, none => t.setBitOf Obj.ringTimeStatus 8 false
    | none, some _ => t.setBitOf Obj.ringTimeStatus 8 true
    | none, none => t

/-- The error on the other lane of the MARK with an ORIGIN. -/
def sameMark (x : Option (Nat × Int)) (origin : Nat) : Option Int :=
  match x with
  | some (o, e) => if o = origin then some e else none
  | none => none

/-- The lane on which a port receives delivered the MARK (R382). -/
def noteMark (p : Side) (s : State) : State :=
  { s with ring := match p with
    | .north => { s.ring with markCw := true, lastMarkAt := some s.clk }
    | .south => { s.ring with markCcw := true, lastMarkAt := some s.clk } }

/-- The schedule of the head, to be adopted at the next boundary when it differs (R127). -/
def noteSchedule (pl : List Nat) (s : State) : State :=
  let c := leAt pl 10 4
  let s2 := leAt pl 14 6
  let mine := wrap48 (s.get Obj.cycleStart + s.time.cycleLen + s.planLc)
  if s.cycle = c && mine = s2 then { s with time := { s.time with adopt := none } }
  else { s with time := { s.time with adopt := some ((c + 2) % 2 ^ 32, s2) } }

/-- A MARK copy at a node that is not head, of the current epoch (R116 to R120, R127). -/
def useMark (p : Side) (hops : Nat) (pl : List Nat) (sub : Nat) (s : State) : State :=
  let e := phaseError s p pl sub
  let origin := leAt pl 0 6
  let ok := markAccepted s origin e
  let a := if ok then selectLane p hops (noteSchedule pl (noteMark p (s.setField Obj.ringTimeStatus 16 6 hops))) else s
  let mine := a.laneCcw == (p == .south)
  if mine then
    let b := { a with time := { a.time with selE := some (origin, e) } }
    let c := match sameMark b.time.otherE origin with
      | some o => laneSkew e o b
      | none => b
    if ok then
      let d := c.set Obj.phaseError (ofInt 32 (clampInt 32 e))
      disciplined sub e { d with time := { d.time with bigs := 0 } }
    else if within e 2000 then c
    else bigError pl sub e (sameMark c.time.otherE origin) c
  else
    let b := { a with time := { a.time with otherE := some (origin, e) } }
    match sameMark b.time.selE origin with
    | some x =>
      let c := laneSkew x e b
      if within x 2000 || c.timeState != 2 then c else bigError pl sub x (some e) c
    | none => b

/-- The node adopts a newer epoch from a MARK of the deputy of its last CONFIRM (R391). -/
def markEpoch (bs : List Nat) (s : State) : State :=
  if s.address != 0 && !s.isHead && newerEpoch (bs.getD 1 0) s.epoch && s.ring.deputy != 0 && frameSrc bs = s.ring.deputy then
    adoptEpoch (bs.getD 1 0) (frameSrc bs) s
  else s

/-- A good MARK (R119, R391). -/
def actMark (p : Side) (bs : List Nat) (sub : Nat) (s : State) : State :=
  let t := if frameType bs = 3 then markEpoch bs s else s
  if frameType bs != 3 || !actsOn bs t || t.isHead || frameLen bs != 24 then t
  else useMark p (frameHops bs + 1) (framePayload bs) sub t

/-- The head's own MARK copy has returned (R384). -/
def ownMark (p : Side) (bs : List Nat) (s : State) : State :=
  if frameType bs = 3 && s.isHead then noteMark p s else s

/-- The copy as it goes on: CORR with the link delay, the compensation and the node's residence time in 0.5 ns (R114). -/
def onwardMark (s : State) (p : Side) (residence : Nat) (bs : List Nat) : List Nat :=
  if frameType bs != 3 || bs.length < 18 then bs
  else
    let c := (markCorr s p (bs.drop 8) + residence) % 2 ^ 32
    bs.take 14 ++ leBytes 4 c ++ bs.drop 18

/-- MARK_COPY (R114 to R120), with the residence time measured from the arrival of its start delimiter to its departure. A head uses no copy,
so not the one that deposes it either (R392). -/
def effMarkCopy (f : RingFrame) (residence sub : Nat) (s : State) : State :=
  ringReceiveAt f ((sub + residence) / 125) (onwardMark s f.side residence f.bytes) (if s.isHead then id else actMark f.side f.bytes sub) (ownMark f.side f.bytes) s

/-- MARK_COPY. -/
def execMarkCopy (dt : Nat) (f : RingFrame) (residence sub : Nat) (s : State) : Host.Outcome State Fault Refusal :=
  run (Instr.wf (.markCopy dt f residence sub)) dt (effMarkCopy f residence sub) s

/-- MARK_SILENCE (R122): no accepted copy for 10 ms takes a LOCKED node to HOLDOVER. -/
def effMarkSilence (s : State) : State := if s.timeState = 2 then startHoldover s else s

/-- MARK_SILENCE. -/
def execMarkSilence (dt : Nat) (s : State) : Host.Outcome State Fault Refusal :=
  run (Instr.wf (.markSilence dt)) dt effMarkSilence s

/-- HOLDOVER_LIMIT (R125): the holdover is longer than HoldoverLimit. -/
def effHoldoverLimit (s : State) : State :=
  if s.timeState = 3 && s.time.holdStart.isSome then faultFollow 0x1B true s else s

/-- HOLDOVER_LIMIT. -/
def execHoldoverLimit (dt : Nat) (s : State) : Host.Outcome State Fault Refusal :=
  run (Instr.wf (.holdoverLimit dt)) dt effHoldoverLimit s

/-! The head's MARK (R113, R130, R358). -/

/-- The phase of the accepted edge nearest to the cycle start, within half a carrier period (R130). -/
def syncPhi (s : State) : Option Int :=
  s.time.phi.filter (fun d => d.natAbs * 2 * bits (s.get Obj.syncConfig) 16 16 ≤ s.planLc)

/-- The nearer of the edge kept for the cycle start and one at a distance `d` (R130). -/
def nearerEdge (b : Option Int) (d : Int) : Option Int :=
  match b with
  | none => some d
  | some x => if d.natAbs < x.natAbs then some d else some x

/-- c(k+1) of a phase: 0 within DEADBAND, else rounded to a multiple of 4 ticks, a tie away from 0 (log entry 137), and limited to 4 x SLEW
(R130). -/
def adjustment (s : State) (phi : Int) : Int :=
  let cfg := s.get Obj.syncConfig
  let lim : Int := 4 * bits cfg 8 4
  if phi.natAbs ≤ bits cfg 4 4 then 0 else max (-lim) (min lim (roundDiv phi 4 * 4))

/-- The head takes the edge in only while its plan anchors to SYNC (R27, R129). -/
def syncOn (s : State) : Bool := s.on .rng && s.isHead && s.tracks

/-- SyncStatus (R131): 0 inactive, 1 ACQUIRING, 2 TRACKING, 3 LOST; inactive while SYNC is not taken in. -/
def State.syncState (s : State) : Nat := if syncOn s then bits (s.get Obj.syncStatus) 0 2 else 0

/-- TRACK_ADJUSTMENT (R130): on the last MARK of a cycle, while TRACKING and with no adjustment pending. -/
def trackAdjustment (last : Bool) (s : State) : State :=
  let pending := s.time.pendingAdj != 0 && s.time.adjCycle = s.cycle
  if !last || !s.tracks || s.syncState != 2 || pending then s
  else
    match syncPhi s with
    | none => s
    | some phi =>
      let t := s.set Obj.syncPhase (ofInt 32 phi)
      { t with time := { t.time with pendingAdj := adjustment s phi, adjCycle := (s.cycle + 1) % 2 ^ 32 } }

/-- START2: the start of cycle CYCLE + 2 (R113, R130). The MARKs of a cycle before its last, on which the phase is measured, announce no
adjustment (log entry 133). -/
def markStart2 (s : State) : Nat :=
  let c := if s.time.adjCycle = (s.cycle + 1) % 2 ^ 32 then s.time.pendingAdj else 0
  ofInt 48 ((s.get Obj.cycleStart : Nat) + (s.time.cycleLen : Nat) + (s.planLc : Nat) + c)

/-- A family frame that waits is sent by the South port (R372). -/
def sendLegacy (s : State) : State :=
  match s.ring.legacyWait with
  | none => s
  | some b =>
    let t := sendOwn .south 9 b s
    { t with ring := { t.ring with legacyWait := none } }

/-- A MARK entry acts now: the node is head and did not take over at this very tick (R390), or it was head until a frame of this tick (R392). -/
def State.marks (s : State) : Bool :=
  (s.isHead && s.ring.headAt != some s.clk) || s.ring.deposedAt.any (fun d => d.1 = s.clk)

/-- The epoch of a MARK that is sent now: the one before a deposition at this tick (R392). -/
def State.markEpochNow (s : State) : Nat :=
  match s.ring.deposedAt with
  | some (c, e) => if c = s.clk then e else s.epoch
  | none => s.epoch

/-- MARK (R113, R348, R358): the head's frame leaves both ports at once, ORIGIN two ticks after the entry's; on every other node the
entry is a NOP (R27, R392). A family frame that waited for it follows (R372). -/
def effMark (last : Bool) (s : State) : State :=
  if !s.on .rng || !s.marks || !s.planRuns then s
  else
    let t := trackAdjustment last s
    let body := leBytes 6 (wrap48 (t.ringTime + 2)) ++ [0, 0, 0, 0] ++ leBytes 4 t.cycle ++ leBytes 6 (markStart2 t) ++
      [t.runningId, 0, 0, 0]
    let fr : TxFrame := ⟨3, 0, 63, t.nextSeq 3, body, true, true⟩
    let bs := frameBytes (t.set Obj.ringEpoch t.markEpochNow) fr
    let u := sendOwn .north 3 bs (sendOwn .south 3 bs t)
    sendLegacy { u with ring := { u.ring with seqs := assocSet u.ring.seqs 3 ((fr.seq + 1) % 256) } }

/-- MARK. -/
def execMark (dt offset : Nat) (last : Bool) (s : State) : Host.Outcome State Fault Refusal :=
  run (Instr.wf (.mark dt offset last)) dt (effMark last) s

/-! SYNC (R129). -/

/-- The interval lies within 2 % of Lc divided by EDGES (R129). -/
def edgeFits (s : State) (d : Nat) : Bool :=
  let n := d * bits (s.get Obj.syncConfig) 16 16
  (n - s.planLc) * 50 ≤ s.planLc && (s.planLc - n) * 50 ≤ s.planLc

/-- An expected edge is missing or out of tolerance (R129): three in a row lose the track. -/
def edgeMissed (s : State) : State :=
  let n := s.time.missRun + 1
  let t := { s with time := { s.time with missRun := min 3 n, edgeRun := 0 } }
  if 3 ≤ n && (s.syncState = 1 || s.syncState = 2) then t.set Obj.syncStatus 3 else t

/-- An accepted edge (R129, R131). -/
def edgeAccepted (d : Nat) (s : State) : State :=
  let n := min 8 (s.time.edgeRun + 1)
  let l := (d :: s.time.edges).take 16
  let t := { s with time := { s.time with
    edges := l, edgeAt := some s.ringTime, edgeRun := n, missRun := 0
    phi := nearerEdge s.time.phi (signed48 s.ringTime (s.get Obj.cycleStart)) } }
  let u := t.set Obj.syncPeriod (roundNat (l.sum * 16) l.length % 2 ^ 32)
  if 8 ≤ n then u.set Obj.syncStatus 2 else u

/-- SYNC_EDGE (R129): an edge of the selected polarity is stamped and judged by its interval from the last accepted edge; outside
TRACKING an edge that does not fit is the new reference. The first edge leads from inactive to ACQUIRING (log entry 136). -/
def effSyncEdge (rising : Bool) (s : State) : State :=
  if !syncOn s || (bits (s.get Obj.syncConfig) 0 1 == 0) != rising then s
  else
    let t := if s.syncState = 0 then s.set Obj.syncStatus 1 else s
    match t.time.edgeAt with
    | none => { t with time := { t.time with edgeAt := some t.ringTime } }
    | some e =>
      let d := since48 t.ringTime e
      if edgeFits t d then edgeAccepted d t
      else
        let u := edgeMissed t
        if u.syncState = 2 then u else { u with time := { u.time with edgeAt := some u.ringTime, edges := [] } }

/-- SYNC_EDGE. -/
def execSyncEdge (dt : Nat) (rising : Bool) (s : State) : Host.Outcome State Fault Refusal :=
  run (Instr.wf (.syncEdge dt rising)) dt (effSyncEdge rising) s

/-- SYNC_EDGE_MISSING (R129). -/
def effSyncEdgeMissing (s : State) : State := if syncOn s then edgeMissed s else s

/-- SYNC_EDGE_MISSING. -/
def execSyncEdgeMissing (dt : Nat) (s : State) : Host.Outcome State Fault Refusal :=
  run (Instr.wf (.syncEdgeMissing dt)) dt effSyncEdgeMissing s

/-! Frames for the head's host. -/

/-- A flagged set is delivered once: a copy with the same bytes 0 to 11 is a duplicate (R357). -/
def deliverSet (set : List Nat) (s : State) : State :=
  let key := set.take 12
  if s.ring.delivered.contains key then s
  else portResult (set.getD 0 0 % 64) set { s with ring := { s.ring with delivered := key :: s.ring.delivered } }

/-- EVENT_FRAME at the head (R61, R360): an event packet, once per SRC and SEQ. -/
def actEvent (bs : List Nat) (s : State) : State :=
  if frameType bs != 8 || !actsOn bs s || !s.isHead then s
  else actOnce bs (fun t =>
    let r := framePayload bs
    portEvent (r.getD 0 0) (r.getD 1 0 % 64) (r.getD 2 0) (leAt r 4 6) t) s

/-- EVENT_FRAME. -/
def execEventFrame (dt : Nat) (f : RingFrame) (s : State) : Host.Outcome State Fault Refusal :=
  run (Instr.wf (.eventFrame dt f)) dt (ringReceive f f.bytes (actEvent f.bytes) id) s

/-- LEGACY_FRAME at the head (R372): captured at the North port into LegacyReceive, and counted. -/
def actLegacy (p : Side) (bs : List Nat) (s : State) : State :=
  if frameType bs != 9 || !s.isHead || p = .south then s
  else ({ s with ring := { s.ring with legacyRx := bs } }).wrap Obj.legacyReceiveCount 16

/-- LEGACY_FRAME. -/
def execLegacyFrame (dt : Nat) (f : RingFrame) (s : State) : Host.Outcome State Fault Refusal :=
  run (Instr.wf (.legacyFrame dt f)) dt (ringReceive f f.bytes (actLegacy f.side f.bytes) id) s

/-- A write of LegacyTransmit (R372): the CRC-16 is appended, and the frame leaves by the South port, at once when at least 400 us remain
to the next MARK tick, else after that MARK. -/
def writeLegacyTransmit (data : List Nat) (markIn : Nat) (s : State) : WriteRes :=
  if !s.isHead then rejected 1 s
  else if s.get Obj.ringGeneration != 1 then rejected 2 s
  else if s.ring.legacyWait.isSome then .refuse 0x0C 0 s
  else
    let t := { s with ring := { s.ring with legacyWait := some (data ++ leBytes 2 (crc16 data)) } }
    .done (if 6400 ≤ markIn then sendLegacy t else t)

end Sys2Proof.Machine
end

