-- ==== Sys2Proof/Machine/PlanImage.lean ====
section
/-! DEFINITION. The Huarov image: its fields (R242 to R257), the ROM minimal plan (R281), and the checks of R268 in the order of their
table. A check answers the entry index that PlanRejectDetail shows, FFFFh for a header or table fault; where a check is about two entries
it answers the later one (log entry 15). -/

namespace Sys2Proof.Machine

/-! Fields. -/

/-- OFFSET of an entry (R248). -/
def entryOffset (e : List Nat) : Nat := leAt e 0 3

/-- CHANNELS of an entry (R250). -/
def entryChannels (e : List Nat) : Nat := leAt e 4 4

/-- PARAM of an entry. -/
def entryParam (e : List Nat) : Nat := leAt e 8 4

/-- FLAGS of an entry (R249). -/
def entryFlags (e : List Nat) : Nat := leAt e 12 2

/-- CYCLE_LENGTH of an image (R243). -/
def imageLc (image : List Nat) : Nat := leAt image 8 4

/-- SETTLE_WINDOW of an image, in ticks (R243). -/
def imageSettle (image : List Nat) : Nat := leAt image 14 2 * 16

/-- FALLBACK_DIVIDER of an image (R243). -/
def imageFallback (image : List Nat) : Nat := image.getD 13 0

/-- The modulator periods between outputs for an OSR code (R143, R251). -/
def osrOf (code : Nat) : Nat := 128 * 2 ^ code

/-- Ta of an OSR code in ticks (R143): 3 times OSR modulator periods of 4 ticks. -/
def apertureTicks (code : Nat) : Nat := 12 * osrOf code

/-- The first multiple of 4 at or after E + 8 (R132). -/
def apertureStart (e : Nat) : Nat := (e + 11) / 4 * 4

/-- A CONVERT that is not marked THROUGH (R270). -/
def plainConvert (e : List Nat) : Bool := entryAction e == 1 && !bit (entryFlags e) 1

/-- The settle set of a mask of cells: the cells with their neighbours, within 1 to 24 (R270). -/
def settleSet (cells : Nat) : Nat := (cells ||| cells * 2 ||| cells / 2) % 2 ^ 24

/-- A BAL_HOLD or BAL_RELEASE (R248). -/
def isBal (e : List Nat) : Bool := entryAction e == 3 || entryAction e == 4

/-- EDGES of the first SYNC_WAIT (R257). -/
def imageEdges (image : List Nat) : Option Nat :=
  ((imageEntries image).find? (fun e => entryAction e = 13)).map (fun e => entryParam e % 65536)

/-! Helpers of the checks. -/

/-- The index of the first entry that a test picks. -/
def firstBad (p : List Nat → Bool) (es : List (List Nat)) : Option Nat :=
  (es.zipIdx.find? (fun x => p x.1)).map (·.2)

/-- The index of the later entry of the first pair that a test picks. -/
def firstPair (p : List Nat → List Nat → Bool) (es : List (List Nat)) : Option Nat :=
  (es.zipIdx.find? (fun y => (es.take y.2).any (fun x => p x y.1))).map (·.2)

/-- The distance from a to b in a cycle, at least 0 and below `lc`. -/
def cycleDist (lc a b : Nat) : Nat := (b % lc + (lc - a % lc)) % lc

/-- The interval that ends at entry `j` of a list of ticks in a cycle, across the boundary for the first (R271, R217, R275). -/
def gapAt (lc : Nat) (ticks : List Nat) (j : Nat) : Nat :=
  if j = 0 then ticks.getD 0 0 + lc - ticks.getD (ticks.length - 1) 0 else ticks.getD j 0 - ticks.getD (j - 1) 0

/-- The index of the first of some entries whose interval from the one before fails a test. -/
def badGap (lc : Nat) (p : Nat → Bool) (es : List (List Nat × Nat)) : Option Nat :=
  let ticks := es.map (fun e => entryOffset e.1)
  (es.zipIdx.find? (fun x => p (gapAt lc ticks x.2))).map (·.1.2)

/-- The entries that a test picks, with their index. -/
def picked (p : List Nat → Bool) (es : List (List Nat)) : List (List Nat × Nat) := es.zipIdx.filter (fun x => p x.1)

/-- On and off alternate through the cycle and across its boundary (R273, R275): the index of the first entry that repeats
the state of the one before it. -/
def notAlternating (seq : List (Bool × Nat)) : Option Nat :=
  let n := seq.length
  ((List.range n).map (fun j => (j + 1) % n)).findSome? (fun j =>
    match seq[j]?, seq[(j + n - 1) % n]? with
    | some x, some y => if x.1 = y.1 then some x.2 else none
    | _, _ => none)

/-- Intervals (start, length, index) that repeat every `lc`: the later of two that overlap, or one that overlaps itself. -/
def overlap (lc : Nat) (iv : List (Nat × Nat × Nat)) : Option Nat :=
  iv.findSome? (fun y => if iv.any (fun x =>
      if x.2.2 = y.2.2 then lc < x.2.1 else cycleDist lc x.1 y.1 < x.2.1) then some y.2.2 else none)

/-! The checks that need no configuration. -/

/-- 0Ah for a SLICE: its CHANNELS for its KIND, and its LENGTH (R255, R466). The cell of a MIRROR slice is at most the Mirror cell count
`mir` in force (R404, log entry 117). -/
def sliceFieldOk (mir ch p : Nat) : Bool :=
  let kind := p / 2 ^ 24
  let cells := (bitList (ch % 2 ^ 24) 24).length
  let spares := bits ch 24 2
  let len := p % 65536
  let named := if kind = 1 then spares != 0 && cells == 1
    else if kind = 4 || kind = 5 || kind = 6 then spares == 0 && cells == 1
    else spares == 0 && cells == 0
  1 ≤ kind && kind ≤ 10 && (kind != 6 || ch < 2 ^ mir) && bits p 16 8 == 0 && (len == 0 || (100 ≤ len && len ≤ 2000)) && ch < 2 ^ 26 && named

/-- 0Ah: PARAM, CHANNELS and FLAGS of an entry are within R249 to R257. -/
def entryFieldOk (mir : Nat) (e : List Nat) : Bool :=
  let a := entryAction e
  let ch := entryChannels e
  let p := entryParam e
  let f := entryFlags e
  let flagsOk := f < 4 && (!bit f 0 || a == 0) && (!bit f 1 || a == 1)
  flagsOk &&
  (match a with
   | 1 => ch < 2 ^ 24 && p < 5
   | 3 => 0 < ch && ch < 2 ^ 24 && p == 0
   | 4 => 0 < ch && ch < 2 ^ 24 && p == 0
   | 5 => ch == 0 && 1 ≤ p && p ≤ 16
   | 6 => ch == 0 && bits p 2 14 == 0 && (p / 2 ^ 16 != 0 || bit p 1)
   | 7 => ch == 0 && bits p 26 4 == 0 && bits p 24 2 != 3 && bits p 0 8 == 0 && bits p 16 8 != 0 &&
      bits p 8 8 < bits p 16 8
   | 9 => sliceFieldOk mir ch p
   | 12 => ch < 2 ^ 24 && p < 2 ^ 8 && (bits p 4 4 == 1 || p == 0x20)
   | 13 => ch == 0 && 1 ≤ p && p < 2 ^ 16
   | _ => ch == 0 && p == 0)

/-- 0Bh: two entries conflict (R269); the A of two CONVERT may coincide across the cycle boundary (R132). -/
def entriesConflict (lc : Nat) (x y : List Nat) : Bool :=
  let a := entryAction x
  let b := entryAction y
  let cx := entryChannels x
  let cy := entryChannels y
  let same := entryOffset x == entryOffset y
  let common (p q : Nat) : Bool := (p &&& q) / 2 != 0
  (a == 1 && b == 1 && apertureStart (entryOffset x) % lc == apertureStart (entryOffset y) % lc) ||
  (same && ((a == b && (a == 7 || a == 2 || a == 8)) ||
    (((a == 3 && b == 4) || (a == 4 && b == 3)) && cx &&& cy != 0) ||
    (a == 6 && b == 6 && common (entryParam x) (entryParam y)) ||
    (a == 10 && b == 11) || (a == 11 && b == 10) ||
    (a == 12 && b == 12 && entryParam x / 16 != entryParam y / 16) ||
    (plainConvert x && isBal y && settleSet cx &&& cy != 0) ||
    (isBal x && plainConvert y && cx &&& settleSet cy != 0)))

/-- The BAL entry of a cell with the least distance back from A (R270): that distance, and whether it releases. -/
def latestBal (lc a n : Nat) (es : List (List Nat)) : Option (Nat × Bool) :=
  es.foldl (fun m e =>
    if isBal e && bit (entryChannels e) (n - 1) then
      let d := cycleDist lc (entryOffset e) a
      match m with
      | some (d', r) => if d < d' then some (d, entryAction e == 4) else some (d', r)
      | none => some (d, entryAction e == 4)
    else m) none

/-- 0Ch: a cell of the settle set meets both conditions of R270 for the aperture from A that lasts Ta. -/
def settled (image : List Nat) (es : List (List Nat)) (a ta n : Nat) : Bool :=
  let lc := imageLc image
  let releases := es.filter (fun e => entryAction e = 4 && bit (entryChannels e) (n - 1))
  releases.isEmpty ||
    (match latestBal lc a n es with
     | some (d, false) =>
       imageSettle image ≤ d && releases.all (fun e => ta ≤ cycleDist lc a (entryOffset e))
     | _ => false)

/-- 0Ch SETTLE (R270). -/
def settleFault (image : List Nat) (es : List (List Nat)) : Option Nat :=
  firstBad (fun e => plainConvert e &&
    (bitList (settleSet (entryChannels e)) 24).any (fun i =>
      !settled image es (apertureStart (entryOffset e)) (apertureTicks (entryParam e)) (i + 1))) es

/-- 0Dh MARK (R271). -/
def markFault (image : List Nat) (es : List (List Nat)) : Option Nat :=
  let lc := imageLc image
  let ms := picked (fun e => entryAction e == 8) es
  match ms.getLast? with
  | none => some 0xFFFF
  | some l =>
    match badGap lc (fun g => 159936 < g) ms with
    | some i => some i
    | none =>
      match imageEdges image with
      | some n => if image.getD 12 0 = 1 && entryOffset l.1 * (2 * n) < lc then some l.2 else none
      | none => none

/-- The apertures that hold the instant A: those that started before it in this or an earlier cycle, its own included (R272). -/
def openAt (lc a : Nat) (es : List (List Nat)) : Nat :=
  es.foldl (fun n e =>
    if entryAction e = 1 then
      let d := cycleDist lc (apertureStart (entryOffset e)) a
      let ta := apertureTicks (entryParam e)
      n + (if d < ta then (ta - d + lc - 1) / lc else 0)
    else n) 0

/-- The distance back from the A of entry `i` to the aperture before it, that of its own entry in the cycle before at most (R272). -/
def apertureBefore (lc a i : Nat) (es : List (List Nat)) : Nat :=
  es.zipIdx.foldl (fun m x =>
    if entryAction x.1 = 1 && x.2 != i then min m (cycleDist lc (apertureStart (entryOffset x.1)) a) else m) lc

/-- 0Eh ACCUMULATOR (R272): the current converter is named in every CONVERT, so its apertures bound those of every converter. -/
def accumulatorFault (image : List Nat) (es : List (List Nat)) : Option Nat :=
  let lc := imageLc image
  (es.zipIdx.find? (fun x => entryAction x.1 == 1 &&
    (3 < openAt lc (apertureStart (entryOffset x.1)) es ||
      apertureBefore lc (apertureStart (entryOffset x.1)) x.2 es < 4 * osrOf (entryParam x.1)))).map (·.2)

/-- The ticks for which an entry occupies the auxiliary converter (R211, R266), for N of the AUX entries. -/
def auxOccupied (n : Nat → Nat) (e : List Nat) : Option Nat :=
  if entryAction e = 5 then some ((10 + n (entryParam e)) * 16)
  else if entryAction e = 0 && bit (entryFlags e) 0 then some 176
  else none

/-- 0Fh AUX_OVERLAP (R211, R266). -/
def auxFault (image : List Nat) (es : List (List Nat)) (n : Nat → Nat) : Option Nat :=
  overlap (imageLc image) (es.zipIdx.filterMap (fun x => (auxOccupied n x.1).map (fun l => (entryOffset x.1, l, x.2))))

/-- 11h PAIRING for one current, a bit of PARAM (R253, R273). -/
def pairingFault (es : List (List Nat)) : Option Nat :=
  (1 :: (List.range 16).map (· + 16)).findSome? (fun b =>
    notAlternating ((picked (fun e => entryAction e == 6 && bit (entryParam e) b) es).map (fun x => (bit (entryParam x.1) 0, x.2))))

/-- LENGTH of a SLICE in us; 0 takes the default budget (R255, R466). -/
def sliceLength (p : Nat) : Nat := if p % 65536 = 0 then 500 else p % 65536

/-- How long a SLICE occupies its spare, or its block (R274, R467). -/
def sliceOccupied (lc : Nat) (es : List (List Nat)) (e : List Nat) : Nat :=
  let len := sliceLength (entryParam e) * 16
  if bits (entryChannels e) 24 2 = 0 then len
  else
    let from_ := entryOffset e + len + 320
    let first := es.foldl (fun (m : Option (Nat × Nat)) c =>
      if entryAction c = 1 && entryChannels c &&& entryChannels e &&& 0xFFFFFF != 0 then
        let d := cycleDist lc from_ (apertureStart (entryOffset c))
        match m with
        | some (d', t) => if d < d' then some (d, apertureTicks (entryParam c)) else some (d', t)
        | none => some (d, apertureTicks (entryParam c))
      else m) none
    match first with
    | some (d, ta) => if d ≤ 160000 then len + 320 + d + ta else len + 320 + 160000
    | none => len + 320 + 160000

/-- 12h SLICE (R274): spares 24 and 25, and the cells, as bits of CHANNELS. -/
def sliceFault (image : List Nat) (es : List (List Nat)) : Option Nat :=
  let lc := imageLc image
  (24 :: 25 :: List.range 24).findSome? (fun b =>
    overlap lc (es.zipIdx.filterMap (fun x =>
      if entryAction x.1 = 9 && bit (entryChannels x.1) b then some (entryOffset x.1, sliceOccupied lc es x.1, x.2) else none)))

/-- 13h XFER (R275). -/
def xferFault (image : List Nat) (es : List (List Nat)) : Option Nat :=
  let xs := picked (fun e => entryAction e == 10 || entryAction e == 11) es
  match notAlternating (xs.map (fun x => (entryAction x.1 == 10, x.2))) with
  | some i => some i
  | none =>
    let lc := imageLc image
    let ticks := xs.map (fun e => entryOffset e.1)
    (xs.zipIdx.find? (fun x => entryAction x.1.1 = 10 && gapAt lc ticks x.2 < 320000)).map (·.1.2)

/-- 14h DUTY (R245). -/
def dutyOk (image : List Nat) : Bool :=
  let temp (p : Nat) : Int := toInt 16 (leAt image (156 + 4 * p) 2)
  let duty (p : Nat) : Nat := leAt image (158 + 4 * p) 2
  (List.range 15).all (fun p => decide (temp p < temp (p + 1)) && duty (p + 1) ≤ duty p) &&
    (List.range 16).all (fun p => duty p ≤ 10000) &&
    (List.range 16).any (fun p => decide (temp p ≤ 1400) && duty p == 0)

/-- A sleep-plan entry of KIND 01h to 03h is within R246. -/
def sleepEntryOk (e : List Nat) : Bool :=
  match e.getD 0 0 with
  | 1 => e.getD 1 0 == 0 && leAt e 2 4 != 0 && leAt e 2 4 < 2 ^ 24 && e.getD 6 0 == 0 && e.getD 7 0 == 0
  | 2 => e.getD 1 0 ≤ 0x1D && leAt e 2 2 < leAt e 4 2 && e.getD 6 0 < 8 && e.getD 7 0 == 0
  | 3 => e.getD 1 0 == 0 && decide (toInt 16 (leAt e 2 2) < toInt 16 (leAt e 4 2)) && e.getD 6 0 < 8 && e.getD 7 0 == 0
  | _ => false

/-- The sleep-plan entries of an image (R246). -/
def sleepEntries (image : List Nat) : List (List Nat) := (List.range 16).map (fun i => (image.drop (220 + 8 * i)).take 8)

/-- 15h SLEEP (R246): entries up to the first of KIND 00h, and zeros from there. -/
def sleepOk (image : List Nat) : Bool :=
  let es := sleepEntries image
  (es.takeWhile (fun e => e.getD 0 0 != 0)).all sleepEntryOk &&
    (es.dropWhile (fun e => e.getD 0 0 != 0)).all (fun e => e.all (· == 0))

/-- 16h ANCHOR (R257); `edges` are those of SyncConfig for a start on the head. -/
def anchorFault (image : List Nat) (es : List (List Nat)) (edges : Option Nat) : Option Nat :=
  let sw := picked (fun e => entryAction e == 13) es
  if image.getD 12 0 = 0 then (sw.head?).map (·.2)
  else
    match sw with
    | [] => some 0xFFFF
    | [x] =>
      if entryOffset x.1 != 0 then some x.2
      else
        match edges with
        | some n => if entryParam x.1 % 65536 != n then some x.2 else none
        | none => none
    | _ :: y :: _ => some y.2

/-- The fault of a condition on the whole image. -/
def wholeFault (ok : Bool) : Option Nat := if ok then none else some 0xFFFF

/-- The bytes that R243 and R242 reserve are 0. -/
def headerPadOk (image : List Nat) : Bool :=
  leAt image 18 2 == 0 && leAt image 24 8 == 0 && leAt image 348 4 == 0

/-- 10h DIE_CADENCE (R217), for the channel that each AuxSelect entry names. -/
def cadenceFault (image : List Nat) (es : List (List Nat)) (sel : Nat → Nat) : Option Nat :=
  [0x13, 0x14, 0x15].findSome? (fun c =>
    let hits := picked (fun e => entryAction e == 5 && sel (entryParam e) % 256 == c) es
    if hits.isEmpty then some 0xFFFF else badGap (imageLc image) (fun g => 800000 < g) hits)

/-- The first check of R268 that fails: its code and the entry it names. `sel` gives the AuxSelect entries for the checks marked
Config, `edges` SyncConfig EDGES for the check of a start on the head, `mir` is the Mirror cell count. -/
def planFault (mir : Nat) (image : List Nat) (sel : Option (Nat → Nat)) (edges : Option Nat) : Option (Nat × Nat) :=
  let n := leAt image 6 2
  let es := imageEntries image
  let len := image.length
  if len < 372 || 4452 < len || len != leAt image 16 2 || len != 356 + 16 * n then some (1, 0xFFFF)
  else if leAt image 0 4 != 0x52415548 || image.getD 4 0 != 1 || 1 < image.getD 12 0 || !headerPadOk image then some (2, 0xFFFF)
  else if crc32c (image.take (352 + 16 * n)) != leAt image (352 + 16 * n) 4 then some (3, 0xFFFF)
  else
    let lc := imageLc image
    let checks : List (Nat × (Unit → Option Nat)) :=
      [(4, fun _ => firstBad (fun e => crc16 (e.take 14) != leAt e 14 2) es),
       (5, fun _ => wholeFault (1600 ≤ lc && lc ≤ 16777216 && lc % 4 == 0)),
       (6, fun _ => wholeFault (1 ≤ n && n ≤ 256)),
       (7, fun _ => (es.zipIdx.find? (fun x =>
          lc ≤ entryOffset x.1 || (x.2 != 0 && entryOffset x.1 < entryOffset (es.getD (x.2 - 1) [])))).map (·.2)),
       (8, fun _ => (es.zipIdx.find? (fun x => (entryAction x.1 == 15) != (x.2 + 1 == n))).map (·.2)),
       (9, fun _ => firstBad (fun e => entryAction e == 14 || 15 < entryAction e) es),
       (10, fun _ => firstBad (fun e => !entryFieldOk mir e) es),
       (11, fun _ => firstPair (entriesConflict lc) es),
       (12, fun _ => settleFault image es),
       (13, fun _ => markFault image es),
       (14, fun _ => accumulatorFault image es),
       (15, fun _ => auxFault image es (fun p => match sel with
          | some f => 2 ^ bits (f p) 8 3
          | none => 1)),
       (16, fun _ => match sel with
          | some f => cadenceFault image es f
          | none => none),
       (17, fun _ => pairingFault es),
       (18, fun _ => sliceFault image es),
       (19, fun _ => xferFault image es),
       (20, fun _ => wholeFault (dutyOk image)),
       (21, fun _ => wholeFault (sleepOk image)),
       (22, fun _ => anchorFault image es edges),
       (23, fun _ => wholeFault (320 ≤ imageSettle image && imageSettle image ≤ 320000)),
       (24, fun _ => wholeFault (image.getD 5 0 != 0)),
       (25, fun _ => wholeFault (imageFallback image != 0))]
    checks.findSome? (fun c => (c.2 ()).map (fun i => (c.1, i)))

/-- AuxSelect entry `p` in force (R224). -/
def State.auxSel (s : State) (p : Nat) : Nat := s.get (Obj.auxSelect + p)

/-- The checks of a PlanImage write, those marked Image (R259, R268). -/
def writeFault (mir : Nat) (image : List Nat) : Option (Nat × Nat) := planFault mir image none none

/-- The checks of a LOAD, or of a start: the latter on the head compares EDGES with SyncConfig (R257, R268). -/
def bankFault (start : Bool) (image : List Nat) (s : State) : Option (Nat × Nat) :=
  planFault s.safe.cells image (some s.auxSel) (if start && s.isHead then some (bits (s.get Obj.syncConfig) 16 16) else none)

/-- The outcome of a validation is shown (R268). -/
def showVerdict (v : Option (Nat × Nat)) (s : State) : State :=
  match v with
  | none => s.setField Obj.planStatus 24 8 0
  | some (c, i) => (s.setField Obj.planStatus 24 8 c).set Obj.planRejectDetail i

/-- AdhocMaxGap of an image (R267): 0 without ADHOC slots. -/
def adhocGap (image : List Nat) : Nat :=
  let lc := imageLc image
  let es := picked (fun e => entryAction e == 0 && bit (entryFlags e) 0) (imageEntries image)
  let ticks := es.map (fun e => entryOffset e.1)
  (List.range ticks.length).foldl (fun m j => max m (gapAt lc ticks j)) 0

/-- PlanStatus: REJECT as held, the rest from the banks (R283). -/
def State.planStatus (s : State) : Nat :=
  let a := s.active
  let i := s.inactive
  bits (s.get Obj.planStatus) 24 8 * 2 ^ 24 + a.planId * 2 ^ 16 + i.planId * 2 ^ 8 + num s.plan.switchAt.isSome * 2 ^ 7 +
    num i.valid * 2 ^ 6 + num a.valid * 2 ^ 5 + num s.plan.activeB * 2 ^ 4 +
    (match s.plan.running with
     | .none => 0
     | .rom => 1
     | .bank => 2) * 4 + (if a.image.isEmpty then 0 else a.slot)

/-- The state with the active bank changed. -/
def State.setActive (s : State) (b : Bank) : State :=
  if s.plan.activeB then { s with plan := { s.plan with bankB := b } } else { s with plan := { s.plan with bankA := b } }

/-- The state with the inactive bank changed. -/
def State.setInactive (s : State) (b : Bank) : State :=
  if s.plan.activeB then { s with plan := { s.plan with bankA := b } } else { s with plan := { s.plan with bankB := b } }

end Sys2Proof.Machine
end

