-- ==== Sys2Proof/Machine/Ageing.lean ====
section
/-! DEFINITION. What ageing changes: the drift terms (R487, R488), the settle coverage with its request for a new plan (R490), and the
ledger (R485, R486). -/

namespace Sys2Proof.Machine

/-! Drift terms. -/

/-- A value waits for the next plan-cycle boundary (R21). -/
def stage (k v : Nat) (s : State) : State := { s with staged := s.staged.filter (fun p => p.1 != k) ++ [(k, v)] }

/-- gk of converter k (R487), in 10 uV, with LoopbackGain and RefDrift in 0.1 ppm. -/
def State.driftOf (s : State) (k : Nat) : Nat :=
  let dg := (s.getInt (Obj.loopbackGain + k) 16).natAbs
  let dr := (s.getInt Obj.refDrift 16).natAbs
  ceilDiv (100 * (s.getInt (Obj.loopbackOffset + k) 16).natAbs + 52 * (dg + dr) + 2000) 1000

/-- Ticks of 24 hours. -/
abbrev day : Nat := 86400 * 16000000

/-- The loop-back results that converter k keeps (R475). -/
def State.loopResults (s : State) (k : Nat) : List (Int × Int) :=
  ((s.test.loop.find? (fun p => p.1 = k)).map (·.2)).getD []

/-- A new gk of converter k: DriftTerm is to receive the largest of the last 24 h of SUP operation, at the next boundary (R170, R487). -/
def driftUpdate (k : Nat) (s : State) : State :=
  if (s.loopResults k).length < 8 then s
  else
    let l := (k, s.driftOf k, s.test.supTicks) :: s.test.drift.filter (fun p => s.test.supTicks < p.2.2 + day)
    let g := ((l.filter (fun p => p.1 = k)).map (fun p => p.2.1)).foldl max 0
    stage (Obj.driftTerm + k) (min 255 g) { s with test := { s.test with drift := l } }

/-- The gain drift of the current channel in ppm (R488). -/
def State.gainTerm (s : State) : Nat :=
  ceilDiv ((toInt 16 (s.get Obj.currentLoopback / 65536)).natAbs + (s.getInt Obj.refDrift 16).natAbs) 10

/-- CurrentDriftTerm and the gain drift after a current loop-back, from the next boundary on (R488). -/
def currentDrift (s : State) : State :=
  let o := (toInt 16 (s.get Obj.currentLoopback)).natAbs
  let t := stage Obj.currentDriftTerm (min 255 (ceilDiv (o + 100) 200)) s
  { t with cur := { t.cur with gainNext := t.gainTerm } }

/-! Settle coverage (R490). -/

/-- The latest stop of switch m before an aperture start, as the plan commands it: ticks from E + 1 us of its BAL_HOLD to A. -/
def planSettle (lc a m : Nat) (es : List (List Nat)) : Option Nat :=
  match latestBal lc a m es with
  | some (d, false) => some (d - 16)
  | _ => none

/-- The cells that R490 looks at: those that a BAL_RELEASE names, with their neighbours. -/
def coveredCells (es : List (List Nat)) : Nat :=
  (es.filter (fun e => entryAction e == 4)).foldl (fun m e => m ||| settleSet (entryChannels e % 2 ^ 24)) 0

/-- Wn of cell n in ticks (R490): the smallest over the CONVERTs in whose settle set the cell lies. -/
def windowOf (lc n : Nat) (es : List (List Nat)) : Option Nat :=
  let released (m : Nat) : Bool := es.any (fun e => entryAction e == 4 && bit (entryChannels e) (m - 1))
  ((es.filter (fun e => plainConvert e && bit (settleSet (entryChannels e % 2 ^ 24)) (n - 1))).filterMap (fun e =>
    (([n - 1, n, n + 1].filter (fun m => 1 ≤ m && m ≤ 24 && released m)).filterMap (fun m =>
      planSettle lc (apertureStart (entryOffset e)) m es)).min?)).min?

/-- Needn of cell n in 0.1 us, in the fixed point of Machine/Fixed.lean (R490). -/
def State.needOf (s : State) (n : Nat) : Int :=
  let d := s.get (Obj.settleStep + n)
  if d = 0 then 0 else (s.get (Obj.filterTau + n) : Int) * fixLn (2 * d) 1

/-- Each cell of R490 with Needn and Wn, both in 0.1 us in fixed point. -/
def State.settleTable (s : State) : List (Nat × Int × Int) :=
  let im := s.active.image
  let es := imageEntries im
  (bitList (coveredCells es) (min 24 s.cellCount)).filterMap (fun i =>
    (windowOf (imageLc im) (i + 1) es).map (fun w => (i + 1, s.needOf (i + 1), ((5 * w * fixOne / 8 : Nat) : Int))))

/-- The cell of R490 whose need exceeds its window the most. -/
def State.settleWorst (s : State) : Option (Nat × Int) :=
  (s.settleTable.filter (fun x => x.2.2 < x.2.1)).foldl (fun b x => match b with
    | none => some (x.1, x.2.1 - x.2.2)
    | some y => if y.2 < x.2.1 - x.2.2 then some (x.1, x.2.1 - x.2.2) else some y) none

/-- SETTLE of MarginStatus (R491): the cell of the largest Needn / Wn. -/
def settleMargin (s : State) : State :=
  match (s.settleTable.map (fun x => 100 * (x.2.2 - x.2.1) / max 1 x.2.2)).min? with
  | none => s
  | some m => s.setField Obj.marginStatus 40 8 (max 0 (min 100 m)).toNat

/-- PLAN_REQUEST with REASON 01h for a cell (R490). -/
def planRequest (n : Nat) (s : State) : State :=
  let need := (s.needOf n).toNat
  let req := min 65535 (ceilDiv (11 * need) (100 * fixOne) + 1)
  event 6 1 (s.set Obj.planRequestStatus (2 ^ 24 + n * 2 ^ 16 + req))

/-- 8 consecutive slices of a kind have been NOT_RUN for LENGTH (R490). -/
def State.sliceTooShort (s : State) : Bool := s.test.shortRun.any (fun p => 8 ≤ p.2)

/-- The settle coverage of the running bank is evaluated (R490); a bank start without a reason writes REASON 00h. -/
def settleCoverage (start : Bool) (s : State) : State :=
  if s.plan.running != RunningPlan.bank then s
  else
    let t := settleMargin s
    match t.settleWorst with
    | some (n, _) => planRequest n t
    | none => if start && !t.sliceTooShort then t.set Obj.planRequestStatus 0 else t

/-- The settle coverage after FilterTau or SettleStep of some cells may have changed (R490). -/
def settleChanged (old : State) (s : State) : State :=
  if (List.range 24).all (fun i => old.get (Obj.filterTau + (i + 1)) = s.get (Obj.filterTau + (i + 1)) &&
      old.get (Obj.settleStep + (i + 1)) = s.get (Obj.settleStep + (i + 1))) then s else settleCoverage false s

/-! The first RON of each switch (R486, R497). -/

/-- The first RON of switch m is appended to both calibration copies, once (R497; log entry 149). -/
def keepRon (m ron : Nat) (s : State) : State :=
  if (s.nvm.cal0.rons ++ s.nvm.cal1.rons).any (fun p => p.1 = m) then s
  else
    let add (c : CalCopy) : CalCopy := { c with rons := c.rons ++ [(m, ron)] }
    programRegion 8 (programRegion 7 { s with nvm := { s.nvm with cal0 := add s.nvm.cal0, cal1 := add s.nvm.cal1 } })

/-! The ledger (R485, R486). -/

/-- The number from a list with the largest measure, the first at a tie. -/
def argMax (f : Nat → Int) : List Nat → Option Nat
  | [] => none
  | n :: l =>
    match argMax f l with
    | some m => if f n < f m then some m else some n
    | none => some n

/-- RON of switch m in its latest result, if that result has one (R301, R304). -/
def State.ronOf (s : State) (m : Nat) : Option Nat :=
  let w := s.get (Obj.balSwitchResult + m)
  if bits w 0 8 = 0 || w / 65536 = 0xFFFF then none else some (w / 65536)

/-- The rise of RON of a switch over its first result. -/
def State.ronRise (s : State) (m : Nat) : Option Int :=
  match s.ronOf m, (s.nvm.cal0.rons ++ s.nvm.cal1.rons).find? (fun p => p.1 = m) with
  | some r, some (_, f) => some ((r : Int) - f)
  | _, _ => none

/-- The 30 bytes of a daily record that CHECK covers (R486), with the free values it takes: a field of which the period has no result is free
(log entry 4). -/
def recordBytes (partial_ : Bool) (s : State) : List Nat × State :=
  let t := s.test
  let conv := (List.range 26).map (· + 1)
  let mag (k : Nat) (n : Nat) : Int := ((s.getInt (k + n) 16).natAbs : Nat)
  let gc := (argMax (mag Obj.loopbackGain) conv).getD 1
  let oc := (argMax (mag Obj.loopbackOffset) conv).getD 1
  let sw := argMax (fun m => (s.ronRise m).getD 0) (((List.range 24).map (· + 1)).filter (fun m => (s.ronRise m).isSome))
  let tau := (argMax (fun n => (s.get (Obj.filterTau + n) : Nat)) ((List.range s.cellCount).map (· + 1))).getD 1
  let rise := match sw.bind s.ronRise with
    | some r => if 0 ≤ r then some r.toNat else none
    | none => none
  let (ref, a) := s.fieldOr 16 (if t.hours = 0 then none else some (ofInt 16 (roundDiv t.refSum t.hours)))
  let (swc, b) := a.fieldOr 8 sw
  let (ron, c) := b.fieldOr 16 rise
  let (steer, d) := c.fieldOr 16 (if t.steerN = 0 then none else some (ofInt 16 (roundDiv t.steerSum (10 * t.steerN))))
  let (margin, e) := d.fieldOr 8 (if t.worstMargin < 256 then some t.worstMargin else none)
  let flags := num partial_ + num (t.hours * day < 12 * (t.supTicks - t.recordAt)) * 2 + num (!t.hadLoop) * 4 + num (!t.hadSwitch) * 8 +
    num (!t.hadEye) * 16
  (leBytes 2 (s.get Obj.ledgerCount) ++ leBytes 2 ref ++ [min 255 t.hours, gc] ++ leBytes 2 (s.get (Obj.loopbackGain + gc)) ++ [oc, 0] ++
    leBytes 2 (s.get (Obj.loopbackOffset + oc)) ++ leBytes 2 (s.get Obj.currentLoopback / 65536) ++
    leBytes 2 (s.get Obj.currentLoopback) ++ [swc, tau] ++ leBytes 2 ron ++ leBytes 2 (s.get (Obj.filterTau + tau)) ++
    [s.get (Obj.eyeMargin + 1) % 256, s.get (Obj.eyeMargin + 2) % 256] ++ leBytes 2 steer ++
    [min 255 (s.get Obj.mirrorDrift), margin, flags, 0], e)

/-- A record of the ledger is requested and a new period begins (R485, R495); OSC of the margins follows the record (R491). -/
def ledgerRecord (partial_ : Bool) (s : State) : State :=
  let (bs, t) := recordBytes partial_ s
  let n := s.get Obj.ledgerCount
  let u := requestRecord (LogRec.of 3 (n % 2 ^ 16) 0 (bs ++ leBytes 2 (crc16 bs))) (t.set Obj.ledgerCount ((n + 1) % 2 ^ 32))
  margins { u with test := { u.test with
    recordAt := u.test.supTicks
    hours := 0
    refSum := 0
    steerSum := 0
    steerN := 0
    hadLoop := false
    hadSwitch := false
    hadEye := false
    worstMargin := 256 } }

/-- The record before SLEEP, SHIP or STANDBY, when at least 3600 s have accumulated (R485) and the core is there to write it (R29). -/
def partialRecord (s : State) : State :=
  if s.supReady && s.test.recordAt + 3600 * 16000000 ≤ s.test.supTicks then ledgerRecord true s else s

end Sys2Proof.Machine
end

