-- ==== Sys2Proof/Machine/Foreground.lean ====
section
/-! DEFINITION. The foreground set of SELFTEST (R482): what it holds, how a check of it ends, and the loop-back of the current converter that
its step 03h runs (R483). -/

namespace Sys2Proof.Machine

/-- The step of R482 that a check of the set belongs to, by its kind: 0 for MEMORY, 11 for CURRENT, the others as R466 numbers them. -/
def stepOf (kind : Nat) : Nat := [1, 2, 2, 2, 4, 5, 6, 7, 7, 8, 9, 3].getD kind 9

/-- A kind on each of the numbers 1 to n. -/
def eachOf (kind n : Nat) : List (Nat × Nat × Nat) := (List.range n).map (fun i => (kind, i + 1, 0))

/-- The foreground set in the order of R482: of step 02h, a channel of 1 to 12 stands before the channel of 13 to 24 that its slice shares. -/
def foregroundSet (s : State) : List (Nat × Nat × Nat) :=
  let n := s.cellCount
  let pair (i : Nat) : List (Nat × Nat × Nat) := [i + 1, i + 13].filterMap (fun c => if c ≤ n then some (1, c, 0) else none)
  [(0, 0, 0)] ++ ((List.range 12).map pair).flatten ++ [(2, 25, 0), (3, 26, 0), (11, 0, 0)] ++ eachOf 4 n ++ eachOf 5 n ++
    eachOf 6 s.safe.cells ++ [(7, 0, 0), (8, 0, 0), (9, 0, 0), (10, 0, 0)]

/-- The set starts with an entry into SELFTEST (R482). -/
def startSet (s : State) : State :=
  let t := s.set Obj.selftestStatus 1
  { t with test := { t.test with set := foregroundSet t, loopPos := none } }

/-- STEPS_DONE of SelftestStatus: the steps before the one that the next check belongs to. -/
def stepsDone : List (Nat × Nat × Nat) → Nat
  | [] => 9
  | (kind, _, _) :: _ => stepOf kind - 1

/-- FAILED_STEP: the first step with a confirmed failure. -/
def failedStep (step : Nat) (s : State) : State :=
  let f := bits (s.get Obj.selftestStatus) 24 8
  s.setField Obj.selftestStatus 24 8 (if f = 0 then step else min f step)

/-- The checks that the set still holds once the one of a kind on a target, which has failed `tries` times running, has ended with a result: 1
PASS, 2 FAIL, 3 NOT_RUN, 4 INCOMPLETE; a kind of step 07h goes on until its scan is complete (log entry 154). -/
def afterCheck (kind target tries result : Nat) (scanned : Bool) : List (Nat × Nat × Nat) :=
  if result = 2 && tries = 0 then [(kind, target, 1)]
  else if result = 1 && !scanned && (kind = 7 || kind = 8) then [(kind, target, 0)]
  else []

/-- A check of the set ends with a result (R482), and with the scan of a kind of step 07h complete or not: a failure is repeated once at once,
and the second one is confirmed. -/
def setProgress (kind target result : Nat) (scanned : Bool) (s : State) : State :=
  match s.test.set.find? (fun x => x.1 = kind && x.2.1 = target) with
  | none => s
  | some (_, _, tries) =>
    let keep := afterCheck kind target tries result scanned
    let l := (s.test.set.map (fun x => if x.1 = kind && x.2.1 = target then keep else [x])).flatten
    let t := { s with test := { s.test with set := l } }
    let u := t.setField Obj.selftestStatus 8 8 (stepsDone l)
    if result = 2 && tries != 0 then failedStep (stepOf kind) u else u

/-- The difference of a reading in 40 nV from its factory reading, in nV, and whether it is more than 0.2 % of it (R483). -/
def loopError (value : Int) (positive : Bool) : Int × Bool :=
  let f := Config.loopFactory positive
  let d := value * 40 - f
  (d, decide (f.natAbs < 500 * d.natAbs))

/-- The current converter loop-back from its two readings in 40 nV (R483): CurrentLoopback, 0Ah on a failure, and the terms that follow
(R488). -/
def currentLoop (pos neg : Int) (s : State) : State :=
  let (p, f1) := loopError pos true
  let (n, f2) := loopError neg false
  let (g, a) := s.fieldI16 (roundDiv (p - n) 32)
  let (o, b) := a.fieldI16 (roundDiv (p + n) 2)
  let c := setProgress 11 0 (if f1 || f2 then 2 else 1) true { b with test := { b.test with loopPos := none } }
  let d := margins (currentDrift (c.set Obj.currentLoopback (g * 65536 + o)))
  if f1 || f2 then currentIntegrity (faultOccur 0x0A d) else d

/-- A reading of the loop-back has come, at +160 mV (`input` 1) or -160 mV (2) (R483). -/
def loopReading (input : Nat) (value : Int) (s : State) : State :=
  if input = 0 || (s.test.set.head?.map (·.1)) != some 11 then s
  else if input = 1 then { s with test := { s.test with loopPos := some value } }
  else
    match s.test.loopPos with
    | some p => currentLoop p value s
    | none => s

end Sys2Proof.Machine
end

