-- ==== Sys2Proof/Machine/Boot.lean ====
section
/-! DEFINITION. Resets and starts: the ROM boot (R480, R481, R506), the reset of the SUP domain (R29, R30, R433, R554), the device
reset (R106), the power-on sequence (R109, R524 to R530), and the start of a plan bank with its rejection (R263, R264, R276). -/

namespace Sys2Proof.Machine

/-! Firmware slots (R503 to R507). -/

/-- Slot A (false) or B (true). -/
def State.fwSlot (s : State) (b : Bool) : FwSlot := if b then s.nvm.slotB else s.nvm.slotA

/-- The state with a firmware slot changed. -/
def State.setFwSlot (s : State) (b : Bool) (f : FwSlot) : State :=
  if b then { s with nvm := { s.nvm with slotB := f } } else { s with nvm := { s.nvm with slotA := f } }

/-- IMAGE_CRC of a slot's image is right (R504, R506); that of the factory image always is (log entry 16). -/
def imageCrcOk (f : FwSlot) : Bool :=
  if f.image.isEmpty then f.written
  else
    let len := leAt f.image 4 4
    256 ≤ len && len ≤ f.image.length && crc32c ((f.image.take len).drop 128) == leAt f.image 24 4

/-- UpdateStatus STATE (R515). -/
def updateState (c : Nat) (s : State) : State := s.setField Obj.updateStatus 8 8 c

/-- A slot is started: RUNNING and TARGET, and STATE TRIAL or ROLLED_BACK (R506, R515). -/
def startImage (b trial rolled : Bool) (s : State) : State :=
  let t := (s.setBitOf Obj.updateStatus 0 b).setBitOf Obj.updateStatus 1 (!b)
  let u := { t with nvm := { t.nvm with runningB := b, trialAt := none }, mode := { t.mode with noImage := false } }
  if trial then updateState 5 u else if rolled then updateState 7 u else u

/-- The first loop of R506 over some slots: the state, and the slot started in trial. -/
def bootTrials : List Bool → State → State × Option Bool
  | [], s => (s, none)
  | b :: bs, s =>
    let f := s.fwSlot b
    if f.trial && !f.trialBooted && !f.confirmed && !f.revoked then
      if imageCrcOk f then (s.setFwSlot b { f with bootedM := .zero }, some b)
      else bootTrials bs (s.setFwSlot b { f with revokedM := .zero })
    else bootTrials bs s

/-- The second loop of R506: a failed trial is revoked; whether there was one. -/
def bootRollback (s : State) : State × Bool :=
  [false, true].foldl (fun (r : State × Bool) b =>
    let f := r.1.fwSlot b
    if f.trialBooted && !f.confirmed && !f.revoked then (r.1.setFwSlot b { f with revokedM := .zero }, true) else r) (s, false)

/-- 27h for a boot image that fails its check (R506, R515). -/
def bootImageFault (b : Bool) (s : State) : State :=
  faultOccur 0x27 (s.set Obj.nvmLastFault (4 * 2 ^ 24 + (if b then 0x18000 else 0)))

/-- The third loop of R506 over some slots. -/
def bootConfirmed : List Bool → State → State × Option Bool
  | [], s => (s, none)
  | b :: bs, s =>
    let f := s.fwSlot b
    if f.confirmed && !f.revoked then
      if imageCrcOk f then (s, some b) else bootConfirmed bs (bootImageFault b s)
    else bootConfirmed bs s

/-- The slot that ran is one whose trial has failed: ROLLBACK or the end of UpdateTrialTime has revoked it (R510, R511). -/
def State.ranRevoked (s : State) : Bool :=
  let f := s.fwSlot s.nvm.runningB
  f.trialBooted && !f.confirmed && f.revoked

/-- The ROM boot chooses an image, or finds none to start (R506). A start beside a slot whose trial has failed is a rollback. -/
def bootFirmware (s : State) : State :=
  match bootTrials [false, true] s with
  | (t, some b) => startImage b true false t
  | (t, none) =>
    let (u, rolled) := bootRollback t
    let order := if u.nvm.slotA.seq < u.nvm.slotB.seq then [true, false] else [false, true]
    match bootConfirmed order u with
    | (v, some b) => startImage b false (rolled || (s.ranRevoked && b != s.nvm.runningB)) v
    | (v, none) => { v with mode := { v.mode with noImage := true } }

/-! Memory test (R480, R481). -/

/-- A failing row of a macro is mapped onto its lowest free spare row; none when no spare row is free. -/
def mapRow (m row : Nat) (s : State) : Option State :=
  let k := Obj.repairMap + (m + 1)
  let v := s.get k
  if !bit v 0 then some (s.keep k (setBits (setBit v 0 true) 16 8 row))
  else if !bit v 1 then some (s.keep k (setBits (setBit v 1 true) 24 8 row))
  else none

/-- The failing rows of a macro are mapped; false when a spare row was wanting. -/
def mapRows (m : Nat) : List Nat → State → State × Bool
  | [], s => (s, true)
  | r :: rs, s =>
    match mapRow m r s with
    | some t => mapRows m rs t
    | none => (s, false)

/-- The rows of the failing words, each once (R481). -/
def macroRows (x : MacroMeas) : List Nat := (x.words.map (fun w => w.1 / 16)).eraseDups

/-- The test of some macros from number `m` on: the state and the result, 1 PASS, 2 REPAIRED, 3 UNREPAIRED (R481). -/
def testMacros : Nat → List MacroMeas → State → State × Nat
  | _, [], s => (s, 1)
  | m, x :: xs, s =>
    if x.words.isEmpty then testMacros (m + 1) xs s
    else
      let (t, mapped) := mapRows m (macroRows x) s
      let (u, r) := testMacros (m + 1) xs t
      (u, max r (if mapped && x.retestOk then 2 else 3))

/-- The first failing word of some macros from number `m` on, as MACRO, ADDRESS and BIT of MemBistResult. -/
def firstFail : Nat → List MacroMeas → Nat
  | _, [] => 0
  | m, x :: xs =>
    match x.words with
    | (a, b) :: _ => m * 2 ^ 30 + a * 2 ^ 18 + b * 2 ^ 12
    | [] => firstFail (m + 1) xs

/-- The outcome of a memory test: RepairMap, MemBistResult and 29h (R480, R481). -/
def memoryTest (mem : List MacroMeas) (s : State) : State :=
  let (t, r) := testMacros 0 mem s
  faultFollow 0x29 (r == 3) (t.set Obj.memBistResult (firstFail 0 mem + r))

/-! The SUP domain. -/

/-- The watchdog starts a first period (R432, R433). -/
def watchdogStart (s : State) : State :=
  { s with safe := { s.safe with wdStart := s.clk, wdFirst := true, wdKey := none } }

/-- HostPortActive at a start of the SUP domain (R59). -/
def hostPort (s : State) : State :=
  let sel := s.get Obj.hostPortSelect
  s.set Obj.hostPortActive (if sel != 0 then sel else if bit (s.get Obj.strapStatus) 4 then 2 else 1)

/-- The slot that does not run, which an update writes (R507). -/
def State.target (s : State) : Bool := !s.nvm.runningB

/-- An update goes back to what the journal counts: sectors beyond SECTORS_DONE are erased again (R514). -/
def rewind (s : State) : State :=
  let d := (s.journal.map (·.done)).getD 0
  let im := (s.fwSlot s.target).image.take (d * 4096)
  { s with nvm := { s.nvm with
      received := im
      segs := []
      programmed := im.length
      erased := d
      final := false
      owed := none } }

/-- The operation is one of an update: of the image, or of a marker. -/
def NvmWork.ofUpdate : NvmWork → Bool
  | .update _ => true
  | .marker _ _ => true
  | _ => false

/-- An update that a reset of the SUP domain interrupts (R514): its operation in progress completes, those that have not started go with the
core that requested them (R495; log entry 153). -/
def interruptUpdate (s0 : State) : State :=
  let s := { s0 with nvm := { s0.nvm with queue := s0.nvm.queue.filter (fun o => !o.work.ofUpdate) } }
  let st := bits (s.get Obj.updateStatus) 8 8
  if st = 1 || st = 2 then
    let done := (s.journal.map (·.done)).getD 0 * 4096
    let t := updateState 4 s
    if st = 2 then { t.set Obj.updateProgrammed t.nvm.received.length with nvm := { t.nvm with owed := none } }
    else rewind (t.set Obj.updateProgrammed (min done ((t.journal.map (·.length)).getD done)))
  else s

/-- The SUP domain enters reset (R29, R30, R554): a transfer session ends, slices end, the host port restarts, the checking engines
return to their defaults. -/
def supReset (s : State) : State :=
  let a := interruptUpdate (selftestEnds (abortSlices (fun _ => true) (endTransfer 7 s)))
  let b := [Obj.cenRequest, Obj.notifyLost, Obj.eventsLost, Obj.streamLost, Obj.linkErrors, Obj.crcResult, Obj.crcByteCount,
    Obj.aliveResult, Obj.aliveCounts + 1, Obj.aliveCounts + 2, Obj.aliveCounts + 3].foldl State.clear a
  let c := (b.set Obj.supervisorState 3).power .sup false
  hostPort (watchdogStart { c with
    port := Port.empty
    check := CheckEng.reset
    test := { c.test with refOn := false, refWarm := false, refTaken := 0, refConv := 0 }
    notifyQ := 0
    mode := { c.mode with supResetAt := c.clk } })

/-- The SUP domain restarts from its ROM boot (R30). -/
def restartSup (s : State) : State := bootFirmware (supReset s)

/-- An expiry or a violation of the watchdog (R31, R433). -/
def watchdogFail (cause : Nat) (s : State) : State :=
  if s.safe.wdHalted then s
  else
    let a := faultPulse 0x24 ((s.setField Obj.watchdogStatus 24 8 cause).count Obj.watchdogCount 16)
    let b := supReset a
    if bit b.flt.latched 0x24 then { holdSup b with safe := { b.safe with wdHalted := true } } else bootFirmware b

/-- The factory tables are loaded from calibration copy 0 and, where one fails its check, from copy 1, from which copy 0 is then restored as long
as copy 1 passes throughout (R496, R497; log entry 151). -/
def calLoad (cal : List CalRead) (s : State) : State :=
  if cal.isEmpty then s
  else
    let l := cal.zipIdx.map (fun x => (x.1.copy0 && s.nvm.cal0.tables.getD x.2 true, x.1.copy1 && s.nvm.cal1.tables.getD x.2 true))
    let a := { s with nvm := { s.nvm with
      cal0 := { s.nvm.cal0 with tables := l.map (·.1) }
      cal1 := { s.nvm.cal1 with tables := l.map (·.2) }
      calBad := l.any (fun x => !x.1 && !x.2) } }
    let b := l.foldl (fun t x => readEnds x.1 x.2 (calAddress false) t) a
    if l.all (·.1) || !l.all (·.2) then b
    else requestOp ⟨3, calAddress false, .calProgram⟩ (requestOp ⟨4, calAddress false, .calErase⟩ b)

/-- SUPERVISOR_READY: the firmware reports ready (R30), with the outcome of the ROM boot's memory test (R480; log entry 17); it has scanned the log
(R499) and loaded the calibration (R497), and what the device has written while no core stored it is to be stored (R29, R500). The cover of each
retired channel is re-established (R156). A trial starts its time (R511). -/
def effSupervisorReady (mem : List MacroMeas) (cal : List CalRead) (s : State) : State :=
  if s.get Obj.supervisorState != 1 || !s.on .sup || s.mode.noImage then s
  else
    let a := nvmWear (storeDeviceP (memoryTest mem (calLoad cal (scanLog (s.set Obj.supervisorState 0)))))
    let b := { a with notifyQ := 0, nvm := { a.nvm with trialAt := if a.inTrial then some a.clk else none } }
    event 7 0 (marginsFollow (if b.modeCode = 0 then b else coverAgain [0, 3] b))

/-- SUPERVISOR_READY (R30). -/
def execSupervisorReady (dt : Nat) (found : StartFinds) (s : State) : Host.Outcome State Fault Refusal :=
  run (Instr.wf (.supervisorReady dt found)) dt (effSupervisorReady found.mem found.cal) s

/-! The device reset (R106). -/

/-- The object keeps its value through a device reset or a wake: it is P, or not writable, or WakeCause of the AO domain (R106,
R554); the counters of the fault sources return to their defaults (R106, R453). -/
def survives (k : Nat) : Bool :=
  k == Obj.wakeCause ||
  (match Dict.row (k / 256) (k % 256) with
   | some r => (r.p || r.acc == .ro || r.acc == .const) &&
      !(0x0E10 ≤ k / 256 && k / 256 ≤ 0x0E3F && (k % 256 == 4 || k % 256 == 6))
   | none => true)

/-- WatchdogConfig until it is written: SOURCE per SWDG, PERIOD 100 ms (R434, R526). -/
def watchdogDefault (s : State) : State :=
  let t := s.set Obj.watchdogConfig (num (bit (s.get Obj.strapStatus) 6) * 2 ^ 16 + 100)
  { t with safe := { t.safe with wdWritten := false, wdHalted := false } }

/-- The cap of the generation: the stored one on a head strapped auto, none otherwise (R369, R528). -/
def generationCap (s : State) : Nat :=
  let c := s.get Obj.generationCapStored
  if s.sgen = 3 && c != 0 then c else 3

/-- The ring at a device reset: ports retrain at the generation they held, nothing of the node's is queued, the queue of result
sets stays (R106, R343). -/
def resetRing (s : State) : State :=
  let t := (s.setLink .north 1 (s.linkGen .north)).setLink .south 1 (s.linkGen .south)
  { t with ring := { RingEng.empty with
      north := { t.ring.north with waitId := none, downAt := t.clk, held := [], till := t.clk }
      south := { t.ring.south with waitId := none, downAt := t.clk, held := [], till := t.clk }
      rxBase := t.ring.rxBase
      lineN := t.ring.lineN
      lineS := t.ring.lineS
      slots := t.ring.slots
      legacyRx := t.ring.legacyRx
      reportCount := t.ring.reportCount
      setBad := t.ring.setBad
      enm := { EnumEng.idle with cap := t.ring.enm.cap } } }

/-- The mode machine at start-up, with CAUSE and PREVIOUS, its pins and wake conditions kept (R89, R106). -/
def startupMode (cause prev : Nat) (s : State) : State :=
  { s.set Obj.modeStatus (cause * 2 ^ 24 + prev * 2 ^ 8) with
    mode := { ModeEng.idle with
      dwell := s.mode.dwell
      handover := s.mode.handover
      nrstLow := s.mode.nrstLow
      nrstStuck := s.mode.nrstStuck
      resetting := s.mode.resetting
      wakeOut := s.mode.wakeOut
      wakeOutAt := s.mode.wakeOutAt
      toneSentAt := s.mode.toneSentAt
      tones := s.mode.tones
      supResetAt := s.clk } }

/-- The staged writes take effect without their boundary (R21): those to P objects are stored and stay, and R554 takes the others back. -/
def applyStored (s : State) : State := { s.setAll s.staged with staged := [] }

/-- ShuntTemperature when ShuntTempSource takes effect (R204): 25.0 degrees for 00h and for a source without a valid reading since power-on,
else the source's last valid reading, of its own age. -/
def adoptShuntSource (s : State) : State :=
  let src := s.get Obj.shuntTempSource
  match s.cur.temps.find? (fun p => p.1 = src && src != 0) with
  | some (_, t, _) => s.set Obj.shuntTemperature (ofInt 16 t)
  | none => s.set Obj.shuntTemperature 250

/-- A device reset acts (R106), with a bit of ResetCause. -/
def deviceReset (causeBit : Nat) (s : State) : State :=
  let wasFree := s.timeState == 0
  let icx := s.on .icx
  let a := writeEnd (endLoupe (supReset (applyStored s)))
  let b := { a with objs := a.objs.filter (fun p => survives p.1) }
  let c := [Obj.nodeAddress, Obj.enumStatus, Obj.nodeMap, Obj.headAddress, Obj.ringGeneration, Obj.laneService, Obj.configCheck,
    Obj.balStatus, Obj.planSwitchRefusal, Obj.timeStepCount, Obj.balTestCount].foldl State.clear b
  let d := startupMode 1 0 (((c.set Obj.ringRole (bits (c.get Obj.ringRole) 0 1 + bits (c.get Obj.ringRole) 3 1 * 8)).set
    Obj.domainStatus 0x2BF).set Obj.resetCause (bits (c.get Obj.resetCause) 12 4 * 2 ^ 12 + 2 ^ causeBit))
  let e := watchdogDefault (resetRing (if icx then d else icxUp d))
  let f := { e with
    flt := { FaultEng.clear with log := e.flt.log }
    bal := { BalEng.reset with lastActivity := e.clk }
    xfer := XferEng.idle
    plan := { e.plan with switchAt := none }
    aux := { e.aux with request := none }
    safe := { e.safe with
      cenOn := false, testing := none, staticOk := false, staticH := 0, staticL := 0, copies := [], nodes := [], leftDual := none } }
  let g := startRom (f.setField Obj.xferStatus 0 4 0)
  dwellFollow (bootFirmware (marginsFollow (adoptShuntSource (if wasFree then g else startHoldover g))))

/-! Power-on and wake. -/

/-- A level that a strap lead applies before any fallback, and whether it is faulty (R525). -/
def leadFaulty (p : StrapPins) (i : Nat) : Bool := bit p.a i != bit p.b i

/-- StrapStatus [6:0] and FAULTY of a sampling, with the fallbacks of R527. -/
def strapLevels (p : StrapPins) : Nat × Nat :=
  let bad := ofBits 7 (leadFaulty p)
  let scell := if bits bad 0 2 != 0 then 3 else bits p.a 0 2
  let sgen := if bits bad 2 2 != 0 then 0 else bits p.a 2 2
  let shost := if bit bad 4 then 1 else bits p.a 4 1
  let shead := if bit bad 5 then 0 else bits p.a 5 1
  let swdg := if bit bad 6 then 0 else bits p.a 6 1
  (scell + sgen * 4 + shost * 16 + shead * 32 + swdg * 64, bad)

/-- CellCount that the straps give (R526). -/
def strapCells (s : State) : Nat := 12 + 4 * bits (s.get Obj.strapStatus) 0 2

/-- The default of an object on this node: that of its table, or that of the straps (R526). -/
def State.dft (s : State) (k : Nat) : Nat := if k = Obj.cellCount then strapCells s else Dict.default k

/-- A P object is stored by a host write; its default is stored as a record that the collector drops (R498). -/
def State.store (s : State) (k v : Nat) : State := storeRecord k v (v == s.dft k) s

/-- The objects of the AO domain, which a power-on reset and a wake leave (R11, R106). -/
abbrev aoObjects : List Nat :=
  [Obj.wakeCause, Obj.resetCause, Obj.sleepTransients, Obj.supplyStatus, Obj.stkVoltage, Obj.xbsVoltage, Obj.powerPathStatus,
   Obj.strapStatus]

/-- The objects of the AO domain and the gap count that it keeps for the core, which stores it when it is ready (R29, R202). -/
abbrev aoKept : List Nat := aoObjects ++ [Obj.counterGapCount]

/-- The sources whose registers lie in the MIR and AO domains (R453). -/
abbrev keptSources : List Nat := [0, 1, 0x17, 0x18, 0x2C]

/-- Their counters, which a wake from SLEEP leaves (R453). -/
abbrev keptCounters : List Nat :=
  keptSources.flatMap (fun c => [faultObj Obj.faultRecoveryCount c, faultObj Obj.faultCollisionCount c])

/-- The objects of the MIR domain, which a wake from SLEEP leaves as well (R408). -/
abbrev mirObjects : List Nat :=
  [Obj.mirrorCodes, Obj.mirrorGuardBand, Obj.mirrorOvTripped, Obj.mirrorUvTripped, Obj.mirrorFaultCause]

/-- The objects after power returns: those kept, and the P objects as NVM holds them. -/
def coldObjects (kept : List Nat) (s : State) : List (Nat × Nat) :=
  let p := s.stored.foldl (fun l x => storeSet l x.1 x.2) []
  (s.objs.filter (fun x => kept.contains x.1)).foldl (fun l x => storeSet l x.1 x.2) p

/-- Every block outside AO, MIR and NVM as its domain powers up; the objects of `kept` keep their values. -/
def coldStart (kept : List Nat) (cause : Nat) (s : State) : State :=
  let a : State := { s with
    objs := coldObjects kept s
    ringTime := 0
    latest := []
    staged := []
    notifyQ := 0
    port := Port.empty
    time := TimeEng.empty
    cells := { CellEng.empty with wireOff := none }
    cur := { CurEng.reset with
      counter := s.cur.retained, start := s.cur.start, volts := s.cur.volts, next := s.cur.next, retained := s.cur.retained, prevLatch := s.cur.retained,
      temps := s.cur.temps }
    aux := AuxEng.empty
    facet := FacetEng.empty
    plan := { PlanEng.reset with slots := s.plan.slots, running := RunningPlan.none }
    bal := { BalEng.reset with lastActivity := s.clk }
    loupe := LoupeEng.idle
    xfer := XferEng.idle
    ring := { RingEng.empty with
      north := { RingPort.down with downAt := s.clk }
      south := { RingPort.down with downAt := s.clk } }
    check := CheckEng.reset
    test := { s.test with
      slices := [], runs := [], loop := [], shortRun := [], refOn := false, refWarm := false, refTaken := 0, refConv := 0 } }
  let held := s.stored.any (fun p => p.1 = Obj.cellCount)
  let b := if held then a else a.set Obj.cellCount (strapCells a)
  let c := watchdogDefault (hostPort (b.set Obj.ringRole
    (num (bit (b.get Obj.strapStatus) 5) + num (b.get Obj.shuntEnable = 1) * 8)))
  let d := { c with
    ring := { c.ring with enm := { c.ring.enm with cap := generationCap c } }
    cells := { c.cells with count := c.get Obj.cellCount } }
  let e := ((d.setLink .north 1 1).setLink .south 1 1)
  let f := { e with cur := { e.cur with gainDrift := e.gainTerm, gainNext := e.gainTerm } }
  watchdogStart (startupMode cause (if cause = 5 then s.modeCode else 0) f)

/-- The SUP domain starts from its ROM boot: SupervisorState 01h (R109). -/
def startSup (s : State) : State := bootFirmware ((s.set Obj.supervisorState 1).power .sup true)

/-- The straps are sampled and latched (R524 to R530). -/
def sampleStraps (p : StrapPins) (fromShip : Bool) (s : State) : State :=
  let old := bits (s.get Obj.strapStatus) 0 7
  let (lv, bad) := strapLevels p
  s.set Obj.strapStatus (lv + bad * 2 ^ 14 + num fromShip * 2 ^ 21 + num (fromShip && lv != old) * 2 ^ 23)

/-- The source that the power path closes at power-on (R85). -/
def firstSource (stkOk xbsOk : Bool) (s : State) : State :=
  let t := s.set Obj.powerPathStatus (num xbsOk * 8 + (if !stkOk && xbsOk then 2 else 0))
  if !stkOk && xbsOk then faultPulse 0x16 t else t

/-- POWER_ON_RESET: the power-on sequence from the release of brown-out, or from a wake from SHIP (R109), up to the ROM boot. The
counter starts at 0, or after SHIP where the AO register has kept it, and the gap is counted (R202). -/
def effPowerOnReset (p : StrapPins) (stkOk xbsOk fromShip : Bool) (s : State) : State :=
  let a := if fromShip then
      (s.set Obj.resetCause (bits (s.get Obj.resetCause) 12 4 * 2 ^ 12 + 4)).setBitOf Obj.wakeCause 6 true
    else s.setBitOf Obj.wakeCause 5 true
  let b := coldStart aoKept 1 (sampleStraps p fromShip a)
  let c := { b with
    safe := { b.safe.down with cells := strapCells b, wdStart := b.clk }
    flt := FaultEng.clear
    cur := if fromShip then b.cur else
      { b.cur with counter := 0, start := 0, retained := 0, prevLatch := 0, temps := [] }
    mode := { b.mode with dwell := false, handover := none, resetting := false, powerAt := some b.clk } }
  let d := firstSource stkOk xbsOk ((c.set Obj.supplyStatus 0x7C).set Obj.domainStatus 0x2FF)
  dwellFollow (startSup (marginsFollow (startRom (adoptShuntSource (d.count Obj.counterGapCount 16)))))

/-- POWER_ON_RESET (R109). -/
def execPowerOnReset (dt : Nat) (p : StrapPins) (stkOk xbsOk fromShip : Bool) (s : State) : Host.Outcome State Fault Refusal :=
  run (Instr.wf (.powerOnReset dt p stkOk xbsOk fromShip)) dt (effPowerOnReset p stkOk xbsOk fromShip) s

/-! What an NVM operation does (R495), and what a brown-out leaves of it (R494, R514). -/

/-- The byte address of a firmware slot (R493). -/
def fwBase (b : Bool) : Nat := if b then 0x18000 else 0

/-- A word of the marker row of a slot is programmed (R505): SEQ is one above the higher one of the two slots. -/
def setMarker (b : Bool) (word : Nat) (s : State) : State :=
  let f := s.fwSlot b
  s.setFwSlot b (match word with
    | 0 => if f.seq != 0 then f else { f with seq := max s.nvm.slotA.seq s.nvm.slotB.seq + 1 }
    | 1 => { f with writtenM := .zero }
    | 2 => { f with trialM := .zero }
    | 3 => { f with bootedM := .zero }
    | 4 => { f with confirmedM := .zero }
    | _ => { f with revokedM := .zero })

/-- A word whose programming is cut short reads neither erased nor all 0 (R505); one that was programmed before stays. -/
def Marker.cut : Marker → Marker
  | .erased => .torn
  | m => m

/-- The programming of a word of the marker row is cut short (R505); SEQ is then a free value. -/
def tearMarker (b : Bool) (word : Nat) (s : State) : State :=
  let f := s.fwSlot b
  match word with
  | 0 => (s.setFwSlot b { f with seq := s.free 32 }).freeUsed
  | 1 => s.setFwSlot b { f with writtenM := f.writtenM.cut }
  | 2 => s.setFwSlot b { f with trialM := f.trialM.cut }
  | 3 => s.setFwSlot b { f with bootedM := f.bootedM.cut }
  | 4 => s.setFwSlot b { f with confirmedM := f.confirmedM.cut }
  | _ => s.setFwSlot b { f with revokedM := f.revokedM.cut }

/-- The firmware slot, and the offset in it, of a byte address (R493). -/
def fwPlace (addr : Nat) : Bool × Nat := if 0x18000 ≤ addr then (true, addr - 0x18000) else (false, addr)

/-- The sector of a firmware slot at an address is erased; with the first one its markers go (R505). -/
def eraseImage (addr : Nat) (s : State) : State :=
  let (b, off) := fwPlace addr
  let f := s.fwSlot b
  s.setFwSlot b (if off = 0 then FwSlot.erased else { f with image := f.image.take off })

/-- A row of a firmware slot is programmed at an address. -/
def writeRow (addr : Nat) (row : List Nat) (s : State) : State :=
  let (b, off) := fwPlace addr
  let f := s.fwSlot b
  s.setFwSlot b { f with image := f.image.take off ++ row }

/-- What a completed operation leaves in the NVM (R495). -/
def opDone (o : NvmOp) (s : State) : State :=
  match o.work with
  | .update row => if o.code = 4 then eraseImage o.addr s else if o.code = 3 then writeRow o.addr row s else s
  | .marker b w => setMarker b w s
  | .record r => appendRecord r s
  | .copy i =>
    match firstLive i s.nvm.log with
    | some r => s.setLog (pushRec r s.nvm.log)
    | none => s
  | .reclaim i => s.setLog (eraseSector i s.nvm.log)
  | .calErase => { s with nvm := { s.nvm with cal0 := ⟨s.nvm.cal0.tables.map (fun _ => false), []⟩ } }
  | .calProgram => programRegion 7 { s with nvm := { s.nvm with cal0 := s.nvm.cal1 } }

/-- `n` free bytes. -/
def State.freeBytes (s : State) (n : Nat) : List Nat :=
  (List.range n).map (fun i => (Config.freeValue (s.freeCtr + i)).toNat % 256)

/-- A number of free values has been used. -/
def State.freeSpent (s : State) (n : Nat) : State := { s with freeCtr := s.freeCtr + n }

/-- What an operation that a brown-out has cut short leaves: a record without COMMIT (R499), a torn marker (R505), a header that fails its
check, tables that fail theirs, an indeterminate sector or row (R514), whose bytes are free values. -/
def opCut (o : NvmOp) (s : State) : State :=
  let torn (r : LogRec) : State := s.setLog (pushRec { r with commit := false } s.nvm.log)
  match o.work with
  | .update row =>
    let (b, off) := fwPlace o.addr
    let f := s.fwSlot b
    let n := if o.code = 4 then ((f.image.drop off).take 4096).length else if o.code = 3 then row.length else 0
    if o.code = 1 then s
    else
      let g := if off = 0 && o.code = 4 then FwSlot.erased else f
      (s.setFwSlot b { g with image := f.image.take off ++ s.freeBytes n ++ f.image.drop (off + n) }).freeSpent n
  | .marker b w => tearMarker b w s
  | .record r => torn r
  | .copy i =>
    match firstLive i s.nvm.log with
    | some r => torn r
    | none => s
  | .reclaim i => s.setLog (s.nvm.log.zipIdx.map (fun (x : LogSector × Nat) =>
      if x.2 = i then { x.1 with headerOk := false, recs := [] } else x.1))
  | .calErase => opDone o s
  | .calProgram => { s with nvm := { s.nvm with cal0 := { s.nvm.cal0 with tables := s.nvm.cal0.tables.map (fun _ => false) } } }

/-- What a brown-out leaves of a host write or a ROM boot that programs the NVM (R499, R505, R514; log entry 152). -/
def writeCut (w : CutWrite) (s : State) : State :=
  match w with
  | .record ix sub v =>
    let r := objectRecord 1 (ix * 256 + sub) v false
    if hasRoom r.size s.nvm.log then s.setLog (pushRec { r with commit := false } s.nvm.log) else s
  | .marker b word => tearMarker b word s
  | .planSlot n => { s.freeSpent 8192 with plan := { s.plan with slots := s.plan.slots.set n (s.freeBytes 8192) } }

/-- What a brown-out leaves in the NVM: of the operation in progress nothing, part or all, and what it has cut short of a write (R495). -/
def nvmCut (x : NvmCut) (s : State) : State :=
  if !s.on .nvm then s
  else
    let t := match s.nvm.op with
      | some o => if x.done = 2 then opDone o s else if x.done = 1 then opCut o s else s
      | none => s
    match x.write with
    | some w => writeCut w t
    | none => t

/-- What a loss of VPRE leaves: only AO is powered (R76); an NVM operation is interrupted (R495), what waited for the controller is lost, and an
update ends (R514). -/
def powerLost (s0 : State) : State :=
  let s := { s0 with nvm := { s0.nvm with op := none, queue := [] } }
  let t := rewind (haltPlan ((s.set Obj.domainStatus 1).set Obj.supervisorState 1))
  { (t.set Obj.modeStatus (2 ^ 24)).setBitOf Obj.powerPathStatus 5 false with
    mode := { t.mode with dwell := false, noImage := false }
    port := Port.empty
    safe := t.safe.down
    flt := FaultEng.clear }

/-- BROWN_OUT: every domain except AO is reset; the power-on sequence follows with POWER_ON_RESET (R76, R107). -/
def effBrownOut (cut : NvmCut) (s : State) : State :=
  powerLost (nvmCut cut (s.set Obj.resetCause (bits (s.get Obj.resetCause) 12 4 * 2 ^ 12 + 2)))

/-- BROWN_OUT (R76). -/
def execBrownOut (x : BrownOut) (s : State) : Host.Outcome State Fault Refusal :=
  run (Instr.wf (.brownOut x)) x.dt (effBrownOut x.cut) s

/-- AO_RESET: the whole device is reset, AO included (R76, R106, R107). -/
def effAoReset (s : State) : State :=
  let t := powerLost s
  { (aoObjects.foldl State.clear t).set Obj.resetCause 1 with
    cur := { CurEng.reset with volts := t.cur.volts, next := t.cur.next }
    mode := { ModeEng.idle with nrstLow := t.mode.nrstLow, tones := t.mode.tones } }

/-- AO_RESET (R76). -/
def execAoReset (dt : Nat) (s : State) : Host.Outcome State Fault Refusal :=
  run (Instr.wf (.aoReset dt)) dt effAoReset s

/-- The device wakes from SLEEP: RNG, NVM and SUP power up in that order (R105). The cap of the generation stays until the next power-on reset
(R369). WatchdogConfig, which is RW1, is not among what a wake
returns to its default (R33, R554). -/
def wakeFromSleep (s : State) : State :=
  let a := coldStart (aoKept ++ mirObjects ++ keptCounters ++ [Obj.domainStatus]) 5 s
  let keep := a.flt.status &&& keptSources.foldl (fun m c => setBit m c true) 0
  let b := { a with
    ring := { a.ring with enm := { a.ring.enm with cap := s.ring.enm.cap } }
    flt := { FaultEng.clear with
      status := keep, warn := a.flt.warn &&& keep, safe := a.flt.safe &&& keep, degrade := a.flt.degrade &&& keep,
      latched := a.flt.latched &&& keep, cond := a.flt.cond &&& keep, quiet := a.flt.quiet &&& keep
      quietAt := a.flt.quietAt.filter (fun p => keptSources.contains p.1) }
    safe := { a.safe.down with
      firstDone := a.safe.firstDone, latched := a.safe.latched, selfFaults := a.safe.selfFaults, failing := a.safe.failing
      cells := a.safe.cells, ovCount := a.safe.ovCount, uvCount := a.safe.uvCount, tripAt := a.safe.tripAt, alive := a.safe.alive
      defaults := a.safe.defaults, permitMir := a.safe.permitMir, wdStart := a.clk, wdWritten := s.safe.wdWritten } }
  dwellFollow (startSup (adoptShuntSource ((b.set Obj.domainStatus 0x2E3).set Obj.watchdogConfig (s.get Obj.watchdogConfig))))

/-! Bank starts. -/

/-- The bank in the active position is rejected, with a code and the entry it names (R276, R277): the ROM minimal plan runs, and
the device enters CONFIG HOLD with code 08h, or the lower one that stands, or stays in SAFE (R93, R95, R97). -/
def rejectBank (code index : Nat) (s : State) : State :=
  let a := showVerdict (some (code, index)) (s.setActive { s.active with valid := false })
  let b := { a with plan := { a.plan with rejected := true, startAt := none } }
  let c := faultOccur 0x2E (if bits (b.get Obj.configCheck) 0 8 = 0 then b.set Obj.configCheck 8 else b)
  let d := if c.plan.running = RunningPlan.bank then startRom c else c
  if [Mode.ready, Mode.measure, Mode.balance, Mode.transfer, Mode.loupe, Mode.selftest].contains d.modeCode then
    overtake (changeMode Mode.configHold 4 (endLoupe (endTransferOpen d)))
  else d

/-- A bank starts validly (R97, R239, R263, R264, R267): its first cycle has CycleCount 0; a Loupe point in progress ends INCOMPLETE
(R313). -/
def runBank (s : State) : State :=
  let a := loupeEndPoint 2 (showVerdict none (abortSlices (fun _ => true) (newWindow s)))
  let b := safeBaseline (mirrorCodes (applyCellCount (closeOutputs a)))
  let c := ((b.set Obj.cycleStart b.ringTime).set Obj.cycleCount 0).set Obj.adhocMaxGap (adhocGap b.active.image)
  let d := { recordAt 1 c with
    plan := { c.plan with running := RunningPlan.bank, startAt := none, refetch := [] }
    time := { c.time with
      cycleLen := imageLc c.active.image, counted := false, pendingAdj := 0, adopt := none
      phi := c.time.edgeAt.map (fun e => signed48 e c.ringTime) }
    cells := { c.cells with stk := [], sums := [], sumCycle := none } }
  marginsFollow <| settleCoverage true <| if d.plan.rejected && bits (d.get Obj.configCheck) 0 8 = 8 then
    faultFollow 0x2E false ({ d with plan := { d.plan with rejected := false } }.set Obj.configCheck 0)
  else d

/-- The active bank starts at this boundary: its checks run once more (R263, R264, R268). -/
def startBank (s : State) : State :=
  match bankFault true s.active.image s with
  | some (c, i) => rejectBank c i s
  | none => runBank s

/-- The banks exchange their roles (R263). An active bank that was to be withdrawn at this boundary is no longer valid (R277), and what waits
for its re-read has no use any more. -/
def swapBanks (s : State) : State :=
  let t := match s.plan.withdraw with
    | some e => faultFollow 0x25 false (showVerdict (some (0x1A, e)) (s.setActive { s.active with valid := false }))
    | none => s
  { t with plan := { t.plan with activeB := !t.plan.activeB, switchAt := none, refetch := [], withdraw := none } }

/-! The configuration check (R97). -/

/-- The value lies in the object's range (R553, step 10). -/
def ObjRow.inRange (r : ObjRow) (v : Nat) : Bool :=
  match r.chk with
  | .any => true
  | .range lo hi =>
    let x : Int := if r.kind = .int then toInt (8 * r.size) v else (v : Int)
    lo ≤ x && x ≤ hi
  | .oneOf l => l.contains v
  | .fields fs => fs.all (fun f => f.2.2.1 ≤ bits v f.1 f.2.1 && bits v f.1 f.2.1 ≤ f.2.2.2)

/-- The first P object whose stored value lies outside its range (R97, code 04h). -/
def State.storedOut (s : State) : Option Nat :=
  (s.stored.filter (fun p =>
    match Dict.row (p.1 / 256) (p.1 % 256) with
    | some r => !r.inRange p.2
    | none => false)).foldl (fun b p =>
      match b with
      | none => some p.1
      | some k => some (min k p.1)) none

/-- The straps hold the device in CONFIG HOLD (R529). -/
def strapBad (s : State) : Bool := bits (s.get Obj.strapStatus) 14 7 != 0 || bit (s.get Obj.strapStatus) 22

/-- ConfigCheck: the lowest code that applies, with INDEX and SUB (R97). -/
def configCode (s : State) : Nat :=
  let keyed (c k : Nat) : Nat := k / 256 * 2 ^ 16 + k % 256 * 2 ^ 8 + c
  let slot := s.get Obj.planBootSlot
  if !s.nvm.log.any (·.headerOk) then 1
  else match s.badConfig with
    | some k => keyed 2 k
    | none => match s.tornConfig with
      | some k => keyed 3 k
      | none => match s.storedOut with
        | some k => keyed 4 k
        | none =>
          if strapBad s then 5
          else if s.nvm.calBad then 6
          else if 4 ≤ slot || (s.plan.slots.getD slot []).isEmpty then 7
          else if s.plan.rejected then 8
          else 0

/-- The result of the check is written, and 2Eh follows it (R97); in READY to SELFTEST a failure leads to CONFIG HOLD at the next
boundary (R93). -/
def checkConfig (s : State) : State :=
  let c := configCode s
  let t := faultFollow 0x2E (c % 256 != 0) (s.set Obj.configCheck c)
  if c % 256 != 0 &&
      [Mode.ready, Mode.measure, Mode.balance, Mode.transfer, Mode.loupe, Mode.selftest].contains t.modeCode then
    stageAuto Mode.configHold 4 t
  else t

/-- The straps are judged at the end of a start that follows a whole-device reset (R529), which a wake from SLEEP is not (R33). -/
def judgeStraps (s : State) : State :=
  if bits (s.get Obj.modeStatus) 24 8 = 5 then s
  else
  let mism := !bit (s.get Obj.strapStatus) 5 && (s.get Obj.ringRoleConfig = 1 || s.get Obj.ringRoleConfig = 2)
  let t := s.setBitOf Obj.strapStatus 22 mism
  faultFollow 0x2D (strapBad t) t

/-- The slot that PlanBootSlot names is loaded into bank A, which is active, and validated as for a start (R261). -/
def bootPlan (s : State) : State :=
  let slot := s.get Obj.planBootSlot
  let image := if slot < 4 then s.plan.slots.getD slot [] else []
  let t := { s with plan := { s.plan with
    bankA := Bank.empty, bankB := Bank.empty, activeB := false, switchAt := none, rejected := false } }
  if image.isEmpty then t
  else
    let v := bankFault true image t
    let u := showVerdict v t
    { u with plan := { u.plan with bankA := ⟨image, slot, v.isNone⟩, rejected := v.isSome } }

/-- Start-up ends: the first mode is entered (R93, R105, R106, R109). A wake from SLEEP leads to STANDBY. CAUSE is 04h in CONFIG HOLD and
03h in SAFE; R89 does not say whether 01h or 05h stands there (log entry 105). -/
def enterFirstMode (s : State) : State :=
  let cause := bits (s.get Obj.modeStatus) 24 8
  let prev := bits (s.get Obj.modeStatus) 8 8
  let ok := bits (s.get Obj.configCheck) 0 8 == 0
  let m := if !ok then Mode.configHold
    else if cause = 5 then Mode.standby
    else if s.safeFault then Mode.safeMode
    else Mode.ready
  let t := (changeMode m (if ok then (if m = Mode.safeMode then 3 else cause) else 4) s).setField Obj.modeStatus 8 8 prev
  marginsFollow (if m = Mode.standby && t.safeFault then enterSafe t else t)

/-- CONFIGURATION_CHECK (R97): at the end of a SUP start or after a commit. In start-up the boot plan is loaded (R261), the straps are
judged (R529), the covers of retired channels are established (R156), and the first mode is entered (R93); an update that has ended
enters its mode so too. -/
def effConfigurationCheck (s : State) : State :=
  if !s.supReady then s
  else if s.modeCode = 0 then enterFirstMode (checkConfig (restoreCovers (judgeStraps (bootPlan s))))
  else
    match s.mode.auto with
    | some a =>
      if s.modeCode = Mode.update && a.cause = 8 then
        let t := checkConfig (restoreCovers { s with mode := { s.mode with auto := none } })
        let m := if bits (t.get Obj.configCheck) 0 8 != 0 then Mode.configHold
          else if t.safeFault then Mode.safeMode else Mode.ready
        changeMode m (if m = Mode.configHold then 4 else if m = Mode.safeMode then 3 else 8) t
      else checkConfig (restoreCovers s)
    | none => checkConfig (restoreCovers s)

/-- CONFIGURATION_CHECK (R97). -/
def execConfigurationCheck (dt : Nat) (s : State) : Host.Outcome State Fault Refusal :=
  run (Instr.wf (.configurationCheck dt)) dt effConfigurationCheck s

end Sys2Proof.Machine
end

