-- ==== Sys2Proof/Machine/Modes.lean ====
section
/-! DEFINITION. The power path (R78 to R87), wake (R99 to R105), and the mode transitions: a request (R90 to R92), what an automatic one
leads to (R93, R95), and the sequence before SLEEP, SHIP and STANDBY (R96). -/

namespace Sys2Proof.Machine

/-! The power path. -/

/-- The ramp of the stage, if the stage is in RUN, is interrupted or starts again (R319, R322), even one that had ended before (log entry
125). -/
def rampIf (on : Bool) (s : State) : State := if s.xferState = 2 then s.setBitOf Obj.xferStatus 5 on else s

/-- A hand-over starts (R81): it suspends the switching of the stage (R322). -/
def startHandover (toXbs : Bool) (s : State) : State :=
  let t := rampIf false (s.setField Obj.powerPathStatus 0 2 (if toXbs then 1 else 3))
  dwellFollow { t with mode := { t.mode with handover := some ⟨toXbs, t.clk, false⟩ } }

/-- A hand-over to STK starts at once from XBUS (R80). -/
def leaveXbus (s : State) : State := if s.pathState = 2 then startHandover false s else s

/-- XBS fails (R80, R82): before the XBS switch starts to close, 4 us after the start, the hand-over turns back; later it completes first,
and the one to STK follows at once. -/
def xbsFails (s : State) : State :=
  match s.mode.handover with
  | some h =>
    if h.toXbs && s.clk < h.startAt + 64 then
      let t := s.setField Obj.powerPathStatus 0 2 3
      dwellFollow { t with mode := { t.mode with handover := some ⟨false, h.startAt, false⟩ } }
    else dwellFollow { s with mode := { s.mode with handover := some { h with failed := h.toXbs } } }
  | none => dwellFollow (leaveXbus s)

/-- What may keep the path in XBUS is gone: R80 applies once a hand-over to XBS has completed (R82). -/
def xbusBarred (s : State) : Bool :=
  !s.xbsValid || s.xbsOv || s.get Obj.powerPathPolicy == 0 || s.mode.reverseWait || s.mode.shutdown == some Mode.ship

/-- The source that a hand-over has closed carries the device; the hand-over counts (R81, R82, R83). -/
def handoverEnds (s : State) : State :=
  match s.mode.handover with
  | none => s
  | some h =>
    let t := rampIf true ((s.setField Obj.powerPathStatus 0 2 (if h.toXbs then 2 else 0)).count Obj.handoverCount 32)
    let u := { t with mode := { t.mode with handover := none } }
    if h.toXbs && (h.failed || xbusBarred u) then startHandover false u else dwellFollow u

/-- STK_UV (R77). -/
def State.stkUv (s : State) : Bool := bit (s.get Obj.supplyStatus) 0

/-- HANDOVER_COMPLETE: VPRE is back in its window (R81); to STK while STK is below its undervoltage threshold raises 16h (R84). -/
def effHandoverComplete (s : State) : State :=
  match s.mode.handover with
  | none => s
  | some h => handoverEnds (if !h.toXbs && s.stkUv then faultPulse 0x16 s else s)

/-- HANDOVER_COMPLETE (R81). -/
def execHandoverComplete (dt : Nat) (s : State) : Host.Outcome State Fault Refusal :=
  run (Instr.wf (.handoverComplete dt)) dt effHandoverComplete s

/-- HANDOVER_VPRE_TIMEOUT: VPRE_OK was not reached within 50 us; the path stays on the source it has closed (R84). -/
def effHandoverVpreTimeout (s : State) : State :=
  match s.mode.handover with
  | none => s
  | some _ => handoverEnds (faultPulse 0x16 s)

/-- HANDOVER_VPRE_TIMEOUT (R84). -/
def execHandoverVpreTimeout (dt : Nat) (s : State) : Host.Outcome State Fault Refusal :=
  run (Instr.wf (.handoverVpreTimeout dt)) dt effHandoverVpreTimeout s

/-- DWELL_COMPLETE: a hand-over to XBS starts (R79). -/
def effDwellComplete (s : State) : State := if s.mode.dwell && s.dwellHolds then startHandover true s else s

/-- DWELL_COMPLETE (R79). -/
def execDwellComplete (dt : Nat) (s : State) : Host.Outcome State Fault Refusal :=
  run (Instr.wf (.dwellComplete dt)) dt effDwellComplete s

/-- A write of PowerPathPolicy (R79, R80, R87). -/
def writePolicy (v : Nat) (s : State) : WriteRes :=
  let t := s.set Obj.powerPathPolicy v
  .done (dwellFollow (if v = 0 then leaveXbus t else t))

/-! Wake. -/

/-- WAKE_OUT goes high (R103). -/
def raiseWakeOut (s : State) : State := { s with mode := { s.mode with wakeOut := true, wakeOutAt := s.clk } }

/-- A tone leaves on both ports (R102). -/
def sendTone (s : State) : State :=
  { s with mode := { s.mode with toneSentAt := some s.clk, tones := s.mode.tones + 1 } }

/-- The sources of a mask, bits of WakeCause, that wake the device (R99): from SLEEP those that WakeEnable has, from SHIP all but a
crossing. -/
def State.waking (s : State) (m : Nat) : Nat :=
  if s.modeCode = Mode.sleep then m &&& s.get Obj.wakeEnable else if s.modeCode = Mode.ship then m % 2 ^ 4 else 0

/-- The device wakes on the sources of a mask (R99): they show in WakeCause with whether the wake is from SHIP, and WAKE_OUT rises
(R103). The power-on sequence that follows a wake from SHIP is POWER_ON_RESET. -/
def wakeOn (m : Nat) (s : State) : State :=
  if s.waking m = 0 then s
  else
    let t := raiseWakeOut ((s.set Obj.wakeCause (s.get Obj.wakeCause ||| s.waking m)).setBitOf Obj.wakeCause 6 (s.modeCode == Mode.ship))
    if s.modeCode = Mode.sleep then wakeFromSleep t else t

/-- A wake source, a bit of WakeCause, arises: during the power-down sequence it is kept (R96). -/
def wake (b : Nat) (s : State) : State :=
  if s.mode.shutdown.isSome then { s with mode := { s.mode with wakeKept := setBit s.mode.wakeKept b true } }
  else wakeOn (2 ^ b) s

/-- The device sleeps, so that a source can wake it. -/
def State.asleep (s : State) (b : Nat) : Bool :=
  s.mode.shutdown.isNone && ((s.modeCode == Mode.sleep && bit (s.get Obj.wakeEnable) b) || s.modeCode == Mode.ship)

/-! Sessions that a mode brings. -/

/-- XferAllowed is 0 by temperature for a demanded current (R326, R331). -/
def State.thermalZero (s : State) (want : Nat) : Bool := want * s.get Obj.xferFoldback / 10000 == 0

/-- A transfer session starts (R325, R330, R334); a FET that is too hot ends it (R331). -/
def startSession (s0 : State) : State :=
  let s := writeEnd s0
  let t := ((((s.setField Obj.xferStatus 0 6 1).set Obj.xferCharge 0).set Obj.xferOnTime 0).set Obj.xferElapsed 0).count
    Obj.xferSessionCount 32
  fetCheck (dwellFollow { t with
    xfer := { XferEng.idle with
      start := some t.clk, vgdOk := t.xfer.vgdOk, nxfltLow := t.xfer.nxfltLow, thermalRun := t.thermalZero (t.get Obj.xferCurrent) }
    plan := { t.plan with gateEnable := false, gateAt := [] }
    mode := { t.mode with reverseWait := false } })

/-- The objects of the Loupe points, which a new session clears (R312, R313, R315). -/
def loupeResult (k : Nat) : Bool := 0x0848 ≤ k / 256 && k / 256 ≤ 0x089F

/-- A Loupe session starts (R306, R313); with EXCITATION TRANSFER its safety timer starts too (R333). -/
def startLoupe (s : State) : State :=
  let a := { s with objs := s.objs.filter (fun p => !loupeResult p.1), loupe := { LoupeEng.idle with chops := s.loupe.chops } }
  let b := a.setField Obj.loupeSessionStatus 0 17 (2 ^ 16)
  if bits (s.get Obj.loupeConfig) 0 2 = 1 then
    let c := ((b.set Obj.xferCharge 0).set Obj.xferOnTime 0).set Obj.xferElapsed 0
    fetCheck { c with xfer := { XferEng.idle with
      start := some c.clk, loupe := true, vgdOk := c.xfer.vgdOk, nxfltLow := c.xfer.nxfltLow,
      thermalRun := c.thermalZero (c.get Obj.loupeTransferCurrent) } }
  else b

/-- UPDATE is entered: its state is taken from the markers and the journal (R514). -/
def resumeUpdate (s : State) : State :=
  let f := s.fwSlot (!s.nvm.runningB)
  let st := bits (s.get Obj.updateStatus) 8 8
  if f.written && !f.confirmed && !f.trialBooted && !f.revoked then (updateState 3 s).set Obj.updateProgrammed (leAt f.image 4 4)
  else
    match s.journal with
    | some j => (updateState 4 s).set Obj.updateProgrammed (min j.length (j.done * 4096))
    | none => (if [1, 2, 3, 4, 8].contains st then updateState 0 s else s).set Obj.updateProgrammed 0

/-! Transitions. -/

/-- The automatic transition that is due at a boundary: its target and CAUSE (R93, R328, R456). -/
def autoTarget (s : State) : Option (Nat × Nat) :=
  let staged := s.mode.auto.map (fun a => (a.target, a.cause))
  let points := s.get Obj.loupePointMask
  let done := bits (s.get Obj.loupeSessionStatus) 0 16
  if s.modeCode = Mode.update then none
  else if (staged.map (·.1)) = some Mode.configHold then staged
  else if s.degradeFault && s.modeIn outputModes then some (Mode.measure, 9)
  else if staged.isSome then staged
  else if s.modeCode = Mode.transfer then
    (s.xfer.ended.map (fun c => if c = 6 || c = 12 then (Mode.measure, 6) else (s.mode.xferEntry, 6)))
  else if s.modeCode = Mode.loupe && (s.loupe.endAtBoundary || points &&& done == points) then some (Mode.measure, 6)
  else none

/-- An automatic transition takes effect, and a staged request gives way to it (R93, R95). -/
def autoMove (m cause : Nat) (s : State) : State :=
  let a := if m = Mode.configHold then endTransferOpen s else if cause = 9 then endTransfer 12 s else s
  let b := endLoupe a
  overtake (changeMode m cause { b with xfer := { b.xfer with ended := none } })

/-- The automatic transition that is due takes effect. -/
def boundaryModes (s : State) : State :=
  match autoTarget s with
  | some (m, c) => autoMove m c s
  | none => s

/-- The sequence before SLEEP, SHIP or STANDBY starts (R96): a ledger record is requested when one is due (R485), and the stores that wait
(R500). -/
def beginShutdown (m : Nat) (s : State) : State :=
  let t := haltPlan (storeDeviceP (partialRecord s))
  let u := { t with mode := { t.mode with shutdown := some m } }
  if m = Mode.ship then dwellFollow (leaveXbus u) else u

/-- A transfer session waits: for the hand-over of a reverse session (R86, R323), which a change of XferConfig DIRECTION while the request
waits does not start (log entry 132), or for the core, without which none starts (R29). -/
def sessionWaits (m : Nat) (s : State) : Bool :=
  m == Mode.transfer && ((!s.forward && s.pathState != 0) || !s.supReady)

/-- The request waits: for an armed switch whose START has not passed (R264), or with a session that waits. -/
def requestWaits (m : Nat) (s : State) : Bool :=
  (runsBank m && s.plan.running == RunningPlan.rom &&
    (match s.plan.switchAt with
     | some t => later48 t s.ringTime
     | none => false)) ||
  sessionWaits m s

/-- A requested mode takes effect (R88, R92, R93); with `swapped` the banks have just exchanged their roles, and the new active bank starts
at once (R264). Where that start is rejected the device is in CONFIG HOLD, and no session starts (R276). -/
def enterMode (m : Nat) (swapped : Bool) (s : State) : State :=
  let a := endLoupe (endTransfer 8 s)
  let b := { a with
    mode := { a.mode with staged := none, xferEntry := a.modeCode }
    xfer := { a.xfer with ended := none } }
  if m = Mode.sleep || m = Mode.ship || m = Mode.standby then beginShutdown m b
  else
    let c := changeMode m 2 b
    let d := if swapped then startBank c else c
    if d.modeCode != m then d
    else if m = Mode.transfer then startSession d
    else if m = Mode.loupe then startLoupe d
    else if m = Mode.selftest then startSet d
    else if m = Mode.update then resumeUpdate d
    else d

/-- The staged request is dropped with a code (R92). -/
def dropRequest (c : Nat) (s : State) : State :=
  dwellFollow { s.setField Obj.modeStatus 16 8 c with mode := { s.mode with staged := none, reverseWait := false } }

/-- A request that has waited for a switch takes effect with it: the banks exchange their roles first (R263, R264). One whose session waits
on does so with the exchange made. -/
def moveSwapped (m : Nat) (s : State) : State :=
  let t := swapBanks s
  if sessionWaits m t then t
  else
    match refusal m false t with
    | some c => dropRequest c t
    | none => enterMode m true t

/-- The staged request is checked again, and takes effect or is dropped (R92). -/
def hostMove (s : State) : State :=
  match s.mode.staged with
  | none => s
  | some m =>
    if requestWaits m s then s
    else if runsBank m && s.plan.running == RunningPlan.rom && s.plan.switchAt.isSome then marginsFollow (moveSwapped m s)
    else
      match refusal m false s with
      | some c => dropRequest c s
      | none => marginsFollow (enterMode m false s)

/-- MODE_TRANSITION: an automatic transition takes effect, or else the staged one (R92, R93, R95); the margins follow the plan that starts with it
(R491). -/
def effModeTransition (s : State) : State :=
  if s.mode.shutdown.isSome || s.modeCode = 0 then s
  else if (autoTarget s).isSome then marginsFollow (boundaryModes s)
  else hostMove s

/-- MODE_TRANSITION (R92). -/
def execModeTransition (dt : Nat) (s : State) : Host.Outcome State Fault Refusal :=
  run (Instr.wf (.modeTransition dt)) dt effModeTransition s

/-- A transition is in progress (R91, 07h). -/
def State.moving (s : State) : Bool := s.mode.staged.isSome || s.mode.auto.isSome || s.mode.shutdown.isSome

/-- The refusal of a ModeRequest (R91), judged against the mode to which an automatic transition of this plan cycle leads
or has led (R95). -/
def modeRefusal (v : Nat) (s : State) : Option Nat :=
  match if s.mode.shutdown.isNone then autoTarget s else none with
  | some (m, c) => some (overtakenCode v ((s.setField Obj.modeStatus 0 8 m).setField Obj.modeStatus 24 8 c))
  | none => if s.mode.autoTaken then some (overtakenCode v s) else refusal v s.moving s

/-- A write of ModeRequest (R90 to R92, R306, R323): for the current mode accepted without effect, else refused with the lowest code, or
staged. In SELFTEST an accepted request ends the foreground set at once (R483). A request for a reverse session starts the hand-over to STK from XBUS, or bars XBUS until it is served (R80, R86). -/
def writeModeRequest (v : Nat) (s : State) : WriteRes :=
  if v = s.modeCode then .done (s.set Obj.modeRequest v)
  else match modeRefusal v s with
  | some c =>
    let a := s.setField Obj.modeStatus 16 8 c
    let b := if c = 6 && v = Mode.transfer then a.setField Obj.xferStatus 16 8 (xferRefusal s)
      else if c = 6 && v = Mode.loupe then a.setField Obj.loupeSessionStatus 24 8 (loupeRefusal s)
      else a
    rejected c b
  | none =>
    let a := s.set Obj.modeRequest v
    let b := { a with mode := { a.mode with staged := some v, reverseWait := v == Mode.transfer && !s.forward } }
    .done (selftestEnds (if b.mode.reverseWait then leaveXbus b else b))

/-! The power-down sequence. -/

/-- The ROM default of the sleep plan (R282): MIRROR on the monitored cells, and DIE. -/
def romSleepPlan (s : State) : List Nat :=
  let mask := 2 ^ s.cellCount - 1
  [1, 0] ++ leBytes 4 mask ++ [0, 0] ++ [3, 0] ++ leBytes 2 (65536 - 450) ++ leBytes 2 1050 ++ [0, 0] ++ List.replicate 112 0

/-- The sleep plan that the AO sequencer takes (R282). -/
def takeSleepPlan (s : State) : State :=
  let p := if s.active.valid then (s.active.image.drop 220).take 128 else romSleepPlan s
  { s with plan := { s.plan with sleepPlan := p } }

/-- The blocks of the domains that SLEEP and SHIP power down are quiet (R11, R96). In SHIP both switches of the power path are open, for
which PowerPathStatus has no code: STATE reads 00b (log entry 103). -/
def domainsDown (m : Nat) (s : State) : State :=
  if m = Mode.standby then s
  else
    let t := (s.setLink .north 0 (s.linkGen .north)).setLink .south 0 (s.linkGen .south)
    let u := { t.set Obj.supervisorState 1 with
      port := Port.empty
      ring := { t.ring with txQ := [], cmds := [], lineN := [], lineS := [] } }
    if m = Mode.ship then { u.setField Obj.powerPathStatus 0 2 0 with safe := { u.safe.down with cells := u.safe.cells } } else u

/-- The sequence of R96 has nothing left to wait for: no NVM operation is in progress or requested (step 3) and no hand-over (step 4). -/
def State.shutdownReady (s : State) : Bool := s.nvm.op.isNone && s.nvm.queue.isEmpty && s.mode.handover.isNone

/-- The wake conditions kept during the sequence wake the device (R96, R99); WAKE_IN among them brings the tone (R102). -/
def keptWakes (s : State) : State :=
  let m := s.mode.wakeKept
  let t := { s with mode := { s.mode with wakeKept := 0 } }
  wakeOn m (if bit (t.waking m) 2 then sendTone t else t)

/-- SHUTDOWN_SEQUENCE_COMPLETE: the sequence waits for the NVM and for a hand-over; then what the device has still changed in its course is stored
(R500), the counter is kept (R202), and the mode takes effect; a kept wake condition then wakes the device
(R96). The mode is taken from SAFE too, when a source has led there during the sequence (log entry 104). -/
def effShutdownSequenceComplete (s : State) : State :=
  match s.mode.shutdown.filter (fun _ => s.shutdownReady) with
  | none => s
  | some m =>
    let a := nvmWear (drainLog (storeDeviceP s))
    let b := if a.on .icx then icxDown a else a
    let c := if m = Mode.sleep then takeSleepPlan b else b
    keptWakes (domainsDown m (changeMode m 2 { c with mode := { c.mode with shutdown := none } }))

/-- SHUTDOWN_SEQUENCE_COMPLETE (R96). -/
def execShutdownSequenceComplete (dt : Nat) (s : State) : Host.Outcome State Fault Refusal :=
  run (Instr.wf (.shutdownSequenceComplete dt)) dt effShutdownSequenceComplete s

end Sys2Proof.Machine
end

