-- ==== Sys2Proof/Machine/Power.lean ====
section
/-! DEFINITION. The supply supervisor and the rails (R74 to R76), the nRST pin (R106, R108), the wake sources and the SLEEP check (R100 to
R104), and the resets that ResetCommand requests (R38, R465, R555). -/

namespace Sys2Proof.Machine

/-! Supply. -/

/-- Every open aperture is spoilt: its records carry BOUND FFh (R75). -/
def spoilApertures (s : State) : State :=
  { s with cells := { s.cells with apertures := s.cells.apertures.map (fun a => { a with spoilt := true }) } }

/-- SUPPLY_UNDERVOLTAGE (R75, R76). -/
def effSupplyUndervoltage (s : State) : State :=
  spoilApertures (faultFollow 0x17 true (s.setBitOf Obj.supplyStatus 0 true))

/-- SUPPLY_UNDERVOLTAGE (R76). -/
def execSupplyUndervoltage (dt : Nat) (s : State) : Host.Outcome State Fault Refusal :=
  run (Instr.wf (.supplyUndervoltage dt)) dt effSupplyUndervoltage s

/-- SUPPLY_UV_CLEARS (R76). -/
def effSupplyUvClears (s : State) : State := faultFollow 0x17 false (s.setBitOf Obj.supplyStatus 0 false)

/-- SUPPLY_UV_CLEARS (R76). -/
def execSupplyUvClears (dt : Nat) (s : State) : Host.Outcome State Fault Refusal :=
  run (Instr.wf (.supplyUvClears dt)) dt effSupplyUvClears s

/-- SUPPLY_OVERVOLTAGE (R76). -/
def effSupplyOvervoltage (s : State) : State := faultFollow 0x18 true (s.setBitOf Obj.supplyStatus 1 true)

/-- SUPPLY_OVERVOLTAGE (R76). -/
def execSupplyOvervoltage (dt : Nat) (s : State) : Host.Outcome State Fault Refusal :=
  run (Instr.wf (.supplyOvervoltage dt)) dt effSupplyOvervoltage s

/-- SUPPLY_OV_CLEARS (R76). -/
def effSupplyOvClears (s : State) : State := faultFollow 0x18 false (s.setBitOf Obj.supplyStatus 1 false)

/-- SUPPLY_OV_CLEARS (R76). -/
def execSupplyOvClears (dt : Nat) (s : State) : Host.Outcome State Fault Refusal :=
  run (Instr.wf (.supplyOvClears dt)) dt effSupplyOvClears s

/-! The exchange bus. -/

/-- EXCHANGE_BUS_VALID (R76). -/
def effExchangeBusValid (s : State) : State := dwellFollow (s.setBitOf Obj.powerPathStatus 3 true)

/-- EXCHANGE_BUS_VALID (R76). -/
def execExchangeBusValid (dt : Nat) (s : State) : Host.Outcome State Fault Refusal :=
  run (Instr.wf (.exchangeBusValid dt)) dt effExchangeBusValid s

/-- A forward session runs, or a Loupe session whose excitation is the stage (R331, R333). -/
def State.forwardRuns (s : State) : Bool := (s.sessionNow && s.forward) || s.xfer.loupe

/-- EXCHANGE_BUS_INVALID (R76, R80, R82); in a forward session 15h sets (R331). -/
def effExchangeBusInvalid (s : State) : State :=
  let t := xbsFails (s.setBitOf Obj.powerPathStatus 3 false)
  if s.xbsValid && t.forwardRuns then transferFault 0x15 2 t else t

/-- EXCHANGE_BUS_INVALID (R76). -/
def execExchangeBusInvalid (dt : Nat) (s : State) : Host.Outcome State Fault Refusal :=
  run (Instr.wf (.exchangeBusInvalid dt)) dt effExchangeBusInvalid s

/-- EXCHANGE_BUS_OVERVOLTAGE (R76, R80, R331). -/
def effExchangeBusOvervoltage (s : State) : State :=
  transferFault 0x15 2 (xbsFails ((s.setBitOf Obj.powerPathStatus 3 false).setBitOf Obj.powerPathStatus 4 true))

/-- EXCHANGE_BUS_OVERVOLTAGE (R76). -/
def execExchangeBusOvervoltage (dt : Nat) (s : State) : Host.Outcome State Fault Refusal :=
  run (Instr.wf (.exchangeBusOvervoltage dt)) dt effExchangeBusOvervoltage s

/-- EXCHANGE_BUS_OV_CLEARS (R76). XBS_VALID stays clear until EXCHANGE_BUS_VALID comes: the row of the overvoltage clears XBS_VALID, and the
row of its end sets XBS_OV alone (log entry 106). -/
def effExchangeBusOvClears (s : State) : State :=
  let t := dwellFollow (s.setBitOf Obj.powerPathStatus 4 false)
  if t.xferState = 4 then t else gatesOff t

/-- EXCHANGE_BUS_OV_CLEARS (R76). -/
def execExchangeBusOvClears (dt : Nat) (s : State) : Host.Outcome State Fault Refusal :=
  run (Instr.wf (.exchangeBusOvClears dt)) dt effExchangeBusOvClears s

/-! Rails. -/

/-- The bit of a rail in SupplyStatus (R77). -/
def railBit : Rail → Nat
  | .vpre => 2 | .vcore => 3 | .vana => 4 | .vmir => 5 | .vao => 6

/-- A rail is outside its window, or the Mirror channel's own check of VMIR has failed (R74, R406). -/
def State.railBad (s : State) : Bool := bits (s.get Obj.supplyStatus) 2 5 != 31 || bit s.safe.selfFaults 5

/-- RAIL_OUT_OF_WINDOW (R74); VANA spoils the open apertures (R75). -/
def effRailOutOfWindow (r : Rail) (s : State) : State :=
  let t := s.setBitOf Obj.supplyStatus (railBit r) false
  let u := if r = .vana then spoilApertures t else t
  faultFollow 0x19 true u

/-- RAIL_OUT_OF_WINDOW (R74). -/
def execRailOutOfWindow (dt : Nat) (rail : Rail) (s : State) : Host.Outcome State Fault Refusal :=
  run (Instr.wf (.railOutOfWindow dt rail)) dt (effRailOutOfWindow rail) s

/-- RAIL_BACK_IN_WINDOW (R74). -/
def effRailBackInWindow (r : Rail) (s : State) : State :=
  let t := s.setBitOf Obj.supplyStatus (railBit r) true
  faultFollow 0x19 t.railBad t

/-- RAIL_BACK_IN_WINDOW (R74). -/
def execRailBackInWindow (dt : Nat) (rail : Rail) (s : State) : Host.Outcome State Fault Refusal :=
  run (Instr.wf (.railBackInWindow dt rail)) dt (effRailBackInWindow rail) s

/-! nRST (R106, R108). -/

/-- NRST_LOW: a wake from SLEEP or SHIP (R99, R100), otherwise a device reset that lasts while the pin is low (R106). A stuck pin is
ignored (R108). -/
def effNrstLow (s : State) : State :=
  if s.mode.nrstStuck then s
  else
    let t := { s with mode := { s.mode with nrstLow := true } }
    if s.mode.shutdown.isNone && (s.modeCode = Mode.sleep || s.modeCode = Mode.ship) then wake 3 t
    else
      let u := deviceReset 3 t
      { u with mode := { u.mode with resetting := true } }

/-- NRST_LOW (R106). -/
def execNrstLow (dt : Nat) (s : State) : Host.Outcome State Fault Refusal :=
  run (Instr.wf (.nrstLow dt)) dt effNrstLow s

/-- The reset ends now: the times of R30 count from here. -/
def endReset (s : State) : State :=
  if s.mode.resetting then watchdogStart { s with mode := { s.mode with resetting := false, supResetAt := s.clk } } else s

/-- NRST_RELEASE: the device reset ends (R106). -/
def effNrstRelease (s : State) : State := endReset { s with mode := { s.mode with nrstLow := false } }

/-- NRST_RELEASE (R106). -/
def execNrstRelease (dt : Nat) (s : State) : Host.Outcome State Fault Refusal :=
  run (Instr.wf (.nrstRelease dt)) dt effNrstRelease s

/-- NRST_STUCK: the device releases itself (R108). -/
def effNrstStuck (s : State) : State :=
  if !s.mode.nrstLow || s.mode.nrstStuck then s
  else
    let t := endReset { s with mode := { s.mode with nrstStuck := true } }
    faultOccur 0x2C (t.setBitOf Obj.resetCause 5 true)

/-- NRST_STUCK (R108). -/
def execNrstStuck (dt : Nat) (s : State) : Host.Outcome State Fault Refusal :=
  run (Instr.wf (.nrstStuck dt)) dt effNrstStuck s

/-- NRST_HIGH_10_MS: the pin is heeded again, and 2Ch may recover (R108, R454). -/
def effNrstHigh10Ms (s : State) : State :=
  faultFollow 0x2C false { s with mode := { s.mode with nrstStuck := false, nrstLow := false } }

/-- NRST_HIGH_10_MS (R108). -/
def execNrstHigh10Ms (dt : Nat) (s : State) : Host.Outcome State Fault Refusal :=
  run (Instr.wf (.nrstHigh10Ms dt)) dt effNrstHigh10Ms s

/-! Wake sources. -/

/-- WAKE_IN (R100, R102). -/
def effWakeIn (s : State) : State := wake 2 (if s.asleep 2 then sendTone s else s)

/-- WAKE_IN (R100). -/
def execWakeIn (dt : Nat) (s : State) : Host.Outcome State Fault Refusal :=
  run (Instr.wf (.wakeIn dt)) dt effWakeIn s

/-- The guard of R102 runs: 5 ms after the last tone. -/
def State.toneGuard (s : State) : Bool :=
  match s.mode.toneSentAt with
  | some t => s.clk < t + 5 * ms
  | none => false

/-- WAKE_TONE: a port that has lock does not look for it (R101); outside the guard the node repeats it and wakes (R99, R102). -/
def effWakeTone (p : Side) (s : State) : State :=
  if (s.on .rng && s.linkState p == 2) || s.toneGuard then s
  else wake (match p with | .north => 0 | .south => 1) (sendTone s)

/-- WAKE_TONE (R101). -/
def execWakeTone (dt : Nat) (side : Side) (s : State) : Host.Outcome State Fault Refusal :=
  run (Instr.wf (.wakeTone dt side)) dt (effWakeTone side) s

/-- WAKE_OUT may fall (R103): it has been high for 100 ms, and WakeCause [4:0] is clear or 2 s have passed since it rose. -/
def State.wakeOutDone (s : State) : Bool :=
  s.mode.wakeOutAt + 100 * ms ≤ s.clk && (bits (s.get Obj.wakeCause) 0 5 == 0 || s.mode.wakeOutAt + 2000 * ms ≤ s.clk)

/-- WAKE_OUT falls once it may (R103). -/
def settleWakeOut (s : State) : State := if s.wakeOutDone then { s with mode := { s.mode with wakeOut := false } } else s

/-- WAKE_OUT_RELEASE (R103). -/
def effWakeOutRelease (s : State) : State := settleWakeOut s

/-- WAKE_OUT_RELEASE (R103). -/
def execWakeOutRelease (dt : Nat) (s : State) : Host.Outcome State Fault Refusal :=
  run (Instr.wf (.wakeOutRelease dt)) dt effWakeOutRelease s

/-- How many entries the sleep plan holds (R246). -/
def State.sleepCount (s : State) : Nat :=
  ((List.range 16).takeWhile (fun i => s.plan.sleepPlan.getD (8 * i) 0 != 0)).length

/-- The bytes of entry `i` of the sleep plan (R246). -/
def State.sleepEntry (s : State) (i : Nat) : List Nat := (s.plan.sleepPlan.drop (8 * i)).take 8

/-- The cells that a MIRROR entry lists whose comparators are tripped, toward overvoltage or undervoltage, as it reads the trip latches and the
integrators (R246, R408). -/
def State.sleepTripped (s : State) (i : Nat) (ov : Bool) : Nat :=
  let reached := ofBits 24 (fun n => s.get Obj.mirrorDeglitch * 64 ≤ (if ov then s.safe.ovCount else s.safe.uvCount).getD n 0)
  leAt (s.sleepEntry i) 2 3 &&& (s.get (if ov then Obj.mirrorOvTripped else Obj.mirrorUvTripped) ||| reached)

/-- The highest of the three die temperatures that a DIE entry finds (R246). The curves take codes to temperatures, which are then compared
with LOW and HIGH; the part compares codes with the codes of LOW and HIGH (R282, log entry 112). -/
def dieHighest (n : Nat) (x : SleepReading) : Int :=
  max (Config.dieCurve 1 (meanCode (auxCodes n x.die1)))
    (max (Config.dieCurve 2 (meanCode (auxCodes n x.die2))) (Config.dieCurve 3 (meanCode (auxCodes n x.die3))))

/-- Entry `i` of the sleep plan finds a crossing (R246). -/
def State.sleepCrossing (s : State) (i : Nat) (x : SleepReading) : Bool :=
  let e := s.sleepEntry i
  let n := 2 ^ bits (e.getD 6 0) 0 3
  match e.getD 0 0 with
  | 1 => s.sleepTripped i true != 0 || s.sleepTripped i false != 0
  | 2 => meanCode (auxCodes n x.volts) ≤ leAt e 2 2 || leAt e 4 2 ≤ meanCode (auxCodes n x.volts)
  | 3 => dieHighest n x ≤ toInt 16 (leAt e 2 2) || toInt 16 (leAt e 4 2) ≤ dieHighest n x
  | _ => false

/-- The readings of entry `i`. -/
def sleepReading (l : List SleepReading) (i : Nat) : SleepReading := l.getD i ⟨[], [], [], []⟩

/-- The comparators that have caused the wake set their sources (R105). -/
def mirrorWoke (ov uv : Bool) (s : State) : State :=
  let t := if ov then faultFollow 0 true s else s
  if uv then faultFollow 1 true t else t

/-- A crossing of entry `i` is confirmed: the tone leaves and the device wakes, if WakeEnable lets it (R99, R102, R105). -/
def sleepConfirmed (i : Nat) (s : State) : State :=
  let t := sendTone (s.setField Obj.resetCause 12 4 i)
  if !bit (s.get Obj.wakeEnable) 4 then t
  else if (s.sleepEntry i).getD 0 0 = 1 then mirrorWoke (s.sleepTripped i true != 0) (s.sleepTripped i false != 0) (wake 4 t)
  else wake 4 t

/-- The entries of a SLEEP check in order (R104): a crossing that repeats wakes the device, one that does not counts. -/
def sleepEntriesRun (m : SleepMeas) : List Nat → State → State
  | [], s => s
  | i :: is, s =>
    if !s.sleepCrossing i (sleepReading m.first i) then sleepEntriesRun m is s
    else if !s.sleepCrossing i (sleepReading m.again i) then sleepEntriesRun m is (s.count Obj.sleepTransients 16)
    else if bit (s.get Obj.wakeEnable) 4 then sleepConfirmed i s
    else sleepEntriesRun m is (sleepConfirmed i s)

/-- The counter through a SLEEP check (R202): restored when ICX powers up, it runs for the `n` ticks that ICX is on, and is copied at the
end. -/
def sleepCounter (n : Nat) (s : State) : State :=
  let t := s.count Obj.counterGapCount 16
  let u := { t with cur := { t.cur with counter := t.cur.retained, residue := 0, latched := none, prevLatch := t.cur.retained } }
  let x := u.counterAfter n
  { u with cur := { u.cur with counter := x.1, residue := x.2, retained := x.1 } }

/-- SLEEP_CHECK (R104). A sleep plan that is empty ends the check before ICX powers up (R282). -/
def effSleepCheck (m : SleepMeas) (s : State) : State :=
  if s.modeCode != Mode.sleep || s.sleepCount = 0 then s
  else sleepEntriesRun m (List.range s.sleepCount) (sleepCounter m.icxTicks s)

/-- SLEEP_CHECK (R104). -/
def execSleepCheck (dt : Nat) (m : SleepMeas) (s : State) : Host.Outcome State Fault Refusal :=
  run (Instr.wf (.sleepCheck dt m)) dt (effSleepCheck m) s

/-! ResetCommand. -/

/-- The held SUP domain is released and restarts from ROM boot; the latch of 24h is cleared (R38, R465). -/
def releaseSup (s : State) : State :=
  let a := faultEnd 0x24 { s with flt := { s.flt with latched := setBit s.flt.latched 0x24 false } }
  let b := { a with safe := { a.safe with wdHalted := false } }
  startSup (hostPort (watchdogStart b))

/-- A write of ResetCommand (R38, R555): 5A01h and 5A02h are answered before the reset acts, 5A03h once it has. -/
def writeResetCommand (v : Nat) (src : Source) (s : State) : WriteRes :=
  if v = 0x5A03 then
    if s.get Obj.supervisorState = 2 then .done (releaseSup s) else rejected 1 s
  else
    let client := match src with
      | .host c => some (s.client c)
      | .ring _ _ => none
    .done { s with port := { s.port with resetReq := some ⟨v, client⟩ } }

/-- RESET_ACTS: the reset that waits acts (R555): the SUP domain alone without 24h, or the whole device (R38). A domain held under R31
stays held (log entry 19). -/
def effResetActs (s : State) : State :=
  match s.port.resetReq with
  | none => s
  | some r =>
    let t := { s with port := { s.port with resetReq := none } }
    if r.code = 0x5A02 then deviceReset 4 t
    else if t.get Obj.supervisorState = 2 then holdSup (supReset t)
    else restartSup t

/-- RESET_ACTS (R555). -/
def execResetActs (dt : Nat) (s : State) : Host.Outcome State Fault Refusal :=
  run (Instr.wf (.resetActs dt)) dt effResetActs s

end Sys2Proof.Machine
end

