-- ==== Sys2Proof/Machine/Measure.lean ====
section
/-! DEFINITION. What the measurement chapters read off the state: the highest die temperature (R216), the terms of the bounds
(R168 to R173, R192, R193), the shunt resistance (R204) and the objects of the current channel that are views of it (R209). -/

namespace Sys2Proof.Machine

/-! Die temperature (R216). -/

/-- The readings of the die sensors that are younger than 100 ms, with their sensor numbers. -/
def State.dieFresh (s : State) : List (Nat × Int) :=
  [1, 2, 3].filterMap (fun k =>
    match s.aux.dieAt.find? (fun p => p.1 = k) with
    | some (_, t) => if s.clk < t + 100 * ms then some (k, s.getInt (Obj.dieTemperature + k) 16) else none
    | none => none)

/-- The highest die temperature: the largest reading that is young and not excluded (R216). -/
def State.dieMax (s : State) : Option Int :=
  ((s.dieFresh.filter (fun p => !bit (s.get Obj.dieSensorStatus) (p.1 - 1))).map (·.2)).max?

/-- DieTemperatureMax as it reads (R216). -/
def State.dieMaxWord (s : State) : Nat :=
  match s.dieMax with
  | some t => ofInt 16 t
  | none => 0x8000

/-! The terms of a bound. -/

/-- The entry of a factory table at the die temperature (R169): the larger of the bracketing points, `f` giving the entry of point
0 (-40 degrees) to 9 (140 degrees), in steps of 20.0 degrees; below the first point its own entry (log entry 21). -/
def tableAt (t : Int) (f : Nat → Nat) : Nat :=
  let i := ((max (-400) (min t 1400) + 400) / 200).toNat
  if (max (-400) (min t 1400) + 400) % 200 = 0 then f i else max (f i) (f (i + 1))

/-- The largest of the entries of a table. -/
def tableMax (f : Nat → Nat) : Nat := (List.range 10).foldl (fun m i => max m (f i)) 0

/-- The base term of converter `c` (1 to 26) for a value in 10 uV (R169). -/
def State.baseTerm (s : State) (c : Nat) (v : Int) : Nat :=
  match s.dieMax with
  | some t => tableAt t (fun i => Config.baseTable c i (150000 ≤ v && v ≤ 450000))
  | none => max (tableMax (fun i => Config.baseTable c i true)) (tableMax (fun i => Config.baseTable c i false))

/-- The noise term of an OSR code (R163, R171). -/
def noiseTerm (osr : Nat) : Nat := [22, 15, 11, 8, 6].getD osr 22

/-- The shortfall that a step `d` in 10 uV leaves after `w` ticks at a time constant of `tau` in 0.1 us (R172). -/
def settleTerm (d w tau : Nat) : Nat :=
  let x := d * fixExpNeg (5 * w) (8 * tau)
  if 2 * x ≤ fixOne then 0 else ceilDiv (2 * x - fixOne) (2 * fixOne)

/-- The base term of the current converter (R192). -/
def State.currentBaseTerm (s : State) : Nat :=
  let b := match s.dieMax with
    | some t => tableAt t Config.currentBase
    | none => tableMax Config.currentBase
  b + ceilDiv (s.getInt Obj.currentZeroOffset 16).natAbs 5

/-- The noise term of the current converter (R194). -/
def currentNoise (osr : Nat) : Nat := [72, 51, 36, 26, 18].getD osr 72

/-- GainBound (R193). -/
def State.gainBound (s : State) : Nat :=
  let g := match s.dieMax with
    | some t => tableAt t Config.currentGain
    | none => tableMax Config.currentGain
  min 65535 (g + s.cur.gainDrift)

/-- BoundTerms (R175). -/
def State.boundTerms (s : State) : Nat := s.cells.terms.getD (s.get Obj.boundSelect - 1) 0

/-! The shunt (R204). -/

/-- The selected shunt temperature is older than 10 s. -/
def State.tempStale (s : State) : Bool :=
  s.get Obj.shuntTempSource != 0 &&
    (match s.cur.temps.find? (fun p => p.1 = s.get Obj.shuntTempSource) with
     | some (_, _, t) => t + 10000 * ms < s.clk
     | none => false)

/-- The shunt resistance in nOhm as a numerator over 10 ^ 7 (R204). -/
def State.rsh (s : State) : Int :=
  max 1 ((s.get Obj.shuntResistance : Int) *
    (10000000 + s.getInt Obj.shuntTempCoeff 16 * (s.getInt Obj.shuntTemperature 16 - 250)))

/-- A shunt voltage in 40 nV units as a current in uA (R204). -/
def State.microamps (s : State) (v : Int) : Int := roundDiv (v * 40 * 1000000 * 10000000) s.rsh

/-- A source of R204, 1 to 16 for an AX input and 20h for the highest die temperature, has a new reading: a valid one is kept with its
time, and ShuntTemperature takes it from the selected source. -/
def shuntReading (src : Nat) (v : Option Int) (s : State) : State :=
  match v with
  | some t =>
    let u := if s.get Obj.shuntTempSource = src then s.set Obj.shuntTemperature (ofInt 16 t) else s
    { u with cur := { u.cur with temps := (src, t, u.clk) :: u.cur.temps.filter (fun p => p.1 != src) } }
  | none => s

/-- CurrentStatus as it reads (R209): the held bits, and those that follow other state. -/
def State.currentStatus (s : State) : Nat :=
  let h := s.get Obj.currentStatus
  num (s.get Obj.shuntEnable == 1) + bits h 1 2 * 2 + num s.tempStale * 8 + bits h 4 1 * 16 +
    num (s.cur.copyBad || s.cur.checkBad) * 32

/-- CoulombCharge (R204, R209): the counter since its start in mC. -/
def State.coulombCharge (s : State) : Nat :=
  ofInt 64 (roundDiv (toInt 48 (since48 s.cur.counter s.cur.start) * 1000 * 10000000) s.rsh)

end Sys2Proof.Machine
end

