-- ==== Sys2Proof/Machine/Results.lean ====
section
/-! DEFINITION. Result sets: what a REPORT freezes (R240, R241), its charge field (R203), its selection for the host (R39, R40) and
its place in the report queue (R254, R385). -/

namespace Sys2Proof.Machine

/-! The charge field (R203). -/

/-- The charge from the previous latch to a latch at a shunt resistance, with the carry: the field in mC, and the state after it. -/
def chargeField (latch : Nat) (rsh : Int) (s0 : State) : Int × State :=
  let s := s0.setBitOf Obj.currentStatus 4 false
  if s.get Obj.shuntEnable != 1 then
    (0, { s with cur := { s.cur with prevLatch := latch, carryNum := 0, carryDen := 1 } })
  else
    let den := rsh * s.cur.carryDen
    let n := toInt 48 (since48 latch s.cur.prevLatch) * 1000 * 10000000 * s.cur.carryDen + s.cur.carryNum * rsh
    let q := roundDiv n den
    let c := clampInt 32 q
    let g := max 1 (Nat.gcd (n - q * den).natAbs den.natAbs)
    let t := s.setBitOf Obj.currentStatus 4 (c != q)
    (c, { t with cur := { t.cur with
      prevLatch := latch
      carryNum := if c = q then (n - q * den) / g else 0
      carryDen := if c = q then (den / g).natAbs else 1 } })

/-! The set. -/

/-- The set flags (R241). -/
def setFlags (stale loupe degraded absent recomputed spare holdover : Bool) : Nat :=
  num stale * 64 + num loupe * 32 + num degraded * 16 + num absent * 8 + num recomputed * 4 + num spare * 2 +
    num holdover

/-- The 128 bytes of a set. -/
def setBytes (s : State) (param planId cycle a flags : Nat) (cells : List Nat) (cur : Nat) (charge : Int) : List Nat :=
  let b := [s.address + bits param 30 2 * 64, planId] ++ leBytes 4 cycle ++ leBytes 6 a ++ leBytes 4 flags ++
    (cells.map (leBytes 4)).flatten ++ leBytes 4 cur ++ leBytes 4 (ofInt 32 charge) ++ leBytes 2 s.dieMaxWord ++
    leBytes 2 s.mirrorFlags
  b ++ leBytes 4 (crc32c b)

/-- The current record that a set carries (R26). -/
def State.setCurrent (s : State) (w : Nat) : Nat := if s.get Obj.shuntEnable = 1 then w else 0xFF

/-- The record of a cell that was not converted (R159). -/
abbrev absentCell : Nat := 0x00000FF1

/-- The set takes its slot in the queue of a node with an address (R385). -/
def queueReport (set : List Nat) (param : Nat) (hd : Bool) (s : State) : State :=
  if s.address = 0 then s
  else
    let lane := bits param 24 2
    queueSet ⟨set, hd, true, lane == 0 || lane == 2, lane == 1 || lane == 2, false, false, false, false⟩ s

/-- The set is frozen: LatestResultSet, the head's own delivery (R377), which is the hand-off H3 of that set (R441, R445), and its slot in the
queue. -/
def placeSet (set : List Nat) (r : WaitingReport) (s : State) : State :=
  let t := { s with latest := set }
  if !(r.hd && t.isHead) then queueReport set r.param r.hd t
  else
    match checkSet r.host set t with
    | (some b, u) => queueReport b r.param r.hd (portResult (b.getD 0 0 % 64) b u)
    | (none, u) => u

/-- A set of a unit (R240, R241). -/
def reportUnit (u : CellUnit) (r : WaitingReport) (s : State) : State :=
  let stale := s.cells.prevSetA == some u.a
  let (q, t) := if stale then (0, s.setBitOf Obj.currentStatus 4 false) else chargeField u.latch r.rsh s
  let rec_ := u.cells.any (fun w => bit w 2)
  let sub := u.cells.any (fun w => bit w 3)
  let flags := setFlags stale u.loupe r.degraded r.absent rec_ sub u.holdover
  let set := setBytes t r.param u.planId u.cycle u.a flags u.cells (t.setCurrent u.cur) q
  placeSet set r { t with cells := { t.cells with prevSetA := some u.a } }

/-- A set before any aperture has completed (R240). -/
def reportEmpty (r : WaitingReport) (s : State) : State :=
  let t := { s.setBitOf Obj.currentStatus 4 false with cur := { s.cur with carryNum := 0, carryDen := 1 } }
  let flags := setFlags true false r.degraded r.absent false false false
  placeSet (setBytes t r.param t.runningId 0 0 flags (List.replicate 24 absentCell) 0xFF 0) r t

/-! REPORT (R240, R254). -/

/-- Single-lane operation of R254 (R383, R384). -/
def State.singleLane (s : State) : Bool := s.reportLane != 0

/-- FALLBACK_DIVIDER of the running plan; the ROM minimal plan has 1. -/
def State.fallback (s : State) : Nat := if s.plan.running = RunningPlan.bank then imageFallback s.active.image else 1

/-- A REPORT produces a set in this cycle (R254). -/
def State.reports (s : State) (param : Nat) : Bool :=
  let d := max 1 (bits param 16 8)
  let f := max 1 s.fallback
  s.cycle % d == bits param 8 8 && (!s.singleLane || s.cycle / d % f == s.address % f)

/-- StreamControl selects the REPORT (R39). -/
def State.streamSelects (s : State) : Bool :=
  let c := s.get Obj.streamControl
  bit c 0 && s.ring.reportCount % max 1 (bits c 16 16) == bits c 8 8

/-- The aperture of a set has completed at the present tick (R240). -/
def completeAt (s : State) (clkA osr : Nat) : Bool := clkA + 12 * (128 * 2 ^ osr) + 32 ≤ s.clk

/-- The latest aperture that a REPORT may choose (R240): its A, and whether its unit is written. -/
def State.chosen (s : State) : Option (Nat × Nat × Option CellUnit) :=
  let w := (s.cells.recent.filter (fun u => completeAt s u.clkA u.osr)).map (fun u => (u.clkA, u.a, some u))
  let p := (s.cells.unit.filter (fun u => !u.diag && completeAt s u.clkA u.osr)).map (fun u => (u.clkA, u.a, none))
  let o := (s.cells.apertures.filter (fun a => !a.diag && completeAt s a.clkA a.osr)).map (fun a => (a.clkA, a.a, none))
  (w ++ p ++ o).foldl (fun b x => match b with
    | none => some x
    | some y => if y.1 < x.1 then some x else some y) none

/-- The effect of REPORT (R240, R254): in a mode that runs a bank or the ROM minimal plan (R238), and in a cycle that R254 picks. -/
def effReport (param : Nat) (host : SetCheck) (s : State) : State :=
  if !s.planRuns || !s.reports param then s
  else
    let hd := s.streamSelects
    let t := { s with ring := { s.ring with reportCount := s.ring.reportCount + 1 } }
    let r (a : Nat) : WaitingReport := ⟨a, param, s.singleLane && 1 < s.fallback, hd, !s.supReady, s.rsh, host⟩
    match t.chosen with
    | none => reportEmpty (r 0) t
    | some (_, a, some u) => reportUnit u (r a) t
    | some (_, a, none) => { t with cells := { t.cells with reports := t.cells.reports ++ [r a] } }

/-- REPORT (R240). -/
def execReport (dt : Nat) (op : ReportOp) (s : State) : Host.Outcome State Fault Refusal :=
  run (Instr.wf (.report dt op)) dt (effReport op.param op.host) s

end Sys2Proof.Machine
end

