-- ==== Sys2Proof/Machine/Cells.lean ====
section
/-! DEFINITION. Cell channels and spares: the start of an aperture (R132, R143, R196, R200), take-over and hand-back (R148 to R153),
retirement and reinstatement (R152, R154), and the open-wire currents (R178, R253). -/

namespace Sys2Proof.Machine

/-! Channels and spares. -/

/-- 20 us, in ticks. -/
abbrev settle20 : Nat := 320

/-- 06h SPARE_EXHAUSTED (R155): it sets when each spare is in COVER or FAULTY; its condition ends when a spare is FREE again. The margin CELL
follows the channels and spares (R491). -/
def exhaustion (s : State) : State :=
  marginsFollow (if s.exhausted then faultFollow 6 true s
    else if s.spare 1 = 0 || s.spare 2 = 0 then faultFollow 6 false s
    else s)

/-- A converter produces records for the result set: a channel that is neither RETIRED nor without a domain, or a spare that serves a
cell. -/
def State.produces (s : State) (c : Nat) : Bool :=
  if c ≤ 24 then s.channel c == 0 || s.channel c == 3 else s.spare (c - 24) == 2 || s.spare (c - 24) == 3

/-- A converter with a confirmed fault is out of the measurement path (R184). -/
def State.outOfPath (s : State) (c : Nat) : Bool :=
  if c ≤ 24 then s.channel c != 0 && s.channel c != 1 else s.spare (c - 24) == 5

/-- The recovery condition of 05h CONVERTER_FAULT holds or has lapsed (R184, R460). -/
def converterFault (s : State) : State :=
  let c := ofBits 27 (fun c => bit s.cells.confirmed c && !s.outOfPath c)
  let t := { s with cells := { s.cells with confirmed := c } }
  if c = 0 && !t.cells.convFail.any (fun p => p.2 != 0 && p.1 ≤ 26 && t.produces p.1) then faultFollow 5 false t else faultLapse 5 t

/-- Channel n serves an open aperture (R149): one that includes its cell and that no spare serves. -/
def State.channelServes (s : State) (n : Nat) : Bool :=
  s.cells.apertures.any (fun a => bit a.mask (n - 1) && !(a.s1 = n && !a.s1ov) && !(a.s2 = n && !a.s2ov))

/-- The spare that covers cell n (R148). -/
def State.coveredBy (s : State) (n : Nat) : Option Nat := [1, 2].find? (fun k => s.spare k = 3 && s.spareCell k = n)

/-- Channel n opens its input (R149 step 4): it is RETIRED under a covering spare, RELEASED under a slice, whose loop-back starts (R473), and
the take-over counts. -/
def openInput (n : Nat) (s : State) : State :=
  let t := (s.count Obj.substitutionCount 32)
  let u := { t with cells := { t.cells with releasing := setBit t.cells.releasing (n - 1) false } }
  if (u.coveredBy n).isSome then
    let v := (setChannel n 2 u).keep Obj.retiredMask (setBit (u.get Obj.retiredMask) (n - 1) true)
    { v with cells := { v.cells with retiring := setBit v.cells.retiring (n - 1) false } }
  else
    let w := setChannel n 1 u
    { w with test := { w.test with
        slices := w.test.slices.map (fun x => if x.kind = 1 && x.target = n then { x with loopAt := some w.clk } else x) } }

/-- The inputs whose last aperture has ended open (R149). -/
def openInputs (s : State) : State :=
  converterFault ((bitList s.cells.releasing 24).foldl
    (fun t i => if t.channelServes (i + 1) then t else openInput (i + 1) t) s)

/-- SPARE_ARMING_COMPLETE (R149 step 2): the spare enters SLICE or COVER, and the channel opens its input when it serves no aperture. -/
def effSpareArmingComplete (k : Nat) (s : State) : State :=
  if s.spare k = 1 && !(s.sp k).returning then
    let t := s.setField (Obj.spareState + k) 0 3 (if (s.sp k).cover then 3 else 2)
    let n := s.spareCell k
    exhaustion (openInputs { t with cells := { t.cells with releasing := setBit t.cells.releasing (n - 1) true } })
  else s

/-- SPARE_ARMING_COMPLETE (R149). -/
def execSpareArmingComplete (dt spare : Nat) (s : State) : Host.Outcome State Fault Refusal :=
  run (Instr.wf (.spareArmingComplete dt spare)) dt (effSpareArmingComplete spare) s

/-- Channel n serves its cell again (R150 step 2): it is ACTIVE, and no longer retired if it was reinstated. -/
def channelActive (n : Nat) (s : State) : State :=
  let t := setChannel n 0 s
  let u := { t with cells := { t.cells with releasing := setBit t.cells.releasing (n - 1) false } }
  if bit (u.get Obj.retiredMask) (n - 1) then u.keep Obj.retiredMask (setBit (u.get Obj.retiredMask) (n - 1) false) else u

/-- HAND_BACK_CHANNEL_ACTIVE (R150 step 2, 3; R152): the channel is ACTIVE, and the spare converts the overlap aperture; a spare that
has gone on to another cell returns its old one without. -/
def effHandBackChannelActive (k : Nat) (s : State) : State :=
  let e := s.sp k
  if e.back != 0 then marginsFollow ((channelActive e.back s).setSp k { e with back := 0 })
  else if !e.returning then s
  else
    let n := s.spareCell k
    if s.channel n = 2 && (s.spare k != 3) then exhaustion (freeSpare k s)
    else exhaustion (((channelActive n s).setField (Obj.spareState + k) 0 3 4).setSp k { e with returning := false })

/-- HAND_BACK_CHANNEL_ACTIVE (R150). -/
def execHandBackChannelActive (dt spare : Nat) (s : State) : Host.Outcome State Fault Refusal :=
  run (Instr.wf (.handBackChannelActive dt spare)) dt (effHandBackChannelActive spare) s

/-- HAND_BACK_TIMEOUT (R150): no CONVERT of the cell within 10 ms; the spare is FREE without an overlap aperture. -/
def effHandBackTimeout (k : Nat) (s : State) : State :=
  if s.spare k = 4 && (s.sp k).overlapDue then exhaustion (freeSpare k s) else s

/-- HAND_BACK_TIMEOUT (R150). -/
def execHandBackTimeout (dt spare : Nat) (s : State) : Host.Outcome State Fault Refusal :=
  run (Instr.wf (.handBackTimeout dt spare)) dt (effHandBackTimeout spare) s

/-! Retirement by the host (R152, R154). -/

/-- The reason to refuse a ChannelControl write for a cell from 1 to 24 (R154), 0 for none. -/
def channelRefusal (reinstate : Bool) (n : Nat) (s : State) : Nat :=
  if s.cellCount < n then 1
  else if reinstate then
    if s.channel n != 2 then 2
    else if bit s.cells.lbFail (n - 1) || bits (s.get (Obj.shadowResult + n)) 4 8 = 0xFF then 3
    else 0
  else if s.channel n = 2 || s.channel n = 3 || bit s.cells.retiring (n - 1) then 2
  else if (s.coverFor n).isNone && (s.coincides n).isNone then 4
  else 0

/-- A write to ChannelControl (R154, R157). -/
def writeChannelControl (v : Nat) (s : State) : WriteRes :=
  let n := v / 256
  let c := v % 256
  if !([1, 2].contains c) || n = 0 || 24 < n then .refuse 9 0 s
  else
    let r := channelRefusal (c == 2) n s
    if r != 0 then rejected r s
    else if c = 1 then .done (exhaustion (retireChannel n s))
    else .done { s with cells := { s.cells with reinstate := setBit s.cells.reinstate (n - 1) true } }

/-- The reinstatements that a plan-cycle boundary brings into effect (R154): each covering spare starts its hand-back. -/
def reinstateAll (s : State) : State :=
  let t := (bitList s.cells.reinstate 24).foldl (fun u i =>
    match u.coveredBy (i + 1) with
    | some k => handBack k u
    | none => u) s
  { t with cells := { t.cells with reinstate := 0 } }

/-! The start of an aperture. -/

/-- How spare k takes part in an aperture of cell n that starts at clock tick `c` (R149, R150, R152): it serves it, or it converts it
as its overlap aperture (true). One that has left a sliced cell for the channel that had claimed it serves what starts on the sliced cell
before that cell's channel has settled (log entry 141). -/
def State.spareTakes (s : State) (k n c : Nat) : Option Bool :=
  let e := s.sp k
  let due := e.since + settle20 ≤ c
  let ovl : Option Bool := if e.overlapDue then some true else none
  if s.spareCell k = n then
    match s.spare k with
    | 1 => if !due then none else if e.returning then ovl else some false
    | 2 | 3 => if e.returning && due then ovl else some false
    | 4 => ovl
    | _ => none
  else if e.back = n && (s.spare k = 1 || s.spare k = 5) && !due then some false
  else none

/-- The cell of the mask that spare k serves in an aperture, with 0 for none. -/
def State.spareServes (s : State) (k mask c : Nat) : Nat × Bool :=
  match (bitList mask 24).find? (fun i => (s.spareTakes k (i + 1) c).isSome) with
  | some i => (i + 1, (s.spareTakes k (i + 1) c).getD false)
  | none => (0, false)

/-- The ring time and the clock tick at which an aperture starts that a command at the present tick opens (R132). -/
def State.apertureA (s : State) : Nat × Nat := (wrap48 (apertureStart s.ringTime), s.clk + (apertureStart s.ringTime - s.ringTime))

/-- The counter is latched at an aperture start (R200), which lies at most a few ticks ahead; two latches of one A take the same value.
From the command on the shunt voltage is `volts`, which the counter sees 1.75 us later (R199). -/
def latchCounter (volts : Int) (s : State) : Nat × State :=
  let c := s.apertureA.2
  let v := match s.cur.latched.filter (fun p => p.1 = c) with
    | some p => p.2
    | none => (s.counterAfter (c - s.clk)).1
  (v, { s with cur := { s.cur with latched := some (c, v), next := s.cur.next ++ [(s.clk + 28, volts)] } })

/-- The retired channels under a loop-back of their own (R471). -/
def State.shadowTests (s : State) : Nat :=
  ofBits 24 (fun i => s.test.slices.any (fun x => x.kind = 1 && x.target = i + 1 && x.spare = 0))

/-- What the current converter is connected to in an aperture that opens now (R483): 1 for +160 mV, 2 for -160 mV, in step 03h of the foreground
set, for one aperture of the ROM minimal plan each; 0 for the shunt. -/
def State.loopInput (s : State) : Nat :=
  let open_ (c : Nat) : Bool := s.cells.apertures.any (fun a => a.calib = c)
  if s.modeCode != Mode.selftest || s.plan.running != RunningPlan.rom || (s.test.set.head?.map (·.1)) != some 11 then 0
  else if s.test.loopPos.isNone && !open_ 1 then 1
  else if open_ 2 then 0
  else 2

/-- The current converter goes over to the loop-back: the counter adds 0 for 2 ms, and the gap counts (R483). -/
def muteCounter (s : State) : State := ({ s with cur := { s.cur with mutedAt := some s.clk } }).count Obj.counterGapCount 16

/-- CONVERT (R143, R196, R200): an aperture opens for the cells of its mask and the current converter, and the counter is latched. -/
def effConvert (cells osr : Nat) (through : Bool) (volts : Int) (s0 : State) : State :=
  let (latch, s) := latchCounter volts s0
  let t := if s.loopInput = 1 then muteCounter s else s
  if !t.planRuns then t
  else
    let (a, c) := t.apertureA
    let (n1, o1) := t.spareServes 1 cells c
    let (n2, o2) := t.spareServes 2 cells c
    let x : Aperture :=
      { a := a, clkA := c, osr := osr, mask := cells, through := through, planId := t.runningId, cycle := t.cycle,
        diag := t.plan.cellCurrents, age := 0, calib := s.loopInput, spoilt := t.faultOn 0x17 || !bit (t.get Obj.supplyStatus) (railBit .vana),
        latch := latch, loupe := bit (t.get Obj.loupeSessionStatus) 16,
        holdover := !t.isHead && unsynced t.timeState, s1 := n1, s2 := n2, s1ov := o1, s2ov := o2, conduct := 0,
        noShadow := t.shadowTests, ref := if t.plan.cellCurrents then t.cells.openRef else [] }
    let u := { t with cells := { t.cells with apertures := t.cells.apertures ++ [x] } }
    let v := if o1 then u.setSp 1 { u.sp 1 with overlapDue := false } else u
    if o2 then v.setSp 2 { v.sp 2 with overlapDue := false } else v

/-- CONVERT (R143). -/
def execConvert (dt cells osr : Nat) (through : Bool) (volts : Int) (s : State) : Host.Outcome State Fault Refusal :=
  run (Instr.wf (.convert dt cells osr through volts)) dt (effConvert cells osr through volts) s

/-- SNAP_CURRENT (R200): CoulombSnapshot takes the counter and the ring time of the latch, which is the A that a CONVERT would have. -/
def effSnapCurrent (volts : Int) (s : State) : State :=
  let (latch, t) := latchCounter volts s
  if !t.planRuns then t
  else
    ((t.set (Obj.coulombSnapshot + 1) latch).set (Obj.coulombSnapshot + 2) t.apertureA.1).wrap (Obj.coulombSnapshot + 3) 32

/-- SNAP_CURRENT (R200). -/
def execSnapCurrent (dt : Nat) (volts : Int) (s : State) : Host.Outcome State Fault Refusal :=
  run (Instr.wf (.snapCurrent dt volts)) dt (effSnapCurrent volts) s

/-! Open-wire currents (R178, R179, R222, R253). -/

/-- The sense-pin currents switch on: every aperture that has not ended is diagnostic, and the references of R179 are kept. -/
def cellCurrentsOn (s : State) : State :=
  let ref := if s.plan.cellCurrents then s.cells.openRef else s.cells.cycleVals
  { s with
    plan := { s.plan with cellCurrents := true }
    cells := { s.cells with
      openRef := ref
      apertures := s.cells.apertures.map (fun a =>
        if s.clk + 2 < a.clkStop then { a with diag := true, ref := if a.cycle = s.cycle then ref else [] } else a) } }

/-- The sense-pin currents switch off: an aperture that starts afterwards is regular (R237). -/
def cellCurrentsOff (s : State) : State :=
  if !s.plan.cellCurrents then s
  else
    { s with
      plan := { s.plan with cellCurrents := false }
      cells := { s.cells with
        wireOff := some (s.clk + 2)
        apertures := s.cells.apertures.map (fun a => if s.clk + 2 ≤ a.clkA then { a with diag := false, ref := [] } else a) } }

/-- The AX pull currents switch (R222, R253): inputs with PULLDIR 00b are not switched; the results of the plan cycle are the references
of those that come on, and a conversion in progress sees them; one that starts at the tick at which they go off does not, whichever of the two
comes first (R237). -/
def axCurrents (on : Bool) (sel : Nat) (s : State) : State :=
  let m := ofBits 16 (fun i => bit sel i && (bits (s.get (Obj.auxInputConfig + (i + 1))) 0 2 == 1 ||
    bits (s.get (Obj.auxInputConfig + (i + 1))) 0 2 == 2))
  let new := if on then m - (m &&& s.plan.axPulls) else 0
  { s with
    plan := { s.plan with axPulls := if on then s.plan.axPulls ||| m else s.plan.axPulls - (s.plan.axPulls &&& m) }
    aux := { s.aux with
      pullRef := s.aux.cycleRes.filter (fun p => bit new p.1) ++ s.aux.pullRef.filter (fun p => !bit new p.1)
      busy := s.aux.busy.map (fun b => { b with
        diag := (b.diag && !(!on && b.e = s.ringTime && b.channel < 16 && bit m b.channel)) || (b.channel < 16 && bit new b.channel) }) } }

/-- The sources that the plan has on, numbered as in SourceStatus (R479). -/
def State.sourcesOn (s : State) : Nat := (if s.plan.cellCurrents then 2 ^ 25 - 1 else 0) + s.plan.axPulls * 2 ^ 32

/-- A SOURCES slice returns the sources that the plan switches on (R479). -/
def sourcesSeen (s : State) : State :=
  { s with test := { s.test with slices := s.test.slices.map (fun (x : Slice) =>
      if x.kind = 9 then { x with planOn := x.planOn ||| s.sourcesOn } else x) } }

/-- OPENWIRE (R253). -/
def effOpenwire (param : Nat) (s : State) : State :=
  if !s.planRuns then s
  else
    let on := bit param 0
    sourcesSeen (axCurrents on (bits param 16 16) (if bit param 1 then (if on then cellCurrentsOn s else cellCurrentsOff s) else s))

/-- OPENWIRE (R253). -/
def execOpenwire (dt param : Nat) (s : State) : Host.Outcome State Fault Refusal :=
  run (Instr.wf (.openwire dt param)) dt (effOpenwire param) s

end Sys2Proof.Machine
end

