-- ==== Sys2Proof/Machine/Apertures.lean ====
section
/-! DEFINITION. The end of an aperture: the cell and current records with their bounds (R158 to R174, R189 to R192), the checks on the
converters (R184, R197), the overlap comparison (R151), the measured limits (R177, R207), open-wire detection (R180, R182), the
stack sum (R185), and the unit in which the records replace their predecessors (R23, R145), with its recomputation (R443, R444). -/

namespace Sys2Proof.Machine

/-! Cell records. -/

/-- The switches that disturb cell n (R172). -/
def nearSwitches (n : Nat) : List Nat := [n - 1, n, n + 1].filter (fun m => 1 ≤ m && m ≤ 24)

/-- Switch m has conducted during an aperture (R172, R309). -/
def State.sawSwitch (s : State) (a : Aperture) (m : Nat) : Bool :=
  bit a.conduct (m - 1) || s.loupe.chops.any (fun c => c.ticks m a.clkA < c.ticks m a.clkStop)

/-- A conduction forced by a slice overlaps the aperture and lies within two cells of cell n (R300, R476). -/
def State.sawTest (s : State) (a : Aperture) (n : Nat) : Bool :=
  s.cells.tests.any (fun t => n ≤ t.1 + 2 && t.1 ≤ n + 2 && t.2.1 < a.clkStop && a.clkA < t.2.2)

/-- The instants before an aperture at which switch m stopped conducting (R172). -/
def State.switchOffs (s : State) (a : Aperture) (m : Nat) : List Nat :=
  (s.cells.tOff.filter (fun p => p.1 = m)).map (·.2) ++ s.loupe.chops.filterMap (fun c => c.lastOff m a.clkA) ++
    ((s.cells.tests.filter (fun t => t.1 = m && t.2.2 ≤ a.clkA)).map (·.2.2))

/-- The settle-shortfall term of cell n in an aperture (R172): the largest of its disturbances. -/
def State.settleShort (s : State) (a : Aperture) (n : Nat) : Nat :=
  let d := s.get (Obj.settleStep + n)
  let tau := s.get (Obj.filterTau + n)
  let sw := if (nearSwitches n).any (fun m => s.sawSwitch a m) || s.sawTest a n then d
    else (((nearSwitches n).map (fun m => s.switchOffs a m)).flatten.map (fun t => settleTerm d (a.clkA - t) tau)).foldl max 0
  match s.cells.wireOff with
  | some t => max sw (settleTerm 20000 (a.clkA - t) tau)
  | none => sw

/-- Pin Cn or C(n-1) is confirmed open (R174, R182). -/
def State.pinOpen (s : State) (n : Nat) : Bool :=
  bit (s.get Obj.openWireStatus) n || bit (s.get Obj.openWireStatus) (n - 1)

/-- A table word of a converter is faulty (R446); 0 stands for a word of every converter. -/
def State.tableFaulty (s : State) (c : Nat) : Bool := s.cells.tableBad.contains c || s.cells.tableBad.contains 0

/-- The highest die temperature exceeds 150 degrees (R174, R191). -/
def State.dieTooHot (s : State) : Bool :=
  match s.dieMax with
  | some t => 1500 < t
  | none => false

/-- Channel n is retired, and its cover is not established yet (R156). -/
def State.uncovered (s : State) (n : Nat) : Bool := bit (s.get Obj.retiredMask) (n - 1) && s.channel n != 2

/-- The record of cell n from converter `c`, with what BoundTerms shows of it (R158 to R174). -/
def cellRecord (a : Aperture) (c n : Nat) (r : CellRaw) (s : State) : Nat × Nat :=
  let (v, out) := clampCell r.value
  let sat := out || r.stuck
  let sub := 24 < c
  let b := s.baseTerm c v
  let g := s.get (Obj.driftTerm + c)
  let k := noiseTerm a.osr
  let h := s.settleShort a n
  let u := if sub then min 10 (Config.substitution (c - 24) n) else 0
  let bad := sat || a.spoilt || (!sub && (s.channel n == 3 || bit s.cells.retiring (n - 1) || s.uncovered n)) || s.pinOpen n || s.dieTooHot ||
    s.tableFaulty c || r.checks != 0 || a.diag
  let bound := if bad then 255 else min 254 (b + g + k + h + u)
  (cellWord v bound sub false sat,
    c * 2 ^ 40 + min 255 u * 2 ^ 32 + min 255 h * 2 ^ 24 + min 255 k * 2 ^ 16 + min 255 g * 2 ^ 8 + min 255 b)

/-! The current record. -/

/-- The current record of an aperture and its saturation (R189 to R192, R195); the limits of R190 judge V after the trim of R195 (log entry 143). -/
def currentRecord (a : Aperture) (r : CurRaw) (s : State) : Nat × Bool :=
  let (w, out) := clampCurrent r.value (s.getInt Obj.currentZeroOffset 16)
  let sat := out || r.stuck
  let sum := s.currentBaseTerm + s.get Obj.currentDriftTerm + currentNoise a.osr
  let bad := sat || a.spoilt || s.dieTooHot || s.tableFaulty 27 || r.checks != 0 || !s.on .icx || a.calib != 0
  (ofInt 24 w * 256 + (if bad || 254 < sum then 255 else sum), sat)

/-! The unit. -/

/-- Cell n has a record in an aperture: it is named, monitored, and its channel's domain is on (R159). -/
def State.converts (s : State) (a : Aperture) (n : Nat) : Bool :=
  bit a.mask (n - 1) && n ≤ s.cellCount && s.on (channelDomain n)

/-- The converter of cell n's record: a spare that serves it, else its channel (R149). -/
def Aperture.converter (a : Aperture) (n : Nat) : Nat :=
  if a.s1 = n && !a.s1ov then 25 else if a.s2 = n && !a.s2ov then 26 else n

/-- Channel n is retired in the aperture of its cell, which a spare serves (R153). -/
def State.retiredHere (s : State) (a : Aperture) (n : Nat) : Bool := s.converts a n && a.converter n != n && s.channel n == 2

/-- Channel n converts for ShadowResult in the aperture (R153): no loop-back of its own overlaps it (R471). -/
def State.shadows (s : State) (a : Aperture) (n : Nat) : Bool := s.retiredHere a n && !bit a.noShadow (n - 1)

/-- Channel n converts in the aperture. -/
def State.channelUsed (s : State) (a : Aperture) (n : Nat) : Bool :=
  s.converts a n && (a.converter n == n || s.shadows a n)

/-- Spare k converts in the aperture. -/
def State.spareUsed (s : State) (a : Aperture) (k : Nat) : Bool :=
  let n := if k = 1 then a.s1 else a.s2
  n != 0 && s.converts a n

/-- The converters that convert cells in an aperture. -/
def State.convertersOf (s : State) (a : Aperture) : List Nat :=
  ((List.range 24).map (· + 1)).filter (fun n => s.channelUsed a n) ++
    ([1, 2].filter (fun k => s.spareUsed a k)).map (· + 24)

/-- The unit of an aperture (R145), with the records whose word check failed at H1 waiting for recomputation (R441, R444). -/
def unitOf (a : Aperture) (cells : List CellRaw) (r1 r2 : CellRaw) (cur : CurRaw) (sense : List Int) (s : State) : CellUnit :=
  let raw := rawOf cells r1 r2
  let recs := (List.range 24).map (fun i =>
    if s.converts a (i + 1) then cellRecord a (a.converter (i + 1)) (i + 1) (raw (a.converter (i + 1))) s else (absentCell, 0))
  let (cw, sat) := currentRecord a cur s
  let ovl (k n : Nat) (o : Bool) : List (Nat × Nat × Nat) :=
    if o && s.converts a n then [(k, n, (cellRecord a (24 + k) n (raw (24 + k)) s).1)] else []
  { a := a.a, clkEnd := a.clkStop, osr := a.osr, mask := a.mask, planId := a.planId, cycle := a.cycle, diag := a.diag,
    latch := a.latch, loupe := a.loupe, holdover := a.holdover, conduct := a.conduct, cells := recs.map (·.1), cur := cw,
    curSat := sat,
    shadow := ((List.range 24).filter (fun i => s.retiredHere a (i + 1))).map
      (fun i => (i + 1, if s.shadows a (i + 1) then (cellRecord a (i + 1) (i + 1) (raw (i + 1)) s).1 else absentCell)),
    terms := recs.map (·.2),
    waits := (s.convertersOf a).filter (fun c => (raw c).badWord) ++ (if cur.badWord then [27] else []),
    clkA := a.clkA, s1 := a.s1, s2 := a.s2, ovl := ovl 1 a.s1 a.s1ov ++ ovl 2 a.s2 a.s2ov, sense := sense,
    ref := a.ref, part := 0 }

/-- The terms that the snapshot store keeps of an aperture's records (R442): converter, cell of the set or 0, and the sum as BOUND. -/
def State.boundsOf (s : State) (a : Aperture) (u : CellUnit) : List (Nat × Nat × Nat) :=
  ((List.range 24).filterMap (fun i =>
    if s.converts a (i + 1) then some (a.converter (i + 1), i + 1, cellBound (u.cells.getD i absentCell)) else none)) ++
  (u.shadow.filter (fun p => !bit p.2 0)).map (fun p => (p.1, 0, cellBound p.2)) ++
  u.ovl.map (fun p => (24 + p.1, 0, cellBound p.2.2)) ++ [(27, 0, u.cur % 256)]

/-! Converter checks (R184, R197). -/

/-- A spare with a confirmed fault is FAULTY (R184): the cell that it covered returns to its channel without an overlap aperture, a
retired channel, or one whose retirement it was arming for, takes the other spare, and a retirement that had claimed it looks for another
(R152). A slice that it served runs on to its end
without it, for R470 does not name this event. -/
def failSpare (k : Nat) (s : State) : State :=
  let n := s.spareCell k
  let st := s.spare k
  let e := s.sp k
  let a := { s with test := { s.test with slices := s.test.slices.map (fun (x : Slice) => if x.spare = k then { x with spare := 0 } else x) } }
  let b := a.set (Obj.spareState + k) (setBits (a.get (Obj.spareState + k) % 256) 0 3 5)
  let c := b.setSp k { SpareEng.free with back := if st = 2 then n else e.back, since := b.clk }
  let d := if st = 3 || (st = 1 && e.cover && !e.returning) then retireChannel n c else c
  exhaustion (if e.claim != 0 then retireChannel e.claim d else d)

/-- A converter's fault is confirmed (R184): 05h sets; a channel in the path retires, a spare is FAULTY. -/
def confirmFault (c : Nat) (s : State) : State :=
  let t := faultOccur 5 { s with cells := { s.cells with confirmed := setBit s.cells.confirmed c true } }
  let u :=
    if c ≤ 24 then
      if (t.channel c = 0 || t.channel c = 1) && !bit t.cells.retiring (c - 1) then exhaustion (retireChannel c t) else t
    else if t.spare (c - 24) = 5 || t.spare (c - 24) = 6 then t
    else failSpare (c - 24) t
  converterFault u

/-- The checks of a converter in its latest aperture (R184). -/
def noteChecks (c m : Nat) (s : State) : State :=
  let old := ((s.cells.convFail.find? (fun p => p.1 = c)).map (·.2)).getD 0
  let t := { s with cells := { s.cells with convFail := assocSet s.cells.convFail c m } }
  if old &&& m != 0 && c ≤ 26 then confirmFault c t else t

/-- The checks of the current converter (R197). -/
def noteCurrentChecks (m : Nat) (s : State) : State :=
  let old := ((s.cells.convFail.find? (fun p => p.1 = 27)).map (·.2)).getD 0
  let t := { s with cells := { s.cells with convFail := assocSet s.cells.convFail 27 m } }
  if old &&& m != 0 then faultOccur 0x0A { t with cur := { t.cur with checkBad := true } }
  else if m = 0 then { t with cur := { t.cur with checkBad := false } }
  else t

/-! The overlap comparison (R151, R185). -/

/-- 07h MEAS_PLAUSIBILITY loses its condition (R185): no failed overlap stands, and the latest stack sum was within tolerance. -/
def plausibility (s : State) : State :=
  if s.cells.ovlFail != 0 || bit (s.get (Obj.spareState + 1)) 7 || bit (s.get (Obj.spareState + 2)) 7 || s.cells.sumRow != 0 then
    faultLapse 7 s
  else faultFollow 7 false s

/-- The comparison of one overlap record (R151). -/
def compareOverlap (o : Nat × Nat × Nat) (u : CellUnit) (s : State) : CellUnit × State :=
  let (k, n, w) := o
  let c := u.cells.getD (n - 1) absentCell
  if cellBound c = 255 || cellBound w = 255 then (u, s)
  else if ((cellBound c + cellBound w : Nat) : Int) < (cellValue c - cellValue w).natAbs then
    let t := (s.setBitOf (Obj.spareState + k) 7 true).set Obj.plausibilityCause 1
    ({ u with cells := u.cells.set (n - 1) (cellInvalid c) },
      faultOccur 7 { t with cells := { t.cells with ovlFail := setBit t.cells.ovlFail (n - 1) true } })
  else (u, s)

/-! Measured limits (R177). -/

/-- One debounced condition: the counts toward and away from it, and whether it holds. -/
def debounce (d : Nat) (on enter leave : Bool) (i o : Nat) : Nat × Nat × Bool :=
  if on then
    let o' := if leave then o + 1 else 0
    if d ≤ o' then (0, 0, false) else (0, o', true)
  else
    let i' := if enter then i + 1 else 0
    if d ≤ i' then (0, 0, true) else (i', 0, false)

/-- The limits of one cell for its record (R177). -/
def cellLimit (n w : Nat) (s : State) : State :=
  let sat := bit w 1
  if bit w 0 || (cellBound w = 255 && !sat) then s
  else
    let cfg := s.get Obj.cellLimitConfig
    let b : Int := if bit cfg 8 && !sat then (cellBound w : Nat) else 0
    let hi := cellValue w + b
    let lo := cellValue w - b
    let ov : Int := s.get Obj.cellOvThreshold * 100
    let uv : Int := s.get Obj.cellUvThreshold * 100
    let h : Int := s.get Obj.cellLimitHysteresis * 100
    let c := s.cells.counts.getD (n - 1) ⟨0, 0, 0, 0⟩
    let (oi, oo, onO) := debounce (bits cfg 0 4) (bit (s.get Obj.cellOvStatus) (n - 1)) (ov ≤ hi) (hi < ov - h) c.ovIn c.ovOut
    let (ui, uo, onU) := debounce (bits cfg 0 4) (bit (s.get Obj.cellUvStatus) (n - 1)) (lo ≤ uv) (uv + h < lo) c.uvIn c.uvOut
    let t := (s.setBitOf Obj.cellOvStatus (n - 1) onO).setBitOf Obj.cellUvStatus (n - 1) onU
    { t with cells := { t.cells with counts := t.cells.counts.set (n - 1) ⟨oi, oo, ui, uo⟩ } }

/-- A source that sets when a bit of its status object sets and loses its condition when all are clear. -/
def statusFault (c old new : Nat) (s : State) : State :=
  if new - (new &&& old) != 0 then faultOccur c s else if new = 0 then faultFollow c false s else s

/-- The measured limits of a unit's records (R177). -/
def cellLimits (u : CellUnit) (s : State) : State :=
  let o := s.get Obj.cellOvStatus
  let v := s.get Obj.cellUvStatus
  let t := (u.cells.zipIdx.take s.cellCount).foldl (fun t x => cellLimit (x.2 + 1) x.1 t) s
  statusFault 3 v (t.get Obj.cellUvStatus) (statusFault 2 o (t.get Obj.cellOvStatus) t)

/-! Open wires (R180, R182). -/

/-- What a check finds of pin `p`, if the comparisons it needs exist (R179, R180). -/
def pinFound (h : Int) (n : Nat) (d : Nat → Option Int) (p : Nat) : Option Bool :=
  if p = 0 then (d 1).bind (fun x => (d 2).map (fun y => x < -h && -h < y && y < h))
  else if p = n then (d n).map (fun x => x < -h)
  else (d p).bind (fun x => (d (p + 1)).map (fun y => x < -h && h < y))

/-- The open-wire check of a diagnostic aperture (R180, R182). -/
def openWireCheck (u : CellUnit) (s : State) : State :=
  let d (n : Nat) : Option Int :=
    let w := u.cells.getD (n - 1) absentCell
    if bit w 0 then none else (u.ref.getD (n - 1) none).map (fun r => cellValue w - r)
  let old := s.get Obj.openWireStatus
  let t := (List.range (s.cellCount + 1)).foldl (fun t p =>
    match pinFound (s.get Obj.openWireThreshold * 100) s.cellCount d p with
    | none => t
    | some false => (t.setBitOf Obj.openWireStatus p false).setBitOf Obj.openWireSuspect p false
    | some true =>
      if bit (t.get Obj.openWireStatus) p then t
      else if bit (t.get Obj.openWireSuspect) p then
        (t.setBitOf Obj.openWireStatus p true).setBitOf Obj.openWireSuspect p false
      else t.setBitOf Obj.openWireSuspect p true) s
  statusFault 4 old (t.get Obj.openWireStatus) t

/-! The stack sum (R185). -/

/-- The sum of the cells of a regular unit, when it holds a certified record of every monitored cell, is kept with its cycle. -/
def stackSum (u : CellUnit) (s : State) : State :=
  let ws := u.cells.take s.cellCount
  if ws.any (fun w => bit w 0 || cellBound w = 255) then s
  else { s with cells := { s.cells with sums := ((u.cycle, (ws.map cellValue).sum) :: s.cells.sums).take 4 } }

/-- The oldest plan cycle that has a stack sum and an STK reading and has not been compared: its number, the sum and the reading. -/
def State.stackPair (s : State) : Option (Nat × Int × Int) :=
  s.cells.sums.reverse.findSome? (fun x =>
    if s.cells.sumCycle == some x.1 then none
    else (s.cells.stk.find? (fun y => y.1 = x.1)).map (fun y => (x.1, x.2, y.2)))

/-- The comparison of the stack sum with the STK reading of the same plan cycle, once in a cycle (R185); what is older than it has no more use. -/
def stackCheck (s : State) : State :=
  match s.stackPair with
  | none => s
  | some (c, sum, v) =>
      let e := sum - v
      let far := ((s.get Obj.stackSumTolerance : Nat) : Int) * 100 < e.natAbs
      let row := if !far then 0 else if s.cells.sumCycle == some ((c + 2 ^ 32 - 1) % 2 ^ 32) then s.cells.sumRow + 1 else 1
      let t := s.set Obj.stackSumError (ofInt 32 e)
      let u := { t with cells := { t.cells with
        sumCycle := some c
        sumRow := row
        sums := t.cells.sums.takeWhile (fun x => x.1 != c)
        stk := t.cells.stk.takeWhile (fun x => x.1 != c) } }
      if 2 ≤ row then faultOccur 7 (u.set Obj.plausibilityCause 2) else plausibility u

/-! Current range (R207). -/

/-- The runs of R207 after a current record. -/
def currentRange (w : Nat) (sat : Bool) (s : State) : State :=
  let t := s.setBitOf Obj.currentStatus 1 sat
  if w % 256 = 255 && !sat then t
  else
    let v := toInt 24 (w / 256) * 40
    let out := !sat && (((t.get Obj.chargeLimit : Nat) : Int) * 10000 < v || v < -(((t.get Obj.dischargeLimit : Nat) : Int) * 10000))
    let c := t.cur
    let d := t.get Obj.currentDebounce
    let u := { t with cur := { c with
      satRun := if sat then min d (c.satRun + 1) else 0
      limitRun := if out then min d (c.limitRun + 1) else 0
      okRun := if sat || out then 0 else min d (c.okRun + 1) } }
    let x := u.setBitOf Obj.currentStatus 2 (d ≤ u.cur.limitRun)
    if d ≤ u.cur.satRun || d ≤ u.cur.limitRun then faultFollow 9 true x
    else if d ≤ u.cur.okRun then faultFollow 9 false x
    else x

/-- CurrentResult, and CurrentAmps that follows it (R189, R204). -/
def showCurrent (w : Nat) (s : State) : State :=
  let amps := if w % 256 = 255 then 0 else clampInt 32 (roundDiv (toInt 24 (w / 256) * 40000 * 10000000) s.rsh)
  (s.set Obj.currentResult w).set Obj.currentAmps (ofInt 32 amps)

/-- A current record is written, with what follows from it (R189, R204, R207, R209). -/
def writeCurrent (u : CellUnit) (s : State) : State := currentRange u.cur u.curSat (showCurrent u.cur s)

/-! Loupe samples (R310, R311). -/

/-- The reference currents of the cells from a current record (R307, R311), and whether it counts as saturated: a set does not say which of its
reasons has given BOUND FFh (log entry 118). -/
def packRefs (s : State) (w : Nat) : List Int × Bool :=
  let v := toInt 24 (w / 256)
  (List.replicate 24 (s.microamps v), w % 256 = 255)

/-- The references of an aperture by the session's excitation (R307, R311). -/
def State.loupeRefs (s : State) (u : CellUnit) (p : LoupePoint) : Option (List Int × Bool) :=
  let cfg := s.get Obj.loupeConfig
  if bits cfg 0 2 = 0 then
    let l := (List.range 24).map (fun i => u.sense.getD i 0)
    some (l, (bitList p.chopped 24).any (fun i => 330000 < (u.sense.getD i 0).natAbs))
  else if bits cfg 0 2 = 1 then some (List.replicate 24 (u.sense.getD 24 0), false)
  else if bits cfg 8 6 = s.address then some ((packRefs s u.cur).1, u.curSat)
  else ((s.loupe.refs.find? (fun r => r.1 = u.a)).map (fun r => packRefs s r.2))

/-- The aperture's centroid lies in the window of the point (R308, R310). -/
def LoupePoint.within (p : LoupePoint) (a osr : Nat) : Bool :=
  let c := since48 (a + 6 * (128 * 2 ^ osr)) p.t0
  p.settle * p.period ≤ c && c < (p.settle + p.m) * p.period

/-- The cells whose record of a unit is ABS or has no valid bound. -/
def CellUnit.badCells (u : CellUnit) : Nat :=
  ofBits 24 (fun i => bit (u.cells.getD i absentCell) 0 || cellBound (u.cells.getD i absentCell) == 255)

/-- A unit as a sample of a Loupe point, if its centroid lies in the window (R310, R312). -/
def pointSample (s : State) (u : CellUnit) (p : LoupePoint) : LoupePoint :=
  if !p.within u.a u.osr then p
  else
    let r := s.loupeRefs u p
    let x : LoupeSample :=
      { a := u.a, at_ := since48 (u.a + 6 * (128 * 2 ^ u.osr)) p.t0, cells := u.cells.map cellValue,
        refs := r.map (·.1), refSat := (r.map (·.2)).getD false }
    { p with samples := p.samples ++ [x], badCells := p.badCells ||| u.badCells }

/-- The unit is a sample of the Loupe points in whose window it lies (R310). -/
def loupeSample (u : CellUnit) (s : State) : State :=
  { s with loupe := { s.loupe with
      point := s.loupe.point.map (pointSample s u)
      pend := s.loupe.pend.map (pointSample s u)
      refs := s.loupe.refs.filter (fun q => q.1 != u.a) } }

/-! The cell limit of a transfer session (R328). -/

/-- The aperture of a unit lies in a rest that R328 evaluates: it starts 10 ms or more after the last XFER_OFF and ends before the next
XFER_ON. -/
def State.restAperture (s : State) (u : CellUnit) : Bool :=
  match s.xfer.lastOff with
  | none => false
  | some f => f + 10 * ms ≤ u.clkA && (match s.xfer.lastOn with
    | none => true
    | some o => o ≤ f || u.clkEnd ≤ o)

/-- The cell limit (R328): the session ends with code 0Bh. -/
def transferCellLimit (u : CellUnit) (s : State) : State :=
  let high := ((s.get Obj.xferCellHigh : Nat) : Int) * 100
  let low := ((s.get Obj.xferCellLow : Nat) : Int) * 100
  if s.sessionNow && s.restAperture u &&
      (u.cells.take s.cellCount).any (fun w => !bit w 0 && cellBound w != 255 &&
        (if s.forward then high ≤ cellValue w + cellBound w else cellValue w - cellBound w ≤ low)) then
    endTransfer 0x0B s
  else s

/-! The unit is written. -/

/-- A switch test in progress keeps the record of its cell that stands at E + 180 us (R301). -/
def noteSwitchRecords (s : State) : State :=
  { s with test := { s.test with slices := s.test.slices.map (fun (x : Slice) =>
      if x.kind = 4 && s.clk ≤ x.e + 2880 then { x with word := s.get (Obj.cellResult + x.target) } else x) } }

/-- The records of a unit replace their predecessors (R23, R145), and the core is notified (R17); those of a diagnostic aperture serve the
open-wire check alone, and its current record stands by itself (R179). A regular aperture counts as completed for the references of R179 when
its unit is written (log entry 142). -/
def writeUnit (u0 : CellUnit) (s0 : State) : State :=
  let (u, s) := u0.ovl.foldl (fun p o => compareOverlap o p.1 p.2) (u0, notify s0)
  let a := if u.part = 1 then s else writeCurrent u s
  let b :=
    if u.diag then (if u.part = 2 then a else openWireCheck u a)
    else
      let t := u.cells.zipIdx.foldl (fun t x => t.set (Obj.cellResult + (x.2 + 1)) x.1) a
      let v := u.shadow.foldl (fun t x => t.set (Obj.shadowResult + x.1) x.2) t
      let w := { v with cells := { v.cells with
        recent := (u :: v.cells.recent).take 4
        terms := v.cells.terms.zipIdx.map (fun x => if u.terms.getD x.2 0 = 0 then x.1 else u.terms.getD x.2 0)
        cycleVals := v.cells.cycleVals.zipIdx.map (fun x =>
          let r := u.cells.getD x.2 absentCell
          if bit r 0 then x.1 else some (cellValue r)) } }
      loupeSample u (transferCellLimit u (stackCheck (stackSum u (cellLimits u (noteSwitchRecords w)))))
  let c := currentIntegrity (resultIntegrity b)
  let mine := c.cells.reports.filter (fun r => r.a = u.a)
  mine.foldl (fun t r => reportUnit u r t)
    { c with cells := { c.cells with reports := c.cells.reports.filter (fun r => r.a != u.a) } }

/-- The units of an aperture: the cell records and the current record of a diagnostic one stand apart (R179). -/
def CellUnit.parts (u : CellUnit) : List CellUnit :=
  if u.diag then
    [{ u with part := 2, ovl := [], waits := u.waits.filter (· = 27) }, { u with part := 1, waits := u.waits.filter (· != 27) }]
  else [u]

/-- A unit is written, or waits for recomputation (R444). -/
def placeUnit (u : CellUnit) (s : State) : State :=
  if u.waits = [] then writeUnit u s else { s with cells := { s.cells with unit := s.cells.unit ++ [u] } }

/-- APERTURE_COMPLETE (R145): table words that failed their check at this use are read again (R446); the raw snapshots are taken, of which the
64 most recent are kept (R10, R442); the aperture ends; channels and spares that served it last let go of the cell (R149, R150); the checks of
its converters are noted (R184, R197); its records are written, or wait for recomputation (R444). A reading of the current converter's
loop-back serves step 03h of the foreground set (R483). -/
def effApertureComplete (a : Nat) (cells : List CellRaw) (r1 r2 : CellRaw) (cur : CurRaw) (sense : List Int) (vanaOk : Bool)
    (words : List TableWord) (s0 : State) : State :=
  match s0.cells.apertures.find? (fun x => x.a = a) with
  | none => s0
  | some x =>
    let s := scrubWords words s0
    let x' := { x with spoilt := x.spoilt || !vanaOk || s.faultOn 0x17 }
    let u := unitOf x' cells r1 r2 cur sense s
    let convs := s.convertersOf x'
    let b := { s with cells := { s.cells with
      apertures := s.cells.apertures.filter (fun y => y.a != a)
      snapshots := (if x.age ≤ 1 then
          [⟨a, x.cycle, cells, r1, r2, cur, s.boundsOf x' u, s.getInt Obj.currentZeroOffset 16, s.dieMax, x.age⟩] ++ s.cells.snapshots
        else s.cells.snapshots).take 64 } }
    let c := if x.s1 != 0 && x.s1ov && b.spare 1 = 4 then freeSpare 1 b else b
    let d := if x.s2 != 0 && x.s2ov && c.spare 2 = 4 then freeSpare 2 c else c
    let e := exhaustion (openInputs d)
    let f := convs.foldl (fun t k => noteChecks k (rawOf cells r1 r2 k).checks t) e
    let g := converterFault (noteCurrentChecks cur.checks f)
    let h := (convs ++ [27]).foldl (fun t k => if u.waits.contains k then t else noteRecord false k t) g
    loopReading x.calib cur.value (u.parts.foldl (fun t y => placeUnit y t) h)

/-- APERTURE_COMPLETE (R145). -/
def execApertureComplete (dt a : Nat) (cells : List CellRaw) (s1 s2 : CellRaw) (cur : CurRaw) (sense : List Int) (e : ApertureEnd)
    (s : State) : Host.Outcome State Fault Refusal :=
  run (Instr.wf (.apertureComplete dt a cells s1 s2 cur sense e))
    dt (effApertureComplete a cells s1 s2 cur sense e.vanaOk e.words) s

/-! Recomputation (R443). -/

/-- The record of a converter in a unit changed (R443): the current record, a shadow record, an overlap record or a cell's. -/
def changeRecord (c : Nat) (f : Nat → Nat) (u : CellUnit) : CellUnit :=
  if c = 27 then { u with cur := f u.cur }
  else if c ≤ 24 then
    if u.shadow.any (fun p => p.1 = c) then { u with shadow := u.shadow.map (fun p => if p.1 = c then (c, f p.2) else p) }
    else { u with cells := u.cells.set (c - 1) (f (u.cells.getD (c - 1) absentCell)) }
  else if u.ovl.any (fun p => p.1 = c - 24) then
    { u with ovl := u.ovl.map (fun p => if p.1 = c - 24 then (p.1, p.2.1, f p.2.2) else p) }
  else
    let n := if c = 25 then u.s1 else u.s2
    { u with cells := u.cells.set (n - 1) (f (u.cells.getD (n - 1) absentCell)) }

/-- The further attempt on a record that has failed at hand-off H1 or H2 ends (R443): what takes the record's place. While the snapshot is
retained it is recomputed, with REC; otherwise it is read again, without; one that fails carries BOUND FFh. -/
def State.attempted (s : State) (ok : Bool) (a c w : Nat) : Nat :=
  if !ok then invalidOf c w
  else
    match s.snapshotOf a with
    | some x => x.recompute c w
    | none => w

/-- A recomputation at H1 ends (R443). -/
def recomputed (ok : Bool) (c : Nat) (u : CellUnit) (s : State) : CellUnit × State :=
  (changeRecord c (s.attempted ok u.a c) { u with waits := u.waits.filter (· != c) }, if ok then noteRecord false c (transientRecord 1 s) else lastingRecord 1 c u.cycle s)

/-! Hand-off H2 (R441). -/

/-- The cell of converter c's record in a unit, 0 for none. -/
def CellUnit.cellOf (u : CellUnit) (c : Nat) : Nat := if c = 25 then u.s1 else if c = 26 then u.s2 else c

/-- A unit holds a record of converter c: the current record, a shadow record or that of a cell. -/
def CellUnit.holds (u : CellUnit) (c : Nat) : Bool :=
  let w := u.cells.getD (u.cellOf c - 1) absentCell
  c == 27 || u.shadow.any (fun p => p.1 = c && !bit p.2 0) || (u.cellOf c != 0 && !bit w 0 && bit w 3 == decide (24 < c))

/-- The record of a unit that stands in LatestResultSet changes there too, with the set's CRC-32C (R241; log entry 155). -/
def repairLatest (a c i old new : Nat) (s : State) : State :=
  if s.latest.isEmpty || leAt s.latest 6 6 != a || leAt s.latest i 4 != old || old = new then s
  else
    let b := patch s.latest i (leBytes 4 new)
    let d := if c != 27 && bit new 2 then b.set 12 (setBit (b.getD 12 0) 2 true) else b
    { s with latest := d.take 124 ++ leBytes 4 (crc32c (d.take 124)) }

/-- The objects that show a unit follow a change of it: CellResult of the latest unit, ShadowResult, and LatestResultSet of its aperture. -/
def showUnit (c : Nat) (old new : CellUnit) (s : State) : State :=
  let i := old.cellOf c
  let shadow := old.shadow.any (fun p => p.1 = c)
  let w := old.cells.getD (i - 1) absentCell
  let x := new.cells.getD (i - 1) absentCell
  let t := { s with cells := { s.cells with recent := s.cells.recent.map (fun u => if u.a = old.a then new else u) } }
  if c = 27 then
    let u := if s.get Obj.currentResult = old.cur then showCurrent new.cur t else t
    repairLatest old.a c 112 old.cur new.cur u
  else if shadow then
    if (s.cells.recent.find? (fun u => u.shadow.any (fun p => p.1 = c))).map (·.a) = some old.a && s.channel c == 2 then
      (new.shadow.filter (fun p => p.1 = c)).foldl (fun t p => t.set (Obj.shadowResult + c) p.2) t
    else t
  else
    let u := if (s.cells.recent.head?.map (·.a)) = some old.a && i ≤ s.cellCount then t.set (Obj.cellResult + i) x else t
    repairLatest old.a c (12 + 4 * i) w x u

/-- The outcome of the further attempt at H2 (R443, R447). -/
def attemptNoted (ok : Bool) (c cycle : Nat) (s : State) : State :=
  currentIntegrity (resultIntegrity (if ok then transientRecord 2 s else lastingRecord 2 c cycle s))

/-- A record read from the result memory has failed its word check, and the further attempt ends (R441, R443): a record of a regular unit, or the
current record of a diagnostic aperture as CurrentResult shows it (log entry 155). -/
def secondAttempt (a c : Nat) (ok : Bool) (s : State) : State :=
  match s.cells.recent.find? (fun u => u.a = a && u.holds c) with
  | some u =>
    let v := changeRecord c (s.attempted ok a c) u
    attemptNoted ok c u.cycle (showUnit c u v s)
  | none =>
    match (s.snapshotOf a).filter (fun x => c = 27 && x.record 27 = s.get Obj.currentResult) with
    | some x => attemptNoted ok c x.cycle (if ok then s else showCurrent (invalidOf 27 (x.record 27)) s)
    | none => s

/-- RECOMPUTATION_COMPLETE (R443, R444): of a record that failed at H1, the unit is written with its last record; of one that a reader of the
result memory has found failing, the record there changes (R441; log entry 155). -/
def effRecomputationComplete (a c : Nat) (ok : Bool) (s : State) : State :=
  match s.cells.unit.find? (fun u => u.a = a && u.waits.contains c) with
  | none => secondAttempt a c ok s
  | some u =>
    let (v, t) := recomputed ok c u s
    placeUnit v { t with cells := { t.cells with unit := t.cells.unit.filter (fun y => !(y.a = a && y.part = u.part)) } }

/-- RECOMPUTATION_COMPLETE (R443). -/
def execRecomputationComplete (dt a converter : Nat) (ok : Bool) (s : State) : Host.Outcome State Fault Refusal :=
  run (Instr.wf (.recomputationComplete dt a converter ok)) dt (effRecomputationComplete a converter ok) s

end Sys2Proof.Machine
end

