-- ==== Sys2Proof/Machine/Current.lean ====
section
/-! DEFINITION. The three copies of the coulomb counter (R201, R208). -/

namespace Sys2Proof.Machine

/-- COUNTER_COPY_DISAGREEMENT (R201): a copy, 0 to 2, is rewritten from the majority and counted; when the same one disagrees again at the
next comparison, 4 ticks on, or all three differ, 0Ah sets and the counter is suspect. The value that three different copies leave is free
(log entry 4). -/
def effCounterCopyDisagreement (copy : Nat) (s : State) : State :=
  if !s.on .icx then s
  else
    let again := s.cur.repairAt.any (fun p => s.clk ≤ p.1 + 4 && p.2 = copy)
    let t := if copy = 3 then ({ s with cur := { s.cur with counter := s.free 48 } }).freeUsed
      else s.count Obj.currentRepairCount 16
    let u := { t with cur := { t.cur with repairAt := some (t.clk, copy) } }
    if copy = 3 || again then faultOccur 0x0A { u with cur := { u.cur with copyBad := true } } else u

/-- COUNTER_COPY_DISAGREEMENT (R201). -/
def execCounterCopyDisagreement (dt copy : Nat) (s : State) : Host.Outcome State Fault Refusal :=
  run (Instr.wf (.counterCopyDisagreement dt copy)) dt (effCounterCopyDisagreement copy) s

/-- COUNTER_SUSPECT_CLEARS (R201). -/
def effCounterSuspectClears (s : State) : State := currentIntegrity { s with cur := { s.cur with copyBad := false } }

/-- COUNTER_SUSPECT_CLEARS (R201). -/
def execCounterSuspectClears (dt : Nat) (s : State) : Host.Outcome State Fault Refusal :=
  run (Instr.wf (.counterSuspectClears dt)) dt effCounterSuspectClears s

end Sys2Proof.Machine
end

