-- ==== Sys2Proof/Machine/Auxiliary.lean ====
section
/-! DEFINITION. The auxiliary converter: conversions and ad-hoc requests (R211, R212, R266), results and their checks (R215, R221, R222),
die temperatures (R216, R218), thermistors (R220). -/

namespace Sys2Proof.Machine

/-! Conversions. -/

/-- The channel that stands for a conversion of REF_MAIN - REF_DORMANT (R484), which has no channel code. -/
abbrev refDifference : Nat := 0x100

/-- The converter starts a conversion at the present tick (R211). -/
def startAux (channel avg : Nat) (adhoc : Bool) (s : State) : State :=
  if s.aux.busy.isSome || !s.on .icx then s
  else { s with aux := { s.aux with
      busy := some ⟨channel, avg, s.ringTime, channel < 16 && bit s.plan.axPulls channel, s.cycle, adhoc⟩ } }

/-- The AuxSelect entry of an AUX entry: the ROM minimal plan has selections of its own (R217, R281). -/
def State.auxEntry (s : State) (sel : Nat) : Nat :=
  if s.plan.running = RunningPlan.bank then s.auxSel sel else [0x13, 0x14, 0x15, 0x16].getD (sel - 1) 0x16

/-- AUX (R211). -/
def effAux (sel : Nat) (s : State) : State :=
  if !s.planRuns then s
  else
    let e := s.auxEntry sel
    startAux (e % 256) (bits e 8 3) false s

/-- AUX (R211). -/
def execAux (dt select : Nat) (s : State) : Host.Outcome State Fault Refusal :=
  run (Instr.wf (.aux dt select)) dt (effAux select) s

/-- A write to AuxRequest (R212, R213): refused while the running plan has no ADHOC slot, and while a request or the reference check is
pending (R484). -/
def writeAuxRequest (v : Nat) (s : State) : WriteRes :=
  if 0x1D < v then .refuse 9 0 s
  else if s.get Obj.adhocMaxGap = 0 || !s.planRuns then rejected 1 s
  else if s.aux.request.isSome || s.test.refOn then .refuse 0x0C 0 s
  else .done { s with aux := { s.aux with request := some (v, s.clk) } }

/-- ADHOC_SLOT (R266): the slot serves the pending request, the host's or a conversion of the reference check (R484); a request of the
host that has come at this very tick waits for the next slot. -/
def effAdhocSlot (s : State) : State :=
  if !s.planRuns then s
  else
    match s.aux.request with
    | some (c, at_) => if at_ < s.clk then startAux c 0 true { s with aux := { s.aux with request := none } } else s
    | none =>
      if s.test.refWarm && s.test.refTaken < 16 && s.test.refOn then startAux refDifference 0 true s else s

/-- ADHOC_SLOT (R266). -/
def execAdhocSlot (dt : Nat) (s : State) : Host.Outcome State Fault Refusal :=
  run (Instr.wf (.adhocSlot dt)) dt effAdhocSlot s

/-! Range (R213, R221). -/

/-- A code lies outside a window given in uV of the measured quantity, `k` being the divider of the channel. -/
def outsideWindow (code k low high : Nat) : Bool := code * 3000000 * k < low * 65536 || high * 65536 < code * 3000000 * k

/-- A result sets RANGE (R221). -/
def State.auxRange (s : State) (c code : Nat) : Bool :=
  if c < 16 then code ≤ s.get (Obj.auxLimitLow + (c + 1)) || s.get (Obj.auxLimitHigh + (c + 1)) ≤ code
  else if c = 0x10 then outsideWindow code 1 1194000 1206000
  else if c = 0x12 then outsideWindow code 1 990000 1010000
  else if c = 0x18 then outsideWindow code 3 5000000 6000000
  else if c = 0x19 then outsideWindow code 2 3100000 3500000
  else if c = 0x1A then outsideWindow code 1 1000000 1200000
  else if c = 0x1B then outsideWindow code 2 1650000 5500000
  else if c = 0x1C then outsideWindow code 2 2985000 3015000
  else if c = 0x1D then 20 ≤ code
  else false

/-- 0Ch AUX_RANGE loses its condition when AuxRangeStatus and DieSensorStatus read 0 (R221). -/
def auxRangeEnds (s : State) : State :=
  if s.get Obj.auxRangeStatus = 0 && s.get Obj.dieSensorStatus = 0 then faultFollow 0x0C false s else s

/-- The debounced range condition of a channel (R221). -/
def auxRangeCheck (c : Nat) (out : Bool) (s : State) : State :=
  let (i, o) := ((s.aux.runs.find? (fun p => p.1 = c)).map (·.2)).getD (0, 0)
  let was := bit (s.get Obj.auxRangeStatus) c
  let (i', o', on) := debounce (s.get Obj.auxRangeDebounce) was out (!out) i o
  let t := { s with aux := { s.aux with runs := (c, i', o') :: s.aux.runs.filter (fun p => p.1 != c) } }
  let u := t.setBitOf Obj.auxRangeStatus c on
  if on && !was then faultOccur 0x0C (u.set Obj.auxRangeCause (if c < 16 then 1 else 2)) else auxRangeEnds u

/-! Die temperature (R216, R218). -/

/-- The median of three numbers. -/
def median3 (a b c : Int) : Int := max (min a b) (min (max a b) c)

/-- The exclusion of a reading far from the median, when all three are young (R216). -/
def dieExclusion (s : State) : State :=
  match s.dieFresh with
  | [(_, a), (_, b), (_, c)] =>
    let m := median3 a b c
    let x := ofBits 3 (fun i => 80 < ([a, b, c].getD i m - m).natAbs)
    let new := x - (x &&& s.get Obj.dieSensorStatus)
    let t := s.set Obj.dieSensorStatus x
    if new != 0 then faultOccur 0x0C (t.set Obj.auxRangeCause 3) else auxRangeEnds t
  | _ => s

/-- 0Fh DIE_OVERTEMP: two consecutive values at or above the threshold; its condition ends 5.0 degrees below (R218). -/
def dieOvertemp (s : State) : State :=
  match s.dieMax with
  | none => s
  | some t =>
    let h := s.getInt Obj.dieOvertempThreshold 16
    let run := if h ≤ t then min 2 (s.aux.hotRun + 1) else 0
    let u := { s with aux := { s.aux with hotRun := run } }
    if run = 2 then faultFollow 0x0F true u else if t < h - 50 then faultFollow 0x0F false u else u

/-- A die sensor has been read (R216). -/
def dieResult (k code : Nat) (s : State) : State :=
  let t := s.set (Obj.dieTemperature + k) (ofInt 16 (clampInt 16 (Config.dieCurve k code)))
  let u := dieExclusion { t with aux := { t.aux with dieAt := assocSet t.aux.dieAt k t.clk } }
  let v := dieOvertemp u
  shuntReading 0x20 v.dieMax v

/-! Thermistors (R220). -/

/-- The temperature of a code in 0.1 degrees Celsius (R220): the exact value, when the formula gives one; it divides by 0 where `invt` is
0. -/
def ntcTemperature (code rnom beta rpull : Nat) : Option Int :=
  let inv := ((fixOne * 100 / 29815 : Nat) : Int) + fixLn (rpull * code) ((65536 - code) * rnom) / beta
  let num := 20 * fixOne - 5463 * inv
  if inv = 0 then none else if inv < 0 then some (roundDiv (-num) (-2 * inv)) else some (roundDiv num (2 * inv))

/-- AxTemperature of an input after its conversion (R220). A temperature that an I16 cannot hold is a free value (log entry 4). -/
def axTemperature (n code : Nat) (s : State) : State :=
  if bits (s.get (Obj.auxInputConfig + n)) 2 2 != 1 || code = 0 || code = 0xFFFF then s.set (Obj.axTemperature + n) 0x8000
  else
    match ntcTemperature code (s.get (Obj.ntcNominal + n)) (s.get (Obj.ntcBeta + n)) (s.get (Obj.ntcPullResistor + n)) with
    | some t =>
      if -32768 ≤ t && t < 32768 then s.set (Obj.axTemperature + n) (ofInt 16 t)
      else (s.set (Obj.axTemperature + n) (s.free 16)).freeUsed
    | none => (s.set (Obj.axTemperature + n) (s.free 16)).freeUsed

/-- What AxTemperature of input n feeds: the shunt temperature (R204) and the FET limit of the transfer stage (R331). -/
def axFeeds (n : Nat) (s : State) : State :=
  let w := s.axTemp n
  let t := shuntReading n (if w = 0x8000 then none else some (toInt 16 w)) s
  let u := fetCheck t
  if u.xferRuns || 4 ≤ u.xferState then u else gatesOff u

/-! Open wires (R222). -/

/-- What a diagnostic conversion finds of an input (R222). -/
def auxOpenFound (dir : Nat) (h code ref : Int) : Bool :=
  let d := (code - ref) * 3000
  if dir = 1 then h * 65536 < d else if dir = 2 then d < -(h * 65536) else false

/-- OPEN of an input's AuxResult follows AuxOpenStatus (R215, R222). -/
def showOpen (c : Nat) (s : State) : State :=
  s.setBitOf (Obj.auxResult + (c + 1)) 3 (bit (s.get Obj.auxOpenStatus) c)

/-- A diagnostic conversion of AX input c + 1 (R222). -/
def auxDiag (c code : Nat) (s : State) : State :=
  let t := s.set (Obj.auxDiagResult + (c + 1)) code
  match t.aux.pullRef.find? (fun p => p.1 = c) with
  | none => t
  | some (_, ref) =>
    let old := t.get Obj.auxOpenStatus
    let found := auxOpenFound (bits (t.get (Obj.auxInputConfig + (c + 1))) 0 2) (t.get Obj.auxOpenThreshold) code ref
    let u :=
      if !found then (t.setBitOf Obj.auxOpenStatus c false).setBitOf Obj.auxOpenSuspect c false
      else if bit old c then t
      else if bit (t.get Obj.auxOpenSuspect) c then (t.setBitOf Obj.auxOpenStatus c true).setBitOf Obj.auxOpenSuspect c false
      else t.setBitOf Obj.auxOpenSuspect c true
    statusFault 0x0B old (u.get Obj.auxOpenStatus) (showOpen c u)

/-! Results. -/

/-- A regular result of a channel (R211, R215), with every check that follows it. -/
def auxResult (b : AuxConv) (codes : List Nat) (s : State) : State :=
  let c := b.channel
  let v := meanCode codes
  let range := s.auxRange c v
  let sat := codes.any (fun x => x = 0 || x = 0xFFFF)
  let w := v * 2 ^ 16 + num (c < 16 && bit (s.get Obj.auxOpenStatus) c) * 8 + num range * 4 + num sat * 2 +
    num (c = 0x11 && !s.test.refOn)
  let t := (s.set (Obj.auxResult + (c + 1)) w).set (Obj.auxStamp + (c + 1)) (wrap48 (b.e + 130))
  let u := auxRangeCheck c range { t with aux := { t.aux with notYet := setBit t.aux.notYet c false } }
  if c < 16 then
    axFeeds (c + 1) (axTemperature (c + 1) v
      { u with aux := { u.aux with cycleRes := assocSet u.aux.cycleRes c v } })
  else if 0x13 ≤ c && c ≤ 0x15 then dieResult (c - 0x12) v u
  else if c = 0x16 && !b.adhoc then
    stackCheck { u with cells := { u.cells with stk := ((b.cycle, roundDiv (v * 14400000) 65536) :: u.cells.stk).take 4 } }
  else u

/-- RefDrift from the 16 codes of an hour (R484): 0.72 uV in 1.200 V is 0.6 ppm, less the factory difference. -/
def refDrift (sum : Int) : Int := roundDiv (sum * 6) 16 - toInt 16 Config.refFactory.toNat

/-- REF_DORMANT powers down (R484). -/
def refDown (s : State) : State :=
  { s with test := { s.test with refTaken := 0, refConv := 0, refOn := false, refWarm := false } }.setBitOf (Obj.auxResult + 0x12) 0 true

/-- A conversion of the reference difference (R484); the 16th ends the check, and gk of every converter follows (R487). -/
def refResult (code : Nat) (s : State) : State :=
  let t := s.test
  let n := t.refTaken + 1
  let sum := t.refConv + code
  if n < 16 then { s with test := { t with refTaken := n, refConv := sum } }
  else
    let u := (refDown s).setI16 Obj.refDrift (refDrift sum)
    let v := { u with test := { u.test with hours := u.test.hours + 1, refSum := u.test.refSum + u.getInt Obj.refDrift 16 } }
    (List.range 26).foldl (fun w i => driftUpdate (i + 1) w) v

/-- AUX_CONVERSION_COMPLETE (R210, R211): the input in nV at each of the samples, of which the conversion takes 2 ^ AVERAGE. -/
def effAuxConversionComplete (volts : List Int) (s : State) : State :=
  match s.aux.busy with
  | none => s
  | some b =>
    let t := { s with aux := { s.aux with busy := none } }
    let codes := auxCodes (2 ^ b.avg) volts
    if b.channel = refDifference then (if t.test.refOn then refResult (meanCode codes) t else t)
    else if b.diag then auxDiag b.channel (meanCode codes) t
    else auxResult b codes t

/-- AUX_CONVERSION_COMPLETE (R211). -/
def execAuxConversionComplete (dt : Nat) (volts : List Int) (s : State) : Host.Outcome State Fault Refusal :=
  run (Instr.wf (.auxConversionComplete dt volts)) dt (effAuxConversionComplete volts) s

end Sys2Proof.Machine
end

