-- ==== Sys2Proof/Machine/Facet.lean ====
section
/-! DEFINITION. The Facet sensor bus: windows (R228, R230, R233), searches (R231), line faults (R232) and the bus switch (R234). -/

namespace Sys2Proof.Machine

/-- STATE of window k (R235): 0 EMPTY, 1 CANDIDATE, 2 PRESENT, 3 LOSING. -/
def State.facetState (s : State) (k : Nat) : Nat := bits (s.get (Obj.facetValue + (k + 1))) 1 2

/-- The beyond-object part of window k. -/
def State.facetWin (s : State) (k : Nat) : FacetWin := s.facet.wins.getD k ⟨0, 0, 0⟩

/-- The state with that part changed. -/
def State.setFacetWin (s : State) (k : Nat) (w : FacetWin) : State :=
  { s with facet := { s.facet with wins := s.facet.wins.set k w } }

/-! Slots and windows (R227, R228). -/

/-- What a data slot holds: no answer, a bit, a rise outside its times, or a line still low. -/
inductive FacetRead where
  | silent
  | bit (b : Bool)
  | timing
  | fault
deriving DecidableEq, Repr

/-- A data slot by the instant at which the line rises (R227), a line that is high at T + 1.0 us being a line fault (R232); at an instant where
two rows of the table meet, the later row holds (log entry 113). -/
def slotRead (x : FacetSlot) : FacetRead :=
  match x.rise with
  | none => .fault
  | some t =>
    if t ≤ 1000 then .fault
    else if t ≤ 2800 then .silent
    else if x.stray then .timing
    else if t < 3200 then .timing
    else if t < 5500 then .bit false
    else if t < 10000 then .timing
    else if t < 14000 then .bit true
    else if t < 19500 then .timing
    else .fault

/-- The sync slot: the line is high within 0.8 us of the release, and no low follows (R227). -/
def syncSlotOk (x : FacetSlot) : Bool := x.rise.any (fun t => t ≤ 800) && !x.stray

/-- The sync slot of window k is a line fault (R232): the line is still low at T + 19.5 us, where the master has released it 16 us after T in
window 0 and 8 us after T in the others (R226). -/
def syncFault (k : Nat) (x : FacetSlot) : Bool :=
  match x.rise with
  | none => true
  | some t => (if k = 0 then 3500 else 11500) ≤ t

/-- The slots of window k in order, each a line fault or not (R232). -/
def slotFaults (k : Nat) (l : FacetLine) : List Bool := syncFault k l.sync :: l.slots.map (fun x => slotRead x == .fault)

/-- Two line faults in consecutive slots (R232). -/
def twoFaults : List Bool → Bool
  | a :: b :: l => (a && b) || twoFaults (b :: l)
  | _ => false

/-- A window as decoded: no slot answered, a timing error, or 24 bits. -/
inductive FacetWord where
  | missing
  | timing
  | bits (word : Nat)
deriving DecidableEq, Repr

/-- The bits of the slots, slot 1 first, when every one decodes to a bit. -/
def slotBits : List FacetSlot → Nat → Option Nat
  | [], w => some w
  | x :: l, w =>
    match slotRead x with
    | .bit b => slotBits l (2 * w + num b)
    | _ => none

/-- The word of a window (R228): missing when no slot is answered; a slot without a bit, a low that follows, or a bad sync slot is no clean
word. -/
def lineWord (l : FacetLine) : FacetWord :=
  if l.slots.all (fun x => slotRead x == .silent) then .missing
  else if !syncSlotOk l.sync then .timing
  else
    match slotBits l.slots 0 with
    | some w => .bits w
    | none => .timing

/-- A decoded window is clean (R228). -/
def facetClean (w : Nat) : Bool := crc4 w == w % 16 && [1, 2, 3, 4, 15].contains (w / 2 ^ 20)

/-- 0Dh FACET_TIMING with a cause (R230, R232). -/
def facetTiming (cause : Nat) (s : State) : State :=
  faultOccur 0x0D ({ s with facet := { s.facet with badFrame := true } }.set Obj.facetTimingCause cause)

/-- FacetStatus PRESENT shows the windows in PRESENT or LOSING (R230). -/
def showPresent (s : State) : State :=
  s.setField Obj.facetStatus 24 8 (ofBits 8 (fun k => 2 ≤ s.facetState k))

/-- 0Eh FACET_SENSOR_LIMIT loses its condition when FacetLimitStatus and MISSING read 0 (R233). -/
def facetLimitEnds (s : State) : State :=
  if s.get Obj.facetLimitStatus = 0 && bits (s.get Obj.facetStatus) 16 8 = 0 then faultFollow 0x0E false s else s

/-- A value lies outside the limits of its window (R233). -/
def State.facetOutside (s : State) (k type v : Nat) : Bool :=
  let l := s.get (Obj.facetLimitLow + (k + 1))
  let h := s.get (Obj.facetLimitHigh + (k + 1))
  if l = 0 && h = 0xFFFF then false
  else if type = 1 then toInt 16 v < toInt 16 l || toInt 16 h < toInt 16 v
  else v < l || h < v

/-- The limits of a window in PRESENT after a clean word (R233). -/
def facetLimits (k type v : Nat) (s : State) : State :=
  let out := s.facetOutside k type v
  let w := s.facetWin k
  let run := if out then min 2 (w.limitRun + 1) else 0
  let t := s.setFacetWin k { w with limitRun := run }
  let old := t.get Obj.facetLimitStatus
  let new := setBit (setBit old k (run == 2 || (out && bit old k))) (8 + k) (type == 15)
  let u := t.set Obj.facetLimitStatus new
  if new - (new &&& old) != 0 then faultOccur 0x0E u else facetLimitEnds u

/-- A window that is neither PRESENT nor LOSING has no limit condition (R233). -/
def facetLimitsGone (k : Nat) (s : State) : State :=
  if 2 ≤ s.facetState k then s
  else
    let o := s.get Obj.facetLimitStatus
    facetLimitEnds ((s.set Obj.facetLimitStatus (setBit (setBit o k false) (8 + k) false)).setFacetWin k
      { s.facetWin k with limitRun := 0 })

/-- A clean word in window k (R230). -/
def facetCleanWord (k w : Nat) (s : State) : State :=
  let o := Obj.facetValue + (k + 1)
  let type := w / 2 ^ 20
  let v := bits w 4 16
  let st := s.facetState k
  let same := type == bits (s.get o) 28 4
  let st' := if st = 0 then 1 else if st = 3 then 2 else if same then 2 else 1
  let t := (s.set o (type * 2 ^ 28 + v * 2 ^ 12 + st' * 2)).set (Obj.facetStamp + (k + 1)) s.ringTime
  let u := t.setFacetWin k { t.facetWin k with badRun := 0 }
  if st' = 2 then facetLimits k type v u else facetLimitsGone k u

/-- A window without a clean word: AGE counts, STATE and ERR take their values (R230). -/
def facetNoWord (k st : Nat) (err : Bool) (s : State) : State :=
  let o := Obj.facetValue + (k + 1)
  let v := s.get o
  facetLimitsGone k (s.set o (setBits (setBits (setBits v 4 8 (min 255 (bits v 4 8 + 1))) 1 2 st) 0 1 (num err)))

/-- A missing word in window k (R230). -/
def facetMissing (k : Nat) (err : Bool) (s : State) : State :=
  match s.facetState k with
  | 2 => facetNoWord k 3 err s
  | 3 => facetTiming 2 (facetNoWord k 0 err s)
  | _ => facetNoWord k 0 err s

/-- A bad word in window k (R230). -/
def facetBad (k : Nat) (s : State) : State :=
  let a := { s with facet := { s.facet with badFrame := true } }
  if a.facetState k = 3 then facetMissing k true a
  else
    let b := a.count (Obj.facetErrorCount + (k + 1)) 16
    if b.facetState k = 2 then
      let w := b.facetWin k
      let c := facetNoWord k 2 true (b.setFacetWin k { w with badRun := min 2 (w.badRun + 1) })
      if 1 ≤ w.badRun then facetTiming 1 c else c
    else facetNoWord k 0 true b

/-- A search starts at a frame start (R231). -/
def facetSearchStart (s : State) : State :=
  if !s.facet.searchWait then s
  else
    ({ s with facet := { s.facet with searchWait := false, searchFrames := some 0 } }.setBitOf Obj.facetStatus 3 false).setBitOf
      Obj.facetStatus 2 true

/-- A frame of a search ends (R231): the search ends when no window is CANDIDATE or LOSING, from its second frame on, or with its
16th. -/
def facetSearchFrame (s : State) : State :=
  match s.facet.searchFrames with
  | none => s
  | some f =>
    let n := f + 1
    let open_ := (List.range 8).any (fun k => s.facetState k % 2 = 1)
    if (2 ≤ n && !open_) || 16 ≤ n then
      let present := ofBits 8 (fun k => 2 ≤ s.facetState k)
      let e := s.get Obj.facetExpected
      let miss := e - (e &&& present)
      let t := ((({ s with facet := { s.facet with searchFrames := none } }.setBitOf Obj.facetStatus 3 true).setBitOf
        Obj.facetStatus 2 false).set Obj.facetSearchFrames n).setField Obj.facetStatus 16 8 miss
      if miss != 0 then faultOccur 0x0E t else facetLimitEnds t
    else { s with facet := { s.facet with searchFrames := some n } }

/-- In a frame that a line fault has stopped, AGE counts for the windows that have had no word in it; their states stay (R230, R232). -/
def facetAges (s : State) : State :=
  ((List.range 8).filter (fun k => !bit s.facet.done k)).foldl (fun t k =>
    let o := Obj.facetValue + (k + 1)
    t.setField o 4 8 (min 255 (bits (t.get o) 4 8 + 1))) s

/-- A frame ends (R230, R231, R232): `whole` when no line fault has stopped it. Frames follow each other every 4 ms (R226). -/
def facetFrameEnd (whole : Bool) (s : State) : State :=
  let a := facetSearchFrame (if whole then s else facetAges s)
  let b := if whole && !a.facet.faulty then a.setBitOf Obj.facetStatus 1 false else a
  let c := if whole && !b.facet.badFrame then faultFollow 0x0D false b else b
  facetSearchStart { c with facet := { c.facet with
    badFrame := false
    stopped := false
    done := 0
    faulty := false
    lastFault := whole && c.facet.lastFault
    frameAt := c.facet.frameAt + max 1 ((c.clk - c.facet.frameAt) / (4 * ms)) * (4 * ms) } }

/-- Every window is EMPTY (R231, R234). -/
def facetEmpty (s : State) : State :=
  showPresent ((List.range 8).foldl (fun x k => facetLimitsGone k (x.setField (Obj.facetValue + (k + 1)) 1 2 0)) s)

/-- FACET_POWER_PHASE_END (R229, R231): the bus starts with every window EMPTY, and a search starts with its first frame. -/
def effFacetPowerPhaseEnd (s : State) : State :=
  if !s.on .icx || s.get Obj.facetEnable != 1 || s.facet.powered then s
  else
    let t := facetEmpty s
    facetSearchStart ({ t with facet := { FacetEng.empty with powered := true, searchWait := true, frameAt := t.clk } }.setBitOf
      Obj.facetStatus 0 true)

/-- FACET_POWER_PHASE_END (R229). -/
def execFacetPowerPhaseEnd (dt : Nat) (s : State) : Host.Outcome State Fault Refusal :=
  run (Instr.wf (.facetPowerPhaseEnd dt)) dt effFacetPowerPhaseEnd s

/-- A frame of 4 ms that a line fault has stopped ends with its time, whether or not its windows were reported (R226, R232). -/
def facetFrameOver (s : State) : State :=
  if s.facet.stopped && s.facet.frameAt + 4 * ms < s.clk then facetFrameEnd false s else s

/-- Two line faults in consecutive slots: the device stops driving for the rest of the frame (R232). -/
def facetStops (s : State) : State :=
  if s.facet.stopped then s
  else facetTiming 3 ({ s with facet := { s.facet with stopped := true, faulty := true } }.setBitOf Obj.facetStatus 1 true)

/-- The window moves on its word (R230). -/
def facetWindow (k : Nat) (w : FacetWord) (s : State) : State :=
  showPresent (match w with
    | .missing => facetMissing k false s
    | .timing => facetBad k s
    | .bits x => if facetClean x then facetCleanWord k x s else facetBad k s)

/-- FACET_WINDOW_END (R230): the window moves on its word, and window 7 ends the frame. In a frame that a line fault has stopped no window
advances (R232). -/
def effFacetWindowEnd (k : Nat) (l : FacetLine) (s : State) : State :=
  if !s.facetRuns then s
  else
    let a := facetFrameOver s
    let fs := slotFaults k l
    let b := if twoFaults (a.facet.lastFault :: fs) then facetStops a else a
    let c := if b.facet.stopped then b
      else facetWindow k (lineWord l) { b with facet := { b.facet with
        done := setBit b.facet.done k true
        faulty := b.facet.faulty || fs.any id
        lastFault := fs.getLastD false } }
    if k = 7 then facetFrameEnd (!c.facet.stopped) c else c

/-- FACET_WINDOW_END (R230). -/
def execFacetWindowEnd (dt window : Nat) (line : FacetLine) (s : State) : Host.Outcome State Fault Refusal :=
  run (Instr.wf (.facetWindowEnd dt window line)) dt (effFacetWindowEnd window line) s

/-- FACET_LINE_FAULT (R232). -/
def effFacetLineFault (s : State) : State := if !s.facetRuns then s else facetStops (facetFrameOver s)

/-- FACET_LINE_FAULT (R232). -/
def execFacetLineFault (dt : Nat) (s : State) : Host.Outcome State Fault Refusal :=
  run (Instr.wf (.facetLineFault dt)) dt effFacetLineFault s

/-- A write to FacetSearch (R231); one that finds a search still waiting for its frame asks for nothing more. -/
def writeFacetSearch (v : Nat) (s : State) : WriteRes :=
  let t := facetFrameOver s
  if v != 1 then .refuse 9 0 s
  else if t.facet.searchFrames.isSome then .refuse 0x0C 0 t
  else .done { t with facet := { t.facet with searchWait := true } }

/-- A write to FacetEnable (R231, R234). -/
def writeFacetEnable (v : Nat) (s : State) : WriteRes :=
  let t := s.set Obj.facetEnable v
  if v = 1 then
    .done { t with facet := { t.facet with searchWait := true } }
  else
    let u := facetEmpty t
    .done { (u.setBitOf Obj.facetStatus 0 false).setBitOf Obj.facetStatus 2 false with facet := FacetEng.empty }

end Sys2Proof.Machine
end

