-- ==== Sys2Proof/Machine/Balance.lean ====
section
/-! DEFINITION. Passive balancing: the hold states (R239), the frames with their duty, budgets and estimate (R294 to R297, R305), the
communication timeout (R299), a switch found stuck (R304), and the transfer stage at a frame start (R319, R325, R326, R331). -/

namespace Sys2Proof.Machine

/-- BAL_HOLD (R239). -/
def effBalHold (switches : Nat) (s : State) : State :=
  if s.planRuns then
    { s with plan := { s.plan with held := s.plan.held ||| switches, heldAt := s.balAt (switches - (s.plan.held &&& switches)) } }
  else s

/-- BAL_HOLD (R239). -/
def execBalHold (dt switches : Nat) (s : State) : Host.Outcome State Fault Refusal :=
  run (Instr.wf (.balHold dt switches)) dt (effBalHold switches) s

/-- BAL_RELEASE (R239). -/
def effBalRelease (switches : Nat) (s : State) : State :=
  if s.planRuns then
    { s with plan := { s.plan with
        held := s.plan.held - (s.plan.held &&& switches), heldAt := s.balAt (s.plan.held &&& switches) } }
  else s

/-- BAL_RELEASE (R239). -/
def execBalRelease (dt switches : Nat) (s : State) : Host.Outcome State Fault Refusal :=
  run (Instr.wf (.balRelease dt switches)) dt (effBalRelease switches) s

/-- SWITCH_BUDGET_SPENT (R295): the switch is off for the rest of the frame. -/
def effSwitchBudgetSpent (n : Nat) (s : State) : State := { s with bal := { s.bal with spent := setBit s.bal.spent (n - 1) true } }

/-- SWITCH_BUDGET_SPENT (R295). -/
def execSwitchBudgetSpent (dt n : Nat) (s : State) : Host.Outcome State Fault Refusal :=
  run (Instr.wf (.switchBudgetSpent dt n)) dt (effSwitchBudgetSpent n) s

/-! Duty (R295 to R297). -/

/-- The points of the duty table (R245). -/
def dutyPoints (image : List Nat) : List (Int × Nat) :=
  (List.range 16).map (fun p => (toInt 16 (leAt image (156 + 4 * p) 2), leAt image (158 + 4 * p) 2))

/-- The duty between the points of a table (R296). -/
def dutyAt (t : Int) : List (Int × Nat) → Nat
  | [] => 0
  | [(_, d)] => d
  | (t0, d0) :: (t1, d1) :: rest =>
    if t < t0 then d0
    else if t < t1 then d0 - (((d0 - d1 : Nat) : Int) * (t - t0) / (t1 - t0)).toNat
    else dutyAt t ((t1, d1) :: rest)

/-- TableDuty (R296): from the active bank's table at the highest die temperature; the last point without a valid reading; 0 without a
table. -/
def State.tableDutyNow (s : State) : Nat :=
  if s.active.image = [] then 0
  else
    match s.dieMax with
    | some t => dutyAt t (dutyPoints s.active.image)
    | none => leAt s.active.image 218 2

/-- The duty of switch n under a table duty and a factor, in 0.01 % (R295). -/
def State.dutyOf (s : State) (table cap n : Nat) : Nat := min (s.get (Obj.balDutyRequest + n)) table * cap / 10000

/-- The budget of a duty in ticks (R295). -/
def budgetOf (d : Nat) : Nat := min (d * 16000 / 10000) 15984

/-- ION in mA and RON in mOhm of switch n; 300 mA and 2.0 Ohm before it has a test result with an on-resistance (R297). -/
def State.switchLoad (s : State) (n : Nat) : Nat × Nat :=
  let r := s.get (Obj.balSwitchResult + n)
  if r / 65536 = 0xFFFF then (300, 2000) else (2 * bits r 8 8, r / 65536)

/-- The dissipation of switch n over a budget, times 16 * 10 ^ 9, in mW (R297). -/
def State.switchHeat (s : State) (n ticks : Nat) : Nat :=
  let (i, r) := s.switchLoad n
  i * i * r * ticks

/-- The estimate of R297 for the frame, times 16 * 10 ^ 9, in mW. -/
def State.frameHeat (s : State) (table : Nat) : Nat :=
  (((List.range 24).map (· + 1)).filter (fun n => s.balPermitted n)).foldl
    (fun p n => p + s.switchHeat n (budgetOf (s.dutyOf table 10000 n))) 0

/-- CapFactor for an estimate (R297). -/
def capFactor (heat : Nat) : Nat :=
  if 1200 * (16 * 10 ^ 9) < heat then 1200 * (16 * 10 ^ 9) * 10000 / heat else 10000

/-- The duty part of a frame start (R294 to R297, R305). -/
def frameDuty (s : State) : State :=
  let a := { s.set Obj.balConducting s.bal.conducted with
    bal := { s.bal with frame := s.ringTime / ms, enabled := s.get Obj.balEnable, spent := 0, conducted := 0, lockedIn := 0, unlockedIn := 0 } }
  let table := a.tableDutyNow
  let heat := a.frameHeat table
  let cap := capFactor heat
  let b := ((a.set Obj.tableDuty table).set Obj.capFactor cap).set Obj.balDissipation (min 65535 (roundNat heat (16 * 10 ^ 9)))
  let st := num (bit (s.get Obj.balStatus) 4) * 16 + num (cap < 10000) * 8 + num (table = 0) * 4 + a.bal.frame % 2 * 2 +
    num (s.modeIn outputModes && s.on .bal)
  let c := b.set Obj.balStatus st
  let tn := (List.range 24).map (fun i => budgetOf (c.dutyOf table cap (i + 1)))
  { c with bal := { c.bal with budget := tn, spent := ofBits 24 (fun i => tn.getD i 0 == 0) } }

/-! The transfer stage at a frame start. -/

/-- The FET factor (R326). -/
def State.fetFactor (s : State) : Nat :=
  let n := s.get Obj.xferFetTempSource
  let l := s.getInt Obj.xferFetTempLimit 16
  if n = 0 then 10000
  else if s.axTemp n = 0x8000 then 0
  else
    let t := toInt 16 (s.axTemp n)
    if l ≤ t then 0 else if t ≤ l - 100 then 10000 else (10000 * (l - t) / 100).toNat

/-- Bus pause (R326). -/
def State.busPause (s : State) : Bool :=
  let was := bit (s.get Obj.xferStatus) 6
  let v := s.xbsMv
  if s.forward || s.xfer.loupe then
    if v < s.get Obj.xferBusFloor then true else if s.get Obj.xferBusFloor + 1000 ≤ v then false else was
  else if s.get Obj.xferBusCeiling ≤ v then true
  else if v + 1000 < s.get Obj.xferBusCeiling then false else was

/-- What the stage measured in the last frame (R77, R321, R334), and the charge of the session, that of the frame in which it has ended
included. -/
def frameMeasures (x : FrameMeas) (s : State) : State :=
  let a := (s.set Obj.stkVoltage x.stk).set Obj.xbsVoltage x.xbs
  let b := (a.set Obj.xferMeasCurrent (ofInt 16 (clampInt 16 x.mean))).set Obj.xferPeakMeas (min 65535 x.peak)
  let c := if b.stageRuns || b.xfer.chargeDue then b.set Obj.xferCharge (ofInt 32 (clampInt 32 (b.getInt Obj.xferCharge 32 + x.charge))) else b
  { c with xfer := { c.xfer with vgdOk := x.vgdOk, nxfltLow := !x.nxfltHigh, chargeDue := false } }

/-- The rows of R331 that a frame start evaluates, and the charge limit (R328). -/
def frameLimits (x : FrameMeas) (s : State) : State :=
  let running := s.stageState = 2 || s.stageState = 5
  let excess := running && 11 * s.get Obj.xferAllowed + 1000 < 10 * x.mean.natAbs
  let sign := running && (if s.forward || s.xfer.loupe then x.mean < -100 else 100 < x.mean)
  let a := { s with xfer := { s.xfer with
    overRun := if excess then min 3 (s.xfer.overRun + 1) else 0
    signRun := if sign then min 2 (s.xfer.signRun + 1) else 0 } }
  let b := if (3300 < x.mean.natAbs && s.stageNow) || a.xfer.overRun = 3 || a.xfer.signRun = 2 then transferFault 0x12 1 a else a
  let limit := b.get Obj.xferChargeLimit
  if b.sessionNow && limit != 0 && limit ≤ (b.getInt Obj.xferCharge 32).natAbs then endTransfer 0x0A b else b

/-- XferAllowed, foldback and pause, and the transitions between RUN and PAUSE (R319, R325, R326). -/
def frameAllowed (s : State) : State :=
  let fold_ := min (s.get Obj.tableDuty) s.fetFactor
  let pause := s.busPause
  let want := if s.xfer.loupe then s.get Obj.loupeTransferCurrent else s.get Obj.xferCurrent
  let allowed := if pause then 0 else want * fold_ / 10000
  let a := (((s.set Obj.xferFoldback fold_).set Obj.xferAllowed allowed).setBitOf Obj.xferStatus 7 (fold_ < 10000)).setBitOf
    Obj.xferStatus 6 pause
  let b := { a with xfer := { a.xfer with thermalRun := a.stageNow && want * fold_ / 10000 = 0 } }
  if b.xferState = 2 && allowed = 0 then (b.setField Obj.xferStatus 0 4 3).setBitOf Obj.xferStatus 5 false
  else if b.xferState = 3 && allowed != 0 then (b.setField Obj.xferStatus 0 4 2).setBitOf Obj.xferStatus 5 b.mode.handover.isNone
  else b

/-- A point under SWITCH excitation ends THERMAL when TableDuty falls below 5000 before the end of its window (R309). -/
def frameLoupe (s : State) : State :=
  if s.loupe.point.isSome && bits (s.get Obj.loupeConfig) 0 2 = 0 && s.get Obj.tableDuty < 5000 then loupeEndPoint 5 s else s

/-- BALANCING_FRAME_START (R294). -/
def effBalancingFrameStart (x : FrameMeas) (s : State) : State :=
  if !s.on .rng then s else frameLoupe (frameAllowed (frameLimits x (frameMeasures x (frameDuty s))))

/-- BALANCING_FRAME_START (R294). -/
def execBalancingFrameStart (dt : Nat) (x : FrameMeas) (s : State) : Host.Outcome State Fault Refusal :=
  run (Instr.wf (.balancingFrameStart dt x)) dt (effBalancingFrameStart x) s

/-! Communication timeout (R299, R313, R328). -/

/-- COMMUNICATION_TIMEOUT (R299): BalEnable clears, 11h sets, a session ends with code 06h, a Loupe excitation stops, and the device is to
return to MEASURE (R93). -/
def effCommunicationTimeout (s : State) : State :=
  if !s.on .rng then s
  else
    let a := (disableBalancing (endTransfer 6 s)).setBitOf Obj.balStatus 4 true
    let b := if a.modeCode = Mode.loupe then
        let t := stopExcitation a
        { t with loupe := { t.loupe with endAtBoundary := true } }
      else a
    let c := faultOccur 0x11 b
    if s.modeIn [Mode.balance, Mode.transfer] && c.modeCode = s.modeCode then stageAuto Mode.measure 7 c else c

/-- COMMUNICATION_TIMEOUT (R299). -/
def execCommunicationTimeout (dt : Nat) (s : State) : Host.Outcome State Fault Refusal :=
  run (Instr.wf (.communicationTimeout dt)) dt effCommunicationTimeout s

/-- BalCommElapsed in ms (R299). -/
def State.commElapsed (s : State) : Nat := sat (2 ^ 32 - 1) ((s.clk - s.bal.lastActivity) / ms)

/-! Switch faults (R303, R304). -/

/-- Switch n is locked out (R303): 10h sets; a host clear of the same frame collides. -/
def lockSwitch (n : Nat) (s : State) : State :=
  let t := s.keep Obj.balLockout (setBit (s.get Obj.balLockout) (n - 1) true)
  let u := unchop (2 ^ (n - 1)) (if bit t.bal.unlockedIn (n - 1) then t.count (faultObj Obj.faultCollisionCount 0x10) 16 else t)
  faultOccur 0x10 { u with bal := { u.bal with lockedIn := setBit u.bal.lockedIn (n - 1) true } }

/-- STUCK_ON_DETECTED (R304). -/
def effStuckOnDetected (n : Nat) (s : State) : State :=
  if !s.on .bal then s
  else
    let o := Obj.balSwitchResult + n
    lockSwitch n ((s.set o (setBits (setBits (s.get o) 16 16 0xFFFF) 0 4 4)).setBitOf Obj.balSwitchSuspect (n - 1) true)

/-- STUCK_ON_DETECTED (R304). -/
def execStuckOnDetected (dt n : Nat) (s : State) : Host.Outcome State Fault Refusal :=
  run (Instr.wf (.stuckOnDetected dt n)) dt (effStuckOnDetected n) s

end Sys2Proof.Machine
end

