-- ==== Sys2Proof/Machine/Transfer.lean ====
section
/-! DEFINITION. Transfer sessions: the plan entries that open and close the on-phases (R239, R325), the stop sequence (R327), the safety timer
(R330) and the transfer faults (R331). What a frame start does to the stage stands in Machine/Balance.lean. -/

namespace Sys2Proof.Machine

/-- XFER_ON (R239, R325, R330): in a transfer session the gate enable comes on, and REST becomes RUN with a ramp, or PAUSE. -/
def effXferOn (s : State) : State :=
  if s.modeCode != Mode.transfer || !s.planRuns || s.xferState != 1 then s
  else
    let run_ := s.get Obj.xferAllowed != 0
    let t := ((s.setField Obj.xferStatus 0 4 (if run_ then 2 else 3)).setBitOf Obj.xferStatus 4 true).setBitOf Obj.xferStatus 5
      (run_ && s.mode.handover.isNone)
    { t with
      plan := { t.plan with gateEnable := true, gateAt := t.clk :: t.gatePending }
      xfer := { t.xfer with firstOn := t.xfer.firstOn.orElse (fun _ => some t.clk), lastOn := some t.clk } }

/-- XFER_ON (R325). -/
def execXferOn (dt : Nat) (s : State) : Host.Outcome State Fault Refusal :=
  run (Instr.wf (.xferOn dt)) dt effXferOn s

/-- XFER_OFF (R132, R325, R327): RUN and PAUSE become REST, and the gates go off as in the stop sequence, from 2 ticks on. -/
def effXferOff (s : State) : State :=
  if s.modeCode = Mode.transfer && s.planRuns && (s.xferState = 2 || s.xferState = 3) then
    let t := restStage s
    { t with plan := { t.plan with gateAt := s.clk :: s.gatePending } }
  else s

/-- XFER_OFF (R327). -/
def execXferOff (dt : Nat) (s : State) : Host.Outcome State Fault Refusal :=
  run (Instr.wf (.xferOff dt)) dt effXferOff s

/-- XFER_RAMP_COMPLETE (R319): the ramp has reached XferAllowed; a hand-over interrupts it (R322). -/
def effXferRampComplete (s : State) : State :=
  if s.xferState = 2 && s.mode.handover.isNone then s.setBitOf Obj.xferStatus 5 false else s

/-- XFER_RAMP_COMPLETE (R319). -/
def execXferRampComplete (dt : Nat) (s : State) : Host.Outcome State Fault Refusal :=
  run (Instr.wf (.xferRampComplete dt)) dt effXferRampComplete s

/-- STOP_SEQUENCE_COMPLETE (R327, R332): both gates are low and END is written; the faults that were instants have ended. -/
def effStopSequenceComplete (s : State) : State := if s.xfer.stop.isSome then gatesOff (writeEnd s) else s

/-- STOP_SEQUENCE_COMPLETE (R327). -/
def execStopSequenceComplete (dt : Nat) (s : State) : Host.Outcome State Fault Refusal :=
  run (Instr.wf (.stopSequenceComplete dt)) dt effStopSequenceComplete s

/-- SAFETY_TIMER_EXPIRY (R330, R333): 13h sets, the session ends with END 04h; in a Loupe session no further point excites. -/
def effSafetyTimerExpiry (s : State) : State :=
  if !s.stageNow then s
  else
    let t := transferFault 0x13 4 s
    if t.xfer.loupe then { t with loupe := { t.loupe with expired := true } } else t

/-- SAFETY_TIMER_EXPIRY (R330). -/
def execSafetyTimerExpiry (dt : Nat) (s : State) : Host.Outcome State Fault Refusal :=
  run (Instr.wf (.safetyTimerExpiry dt)) dt effSafetyTimerExpiry s

/-- XFER_OVERCURRENT (R331): 12h sets and the gates go off. -/
def effXferOvercurrent (s : State) : State := if s.on .bal then transferFault 0x12 1 s else s

/-- XFER_OVERCURRENT (R331). -/
def execXferOvercurrent (dt : Nat) (s : State) : Host.Outcome State Fault Refusal :=
  run (Instr.wf (.xferOvercurrent dt)) dt effXferOvercurrent s

/-- THERMAL_HOLD_EXPIRY (R331): XferAllowed has been held at 0 by temperature for XferThermalHold. -/
def effThermalHoldExpiry (s : State) : State := if s.xfer.thermalRun && s.stageNow then transferFault 0x14 3 s else s

/-- THERMAL_HOLD_EXPIRY (R331). -/
def execThermalHoldExpiry (dt : Nat) (s : State) : Host.Outcome State Fault Refusal :=
  run (Instr.wf (.thermalHoldExpiry dt)) dt effThermalHoldExpiry s

/-- BUS_RISE_TIMEOUT (R331): XBS_VALID has not set within XferBusRiseTime after the first XFER_ON of a reverse session. -/
def effBusRiseTimeout (s : State) : State :=
  if s.sessionNow && !s.forward && s.xfer.firstOn.isSome && !s.xbsValid then transferFault 0x15 2 s else s

/-- BUS_RISE_TIMEOUT (R331). -/
def execBusRiseTimeout (dt : Nat) (s : State) : Host.Outcome State Fault Refusal :=
  run (Instr.wf (.busRiseTimeout dt)) dt effBusRiseTimeout s

/-- NXFLT_LOW (R331): nXFLT has been low for 2 us; with the gate enable on, or under excitation, 15h sets. -/
def effNxfltLow (s : State) : State :=
  if !s.on .bal then s
  else
    let t := { s with xfer := { s.xfer with nxfltLow := true } }
    if t.plan.gateEnable || [2, 3, 5].contains t.stageState then transferFault 0x15 2 t else t

/-- NXFLT_LOW (R331). -/
def execNxfltLow (dt : Nat) (s : State) : Host.Outcome State Fault Refusal :=
  run (Instr.wf (.nxfltLow dt)) dt effNxfltLow s

/-- XferOnTime in ms (R334). -/
def State.xferOnMs (s : State) : Nat := sat (2 ^ 32 - 1) (s.xfer.onTicks / ms)

/-- BalOnTime of switch n in ms (R305). -/
def State.balOnMs (s : State) (n : Nat) : Nat := sat (2 ^ 32 - 1) (s.bal.onTicks.getD (n - 1) 0 / ms)

/-- A write to one of the configuration objects of the stage, from XferConfig to XferBusRiseTime (R323, R334); their ranges have been
checked. -/
def xferWriteRefusal (k v : Nat) (s : State) : Nat :=
  if s.stageRuns then 1
  else if k = Obj.xferPeakLimit && 200000000 < v * s.get Obj.xferSenseResistor then 2
  else if k = Obj.xferBusCeiling && v ≤ s.get Obj.xferBusFloor then 3
  else if k = Obj.xferFetTempSource && v != 0 && bits (s.get (Obj.auxInputConfig + v)) 2 2 != 1 then 4
  else 0

end Sys2Proof.Machine
end

