-- ==== Sys2Proof/Machine/Loupe.lean ====
section
/-! DEFINITION. Loupe mode: the points with their excitation and window (R307 to R309, R333), the references of SHUNT_NODE (R311), and
the correlation with its result codes (R310, R312). The samples are taken where an aperture's unit is written (Machine/Apertures.lean). -/

namespace Sys2Proof.Machine

/-! Points. -/

/-- EXCITATION of the session (R307): 0 SWITCH, 1 TRANSFER, 2 PACK. -/
def State.excitation (s : State) : Nat := bits (s.get Obj.loupeConfig) 0 2

/-- Switches may not start chopping (R309): TableDuty is below 5000, or they would dissipate more than 1200 mW at 50 %. -/
def State.chopTooHot (s : State) (m : Nat) : Bool :=
  decide (s.get Obj.tableDuty < 5000) ||
    decide (1200 * (16 * 10 ^ 9) < ((bitList m 24).map (fun i => s.switchHeat (i + 1) 8000)).sum)

/-- The excitation of a point starts (R307, R309, R313, R333): chopping does not run once 11h is set, nor the stage while a transfer
source is set or after its safety timer has expired. -/
def excite (p : LoupePoint) (s : State) : State :=
  if s.excitation = 0 then
    let on := !s.faultOn 0x11
    let c : Chop :=
      { mask := if on then p.chopped else 0, start := s.clk + 2, period := p.period, stop := none, offs := [],
        cuts := (bitList (p.chopped &&& s.bal.forced) 24).map (fun i => (i + 1, s.clk, none)) }
    { s with
      loupe := { s.loupe with point := some { p with exciting := on }, chops := (c :: s.loupe.chops).take 4 }
      plan := { s.plan with loupeOn := on } }
  else if s.excitation = 1 && s.xferState = 0 && !s.loupe.expired &&
      !(s.faultOn 0x12 || s.faultOn 0x13 || s.faultOn 0x14 || s.faultOn 0x15) then
    let t := s.setField Obj.xferStatus 0 4 5
    { t with
      loupe := { t.loupe with point := some { p with exciting := true } }
      plan := { t.plan with loupeOn := true } }
  else { s with loupe := { s.loupe with point := some p } }

/-- LOUPE_START (R308, R309): a point of the session starts; another one in progress ends INCOMPLETE. -/
def effLoupeStart (point switches : Nat) (s : State) : State :=
  if s.modeCode != Mode.loupe || !s.planRuns || !bit (s.get Obj.loupePointMask) point then s
  else if s.loupe.point.any (fun p => p.point = point) then s
  else
    let a := loupeEndPoint 2 s
    let period := roundNat 16000000000 (a.get (Obj.loupeFrequency + point + 1))
    let n := a.get (Obj.loupePeriods + point + 1)
    let chopped := if a.excitation = 0 then switches - (switches &&& a.get Obj.balLockout) else 0
    let p : LoupePoint :=
      { point := point, t0 := wrap48 (a.ringTime + 2), period := period, settle := n % 256, m := n / 65536, chopped := chopped,
        exciting := false, samples := [], badCells := 0 }
    let b := a.set (Obj.loupeActualPeriod + point + 1) period
    if b.excitation = 0 && b.chopTooHot chopped then loupeEndPoint 5 { b with loupe := { b.loupe with point := some p } }
    else excite p b

/-- LOUPE_START (R308). -/
def execLoupeStart (dt point switches : Nat) (s : State) : Host.Outcome State Fault Refusal :=
  run (Instr.wf (.loupeStart dt point switches)) dt (effLoupeStart point switches) s

/-- LOUPE_STOP (R308). -/
def effLoupeStop (s : State) : State := if s.modeCode = Mode.loupe && s.planRuns then loupeEndPoint 2 s else s

/-- LOUPE_STOP (R308). -/
def execLoupeStop (dt : Nat) (s : State) : Host.Outcome State Fault Refusal :=
  run (Instr.wf (.loupeStop dt)) dt effLoupeStop s

/-- LOUPE_WINDOW_END (R308): the excitation stops, and the point waits for its result. -/
def effLoupeWindowEnd (s : State) : State :=
  match s.loupe.point with
  | none => s
  | some p =>
    let t := stopExcitation s
    { t with loupe := { t.loupe with point := none, pend := t.loupe.pend ++ [{ p with exciting := false }] } }

/-- LOUPE_WINDOW_END (R308). -/
def execLoupeWindowEnd (dt : Nat) (s : State) : Host.Outcome State Fault Refusal :=
  run (Instr.wf (.loupeWindowEnd dt)) dt effLoupeWindowEnd s

/-! References (R311). -/

/-- The point without the samples that `p` picks. -/
def LoupePoint.drop (f : LoupeSample → Bool) (p : LoupePoint) : LoupePoint := { p with samples := p.samples.filter (fun x => !f x) }

/-- LOUPE_REFERENCE_TIMEOUT (R311): the samples of an aperture that no reference has reached are dropped. -/
def effLoupeReferenceTimeout (a : Nat) (s : State) : State :=
  let f (x : LoupeSample) : Bool := decide (x.a = a) && x.refs.isNone
  { s with loupe := { s.loupe with point := s.loupe.point.map (LoupePoint.drop f), pend := s.loupe.pend.map (LoupePoint.drop f) } }

/-- LOUPE_REFERENCE_TIMEOUT (R311). -/
def execLoupeReferenceTimeout (dt a : Nat) (s : State) : Host.Outcome State Fault Refusal :=
  run (Instr.wf (.loupeReferenceTimeout dt a)) dt (effLoupeReferenceTimeout a) s

/-- A sample takes its reference from the current record of a set with its A. -/
def sampleRef (s : State) (a w : Nat) (x : LoupeSample) : LoupeSample :=
  if x.a = a && x.refs.isNone then
    let (l, sat) := packRefs s w
    { x with refs := some l, refSat := sat }
  else x

/-- The set of SHUNT_NODE gives its current record to the samples of its aperture, or waits for the node's own aperture (R311). -/
def packReference (set : List Nat) (s : State) : State :=
  if s.excitation != 2 || !bit (s.get Obj.loupeSessionStatus) 16 || set.getD 0 0 % 64 != bits (s.get Obj.loupeConfig) 8 6 then s
  else
    let a := leAt set 6 6
    let w := leAt set 112 4
    let f (p : LoupePoint) : LoupePoint := { p with samples := p.samples.map (sampleRef s a w) }
    { s with loupe := { s.loupe with
        point := s.loupe.point.map f
        pend := s.loupe.pend.map f
        refs := if s.loupe.refs.any (fun r => r.1 = a) then s.loupe.refs else ((a, w) :: s.loupe.refs).take 16 } }

/-- RESULT_FRAME at a node (R311, R357): the head delivers a flagged set once, and a Loupe session with PACK excitation takes its reference. -/
def actResult (bs : List Nat) (s : State) : State :=
  if frameType bs != 2 || !actsOn bs s then s
  else
    let set := bs.drop 4
    let t := packReference set s
    if t.isHead && bit (frameFlags bs) 3 then deliverSet set t else t

/-- RESULT_FRAME (R357). -/
def execResultFrame (dt : Nat) (f : RingFrame) (s : State) : Host.Outcome State Fault Refusal :=
  run (Instr.wf (.resultFrame dt f)) dt (ringReceive f f.bytes (actResult f.bytes) id) s

/-! The result of a point (R310, R312). -/

/-- The sums of R310 over pairs of a value and its time in the period, times ns and in the fixed point of Machine/Fixed.lean: the cosine
and the sine part. -/
def correlate (period : Nat) (l : List (Int × Nat)) : Int × Int :=
  let ns : Int := l.length
  let cs := l.map (fun x => (x.1, fixSinCos (x.2 % max 1 period) (max 1 period)))
  let sv := (l.map (·.1)).sum
  (ns * (cs.map (fun x => x.1 * x.2.2)).sum - sv * (cs.map (fun x => x.2.2)).sum,
    ns * (cs.map (fun x => x.1 * x.2.1)).sum - sv * (cs.map (fun x => x.2.1)).sum)

/-- The reference of cell n (1 to 24) in the samples of a point. -/
def LoupePoint.reference (p : LoupePoint) (n : Nat) : List (Int × Nat) :=
  p.samples.map (fun x => ((x.refs.getD []).getD (n - 1) 0, x.at_))

/-- The amplitude of a reference in uA (R310), to the nearest. -/
def amplitude (period : Nat) (l : List (Int × Nat)) : Nat :=
  let (c, q) := correlate period l
  roundNat (Nat.sqrt (4 * (c * c + q * q).toNat)) (l.length * l.length * fixOne)

/-- The cells that have results (R307). -/
def State.loupeCells (s : State) (p : LoupePoint) : List Nat :=
  if s.excitation = 0 then (bitList p.chopped (min 24 s.cellCount)).map (· + 1) else (List.range s.cellCount).map (· + 1)

/-- LoupeExcitation of a point: the reference amplitude; under SWITCH the least of the chopped cells' (R310). -/
def State.loupeAmplitude (s : State) (p : LoupePoint) : Nat :=
  if s.excitation = 0 then (((s.loupeCells p).map (fun n => amplitude p.period (p.reference n))).min?).getD 0
  else amplitude p.period (p.reference 1)

/-- A number in its place in a rising list. -/
def placeNat (x : Nat) : List Nat → List Nat
  | [] => [x]
  | y :: l => if y < x then y :: placeNat x l else x :: y :: l

/-- The grid of the centroids, in the order of time, is too coarse (R312). -/
def LoupePoint.gridBad (p : LoupePoint) : Bool :=
  let ts := (p.samples.map (·.at_)).foldl (fun l x => placeNat x l) []
  p.samples.length < 4 * p.m || (ts.zip ts.tail).any (fun x => p.period < 4 * (x.2 - x.1))

/-- The code of a point whose window has ended (R312): the lowest that applies, VALID where none does. -/
def State.loupeCode (s : State) (p : LoupePoint) : Nat :=
  if p.gridBad then 3
  else if s.loupeAmplitude p < s.get Obj.loupeMinExcitation then 4
  else if p.samples.any (·.refSat) then 6
  else 1

/-- The impedance of a cell in uOhm, to the nearest: its real and imaginary part (R310). None when the reference is zero throughout or the
result lies beyond 32 bits, where the spec states no value. -/
def State.impedance (s : State) (p : LoupePoint) (n : Nat) : Option (Int × Int) :=
  let (vc, vs) := correlate p.period (p.samples.map (fun x => (x.cells.getD (n - 1) 0, x.at_)))
  let (ic, is_) := correlate p.period (p.reference n)
  let d := ic * ic + is_ * is_
  let a := vc * ic + vs * is_
  let b := vc * is_ - vs * ic
  let x : Int := if s.excitation = 2 then 0 else ((32 * fixHalfPi * s.get (Obj.filterTau + n) / (5 * p.period) : Nat) : Int)
  let re := roundDiv ((a * fixOne - b * x) * 10000000) (d * fixOne)
  let im := roundDiv ((b * fixOne + a * x) * 10000000) (d * fixOne)
  if d = 0 || clampInt 32 re != re || clampInt 32 im != im then none else some (re, im)

/-- The results of one cell of a VALID point. -/
def loupeCell (p : LoupePoint) (n : Nat) (s : State) : State :=
  let re := Obj.loupeZReal + p.point * 256 + n
  let im := Obj.loupeZImag + p.point * 256 + n
  if !(s.loupeCells p).contains n || bit p.badCells (n - 1) then
    (s.set re 0x80000000).set im 0x80000000
  else
    match s.impedance p n with
    | some (a, b) => (s.set re (ofInt 32 a)).set im (ofInt 32 b)
    | none =>
      let t := (s.set re (s.free 32)).freeUsed
      (t.set im (t.free 32)).freeUsed

/-- LOUPE_POINT_RESULT (R310, R312): the oldest point whose window has ended is computed; samples without a reference do not count. -/
def effLoupePointResult (s : State) : State :=
  match s.loupe.pend with
  | [] => s
  | p0 :: rest =>
    let p := p0.drop (fun x => x.refs.isNone)
    let code := s.loupeCode p
    let t := { s with loupe := { s.loupe with pend := rest } }
    let u := loupeFinish p code (t.set (Obj.loupeExcitation + p.point + 1) (min (2 ^ 32 - 1) (s.loupeAmplitude p)))
    if code = 1 then (List.range 24).foldl (fun v i => loupeCell p (i + 1) v) u else u

/-- LOUPE_POINT_RESULT (R310). -/
def execLoupePointResult (dt : Nat) (s : State) : Host.Outcome State Fault Refusal :=
  run (Instr.wf (.loupePointResult dt)) dt effLoupePointResult s

/-- The objects of a Loupe session that refuse writes while it runs (R306). -/
def loupeConfigObject (k : Nat) : Bool :=
  k / 256 == 0x0840 || k / 256 == 0x0841 || k / 256 == 0x0842 || k / 256 == 0x0843 || k / 256 == 0x0844

end Sys2Proof.Machine
end

