-- ==== Sys2Proof/Machine/Safety.lean ====
section
/-! DEFINITION. The safety functions (14_safety.md): the Mirror channel's trips, self-faults and release (R400 to R407), the safety request
input (R411 to R414), contactor enable with its checks and tests (R416 to R421), and safe data on the ring (R424 to R428). The
permits themselves stand in Machine/Views.lean, and every command ends with their settling (Machine/Events.lean). -/

namespace Sys2Proof.Machine

/-! The Mirror channel. -/

/-- MIRROR_FIRST_COMPARISON_END (R400, R407). -/
def effMirrorFirstComparisonEnd (s : State) : State :=
  if s.on .mir then { s with safe := { s.safe with firstDone := true } } else s

/-- MIRROR_FIRST_COMPARISON_END (R400). -/
def execMirrorFirstComparisonEnd (dt : Nat) (s : State) : Host.Outcome State Fault Refusal :=
  run (Instr.wf (.mirrorFirstComparisonEnd dt)) dt effMirrorFirstComparisonEnd s

/-- The integrator of a comparator after some samples, and whether it has reached a limit (R404): it counts up beyond the trip voltage, down
inside the release voltage, and holds between. -/
def mirrorCount (limit : Nat) : List (MirrorSample × Nat) → Nat → Nat × Bool
  | [], n => (n, false)
  | (.beyond, k) :: l, n =>
    let r := mirrorCount limit l (n + k)
    (r.1, (0 < k && limit ≤ n + k) || r.2)
  | (.between, _) :: l, n => mirrorCount limit l n
  | (.inside, k) :: l, n => mirrorCount limit l (n - k)

/-- The limit of the integrators in samples (R404). -/
def State.mirrorLimit (s : State) : Nat := s.get Obj.mirrorDeglitch * 64

/-- The integrator of a cell's comparator. -/
def State.mirrorInt (s : State) (cell : Nat) (isOv : Bool) : Nat := (if isOv then s.safe.ovCount else s.safe.uvCount).getD (cell - 1) 0

/-- A comparator trips and latches (R405): its bit, the latch, and 00h or 01h. -/
def mirrorTripped (cell : Nat) (isOv : Bool) (s : State) : State :=
  let t := s.setBitOf (if isOv then Obj.mirrorOvTripped else Obj.mirrorUvTripped) (cell - 1) true
  faultOccur (if isOv then 0 else 1) { t with safe := { t.safe with latched := true, tripAt := some t.clk } }

/-- The samples of a comparator of an evaluated cell (R404): its integrator follows them, and it trips where that reaches the limit. -/
def mirrorSampled (x : MirrorRun) (s : State) : State :=
  if !s.on .mir || s.safe.cells < x.cell then s
  else
    let (n, hit) := mirrorCount s.mirrorLimit x.samples (s.mirrorInt x.cell x.isOv)
    let t := { s with safe := if x.isOv then { s.safe with ovCount := s.safe.ovCount.set (x.cell - 1) n }
      else { s.safe with uvCount := s.safe.uvCount.set (x.cell - 1) n } }
    if hit then mirrorTripped x.cell x.isOv t else t

/-- MIRROR_TRIP (R404, R405): the samples of a comparator, the last of which takes its integrator to the limit. -/
def effMirrorTrip (cell : Nat) (isOv : Bool) (samples : List (MirrorSample × Nat)) (s : State) : State :=
  mirrorSampled ⟨cell, isOv, samples⟩ s

/-- MIRROR_TRIP (R405). -/
def execMirrorTrip (dt cell : Nat) (x : TripRun) (s : State) : Host.Outcome State Fault Refusal :=
  run (Instr.wf (.mirrorTrip dt cell x)) dt (effMirrorTrip cell x.isOv x.samples) s

/-- The source of a self-fault cause (R406). -/
def selfFaultSource (cause : Nat) : Nat := if cause = 1 then 0x1A else if cause = 5 then 0x19 else 0x2A

/-- A self-fault latches (R406); its check fails until MIRROR_RELEASE says otherwise, that of VMIR for as long as the rail is out of its
window. -/
def selfFault (cause : Nat) (s : State) : State :=
  let t := s.set Obj.mirrorFaultCause cause
  faultOccur (selfFaultSource cause) { t with safe := { t.safe with
    selfFaults := setBit t.safe.selfFaults cause true
    failing := if cause = 5 then t.safe.failing else setBit t.safe.failing cause true } }

/-- The checks 01h to 04h of R406 that fail now: one that has not latched its self-fault does so. -/
def mirrorChecks (failing : Nat) (s : State) : State :=
  if !s.on .mir then s
  else
    let t := { s with safe := { s.safe with failing := 0 } }
    [1, 2, 3, 4].foldl (fun u c =>
      if !bit failing c then u
      else if bit u.safe.selfFaults c then { u with safe := { u.safe with failing := setBit u.safe.failing c true } }
      else selfFault c u) t

/-- MIRROR_SELF_FAULT (R406). -/
def effMirrorSelfFault (cause : Nat) (s : State) : State := if s.on .mir then selfFault cause s else s

/-- MIRROR_SELF_FAULT (R406). -/
def execMirrorSelfFault (dt cause : Nat) (s : State) : Host.Outcome State Fault Refusal :=
  run (Instr.wf (.mirrorSelfFault dt cause)) dt (effMirrorSelfFault cause) s

/-- The kinds of FailRun that do not count for 2Ah: the agreement window of a MIRROR slice, which latches a self-fault instead (R478). -/
abbrev agreementRun : Nat := 0x16

/-- The condition of 2Ah BIST_ANALOG (R406, R469, R476 to R479): a self-fault of cause 02h to 04h is latched, or a check has failed twice
running and not passed since. -/
def State.analogHolds (s : State) : Bool :=
  bits s.safe.selfFaults 2 3 != 0 || s.test.runs.any (fun r => r.kind != agreementRun && 2 ≤ r.count)

/-- The latch is released: the trips and self-faults clear, and their sources may recover (R405). -/
def releaseMirror (s : State) : State :=
  let clock := bit s.safe.selfFaults 1
  let t := (s.set Obj.mirrorOvTripped 0).set Obj.mirrorUvTripped 0
  let u := { t with safe := { t.safe with latched := false, selfFaults := 0 } }
  let v := faultFollow 1 false (faultFollow 0 false u)
  let w := faultFollow 0x19 v.railBad v
  let x := if clock then faultEnd 0x1A w else w
  faultFollow 0x2A x.analogHolds x

/-- Every integrator of every evaluated cell has counted down to 0, no check of R406 fails, and no comparator has tripped at this very tick
(R405). -/
def State.mirrorQuiet (s : State) : Bool :=
  ((List.range s.safe.cells).all (fun i => s.mirrorInt (i + 1) true == 0 && s.mirrorInt (i + 1) false == 0)) && s.safe.failing == 0 &&
    bit (s.get Obj.supplyStatus) (railBit .vmir) && s.safe.tripAt != some s.clk

/-- A write of MirrorRelease (R405). -/
def writeMirrorRelease (v : Nat) (s : State) : WriteRes :=
  if v != 0x5A3C then .refuse 9 0 s else if !s.mirrorQuiet then rejected 1 s else .done (releaseMirror s)

/-- A write of MirrorOvLimit or MirrorUvLimit, whose range has been checked (R403, R410). -/
def writeMirrorLimit (isOv : Bool) (v : Nat) (s : State) : WriteRes :=
  let ov := if isOv then v else s.get Obj.mirrorOvLimit
  let uv := if isOv then s.get Obj.mirrorUvLimit else v
  if ov < uv + 400 then rejected 2 s
  else .done (margins (mirrorCodes (s.set (if isOv then Obj.mirrorOvLimit else Obj.mirrorUvLimit) v)))

/-! The safety request input. -/

/-- What each channel requests at a tick (R411). -/
def srqChannels (mode : Nat) (a b : Bool) : Bool × Bool :=
  if mode = 1 then (!a, !b) else if mode = 2 then (!a, b) else (false, false)

/-- SRQ_TICK (R411 to R414): the request, the discrepancy count, 22h and 21h; the levels of nFAULT and CFB at the tick are kept (R407, R420; log
entry 84). -/
def effSrqTick (a b nFaultOther cfb : Bool) (s0 : State) : State :=
  let s := { s0 with safe := { s0.safe with nFaultOther := nFaultOther, cfb := cfb } }
  if !s.on .rng then s
  else
    let (ra, rb) := srqChannels s.srqMode a b
    let count := if ra != rb then sat 65535 (s.get Obj.srqStatus / 65536 + 1) else 0
    let seen := bit (s.get Obj.srqStatus) 5 || (s.faultOn 0x21 && ra && rb)
    let w := count * 65536 + num (seen && s.faultOn 0x21) * 32 + num (ra || rb) * 16 + num rb * 2 + num ra
    let t := faultFollow 0x22 (ra || rb) (s.set Obj.srqStatus w)
    if count != 0 && bits (t.get Obj.srqConfig) 16 10 ≤ count then faultFollow 0x21 true t
    else if count = 0 then faultFollow 0x21 false t
    else t

/-- SRQ_TICK (R411). -/
def execSrqTick (dt : Nat) (srq : SrqPins) (pins : SafetyPins) (s : State) : Host.Outcome State Fault Refusal :=
  run (Instr.wf (.srqTick dt srq pins)) dt (effSrqTick srq.a srq.b pins.nFaultOther pins.cfb) s

/-- SrqStatus as it reads: DISC_LATCH is the status of 21h (R415). -/
def State.srqStatusNow (s : State) : Nat := setBit (s.get Obj.srqStatus) 3 (s.faultOn 0x21)

/-- The clearing condition of 21h (R414): both channels have requested at one tick since the latch, and neither requests now. -/
def State.srqCycleDone (s : State) : Bool := bit (s.get Obj.srqStatus) 5 && bits (s.get Obj.srqStatus) 0 2 == 0

/-! Contactor enable. -/

/-- CEN closes (R417): both permits have stood for 10 ms, the last static check has passed, and 23h is clear. -/
def effCenClose (s : State) : State :=
  if s.safe.permitSup && s.safe.permitMir && s.safe.permitSince + 10 * ms ≤ s.clk && s.safe.staticOk && !s.faultOn 0x23 &&
      !s.safe.cenOn then
    { s with safe := { s.safe with cenOn := true, cenSince := s.clk } }
  else s

/-- CEN_CLOSE (R417). -/
def execCenClose (dt : Nat) (s : State) : Host.Outcome State Fault Refusal :=
  run (Instr.wf (.cenClose dt)) dt effCenClose s

/-- 23h CEN_TEST_FAIL sets with a cause, and both switches open (R399, R416, R423). -/
def cenFail (cause : Nat) (s : State) : State :=
  let t := if s.faultOn 0x23 then s else s.set Obj.cenFailCause cause
  openCen (faultPulse 0x23 t)

/-- CEN_STATIC_CHECK (R418): with CEN off; two failing readings in a row of one pin fail the check. -/
def effCenStaticCheck (highAbove lowBelow : Bool) (s : State) : State :=
  if s.safe.cenOn || !s.on .rng then s
  else
    let h := if highAbove then min 2 (s.safe.staticH + 1) else 0
    let l := if lowBelow then min 2 (s.safe.staticL + 1) else 0
    let ok := h < 2 && l < 2
    let t := { s with safe := { s.safe with staticH := h, staticL := l, staticOk := ok } }
    if (h = 2 && s.safe.staticH != 2) || (l = 2 && s.safe.staticL != 2) then cenFail (if h = 2 then 4 else 5) t else t

/-- CEN_STATIC_CHECK (R418). -/
def execCenStaticCheck (dt : Nat) (highAbove lowBelow : Bool) (s : State) : Host.Outcome State Fault Refusal :=
  run (Instr.wf (.cenStaticCheck dt highAbove lowBelow)) dt (effCenStaticCheck highAbove lowBelow) s

/-- CEN_TEST_START (R419): CEN_H and CEN_L in turn, once CEN has been on for 10 ms. -/
def effCenTestStart (s : State) : State :=
  if s.safe.cenOn && s.safe.testing.isNone && s.safe.cenSince + 10 * ms ≤ s.clk then
    { s with safe := { s.safe with testing := some s.safe.nextTest, nextTest := !s.safe.nextTest } }
  else s

/-- CEN_TEST_START (R419). -/
def execCenTestStart (dt : Nat) (s : State) : Host.Outcome State Fault Refusal :=
  run (Instr.wf (.cenTestStart dt)) dt effCenTestStart s

/-- CEN_TEST_TRANSITION (R419): the switch closes again, and the test has passed. -/
def effCenTestTransition (s : State) : State :=
  match s.safe.testing with
  | none => s
  | some p =>
    let t := s.wrap Obj.cenTestCount 32
    { t with safe := { t.safe with testing := none, lastTested := p } }

/-- CEN_TEST_TRANSITION (R419). -/
def execCenTestTransition (dt : Nat) (s : State) : Host.Outcome State Fault Refusal :=
  run (Instr.wf (.cenTestTransition dt)) dt effCenTestTransition s

/-- CEN_TEST_TIMEOUT (R419): no transition by 400 us; 23h sets with cause 01h or 02h. -/
def effCenTestTimeout (s : State) : State :=
  match s.safe.testing with
  | none => s
  | some p => cenFail (if p then 2 else 1) { s with safe := { s.safe with testing := none, lastTested := p } }

/-- CEN_TEST_TIMEOUT (R419). -/
def execCenTestTimeout (dt : Nat) (s : State) : Host.Outcome State Fault Refusal :=
  run (Instr.wf (.cenTestTimeout dt)) dt effCenTestTimeout s

/-- CFB_MISMATCH (R420): the level has disagreed with the command, a test pulse counting as on, for CfbDelay. -/
def effCfbMismatch (level : Bool) (s : State) : State :=
  let t := { s with safe := { s.safe with cfb := level } }
  let mode := bits (t.get Obj.cenConfig) 0 2
  let energised := if mode = 1 then level else !level
  if mode = 0 || energised == t.safe.cenOn then t else cenFail 3 t

/-- CFB_MISMATCH (R420). -/
def execCfbMismatch (dt : Nat) (level : Bool) (s : State) : Host.Outcome State Fault Refusal :=
  run (Instr.wf (.cfbMismatch dt level)) dt (effCfbMismatch level) s

/-! Safe data on the ring. -/

/-- SAFETY_FRAME (R428): a good copy of a record that carries the current epoch. -/
def actSafety (p : Side) (bs : List Nat) (s : State) : State :=
  if frameType bs != 4 || !actsOn bs s then s else safetyCopy (bs.drop 4) (p = .north) s

/-- SAFETY_FRAME (R428). -/
def execSafetyFrame (dt : Nat) (f : RingFrame) (s : State) : Host.Outcome State Fault Refusal :=
  run (Instr.wf (.safetyFrame dt f)) dt (ringReceive f f.bytes (actSafety f.side f.bytes) id) s

/-- ALIVE is what the last accepted record leads to (R426); the first after a baseline is not checked. -/
def aliveRight (n : SafeNode) (k alive : Nat) : Bool :=
  match n.accepted with
  | none => true
  | some (a, c) => alive == (a + (k + 2 ^ 32 - c) % 2 ^ 32) % 256

/-- The outcome of R426 for one address from the copies of cycle k: 1 MATCH, 2 SINGLE, 3 MISSING, 4 DIFFER, 5 ALIVE. -/
def safeOutcome (n : SafeNode) (k : Nat) : List SafeCopy → Nat
  | [] => 3
  | x :: rest =>
    if rest.any (fun y => y.bytes != x.bytes) then 4
    else if !aliveRight n k (x.bytes.getD 1 0) then 5
    else if rest = [] then 2 else 1

/-- SINGLE is within grace (R427). -/
def State.inGrace (s : State) : Bool :=
  match s.safe.leftDual with
  | some t => s.clk < t + s.get Obj.safeGrace * 1000 * ms
  | none => false

/-- The comparison of one address (R426, R427). -/
def compareNode (k a : Nat) (s : State) : State :=
  let n := s.safeNode a
  let l := s.safe.copies.filter (fun x => x.node = a && leAt x.bytes 2 4 = k)
  let o := safeOutcome n k l
  let good := o = 1 || (o = 2 && s.inGrace)
  let key := Obj.safeNodeStatus + a
  let old := s.get key
  let count := if good then 0 else sat 255 (bits old 8 8 + 1)
  let alive := ((l.head?).map (fun x => x.bytes.getD 1 0)).getD 0
  let t := s.set key ((if good then alive else bits old 24 8) * 2 ^ 24 + count * 256 + o)
  let u := if good then { t with safe := { t.safe with
      nodes := { n with accepted := some (alive, k) } :: t.safe.nodes.filter (fun x => x.node != a) } } else t
  if count = u.get Obj.safeTolerance + 1 && bits old 8 8 < count then
    faultOccur 0x20 (if u.faultOn 0x20 then u else u.set Obj.safeDataCause a)
  else u

/-- The comparison at a cycle start of the copies of the cycle that has ended (R426, R427). -/
def compareSafety (k : Nat) (s : State) : State :=
  if !s.compares then s
  else
    let as := (bitList (s.get Obj.nodeMap) 63).filter (· != 0)
    let t := as.foldl (fun u a => compareNode k a u) s
    let u := if as.all (fun a => bits (t.get (Obj.safeNodeStatus + a)) 8 8 ≤ t.get Obj.safeTolerance) then
      faultFollow 0x20 false t else t
    { u with safe := { u.safe with
        copies := u.safe.copies.filter (fun x => let d := (leAt x.bytes 2 4 + 2 ^ 32 - k) % 2 ^ 32; 1 ≤ d && d < 2 ^ 31) } }

end Sys2Proof.Machine
end

