-- ==== Sys2Proof/Machine/Watchdog.lean ====
section
/-! DEFINITION. The window watchdog (R430 to R434): its keys, their origins, its expiry and its configuration. What an expiry or a
violation does stands in Machine/Boot.lean. -/

namespace Sys2Proof.Machine

/-- PERIOD P in ticks. -/
def State.wdPeriod (s : State) : Nat := bits (s.get Obj.watchdogConfig) 0 16 * ms

/-- The window is closed (R432): before half of the period, but never in a first period. -/
def State.wdClosed (s : State) : Bool := !s.safe.wdFirst && decide (2 * (s.clk - s.safe.wdStart) < s.wdPeriod)

/-- A pending 9E37h is more than 10 ms old (R431). -/
def State.wdKeyOld (s : State) : Bool :=
  match s.safe.wdKey with
  | some t => t + 10 * ms < s.clk
  | none => false

/-- The origin of a write is the selected source (R430). -/
def State.wdOrigin (s : State) (o : WdOrigin) : Bool :=
  if bit (s.get Obj.watchdogConfig) 16 then
    (match o with
     | .core _ => false
     | .host c => s.role c.src == 2)
  else
    (match o with
     | .core p => p
     | .host _ => false)

/-- What a write from the selected source comes to (R431, R432): none when it is accepted, else the CAUSE of the violation. -/
def State.wdViolation (s : State) (v : Nat) : Option Nat :=
  let bad := if v = 0x9E37 then s.safe.wdKey.isSome else if v = 0x61C8 then s.safe.wdKey.isNone else true
  let closed := (bad || s.wdKeyOld || v = 0x61C8) && s.wdClosed
  if closed then some 2 else if bad then some 3 else if s.wdKeyOld then some 4
  else if v = 0x61C8 && s.safe.wdStart + s.wdPeriod ≤ s.clk then some 1 else none

/-- A write to WatchdogService (R430 to R433, R555): a violation resets the SUP domain and is not answered. -/
def writeWatchdog (v : Nat) (o : WdOrigin) (s : State) : WriteRes :=
  if !s.wdOrigin o then .refuse 7 0 (s.count Obj.watchdogRefused 16)
  else
    match s.wdViolation v with
    | some c => .silent (watchdogFail c s)
    | none =>
      if v = 0x9E37 then .done { s with safe := { s.safe with wdKey := some s.clk } }
      else .done { s with safe := { s.safe with wdKey := none, wdFirst := false, wdStart := s.clk } }

/-- A write of the core itself to WatchdogService: it is not answered; the core runs outside reset alone. -/
def coreWatchdog (v : Nat) (privileged : Bool) (s : State) : State :=
  if !s.on .sup then s
  else
    match writeWatchdog v (.core privileged) s with
    | .done t => t
    | .refuse _ _ t => t
    | .silent t => t

/-- The watchdog runs (R430): from the release of reset, but not over a held SUP domain. -/
def State.wdRuns (s : State) : Bool := s.on .rng && s.get Obj.supervisorState != 2 && !s.safe.wdHalted && !s.mode.resetting

/-- WATCHDOG_EXPIRY (R432, R433). -/
def effWatchdogExpiry (s : State) : State := if s.wdRuns then watchdogFail 1 s else s

/-- WATCHDOG_EXPIRY (R432). -/
def execWatchdogExpiry (dt : Nat) (s : State) : Host.Outcome State Fault Refusal :=
  run (Instr.wf (.watchdogExpiry dt)) dt effWatchdogExpiry s

/-- WATCHDOG_KEY_TIMEOUT (R431): a pending key has become more than 10 ms old. -/
def effWatchdogKeyTimeout (s : State) : State := if s.wdRuns && s.safe.wdKey.isSome then watchdogFail 4 s else s

/-- WATCHDOG_KEY_TIMEOUT (R431). -/
def execWatchdogKeyTimeout (dt : Nat) (s : State) : Host.Outcome State Fault Refusal :=
  run (Instr.wf (.watchdogKeyTimeout dt)) dt effWatchdogKeyTimeout s

/-- A write of WatchdogConfig whose mode and first-write rule have been checked (R430, R434). -/
def writeWatchdogConfig (v : Nat) (s : State) : WriteRes :=
  let p := bits v 0 16
  if p < 10 || 1000 < p then .refuse 9 0 s
  else
    let t := s.set Obj.watchdogConfig (bits v 0 17)
    .done { t with safe := { t.safe with wdWritten := true } }

/-- WatchdogStatus as it reads (R434): CAUSE, KEY_PENDING, and the whole milliseconds to the expiry, at most P. -/
def State.watchdogStatusNow (s : State) : Nat :=
  let left := (s.safe.wdStart + s.wdPeriod - s.clk) / ms
  bits (s.get Obj.watchdogStatus) 24 8 * 2 ^ 24 + num s.safe.wdKey.isSome * 2 ^ 16 +
    min (bits (s.get Obj.watchdogConfig) 0 16) left

end Sys2Proof.Machine
end

