-- ==== Sys2Proof/Machine/Slices.lean ====
section
/-! DEFINITION. Self-test slices (R466 to R479): the start of a slice, the evaluation of what its block measured, its end, and the
foreground set of SELFTEST (R480 to R483). What ends a slice without a token stands in Machine/Actions.lean. -/

namespace Sys2Proof.Machine

/-! Small helpers. -/

/-- A number in a rising list. -/
def insertInt (x : Int) : List Int → List Int
  | [] => [x]
  | y :: l => if x ≤ y then x :: y :: l else y :: insertInt x l

/-- Twice the median of 8 numbers. -/
def median2 (l : List Int) : Int :=
  let m := l.foldl (fun a x => insertInt x a) []
  m.getD 3 0 + m.getD 4 0

/-! Runs of failures (R474 to R479). -/

/-- How many times in a row a check has failed. -/
def State.runOf (s : State) (kind target : Nat) : Nat :=
  ((s.test.runs.find? (fun r => r.kind = kind && r.target = target)).map (·.count)).getD 0

/-- The run of a check at a length. -/
def setRun (kind target n : Nat) (s : State) : State :=
  let l := s.test.runs.filter (fun r => !(r.kind = kind && r.target = target))
  { s with test := { s.test with runs := if n = 0 then l else ⟨kind, target, n⟩ :: l } }

/-- A check has failed or passed; the second failure in a row sets 2Ah BIST_ANALOG (R476, R478, R479). -/
def noteRun (kind target : Nat) (fail : Bool) (s : State) : State :=
  if fail then
    let n := min 2 (s.runOf kind target + 1)
    let t := setRun kind target n s
    if n = 2 then faultOccur 0x2A t else t
  else
    let t := setRun kind target 0 s
    faultFollow 0x2A t.analogHolds t

/-- The signature of a slice was wrong, which sets 2Ah at once, or right (R469). -/
def noteSignature (kind target : Nat) (ok : Bool) (s : State) : State :=
  if ok then (let t := setRun (0x20 + kind) target 0 s; faultFollow 0x2A t.analogHolds t)
  else faultOccur 0x2A (setRun (0x20 + kind) target 2 s)

/-! Converter loop-back (R473 to R475). -/

/-- LoopbackGain and LoopbackOffset from the last 8 results (R475), and the drift term that follows (R487). -/
def loopMedians (k : Nat) (s : State) : State :=
  let l := s.loopResults k
  if l.length < 8 then s
  else
    let a := median2 (l.map (·.1))
    let b := median2 (l.map (·.2))
    let t := (s.setI16 (Obj.loopbackGain + k) (roundDiv (10 * (b - a)) 7)).setI16 (Obj.loopbackOffset + k) (roundDiv (8 * a - b) 14)
    driftUpdate k t

/-- A loop-back of converter k (1 to 24, 25, 26) with its errors (R474, R475): the suspect bit, and the confirmed fault. -/
def loopBack (k : Nat) (eL eH : Int) (s : State) : Nat × State :=
  let lim : Int := s.get Obj.loopbackLimit
  let fail := lim < eL.natAbs || lim < eH.natAbs
  let was := bit (s.get Obj.loopbackSuspect) (k - 1)
  let a := { s with test := { s.test with
    hadLoop := true
    loop := (k, ((eL, eH) :: s.loopResults k).take 8) :: s.test.loop.filter (fun p => p.1 != k) } }
  let b := (loopMedians k a).setBitOf Obj.loopbackSuspect (k - 1) fail
  let c := if k ≤ 24 then { b with cells := { b.cells with
      lbFail := setBit b.cells.lbFail (k - 1) fail
      ovlFail := if fail then b.cells.ovlFail else setBit b.cells.ovlFail (k - 1) false } }
    else if fail then b else b.setBitOf (Obj.spareState + (k - 24)) 7 false
  let d := if fail then c else plausibility c
  (if fail then 2 else 1, if fail && was then confirmFault k d else d)

/-! The switch test (R300 to R303). -/

/-- A step scaled to its final value, in 1e-6 uV (R302); `tau` in 0.1 us. -/
def scaleStep (step tau : Nat) : Nat := step * 1000000 * fixOne / (fixOne - fixExpNeg 1800 tau)

/-- SettleStep of cell n, once the steps of the switches that reach it are known (R302). -/
def settleStepOf (n : Nat) (s : State) : State :=
  let from_ (m : Nat) (f : SwitchSteps → Nat) : Option Nat :=
    if m = 0 || s.cellCount < m then some 0 else (s.bal.steps.find? (fun x => x.switch = m)).map f
  if n = 0 || s.cellCount < n then s
  else
    match from_ (n - 1) (·.above), from_ n (·.own), from_ (n + 1) (·.below) with
    | some a, some b, some c => s.set (Obj.settleStep + n) (min 50000 (ceilDiv (11 * (a + b + c)) 100000000 + 10))
    | _, _, _ => s

/-- The steps of switch m are kept, and the three cells' SettleStep follow (R302). -/
def keepSteps (m below own above : Nat) (s : State) : State :=
  let f (k x : Nat) : Nat := if k = 0 || s.cellCount < k then 0 else scaleStep x (s.get (Obj.filterTau + k))
  let x : SwitchSteps := ⟨m, f (m - 1) below, f m own, f (m + 1) above⟩
  let t := { s with bal := { s.bal with steps := x :: s.bal.steps.filter (fun y => y.switch != m) } }
  settleChanged s (settleStepOf (m + 1) (settleStepOf m (settleStepOf (m - 1) t)))

/-- RON in mOhm; a value that does not fit its field is not stated, and free (R301). -/
def ronField (ion von : Nat) (s : State) : Nat × State :=
  let r := roundNat (von * 1000) ion
  if r < 65535 then (r, s) else (s.free 16, s.freeUsed)

/-- ION in 2 mA; a value that does not fit its field is free (R305). -/
def ionField (ion : Nat) (s : State) : Nat × State :=
  let r := roundNat ion 2
  if r < 256 then (r, s) else (s.free 8, s.freeUsed)

/-- The code of R301 for the samples of a switch test; `word` is the latest record of its cell, `at180` the one at E + 180 us. -/
def switchCode (ioff ion voff von word at180 limit : Nat) : Nat :=
  if 5 < ioff then 4
  else if cellBound at180 = 255 then 7
  else if cellBound word != 255 && ((voff * 200 : Nat) : Int) < cellValue word then 5
  else if ion < 5 then 3
  else if 330 < ion then 6
  else if limit * ion < von * 1000 then 2
  else 1

/-- A switch test (R300 to R303), with the record of its cell at E + 180 us: BalSwitchResult, the suspect bit and the lockout, RON and the steps. -/
def switchTest (m at180 ioff ion voff von below own above : Nat) (s : State) : Nat × State :=
  let code := switchCode ioff ion voff von (s.get (Obj.cellResult + m)) at180 (s.get Obj.balRonLimit)
  if code = 7 then (3, s.set (Obj.balSwitchResult + m) 0xFFFF0007)
  else
    let measured := code = 1 || code = 2 || code = 6
    let (ron, a) := if measured then ronField ion von s else (0xFFFF, s)
    let (i, b) := ionField ion a
    let c := (b.set (Obj.balSwitchResult + m) (ron * 65536 + i * 256 + code)).wrap Obj.balTestCount 32
    let d := (if measured then keepRon m ron else id) { c with test := { c.test with hadSwitch := true } }
    let was := bit (d.get Obj.balSwitchSuspect) (m - 1)
    let e := d.setBitOf Obj.balSwitchSuspect (m - 1) (code != 1)
    let f := if code != 1 && was then lockSwitch m e else e
    (if code = 1 then 1 else 2, if measured then keepSteps m below own above f else f)

/-! FILTER and MIRROR (R476 to R478). -/

/-- A FILTER slice of cell n (R476); `sig` says that its signature is right, without which it is FAIL (R469). -/
def filterTest (n : Nat) (sig : Bool) (v0 v1 v2 : Int) (s : State) : Nat × State :=
  let a := v1 - v0
  let b := v2 - v0
  if a.natAbs < 2000 || a * b ≤ 0 then (3, s)
  else
    let l := fixLn a.natAbs b.natAbs
    let x : Int := 800 * fixOne
    if !sig || l ≤ 0 || x < 50 * l || 4000 * l < x then (2, noteRun 5 n true s)
    else (1, settleChanged s ((noteRun 5 n false s).set (Obj.filterTau + n) (roundDiv x l).toNat))

/-- The deviation of a sweep in 10 uV (R478): VALUE minus the middle of the trip voltages at the first changed code and the one below;
`base` is the trip voltage of code 0. -/
def sweepDeviation (v : Int) (base code : Nat) : Int := v - ((base + 1250 * code : Nat) : Int) + 625

/-- The MIRROR results of the preceding 30 days, and MirrorDrift with the codes that follow it (R489, R403). -/
def mirrorDriftUpdate (need : List Nat) (s : State) : State :=
  let l := (need.map (fun d => (d, s.test.supTicks))) ++ s.test.mirrorDev.filter (fun p => s.test.supTicks < p.2 + 30 * day)
  let g := (l.map (·.1)).foldl max 0
  let t := { s with test := { s.test with mirrorDev := l } }
  if t.get Obj.mirrorDrift = g then t else margins (mirrorCodes (t.set Obj.mirrorDrift (min 65535 g)))

/-- The first changed code of a sweep, if it is one of the 16 codes that the sweep runs through (R477). -/
def sweepCode (v : Int) (base : Nat) (code : Option Nat) : Option Nat :=
  let first := (v - (base : Int)) / 1250 - 7
  code.filter (fun c => first ≤ (c : Int) && (c : Int) ≤ first + 15)

/-- A MIRROR slice of cell n (R477, R478); `word` is the record that the sweep used. A sweep without a change states no deviation, and its
field is free. -/
def mirrorSweep (n word : Nat) (disagree : Bool) (ov uv : Option Nat) (s : State) : Nat × State :=
  let v := cellValue word
  let ds := [(sweepCode v 180000 ov).map (sweepDeviation v 180000), (sweepCode v 50000 uv).map (sweepDeviation v 50000)]
  let field (d : Option Int) (s : State) : Nat × State := match d with
    | some x => s.fieldI16 (roundDiv x 10)
    | none => (s.free 16, s.freeUsed)
  let (lo, a) := field (ds.getD 0 none) s
  let (hi, b) := field (ds.getD 1 none) a
  let c := b.set (Obj.mirrorDeviation + n) (hi * 65536 + lo)
  let bad := ds.any (fun d => match d with
    | some x => 4000 < x.natAbs
    | none => true)
  let d := noteRun 6 n bad c
  let again := s.runOf agreementRun n
  let e := setRun agreementRun n (if disagree then again + 1 else 0) d
  let f := if disagree && 1 ≤ again then selfFault 4 e else e
  let need := (ds.filterMap id).map (fun x => ((x.natAbs : Int) + 625 + cellBound word - 2000).toNat)
  (if disagree || bad then 2 else 1, mirrorDriftUpdate (need.map (fun x => ceilDiv x 100)) f)

/-! PHY, sources and Facet (R479). -/

/-- A RING slice: 07h North, 08h South. -/
def phyTest (kind : Nat) (mismatch : Bool) (eye : Option Nat) (s : State) : Nat × State :=
  let a := match eye with
    | some e =>
      let t := s.set (Obj.eyeMargin + (kind - 6)) e
      margins { t with test := { t.test with hadEye := true, eyeDone := setBit t.test.eyeDone (kind - 6) true } }
    | none => s
  (if mismatch then 2 else 1, noteRun kind 0 mismatch a)

/-- A SOURCES slice: a source that fails twice running is shown in SourceStatus until it passes. The sources that the plan has had on are not
tested. -/
def sourceTest (all planOn bad : Nat) (s : State) : Nat × State :=
  let tested := all - (all &&& planOn)
  let t := (bitList tested 48).foldl (fun t i =>
    let u := noteRun 9 i (bit bad i) t
    if !bit bad i then u.setBitOf Obj.sourceStatus i false
    else if u.runOf 9 i = 2 then u.setBitOf Obj.sourceStatus i true
    else u) s
  (if tested &&& bad != 0 then 2 else 1, t)

/-! The evaluation. -/

/-- The result of the measurement of a slice (R469), whose signature is right or not: 1 PASS, 2 FAIL, 3 NOT_RUN. -/
def measured (x : Slice) (sig : Bool) (m : SliceMeas) (s : State) : Nat × State :=
  match m with
  | .loop eL eH => loopBack (if x.kind = 1 then x.target else x.kind + 23) eL eH s
  | .switch a b c d e f g => switchTest x.target x.word a b c d e f g s
  | .filter a b c => filterTest x.target sig a b c s
  | .mirror d o u => mirrorSweep x.target x.word d o u s
  | .phy d e => phyTest x.kind (d || !sig) e s
  | .sources a b => sourceTest a x.planOn b s
  | .facet seen good => if !seen then (3, s) else (if good && sig then 1 else 2, noteRun 10 0 (!(good && sig)) s)

/-- The loop-back of a converter slice runs in full (R473). -/
def Slice.ran (x : Slice) : Bool :=
  3 < x.kind || (match x.loopAt with
    | some t => t + 7104 ≤ x.e + 16 * x.length
    | none => false)

/-- A slice that has carried its token is evaluated and recorded (R469); without its loop-back it is NOT_RUN (R473), and with a wrong signature it
is FAIL whatever it has measured. -/
def evaluate (x : Slice) (o : SliceOut) (s : State) : Nat × State :=
  let (r, t) := if x.ran then measured x o.signature o.m s else (3, s)
  let u := if r = 3 && o.signature then t else noteSignature x.kind x.target o.signature t
  let r' := if !o.signature then 2 else r
  (r', sliceResult x.kind x.target r' true u)

/-! Starts. -/

/-- The least LENGTH of each kind in us (R466). -/
def minLength (kind : Nat) : Nat := [0, 470, 450, 450, 410, 730, 400, 200, 200, 450, 520].getD kind 0

/-- The latest record of a cell carries a valid BOUND. -/
def State.recordValid (s : State) (n : Nat) : Bool := cellBound (s.get (Obj.cellResult + n)) != 255

/-- The spare is FREE, and not under its own loop-back (R471). -/
def State.spareFree (s : State) (k : Nat) : Bool := s.spare k == 0 && !s.test.slices.any (spareSlice k)

/-- The spare that a CONVERTER slice of cell n takes (R471); `named` are the spare bits of its CHANNELS. -/
def State.pickSpare (s : State) (named n : Nat) : Option Nat :=
  let order := if n ≤ 12 then [1, 2] else [2, 1]
  let first := (order.find? (fun k => bit named (k - 1))).getD 1
  if s.spareFree first then some first else if s.spareFree (3 - first) then some (3 - first) else none

/-- A kind's "Runs only when" column, and what R300 and R471 add, on a cell or switch (R466). -/
def State.sliceMay (s : State) (kind n : Nat) : Bool :=
  if kind = 1 then
    !s.faultOn 6 && ((s.channel n == 0 && !bit s.cells.retiring (n - 1)) || s.channel n == 2)
  else if kind = 2 then !s.faultOn 6 && s.spareFree 1
  else if kind = 3 then !s.faultOn 6 && s.spareFree 2
  else if kind = 4 then s.on .bal && !bit s.chopped (n - 1)
  else if kind = 5 then s.on .bal && s.recordValid n
  else if kind = 6 then s.recordValid n && n ≤ s.safe.cells
  else if kind = 7 then s.serving .north
  else if kind = 8 then s.serving .south
  else if kind = 10 then s.get Obj.facetEnable == 1 && !bit (s.get Obj.facetStatus) 1
  else true

/-- The run of slices of a kind that were too short: at 8 the host is asked for a new plan (R490). -/
def noteShort (kind : Nat) (short : Bool) (s : State) : State :=
  let n := ((s.test.shortRun.find? (fun p => p.1 = kind)).map (·.2)).getD 0
  let n' := if short then min 8 (n + 1) else 0
  let t := { s with test := { s.test with shortRun := assocSet s.test.shortRun kind n' } }
  if n' = 8 && n < 8 then event 6 2 (t.set Obj.planRequestStatus (2 * 2 ^ 24)) else t

/-- The block of a slice is taken (R468): switches forced off with the conduction to come, the sweep shown. -/
def takeBlock (sl : Slice) (s : State) : State :=
  let t := { s with test := { s.test with slices := s.test.slices ++ [sl] } }
  if sl.kind = 4 || sl.kind = 5 then
    let (a, b) := if sl.kind = 4 then (3200, 6256) else (6400, 9616)
    forceSwitches { t with cells := { t.cells with tests := ((sl.target, sl.e + a, sl.e + b) :: t.cells.tests).take 12 } }
  else if sl.kind = 6 then { t with safe := { t.safe with sweep := true } }
  else t

/-- What a slice of a kind concerns: S1 or S2 for their own kinds, a cell, channel or switch for kinds 01h and 04h to 06h, nothing for the rest. -/
def sliceTarget (kind n : Nat) : Nat := if kind = 2 then 25 else if kind = 3 then 26 else if 6 < kind then 0 else n

/-- The spare that the retirement of channel n, decided at this very tick, has armed (R152). -/
def State.justRetired (s : State) (n : Nat) : Option Nat :=
  [1, 2].find? (fun k => s.spare k = 1 && s.spareCell k = n && (s.sp k).cover && !(s.sp k).returning && (s.sp k).since = s.clk)

/-- A CONVERTER slice of cell n falls on the tick at which its channel's retirement has armed spare k (R152): the spare that the slice would
take is the cover, whichever of the two came first, and the slice is INCOMPLETE. -/
def sliceOnRetired (k n named : Nat) (s : State) : State :=
  let t := sliceResult 1 n 4 false s
  let other := 3 - k
  let order := if n ≤ 12 then [1, 2] else [2, 1]
  if (order.find? (fun j => bit named (j - 1))).getD 1 = other && t.spareFree other then armSpare other n true (freeSpare k t) else t

/-- A slice runs that the one on a target may not join: another of its kind on the target, or any Mirror sweep, for the comparators of at most one
cell are under test at any instant (R406). -/
def State.sliceBars (s : State) (kind target : Nat) : Bool :=
  s.test.slices.any (fun x => x.kind = kind && (x.target = target || kind = 6))

/-- The slice of a kind on a target starts at the present tick (R466 to R473). -/
def startSlice (kind n named length : Nat) (s : State) : State :=
  let target := sliceTarget kind n
  let sl : Slice := ⟨kind, s.clk, length, target, 0, some (s.clk + 2), s.get (Obj.cellResult + n), if kind = 9 then s.sourcesOn else 0, false⟩
  let notRun := sliceResult kind target 3 false s
  match (s.justRetired n).filter (fun _ => kind = 1 && !s.faultOn 6) with
  | some k => sliceOnRetired k n named s
  | none =>
  if !s.sliceMay kind n || s.sliceBars kind target then notRun
  else if kind != 1 then takeBlock sl s
  else if s.channel n = 2 then
    let mine := s.cells.apertures.filter (fun a => s.shadows a n && s.clk < a.clkStop)
    let t := { s with cells := { s.cells with
      apertures := s.cells.apertures.map (fun a => { a with noShadow := setBit a.noShadow (n - 1) true }) } }
    takeBlock { sl with loopAt := some ((mine.map (·.clkStop)).foldl max (s.clk + 2)) } t
  else
    match s.pickSpare named n with
    | some k => takeBlock { sl with spare := k, loopAt := none } (armSpare k n false s)
    | none => notRun

/-- The check of the foreground set that a SLICE of the sequencer may start now (R482): the next one, or of step 02h the next of either half,
on the tick that R482 gives. -/
def State.setTakes (s : State) (kind target : Nat) : Bool :=
  let next := if kind = 1 then s.test.set.find? (fun x => x.1 != 1 || decide (x.2.1 ≤ 12) = decide (target ≤ 12)) else s.test.set.head?
  next.any (fun x => x.1 = kind && x.2.1 = target) && !s.test.slices.any (fun x => x.kind = kind && x.target = target) &&
    (3 < kind || since48 s.ringTime (s.get Obj.cycleStart) == 14000)

/-- A SLICE in SELFTEST is the sequencer's start of a check of the foreground set (R482; log entry 156): SWITCH with 500 us, FILTER with 750 us,
a converter of 1 to 12 with S1 and one of 13 to 24 with S2; a check that does not run is over. -/
def setSlice (kind n length : Nat) (s : State) : State :=
  let target := sliceTarget kind n
  let len := if kind = 4 then 500 else if kind = 5 then 750 else length
  if !s.setTakes kind target || len < minLength kind then s
  else
    let t := startSlice kind n (if n ≤ 12 then 1 else 2) len s
    if t.test.slices.any (fun x => x.kind = kind && x.target = target) then t
    else setProgress kind target 3 true t

/-- SLICE (R238, R255, R466): in MEASURE, BALANCE, TRANSFER, LOUPE and SAFE, and in SELFTEST of the sequencer, while the core is there. -/
def effSlice (channels param : Nat) (s : State) : State :=
  let kind := param / 2 ^ 24
  let length := sliceLength param
  let n := ((bitList channels 24).head?.map (· + 1)).getD 0
  if !s.planRuns || !s.supReady || kind = 0 || 10 < kind then s
  else if s.modeCode = Mode.selftest then setSlice kind n length s
  else if !s.modeIn (Mode.safeMode :: bankModes) then s
  else
    let short := length < minLength kind
    let t := noteShort kind short s
    if short then sliceResult kind (sliceTarget kind n) 3 false t
    else startSlice kind n (bits channels 24 2) length t

/-- SLICE (R255). -/
def execSlice (dt channels param : Nat) (s : State) : Host.Outcome State Fault Refusal :=
  run (Instr.wf (.slice dt channels param)) dt (effSlice channels param) s

/-! Ends. -/

/-- The token of a converter slice may come before its end: from T + 424 us on, when the converter has been re-initialised (R473; log entry 66). -/
def State.tokenEarly (s : State) (x : Slice) : Bool :=
  x.kind ≤ 3 && !x.told && x.ran && x.loopAt.any (fun t => t + 6784 ≤ s.clk)

/-- A slice ends at E + LENGTH (R467). -/
def State.sliceOver (s : State) (x : Slice) : Bool := x.e + 16 * x.length ≤ s.clk

/-- What a slice has found is recorded: the words that failed at its re-initialisation are read again (R467), and it is evaluated with its token, or is
INCOMPLETE without (R469); a check of the foreground set goes on (R482). -/
def sliceFound (x : Slice) (token : Bool) (o : SliceOut) (s : State) : State :=
  let t := scrubWords o.words s
  let (r, u) := if token then evaluate x o t else (4, sliceResult x.kind x.target 4 false t)
  setProgress x.kind x.target r (match o.m with
    | .phy _ e => e.isSome
    | _ => true) u

/-- SLICE_END (R467, R469): at E + LENGTH the block goes back to normal, and what the slice has found is recorded, unless its token has come
before. -/
def endSlice (kind n : Nat) (token : Bool) (o : SliceOut) (s : State) : State :=
  let target := sliceTarget kind n
  let others := s.test.slices.filter (fun y => !(y.kind = kind && y.target = target))
  match s.test.slices.find? (fun x => x.kind = kind && x.target = target) with
  | none => s
  | some x =>
    if s.sliceOver x then
      let t := { s with test := { s.test with slices := others } }
      exhaustion (sliceRelease x (if x.told then t else sliceFound x token o t))
    else if token && s.tokenEarly x then
      sliceFound x token o { s with test := { s.test with slices := { x with told := true } :: others } }
    else s

/-! The foreground set (R482). -/

/-- SELFTEST_COMPLETE (R482; log entry 156): step 01h has run with what the March test finds, which one that fails repeats at once, or the whole set
has, and the device returns to READY at the next boundary (R93); table words that fail their check as data is moved are read again (R446). -/
def effSelftestComplete (mem again : List MacroMeas) (words : List TableWord) (s : State) : State :=
  if s.modeCode != Mode.selftest || bits (s.get Obj.selftestStatus) 0 4 != 1 || !s.supReady then s
  else
    match s.test.set with
    | [] => stageAuto Mode.ready 6 (s.setField Obj.selftestStatus 0 4 (if bits (s.get Obj.selftestStatus) 24 8 = 0 then 2 else 3))
    | (0, _, _) :: _ =>
      let t := memoryTest mem (setProgress 0 0 1 true (scrubWords words s))
      if bits (t.get Obj.memBistResult) 0 4 != 3 then t
      else
        let u := memoryTest again t
        if bits (u.get Obj.memBistResult) 0 4 = 3 then failedStep 1 u else u
    | _ => s

/-- SELFTEST_COMPLETE (R482). -/
def execSelftestComplete (dt : Nat) (mem again : List MacroMeas) (words : List TableWord) (s : State) : Host.Outcome State Fault Refusal :=
  run (Instr.wf (.selftestComplete dt mem again words)) dt (effSelftestComplete mem again words) s

end Sys2Proof.Machine
end

