-- ==== Sys2Proof/Machine/Ledger.lean ====
section
/-! DEFINITION. The ageing ledger's own events: the hourly reference check (R484), the daily record (R485, R486) and the repeated request
for a new plan (R490). -/

namespace Sys2Proof.Machine

/-- HOURLY_REFERENCE_CHECK: the firmware powers REF_DORMANT (R484). -/
def effHourlyReferenceCheck (s : State) : State :=
  if !s.supReady || !s.on .icx then s
  else { s with test := { s.test with refOn := true, refWarm := false, refTaken := 0, refConv := 0 } }

/-- HOURLY_REFERENCE_CHECK (R484). -/
def execHourlyReferenceCheck (dt : Nat) (s : State) : Host.Outcome State Fault Refusal :=
  run (Instr.wf (.hourlyReferenceCheck dt)) dt effHourlyReferenceCheck s

/-- REF_DORMANT_WARM_UP_END: the 16 conversions are pending for the ADHOC slots (R484). -/
def effRefDormantWarmUpEnd (s : State) : State :=
  if s.test.refOn then { s with test := { s.test with refWarm := true } } else s

/-- REF_DORMANT_WARM_UP_END (R484). -/
def execRefDormantWarmUpEnd (dt : Nat) (s : State) : Host.Outcome State Fault Refusal :=
  run (Instr.wf (.refDormantWarmUpEnd dt)) dt effRefDormantWarmUpEnd s

/-- REF_DORMANT_TIME_LIMIT: the reference powers down, and the hour is missing (R484). -/
def effRefDormantTimeLimit (s : State) : State := if s.test.refOn then refDown s else s

/-- REF_DORMANT_TIME_LIMIT (R484). -/
def execRefDormantTimeLimit (dt : Nat) (s : State) : Host.Outcome State Fault Refusal :=
  run (Instr.wf (.refDormantTimeLimit dt)) dt effRefDormantTimeLimit s

/-- DAILY_LEDGER_RECORD (R485). -/
def effDailyLedgerRecord (s : State) : State := if s.supReady then ledgerRecord false s else s

/-- DAILY_LEDGER_RECORD (R485). -/
def execDailyLedgerRecord (dt : Nat) (s : State) : Host.Outcome State Fault Refusal :=
  run (Instr.wf (.dailyLedgerRecord dt)) dt effDailyLedgerRecord s

/-- PLAN_REQUEST_REPEAT: the request goes out again while a cell's need exceeds its window (R490). -/
def effPlanRequestRepeat (s : State) : State :=
  if s.plan.running != RunningPlan.bank then s
  else
    match s.settleWorst with
    | some (n, _) => planRequest n s
    | none => s

/-- PLAN_REQUEST_REPEAT (R490). -/
def execPlanRequestRepeat (dt : Nat) (s : State) : Host.Outcome State Fault Refusal :=
  run (Instr.wf (.planRequestRepeat dt)) dt effPlanRequestRepeat s

end Sys2Proof.Machine
end

