-- ==== Sys2Proof/Machine/Plan.lean ====
section
/-! DEFINITION. The sampling plan's own course (08_sampling_plan.md): slots and banks (R258 to R263), the cycle boundary with all that falls on
it (R126, R127, R264, R425), entry integrity (R277 to R279). What an entry does stands with its block. -/

namespace Sys2Proof.Machine

/-! Slots and banks. -/

/-- Slot n backs the active bank (1) or the inactive bank (2), or none (0) (R258). -/
def State.backs (s : State) (n : Nat) : Nat :=
  if !s.active.image.isEmpty && s.active.slot = n then 1
  else if !s.inactive.image.isEmpty && s.inactive.slot = n then 2 else 0

/-- The image of a slot. -/
def State.slotImage (s : State) (n : Nat) : List Nat := s.plan.slots.getD n []

/-- PlanSlotInfo of slot n (R283). -/
def State.slotInfo (s : State) (n : Nat) : Nat :=
  let i := s.slotImage n
  s.backs n * 2 ^ 30 + i.getD 5 0 * 2 ^ 16 + i.length

/-- The byte address of plan slot n (R493). -/
def slotAddress (n : Nat) : Nat := 0x30000 + 0x2000 * n

/-- The content of slot n. -/
def setSlot (n : Nat) (image : List Nat) (s : State) : State :=
  { s with plan := { s.plan with slots := s.plan.slots.set n image } }

/-- PlanControl LOAD of slot n (R260). -/
def loadSlot (n : Nat) (s : State) : WriteRes :=
  let image := s.slotImage n
  if image.isEmpty then rejected 1 s
  else if s.plan.switchAt.isSome then rejected 2 s
  else
    let v := bankFault false image s
    let t := showVerdict v s
    if v.isSome then rejected 5 (t.setInactive Bank.empty) else .done (t.setInactive ⟨image, n, true⟩)

/-- PlanControl ERASE of slot n (R258, R260); `ok` says whether the erase verified (R496). -/
def eraseSlot (n : Nat) (ok : Bool) (s : State) : WriteRes :=
  if s.backs n != 0 then rejected 3 s
  else if !ok then .refuse 0x13 0 (slotFault 3 (slotAddress n) s)
  else .done (setSlot n [] s)

/-- A pending switch is cancelled (R260); an entry into SAFE that has waited for it starts the active bank by the second rule of R264. -/
def cancelSwitch (s : State) : State :=
  { s with plan := { s.plan with
      switchAt := none
      startAt := if s.plan.startAt.isSome && s.plan.startAt = s.plan.switchAt then
        (if s.active.valid then some (bankStartTime s.ringTime) else none) else s.plan.startAt } }

/-- A write of PlanControl, whose CMD has been checked (R260, R283): it reads the last command accepted. -/
def writePlanControl (v : Nat) (ok : Bool) (s : State) : WriteRes :=
  let n := bits v 0 2
  let r : WriteRes :=
    match bits v 8 4 with
    | 1 => loadSlot n s
    | 2 => if s.plan.switchAt.isSome then rejected 2 s else .done (s.setInactive Bank.empty)
    | 3 => eraseSlot n ok s
    | 4 => if s.plan.switchAt.isNone then rejected 4 s else .done (cancelSwitch s)
    | _ => .refuse 9 0 s
  match r with
  | .done t => .done (t.set Obj.planControl (bits v 8 4 * 256 + n))
  | x => x

/-- The reason to refuse a PlanSwitch (R262), 0 for none. -/
def switchRefusal (id start : Nat) (s : State) : Nat :=
  let d := since48 start s.ringTime
  if s.inactive.image.isEmpty || !s.inactive.valid then 1
  else if s.inactive.planId != id then 2
  else if d < ms || 2 ^ 32 < d then 3
  else if start % 4 != 0 then 4
  else if s.plan.switchAt.isSome then 5
  else 0

/-- A write of PlanSwitch (R262). -/
def writePlanSwitch (id start : Nat) (s : State) : WriteRes :=
  let r := switchRefusal id start s
  let t := s.set Obj.planSwitchRefusal r
  if r != 0 then rejected r t else .done { t with plan := { t.plan with switchAt := some start } }

/-- A PlanImage write at LAST (R258, R259); `ok` says whether the programming verified (R496). -/
def writePlanImage (image : List Nat) (ok : Bool) (s : State) : WriteRes :=
  let n := s.get Obj.planSlotSelect
  if s.backs n != 0 then rejected 3 s
  else
    let v := writeFault s.safe.cells image
    let t := showVerdict v s
    if v.isSome then rejected 5 t
    else if !ok then .refuse 0x13 0 (slotFault 2 (slotAddress n) t)
    else .done (programRegion (n + 3) (setSlot n image t))

/-! The cycle boundary. -/

/-- The staged writes take effect (R21), the drift terms and the gain drift among them (R487, R488). -/
def applyStaged (s : State) : State :=
  let t := s.staged.foldl (fun u p =>
    let v := u.set p.1 p.2
    if p.1 = Obj.shuntTempSource then adoptShuntSource v else v) s
  let u := { t with staged := [], cur := { t.cur with gainDrift := t.cur.gainNext } }
  if s.staged.isEmpty then u else margins u

/-- What belongs to the plan cycle that ends goes (R179, R222, R463), and the snapshots of the cycle before it (R442). -/
def endCycle (s : State) : State :=
  { newWindow s with
    mode := { s.mode with autoTaken := false }
    cells := { s.cells with
      cycleVals := List.replicate 24 none
      openRef := List.replicate 24 none
      apertures := s.cells.apertures.map (fun a => { a with age := a.age + 1 })
      snapshots := (s.cells.snapshots.filter (fun x => x.age = 0)).map (fun x => { x with age := 1 }) }
    aux := { s.aux with cycleRes := [], pullRef := [] }
    test := if s.supReady then
        { s.test with steerSum := s.test.steerSum + s.getInt Obj.frequencySteer 32, steerN := s.test.steerN + 1 }
      else s.test }

/-- The count and the length of the cycle that starts now (R126, R127, R130, R264). The head's schedule is taken up; the ROM minimal plan
takes one that its 1 ms grid allows. -/
def State.nextCycle (s : State) : Nat × Nat :=
  let lc := s.planLc
  let bank := s.plan.running == RunningPlan.bank
  match s.time.adopt.filter (fun p => bank || p.2 % ms = 0) with
  | some (c, s2) =>
    let n := roundDiv (signed48 s2 s.ringTime) lc
    (ofInt 32 ((c : Int) - n), since48 (ofInt 48 ((s2 : Int) - (n - 1) * lc)) s.ringTime)
  | none =>
    let k := (s.cycle + 1) % 2 ^ 32
    let adj := if s.time.adjCycle = k then s.time.pendingAdj else 0
    (k, if bank then ((lc : Int) + adj).toNat else romCycle s.ringTime)

/-- The next cycle of the running plan starts (R126, R127). -/
def startCycle (s : State) : State :=
  let (k, len) := s.nextCycle
  let t := (s.set Obj.cycleStart s.ringTime).set Obj.cycleCount k
  { t with time := { t.time with
      phi := t.time.edgeAt.map (fun e => signed48 e t.ringTime)
      cycleLen := len, counted := false, adopt := none, pendingAdj := if t.time.adjCycle = k then t.time.pendingAdj else 0 } }

/-- A bank is withdrawn (R277): 25h loses its condition with it. -/
def withdrawBank (e : Nat) (s : State) : State :=
  faultFollow 0x25 false (rejectBank 0x1A e { s with plan := { s.plan with withdraw := none, refetch := [] } })

/-- A start time has come (R111). -/
def State.due (s : State) (t : Option Nat) : Bool :=
  match t with
  | some x => !later48 x s.ringTime
  | none => false

/-- The active bank starts at this boundary of the ROM minimal plan, which goes on with its next cycle when the start fails (R264, R276). -/
def startFromRom (s : State) : State :=
  if (bankFault true s.active.image s).isSome then startBank (startCycle s) else startBank s

/-- A bank is withdrawn, the active bank starts at its S0, or the running plan goes on with its next cycle (R126, R264, R277). A start that
falls on a pending switch is BANK_SWITCH's. -/
def nextPlanCycle (s : State) : State :=
  match s.plan.withdraw, s.plan.running with
  | some e, .rom => startCycle (withdrawBank e s)
  | some e, _ => withdrawBank e s
  | none, .rom => if s.due s.plan.startAt && s.plan.startAt != s.plan.switchAt then startFromRom s else startCycle s
  | none, _ => startCycle s

/-- A plan cycle has started, so that a regular record is due (R425). When a request or a switch takes effect at the same instant, the
record waits for it. -/
def cycleRecord (s : State) : State :=
  if !s.planRuns then { s with safe := { s.safe with record := 0 } }
  else recordAt (if s.due s.plan.switchAt || s.mode.staged.isSome then 2 else 1) s

/-- A node that does not take SYNC in keeps nothing of its edges (R27, R131). -/
def syncRest (s : State) : State :=
  if syncOn s then s
  else { s.set Obj.syncStatus 0 with time := { s.time with edges := [], edgeAt := none, edgeRun := 0, missRun := 0, phi := none } }

/-- The entries of the bank that lie beyond the end of a cycle that ends now are skipped and counted (R127, R280), but for those that a step has
counted (R120). -/
def countSkipped (s : State) : State :=
  if s.plan.running != RunningPlan.bank || s.time.counted then s
  else
    let n := s.entriesAfter (since48 s.ringTime (s.get Obj.cycleStart) - 1)
    s.set Obj.planSkipCount (sat (2 ^ 32 - 1) (s.get Obj.planSkipCount + n))

/-- PLAN_CYCLE_BOUNDARY: staged writes, the cycle's evaluations, the next cycle, automatic transitions, and the regular safety record (R21, R93,
R126, R280, R425, R426); table words that fail their check at the uses of the boundary are read again (R446). -/
def effPlanCycleBoundary (words : List TableWord) (s0 : State) : State :=
  if !s0.planRuns || !s0.on .rng then s0
  else
    let s := scrubWords words s0
    let k := s.cycle
    let b := compareSafety k (reinstateAll (applyStaged (endCycle (countSkipped s))))
    marginsFollow (cycleRecord (boundaryModes (syncRest (nextPlanCycle b))))

/-- PLAN_CYCLE_BOUNDARY (R126). -/
def execPlanCycleBoundary (dt : Nat) (words : List TableWord) (s : State) : Host.Outcome State Fault Refusal :=
  run (Instr.wf (.planCycleBoundary dt words)) dt (effPlanCycleBoundary words) s

/-- An image holds an XFER_ON (R328). -/
def hasXferOn (image : List Nat) : Bool := (imageEntries image).any (fun e => entryAction e = 0x0A)

/-- BANK_SWITCH (R263 to R265, R328): under a bank the new bank starts at once; under the ROM minimal plan the roles swap, and a mode that has
waited for the switch takes effect with it. -/
def effBankSwitch (s : State) : State :=
  if s.plan.switchAt.isNone then s
  else
    match s.plan.running with
    | .bank =>
      let t := if s.sessionNow && !hasXferOn s.inactive.image then endTransfer 9 s else s
      cycleRecord (marginsFollow (startBank (swapBanks t)))
    | .rom =>
      match s.mode.staged with
      | some m => cycleRecord (if runsBank m then marginsFollow (moveSwapped m s) else swapBanks s)
      | none => cycleRecord (if s.plan.startAt = s.plan.switchAt then marginsFollow (startBank (swapBanks s)) else swapBanks s)
    | .none => swapBanks s

/-- BANK_SWITCH (R263). -/
def execBankSwitch (dt : Nat) (s : State) : Host.Outcome State Fault Refusal :=
  run (Instr.wf (.bankSwitch dt)) dt effBankSwitch s

/-! Entry integrity. -/

/-- Entry e belongs to the bank that runs; FFFFh stands for a header or table word (R277). -/
def State.hasEntry (s : State) (e : Nat) : Bool :=
  s.plan.running == RunningPlan.bank && (e < leAt s.active.image 6 2 || e == 0xFFFF)

/-- PLAN_ENTRY_FETCH (R277): an entry that fails its checks is read again from the backing slot. -/
def effPlanEntryFetch (e : Nat) (ok : Bool) (s : State) : State :=
  if ok || !s.hasEntry e || s.plan.refetch.contains e then s
  else { s with plan := { s.plan with refetch := s.plan.refetch ++ [e] } }

/-- PLAN_ENTRY_FETCH (R277). -/
def execPlanEntryFetch (dt entry : Nat) (wordsOk : Bool) (s : State) : Host.Outcome State Fault Refusal :=
  run (Instr.wf (.planEntryFetch dt entry wordsOk)) dt (effPlanEntryFetch entry wordsOk) s

/-- 25h PLAN_INTEGRITY: the bank is withdrawn at the next boundary, for the first entry found so (R277). -/
def planIntegrity (e : Nat) (s : State) : State :=
  let t := faultOccur 0x25 s
  { t with plan := { t.plan with withdraw := t.plan.withdraw <|> some e } }

/-- ENTRY_REFETCH_COMPLETE (R277): a good copy in time cures the bank and counts. -/
def effEntryRefetchComplete (e : Nat) (ok inTime : Bool) (s : State) : State :=
  if !s.plan.refetch.contains e then s
  else
    let t := { s with plan := { s.plan with refetch := s.plan.refetch.filter (· != e) } }
    if !ok then planIntegrity e t else if inTime then t.count Obj.planRefetchCount 32 else t

/-- ENTRY_REFETCH_COMPLETE (R277). -/
def execEntryRefetchComplete (dt entry : Nat) (ok inTime : Bool) (s : State) : Host.Outcome State Fault Refusal :=
  run (Instr.wf (.entryRefetchComplete dt entry ok inTime)) dt (effEntryRefetchComplete entry ok inTime) s

/-- LATE_ENTRY (R278, R280): the outputs of the plan close, the counts rise and 26h sets. -/
def effLateEntry (e : Nat) (s : State) : State :=
  if !s.hasEntry e then s
  else faultPulse 0x26 (((closeOutputs s).count Obj.planLateCount 32).count Obj.planSkipCount 32)

/-- LATE_ENTRY (R278). -/
def execLateEntry (dt entry : Nat) (s : State) : Host.Outcome State Fault Refusal :=
  run (Instr.wf (.lateEntry dt entry)) dt (effLateEntry entry) s

/-- What the scrubber found in the active bank, entry by entry, FFFFh for a header or table word (R279): a fault cured from NVM counts; a lasting
one withdraws the bank. -/
def scrubActive : List (Nat × Bool) → State → State
  | [], s => s
  | (e, cured) :: l, s =>
    scrubActive l (if s.active.image.isEmpty then s else if cured then s.count Obj.planRefetchCount 32 else planIntegrity e s)

/-- What it found in the inactive bank: a lasting fault empties the bank, with no change of mode (R279). -/
def scrubInactive : List (Nat × Bool) → State → State
  | [], s => s
  | (e, cured) :: l, s =>
    scrubInactive l (if s.inactive.image.isEmpty then s
      else if cured then s.count Obj.planRefetchCount 32
      else faultPulse 0x25 ((showVerdict (some (0x1A, e)) s).setInactive Bank.empty))

/-- PLAN_SCRUB_PASS (R279). -/
def effPlanScrubPass (active inactive : List (Nat × Bool)) (s : State) : State :=
  if !s.on .rng then s else scrubInactive inactive (scrubActive active (s.wrap Obj.scrubPassCount 32))

/-- PLAN_SCRUB_PASS (R279). -/
def execPlanScrubPass (dt : Nat) (active inactive : List (Nat × Bool)) (s : State) : Host.Outcome State Fault Refusal :=
  run (Instr.wf (.planScrubPass dt active inactive)) dt (effPlanScrubPass active inactive) s

end Sys2Proof.Machine
end

