-- ==== Sys2Proof/Machine/Faults.lean ====
section
/-! DEFINITION. How a fault source leaves its state (R459 to R463): the quiet period, the recovery window, the host's clear with its
collisions, and the read that clears a transfer source (R332). How a source sets stands in Machine/Actions.lean. -/

namespace Sys2Proof.Machine

/-- One more recovery of a source (R460). -/
def recovered (c : Nat) (s : State) : State := s.count (faultObj Obj.faultRecoveryCount c) 8

/-- The quiet period of source c has run out without interruption: FaultQuietPeriod has passed since it started, or since the recurrence that
restarted it (R460, R463). -/
def State.quietOver (s : State) (c : Nat) : Bool :=
  match s.flt.quietAt.find? (fun p => p.1 = c) with
  | some (_, t) => bit s.flt.quiet c && t + s.get (faultObj Obj.faultQuietPeriod c) * ms ≤ s.clk
  | none => false

/-- QUIET_PERIOD_END: the status clears and the recovery counts (R460). -/
def effQuietPeriodEnd (c : Nat) (s : State) : State :=
  if s.faultOn c && s.quietOver c && !bit s.flt.latched c then recovered c (faultClear c true s) else s

/-- QUIET_PERIOD_END (R460). -/
def execQuietPeriodEnd (dt source : Nat) (s : State) : Host.Outcome State Fault Refusal :=
  run (Instr.wf (.quietPeriodEnd dt source)) dt (effQuietPeriodEnd source) s

/-- RECOVERY_WINDOW_END: the count of a clear source falls by 1 (R460). -/
def effRecoveryWindowEnd (c : Nat) (s : State) : State :=
  let k := faultObj Obj.faultRecoveryCount c
  if s.faultOn c then s else s.set k (s.get k - 1)

/-- RECOVERY_WINDOW_END (R460). -/
def execRecoveryWindowEnd (dt source : Nat) (s : State) : Host.Outcome State Fault Refusal :=
  run (Instr.wf (.recoveryWindowEnd dt source)) dt (effRecoveryWindowEnd source) s

/-- The reason to refuse a clear of a source that is set (R462), 0 for none. -/
def State.clearRefusal (s : State) (c : Nat) : Nat :=
  if 0x12 ≤ c && c ≤ 0x15 then 3
  else if bit s.flt.cond c || (c = 0x10 && s.get Obj.balLockout != 0) then 1
  else if (c = 0x21 && !s.srqCycleDone) || (c = 0x23 && !s.safe.staticOk) then 2
  else 0

/-- A clear by the host reaches the register of a set source (R462, R463): a setting earlier in the same window wins; a latched source
loses its count, another Q source counts a recovery. -/
def hostClear (c : Nat) (s : State) : State :=
  if bit s.flt.setIn c then faultCollision c s
  else
    let k := faultObj Obj.faultRecoveryCount c
    let t := faultClear c false s
    let u := if bit s.flt.latched c && faultKindQ c then t.set k 0 else if faultKindQ c then recovered c t else t
    { u with flt := { u.flt with clearedIn := setBit u.flt.clearedIn c true } }

/-- A write of FaultStatus (R457, R462). -/
def writeFaultStatus (c v : Nat) (s : State) : WriteRes :=
  if v != 0 then .refuse 9 0 s
  else if !s.faultOn c then .done s
  else
    let r := s.clearRefusal c
    if r != 0 then rejected r s else .done (hostClear c s)

/-- What a read of FaultStatus leaves (R332): 12h to 15h clear after the response, once their condition has ended. -/
def readFaultStatus (c : Nat) (s : State) : State :=
  if 0x12 ≤ c && c ≤ 0x15 && s.faultOn c && !bit s.flt.cond c then hostClear c s else s

end Sys2Proof.Machine
end

