-- ==== Sys2Proof/Machine/Integrity.lean ====
section
/-! DEFINITION. The CRC engine (R448, R449), the alive-counter checker (R451, R452) and the table scrubber (R446). -/

namespace Sys2Proof.Machine

/-! The CRC engine. -/

/-- WIDTH of a CrcConfig. -/
abbrev crcWidth (cfg : Nat) : Nat := bits cfg 0 6

/-- CrcResult shows the value of the bytes fed since START (R448). -/
def showCrc (s : State) : State :=
  let k := s.check
  s.set Obj.crcResult (crcOut (crcWidth k.crcConfig) (bit k.crcConfig 17) k.crcXorOut k.crcReg)

/-- A write of CrcControl (R448, R449): START latches the parameters and loads the register. -/
def writeCrcControl (v : Nat) (s : State) : WriteRes :=
  let w := crcWidth (s.get Obj.crcConfig)
  if v != 1 then .refuse 9 0 s
  else if 2 ^ w ≤ s.get Obj.crcPoly then rejected 1 s
  else
    .done (showCrc { s.set Obj.crcByteCount 0 with check := { s.check with
      crcConfig := s.get Obj.crcConfig
      crcPoly := s.get Obj.crcPoly
      crcXorOut := s.get Obj.crcXorOut
      crcReg := s.get Obj.crcInit % 2 ^ w
      crcStarted := true } })

/-- A write of CrcData (R448, R449). -/
def writeCrcData (bs : List Nat) (s : State) : WriteRes :=
  if !s.check.crcStarted then rejected 2 s
  else
    let k := s.check
    let r := crcFeed (crcWidth k.crcConfig) k.crcPoly (bit k.crcConfig 16) k.crcReg bs
    let t := { s with check := { k with crcReg := r } }
    .done (showCrc (t.set Obj.crcByteCount ((t.get Obj.crcByteCount + bs.length) % 2 ^ 32)))

/-! The alive-counter checker. -/

/-- WIDTH of AliveConfig. -/
abbrev aliveWidth (cfg : Nat) : Nat := bits cfg 0 5

/-- A write of AliveConfig (R451, R452): a new baseline, and no outcome since. -/
def writeAliveConfig (v : Nat) (s : State) : WriteRes :=
  let w := aliveWidth v
  let step := bits v 16 16
  if w < 4 || 16 < w || step = 0 || 2 ^ w ≤ step then .refuse 9 0 s
  else
    let t := s.set Obj.aliveConfig v
    .done { t.set Obj.aliveResult (bits (t.get Obj.aliveResult) 16 16 * 2 ^ 16) with check := { t.check with baseline := true } }

/-- The outcome of a value (R451): 1 OK, 2 REPEAT, 3 JUMP. -/
def State.aliveOutcome (s : State) (v : Nat) : Nat :=
  let cfg := s.get Obj.aliveConfig
  let w := aliveWidth cfg
  let step := bits cfg 16 16
  let d := (v + 2 ^ 16 - bits (s.get Obj.aliveResult) 16 16) % 2 ^ w
  if s.check.baseline then 1
  else if d = 0 then 2
  else if d % step = 0 && d ≤ step * (bits cfg 8 8 + 1) then 1
  else 3

/-- A write of AliveInput (R451, R452). -/
def writeAliveInput (v : Nat) (s : State) : WriteRes :=
  if 2 ^ aliveWidth (s.get Obj.aliveConfig) ≤ v then .refuse 9 0 s
  else
    let o := s.aliveOutcome v
    let t := (s.set Obj.aliveResult (v * 2 ^ 16 + num s.check.baseline * 8 + o)).wrap (Obj.aliveCounts + o) 32
    .done { t with check := { t.check with baseline := false } }

/-! The table scrubber. -/

/-- CAL_SCRUB_PASS (R446). -/
def effCalScrubPass (words : List TableWord) (s : State) : State :=
  if !s.on .rng then s else resultIntegrity (scrubWords words (s.wrap Obj.calScrubPassCount 32))

/-- CAL_SCRUB_PASS (R446). -/
def execCalScrubPass (dt : Nat) (words : List TableWord) (s : State) : Host.Outcome State Fault Refusal :=
  run (Instr.wf (.calScrubPass dt words)) dt (effCalScrubPass words) s

end Sys2Proof.Machine
end

