-- ==== Sys2Proof/Machine/Update.lean ====
section
/-! DEFINITION. Firmware update (R503 to R515): the reception and programming of an image row by row, its validation, and the commands of
UpdateControl. The choice of an image at a start stands in Machine/Boot.lean. -/

namespace Sys2Proof.Machine

/-! Images and slots. -/

/-- SECURITY_VERSION of a slot's image (R504); that of the factory image is the part's own (log entry 16). -/
def fwSecurity (f : FwSlot) : Nat :=
  if f.image.isEmpty then (if f.written then Config.factorySecurity.toNat else 0) else leAt f.image 12 2

/-- MAGIC, KEY and the reserved bytes of a header are right (R504, R509). -/
def headerOk (im : List Nat) : Bool :=
  im.take 4 == [0x53, 0x46, 0x57, 0x31] && im.getD 18 0 ≤ 1 && im.getD 19 0 == 0 && leAt im 28 4 == 0

/-- FirmwareSlotInfo of a slot (R515). -/
def State.fwInfo (s : State) (b : Bool) : Nat :=
  let f := s.fwSlot b
  let valid := if f.image.isEmpty then f.written else 128 ≤ f.image.length && headerOk f.image
  fwSecurity f * 2 ^ 16 + f.seq % 256 * 2 ^ 8 + num (s.nvm.runningB == b) * 2 ^ 7 + num f.revoked * 2 ^ 5 + num f.confirmed * 2 ^ 4 +
    num f.trialBooted * 2 ^ 3 + num f.trial * 2 ^ 2 + num f.written * 2 + num valid

/-- FirmwareSlotVersion of a slot (R515). -/
def State.fwVersion (s : State) (b : Bool) : Nat :=
  let f := s.fwSlot b
  if f.image.isEmpty then (if f.written then Config.factoryVersion.toNat else 0) else leAt f.image 8 4

/-- UpdateStatus STATE (R515). -/
def State.updStage (s : State) : Nat := bits (s.get Obj.updateStatus) 8 8

/-! Markers (R505, R506). -/

/-- The byte address of a word of a marker row (R493, R505). -/
def markerAddress (b : Bool) (word : Nat) : Nat := (if b then 0x18000 else 0) + 0x17F00 + 8 * word

/-- The record by which the journal tells the programming of a marker before it happens (R506; log entry 145). -/
def markRecord (b : Bool) (word : Nat) (s : State) : LogRec := journalRecord s.journal (0x80 + 8 * num b + word)

/-- The programming of a marker is requested, after its record. -/
def requestMarker (b : Bool) (word : Nat) (s : State) : State :=
  requestOp ⟨2, markerAddress b word, .marker b word⟩ (requestRecord (markRecord b word s) s)

/-- A marker is programmed at once, after its record. -/
def writeMarker (b : Bool) (word : Nat) (s : State) : State := setMarker b word (writeRecord (markRecord b word s) s)

/-- The programming of a marker fails twice, after its record (R496). -/
def markerFails (b : Bool) (word : Nat) (s : State) : State := slotFault 2 (markerAddress b word) (writeRecord (markRecord b word s) s)

/-! Validation. -/

/-- The first check of R509 that a slot with `n` bytes received from offset 0 fails, 0 for none; 08h stands apart. -/
def imageFault (im : List Nat) (n floor : Nat) : Nat :=
  if leAt im 4 4 != n then 1
  else if !headerOk im then 2
  else if crc32c (im.drop 128) != leAt im 24 4 then 3
  else if sha256 (im.take 32 ++ im.drop 128) != (im.drop 32).take 32 then 4
  else if !Config.signatureOk im then 5
  else if leAt im 12 2 < floor then 6
  else if Config.romVersion.toNat < leAt im 16 2 then 7
  else 0

/-- The code of R509 for the slot as it is read back. -/
def State.readBackFault (s : State) : Nat :=
  imageFault (s.fwSlot s.target).image s.nvm.received.length (s.get Obj.securityVersionFloor)

/-- What an update has requested of the controller and not started is given up (R495; log entry 153). -/
def dropUpdateOps (s : State) : State := { s with nvm := { s.nvm with queue := s.nvm.queue.filter (fun o => !o.work.ofUpdate) } }

/-- The journal of an update that is over closes (log entry 145). -/
def closeJournal (s : State) : State := if s.journal.isSome then requestRecord journalClose s else s

/-- The update is refused with a code of R509; the target is to be written anew. -/
def rejectImage (code : Nat) (s : State) : State :=
  let t := ((updateState 8 (closeJournal (dropUpdateOps s))).setField Obj.updateStatus 24 8 code).set Obj.updateProgrammed 0
  { t with nvm := { t.nvm with received := [], segs := [], programmed := 0, erased := 0, final := false, length := 0 } }

/-- WRITTEN stands, and STATE becomes VERIFIED (R509). -/
def imageVerified (s : State) : State :=
  let t := closeJournal ((updateState 3 s).setField Obj.updateStatus 24 8 0)
  let u := t.set Obj.updateProgrammed s.nvm.received.length
  { u with nvm := { u.nvm with final := false } }

/-- The checks of R509 and, of a slot that passes, SEQ and WRITTEN, in one command: the state, and whether the slot has passed; `programOk` is
false when a program or an erase failed twice. -/
def validateImage (programOk : Bool) (s : State) : State × Bool :=
  let c := s.readBackFault
  let c' := if c = 0 && !programOk then 8 else c
  if c' = 0 then (imageVerified (writeMarker s.target 1 (writeMarker s.target 0 s)), true) else (rejectImage c' s, false)

/-! Programming, one operation at a time (R495, R508). -/

/-- An operation of the update is in progress or requested. -/
def State.updateBusy (s : State) : Bool := (s.nvm.op.toList ++ s.nvm.queue).any (·.work.ofUpdate)

/-- The next operation of an update that receives: the erase of a sector whose first byte has come, the program of a row that is full or the
last, and after the last, once its sector is in the journal, the read-back, in STATE VERIFYING (R508, R509). -/
def updateNext (s : State) : State :=
  let n := s.nvm
  let p := n.programmed
  let r := n.received.length
  let base := fwBase s.target
  if s.updStage != 1 || s.updateBusy then s
  else if n.final && p = r then
    (if s.requestedRecs.any (fun x => x.stream = 4) then s else requestOp ⟨1, base, .update []⟩ (updateState 2 s))
  else if p < r && n.erased * 4096 ≤ p then requestOp ⟨4, base + n.erased * 4096, .update []⟩ s
  else if p + 256 ≤ r || (n.final && p < r) then requestOp ⟨3, base + p, .update ((n.received.drop p).take 256)⟩ s
  else s

/-- The answer to SEG_DATA of FirmwareImage (R50). -/
def segmentDone (o : OwedAnswer) (s : State) : State := answer o.c 5 0x1010 0 (leBytes 2 o.seq) s

/-- The buffers, of which there are two, that some segments occupy, each until no full row of it is left to program (R508). -/
def buffersUsed (programmed : Nat) (segs : List Nat) : Nat := (segs.filter (fun e => programmed + 256 ≤ e)).length

/-- A segment that has waited for a buffer is answered (R508). -/
def payOwed (s : State) : State :=
  match s.nvm.owed with
  | some o =>
    if !o.last && buffersUsed s.nvm.programmed s.nvm.segs.dropLast < 2 then segmentDone o { s with nvm := { s.nvm with owed := none } }
    else s
  | none => s

/-- A sector of the target has been erased. -/
def sectorErased (s : State) : State := { s with nvm := { s.nvm with erased := s.nvm.erased + 1 } }

/-- A row of the target has been programmed: a sector that is complete with it, and verified, enters the journal (R509). -/
def rowProgrammed (s : State) : State :=
  let n := s.nvm
  let p := min n.received.length (n.programmed + 256)
  let u := programRegion (1 + num s.target) { s with nvm := { n with programmed := p, segs := n.segs.filter (fun e => p < e) } }
  payOwed (if p % 4096 = 0 || (n.final && p = n.received.length) then
    requestRecord (journalRecord (some ⟨num s.target, n.length, ceilDiv p 4096⟩) 0) u
  else u)

/-- The LAST that waits is answered with the outcome of the validation (R509). -/
def answerLast (ok : Bool) (s : State) : State :=
  match s.nvm.owed with
  | some o =>
    let u := { s with nvm := { s.nvm with owed := none } }
    if ok then segmentDone o u else abort o.c 5 0x1010 0 0x0A 5 u
  | none => s

/-- The read-back is over: the checks run; a slot that passes receives SEQ and WRITTEN (R505, R509). -/
def readBack (s : State) : State :=
  let c := s.readBackFault
  if c = 0 then requestMarker s.target 1 (requestMarker s.target 0 s) else answerLast false (rejectImage c s)

/-- A program or erase of the target has failed twice (R496, R509 08h): the segment that waits is refused. -/
def programFailed (kind addr : Nat) (s : State) : State :=
  let t := rejectImage 8 (slotFault kind addr s)
  match s.nvm.owed with
  | some o =>
    let u := { t with nvm := { t.nvm with owed := none } }
    if o.last then abort o.c 5 0x1010 0 0x0A 5 u else abort o.c 5 0x1010 0 0x13 0 u
  | none => t

/-! The segmented write of FirmwareImage. -/

/-- Why SEG_WRITE_START of FirmwareImage is refused, as code and DETAIL (R504, R507, R508, R510); the lengths come first (R553). -/
def fwStartRefusal (total : Nat) (s : State) : Option (Nat × Nat) :=
  let off := s.get Obj.firmwareWriteOffset
  let len := (s.journal.map (·.length)).getD 0
  if off = 0 && (total < 256 || 98048 < total || total % 8 != 0) then some (8, 0)
  else if off != 0 && total + off != len then some (8, 0)
  else if s.modeCode != Mode.update then some (0x0A, 1)
  else if s.inTrial then some (0x0A, 2)
  else if off != s.get Obj.updateProgrammed then some (0x0A, 4)
  else none

/-- The reception of an image of a total starts, from FirmwareWriteOffset on (R508). -/
def fwStart (total : Nat) (s : State) : State :=
  let off := s.get Obj.firmwareWriteOffset
  let t := updateState 1 (dropUpdateOps s)
  if off = 0 then
    let u := closeJournal t
    { u with nvm := { u.nvm with
        length := total, received := [], segs := [], programmed := 0, erased := 0, final := false, owed := none } }
  else { rewind t with nvm := { (rewind t).nvm with length := off + total } }

/-- A segment of the image (R508): it is buffered and answered, its answer waits while both buffers are full, or a broadcast segment that
finds them full ends the transfer; the last one is answered after validation (R509). True: nothing is owed. -/
def fwSegment (o : OwedAnswer) (payload : List Nat) (s : State) : State :=
  let n := s.nvm
  let full := 2 ≤ buffersUsed n.programmed n.segs
  if full && isBroadcast o.c then
    let t := interruptUpdate s
    { t with port := { t.port with writeXfer := none } }
  else
    let all := n.received ++ payload
    let t := { s with nvm := { n with received := all, segs := n.segs ++ [all.length], final := o.last } }
    if o.last || full then updateNext { t with nvm := { t.nvm with owed := some o } } else updateNext (segmentDone o t)

/-- An operation of an update that is still in progress comes to its end (R495). -/
def finishUpdateOp (s : State) : State :=
  match s.nvm.op.filter (fun o => o.work.ofUpdate) with
  | some o => opDone o { s with nvm := { s.nvm with op := none } }
  | none => s

/-- The sectors from number `a` to `b`, one after the other, enter the journal (R509). -/
def journalSectors (a b : Nat) (s : State) : State :=
  ((List.range (b - a)).map (· + a + 1)).foldl
    (fun t d => writeRecord (journalRecord (some ⟨num t.target, t.nvm.length, d⟩) 0) t) s

/-- A whole image at once, as the row FIRMWARE_IMAGE_WRITE gives it: every sector erased, programmed and journaled, then the checks of R509;
`ok` says whether every operation verified (R496). -/
def writeFirmware (im : List Nat) (ok : Bool) (s0 : State) : WriteRes :=
  let s := finishUpdateOp s0
  match fwStartRefusal im.length s with
  | some (c, d) => .refuse c d s0
  | none =>
    let a := fwStart im.length s
    let all := a.nvm.received ++ im
    let b := a.setFwSlot a.target { FwSlot.erased with image := all }
    let n := ceilDiv all.length 4096
    let c := { b with nvm := { b.nvm with received := all, segs := [], programmed := all.length, erased := n, final := true } }
    let d := if ok then programRegion (1 + num c.target) (journalSectors a.nvm.erased n c) else slotFault 2 (fwBase c.target) c
    let (t, pass) := validateImage ok d
    if pass then .done t else rejected 5 t

/-! UpdateControl (R510). -/

/-- A restart of the SUP domain that an accepted command asks for acts once its answer has been sent: code 1 of ResetReq with an automatic
transition out of UPDATE (R93), code 2 without. -/
def askRestart (code : Nat) (s : State) : State := { s with port := { s.port with resetReq := some ⟨code, none⟩ } }

/-- The update sequence ends: the power-on sequence runs from the SUP start, and the first mode follows with CAUSE 08h (R93). -/
def updateEnds (s : State) : State :=
  let t := restartSup s
  { t with mode := { t.mode with auto := some ⟨Mode.ready, 8⟩ } }

/-- The restart that UpdateControl has asked for. -/
def updateRestart (s : State) : State :=
  match s.port.resetReq with
  | some r =>
    if r.code = 1 then updateEnds { s with port := { s.port with resetReq := none } }
    else if r.code = 2 then restartSup { s with port := { s.port with resetReq := none } }
    else s
  | none => s

/-- REVOKED is programmed on the running slot (R510, R511). -/
def revokeRunning (s : State) : State := writeMarker s.nvm.runningB 5 s

/-- CONFIRM (R510, R513): the floor takes a higher SECURITY_VERSION, and the other slot is revoked when it lies below. -/
def confirmImage (s : State) : State :=
  let b := s.nvm.runningB
  let f := s.fwSlot b
  let t := updateState 6 (writeMarker b 4 s)
  let u := { t with nvm := { t.nvm with trialAt := none } }
  let v := fwSecurity f
  if u.get Obj.securityVersionFloor < v then
    let w := u.keep Obj.securityVersionFloor v
    let g := w.fwSlot (!b)
    if (g.written || !g.image.isEmpty) && fwSecurity g < v then writeMarker (!b) 5 w else w
  else u

/-- A command of UpdateControl that programs a marker: with `ok` it has its effect, without, the marker has failed twice (R496). -/
def markerCommand (ok b : Bool) (word : Nat) (t s : State) : WriteRes :=
  if ok then .done t else .refuse 0x13 0 (markerFails b word s)

/-- A write of UpdateControl (R510); `ok` says whether the NVM takes what it programs. -/
def writeUpdateControl (v : Nat) (ok : Bool) (s : State) : WriteRes :=
  let upd := s.modeCode = Mode.update
  match v with
  | 1 =>
    if !upd then rejected 1 s
    else if s.updStage != 3 then rejected 3 s
    else markerCommand ok s.target 2 (askRestart 1 (writeMarker s.target 2 s)) s
  | 2 => if !upd then rejected 1 s else .done (askRestart 1 s)
  | 3 =>
    if !upd then rejected 1 s
    else if s.updStage != 4 || s.journal.map (·.length) != some (s.get Obj.updateProgrammed) then rejected 3 s
    else
      let a := finishUpdateOp s
      let (t, pass) := validateImage ok (if ok || a.readBackFault != 0 then a else markerFails a.target 0 a)
      if pass then .done t else rejected 5 t
  | 4 => if !s.inTrial then rejected 6 s else markerCommand ok s.nvm.runningB 4 (confirmImage s) s
  | 5 => if !s.inTrial then rejected 6 s else markerCommand ok s.nvm.runningB 5 (askRestart 2 (revokeRunning s)) s
  | _ => .refuse 9 0 s

/-- UPDATE_TRIAL_EXPIRY: the device acts as for ROLLBACK (R511). -/
def effUpdateTrialExpiry (s : State) : State :=
  if s.inTrial && s.nvm.trialAt.isSome && s.get Obj.supervisorState != 2 then restartSup (revokeRunning s) else s

/-- UPDATE_TRIAL_EXPIRY (R511). -/
def execUpdateTrialExpiry (dt : Nat) (s : State) : Host.Outcome State Fault Refusal :=
  run (Instr.wf (.updateTrialExpiry dt)) dt effUpdateTrialExpiry s

end Sys2Proof.Machine
end

