-- ==== Sys2Proof/Machine/Nvm.lean ====
section
/-! DEFINITION. The NVM controller's events: the end of an operation (R495, R496), the margin scrub (R501), the coalesced stores (R500), and
28h NVM_WEAR (R503). The log itself stands in Machine/Log.lean. -/

namespace Sys2Proof.Machine

/-- NvmLogSector of log sector i + 58 (R515): states erased, open, full and retired. -/
def State.logSectorWord (s : State) (i : Nat) : Nat :=
  match s.nvm.log[i]? with
  | some x => x.state * 2 ^ 30 + x.erases % 2 ^ 17 * 2 ^ 8 + x.margin % 256
  | none => 0

/-- NvmStatus as it reads (R515). -/
def State.nvmStatusNow (s : State) : Nat :=
  bits (s.get Obj.nvmStatus) 8 8 * 2 ^ 8 + (match s.nvm.op with
    | some o => 16 + o.code
    | none => 0)

/-- NvmRegionAge of region r as it reads: hours since it was last programmed (R515). -/
def State.regionAge (s : State) (r : Nat) : Nat :=
  sat (2 ^ 32 - 1) (s.get (Obj.nvmRegionAge + r) + (s.clk - s.nvm.ageAt.getD (r - 1) 0) / (3600 * 16000000))

/-! The words of the NVM (R493, R494). -/

/-- The word of 8 bytes at a byte address of a firmware slot reads as ERASED; the bytes of the factory image are programmed (log entry 16). -/
def FwSlot.wordErased (f : FwSlot) (off : Nat) : Bool :=
  let marker (m : Marker) : Bool := m == .erased
  if off < 0x17F00 then f.image.length ≤ off / 8 * 8 && !(f.image.isEmpty && f.written)
  else
    match (off - 0x17F00) / 8 with
    | 0 => f.seq == 0 && marker f.writtenM
    | 1 => marker f.writtenM
    | 2 => marker f.trialM
    | 3 => marker f.bootedM
    | 4 => marker f.confirmedM
    | 5 => marker f.revokedM
    | _ => true

/-- The word at a byte address reads as ERASED, all 72 bits 1, which is no failure of its check (R493, R494); the calibration is programmed
throughout, but for copy 0 while it is restored (R497). -/
def State.wordErased (s : State) (addr : Nat) : Bool :=
  let w := addr / 8 * 8
  if w < 0x30000 then (let (b, off) := fwPlace w; (s.fwSlot b).wordErased off)
  else if w < 0x38000 then (s.slotImage ((w - 0x30000) / 0x2000)).length ≤ (w - 0x30000) % 0x2000
  else if w < 0x3A000 then w < 0x39000 && (s.nvm.op.toList ++ s.nvm.queue).any (fun o => o.work == .calProgram) && !s.nvm.cal0.tables.any id
  else
    match s.nvm.log[(w - 0x3A000) / 0x1000]? with
    | some x => ((x.bytes.drop (w % 0x1000)).take 8).all (· == 0xFF)
    | none => true

/-! The end of an operation (R495, R496). -/

/-- A sector of the log is retired (R502), and NvmStatus shows the sectors left. -/
def retireAt (i : Nat) (s : State) : State :=
  let t := s.setLog (s.nvm.log.zipIdx.map (fun (x : LogSector × Nat) => if x.2 = i then { x.1 with state := 3 } else x.1))
  t.setField Obj.nvmStatus 8 8 t.usableSectors

/-- An operation goes ahead of those that wait. -/
def requestFirst (o : NvmOp) (s : State) : State := { s with nvm := { s.nvm with queue := o :: s.nvm.queue } }

/-- The collector's next operation on a sector: a copy of a live record, or its erase (R501). -/
def collectNext (i : Nat) (s : State) : State :=
  requestFirst (if (firstLive i s.nvm.log).isSome then ⟨2, logAddress i, .copy i⟩ else ⟨4, logAddress i, .reclaim i⟩) s

/-- An update's erase or program has verified: it counts where it is the one that the update waits for (R508, R514). -/
def updateDone (o : NvmOp) (s : State) : State :=
  let t := opDone o s
  let base := fwBase s.target
  if s.updStage != 1 then t
  else if o.code = 4 && o.addr = base + s.nvm.erased * 4096 then sectorErased t
  else if o.code = 3 && o.addr = base + s.nvm.programmed && s.nvm.programmed < s.nvm.erased * 4096 then rowProgrammed t
  else t

/-- A marker has verified; with WRITTEN of the target the validation is over (R509). -/
def markerDone (o : NvmOp) (b : Bool) (w : Nat) (s : State) : State :=
  let t := opDone o s
  if s.updStage = 2 && b = s.target && w = 1 then answerLast true (imageVerified t) else t

/-- An operation has verified (R495). -/
def operationDone (o : NvmOp) (s : State) : State :=
  match o.work with
  | .update _ => updateDone o s
  | .marker b w => markerDone o b w s
  | .copy i => collectNext i (opDone o s)
  | _ => opDone o s

/-- A program or an erase has failed twice (R496): 27h for a slot, with the update that it belongs to refused; a sector of the log is retired (R502), and
its record, or the copy, is programmed in the next one; calibration copy 0 stays bad. -/
def operationFails (o : NvmOp) (s : State) : State :=
  let kind := if o.code = 4 then 3 else 2
  match o.work with
  | .update _ => if s.updStage = 1 then programFailed kind o.addr s else slotFault kind o.addr s
  | .marker b _ => if s.updStage = 2 && b = s.target then programFailed kind o.addr s else slotFault kind o.addr s
  | .record _ => retireSector (requestFirst o s)
  | .copy _ => retireSector (requestFirst o s)
  | .reclaim i => retireAt i s
  | .calErase => { s with nvm := { s.nvm with queue := s.nvm.queue.filter (fun x => x.work != .calProgram) } }
  | .calProgram => { s with nvm := { s.nvm with cal0 := ⟨s.nvm.cal0.tables.map (fun _ => false), []⟩ } }

/-- A read of the firmware's own ends, which no operation stands for: its address is a free value, and a word that reads as ERASED has not
failed its check (R494, R496). -/
def ownRead (ok again : Bool) (s : State) : State :=
  if ok then s else if s.wordErased (s.free 18) then s.freeUsed else (readEnds false again (s.free 18) s).freeUsed

/-- NVM_OPERATION_COMPLETE (R495, R496): `ok` is the outcome of the operation, `copyOk` that of its one repetition. The next operation starts,
and an update goes on (R508, R509). -/
def effNvmOperationComplete (ok copyOk : Bool) (s : State) : State :=
  if !s.on .nvm then s
  else
    match s.nvm.op with
    | none => ownRead ok copyOk s
    | some o =>
      let t := { s with nvm := { s.nvm with op := none } }
      let u :=
        if o.code = 1 then (let v := readEnds ok copyOk o.addr t; if v.updStage = 2 then readBack v else v)
        else if ok || copyOk then operationDone o t
        else operationFails o t
      updateNext (startNext (nvmWear u))

/-- NVM_OPERATION_COMPLETE (R495). -/
def execNvmOperationComplete (dt : Nat) (ok copyOk : Bool) (s : State) : Host.Outcome State Fault Refusal :=
  run (Instr.wf (.nvmOperationComplete dt ok copyOk)) dt (effNvmOperationComplete ok copyOk) s

/-- Region r (1 to 8) holds anything programmed (R493, R501). -/
def State.regionUsed (s : State) (r : Nat) : Bool :=
  if r ≤ 2 then (let f := s.fwSlot (r == 2); f.written || !f.image.isEmpty)
  else if r ≤ 6 then !(s.slotImage (r - 3)).isEmpty
  else true

/-- MARGIN_SCRUB (R496, R501, R503): the margins of every programmed region and log sector, the worst of them for the ledger, and 27h and 28h; without the
core there is none (R29). A full log sector below NvmRefreshMargin is the one that the collector picks first (R501). -/
def effMarginScrub (margins sectors : List Nat) (lasting : Bool) (s : State) : State :=
  if !s.on .nvm || !s.supReady then s
  else
    let used := ((List.range 8).map (· + 1)).filter (fun r => s.regionUsed r)
    let a := used.foldl (fun t r => t.set (Obj.nvmRegionMargin + r) (margins.getD (r - 1) 100)) s
    let log := a.nvm.log.zipIdx.map (fun x => if x.1.state = 1 || x.1.state = 2 then { x.1 with margin := sectors.getD x.2 100 } else x.1)
    let worst := (used.map (fun r => margins.getD (r - 1) 100) ++
      (log.filter (fun x => x.state = 1 || x.state = 2)).map (·.margin)).foldl min a.test.worstMargin
    let b := { a with
      nvm := { a.nvm with log := log }
      test := { a.test with worstMargin := worst } }
    let c := b.wrap Obj.nvmScrubPassCount 32
    nvmWear (if lasting then (slotFault 1 (c.free 18) c).freeUsed else faultFollow 0x27 false c)

/-- MARGIN_SCRUB (R501). -/
def execMarginScrub (dt : Nat) (margins sectors : List Nat) (lasting : Bool) (s : State) : Host.Outcome State Fault Refusal :=
  run (Instr.wf (.marginScrub dt margins sectors lasting)) dt (effMarginScrub margins sectors lasting) s

/-- COALESCED_STATE_STORE (R500): the value of a device-written P object is stored, after what was requested before it; a record that fails twice retires
the open sector (R496, R502), and is programmed in the next one. -/
def effCoalescedStateStore (index sub : Nat) (ok : Bool) (s : State) : State :=
  let k := index * 256 + sub
  let dft := s.get k == Dict.default k
  if !deviceP k || !s.on .nvm || !s.supReady || !s.logTakes k dft then s
  else nvmWear (writeRecord (objectRecord 2 k (s.get k) dft) (if ok then s else retireSector (drainLog s)))

/-- COALESCED_STATE_STORE (R500). -/
def execCoalescedStateStore (dt index sub : Nat) (ok : Bool) (s : State) : Host.Outcome State Fault Refusal :=
  run (Instr.wf (.coalescedStateStore dt index sub ok)) dt (effCoalescedStateStore index sub ok) s

end Sys2Proof.Machine
end

