-- ==== Sys2Proof/Machine/Objects.lean ====
section
/-! DEFINITION. The objects as commands see them: how each reads (R32, R51), the checks of an access in their order (R33 to R35, R553),
and what a write to each comes to, object by object, with the store of a P object (R34). -/

namespace Sys2Proof.Machine

/-! Reads. -/

/-- SessionStatus (R59). A session that reads through the ring is not one of the port's. -/
def State.sessionStatus (s : State) (src : Source) : Nat :=
  let m := match s.masterSession with
    | some x => x.client
    | none => 0
  let r := match src with
    | .host _ => s.role src
    | .ring _ _ => 0
  m * 2 ^ 12 + s.port.sessions.length * 2 ^ 8 + r

/-- HoldoverTime in us (R121): of the current holdover, or of the last one. -/
def State.holdoverTime (s : State) : Nat :=
  match s.time.holdStart with
  | some c => sat (2 ^ 32 - 1) ((s.clk - c) / 16)
  | none => s.time.holdTime

/-- The fault source of an index of 0E10h to 0E3Fh (R457). -/
def faultIndex (ix : Nat) : Option Nat := if 0x0E10 ≤ ix && ix ≤ 0x0E3F then some (ix - 0x0E10) else none

/-- DictionaryVersion that the running image serves (R504); that of the factory image is the one of R37 (log entry 16). -/
def State.dictionary (s : State) : Option Nat :=
  let im := (s.fwSlot s.nvm.runningB).image
  if im.isEmpty then none else some (leAt im 14 2)

/-- The objects that show other state: what `ix:i` reads as, for a reader. -/
def State.view (s : State) (src : Source) (ix i : Nat) : Option Nat :=
  match ix with
  | 0x0000 => s.dictionary
  | 0x0001 => some s.modeCode
  | 0x0002 => some s.flt.status
  | 0x0009 => some s.queueDepth
  | 0x0202 => some (s.get Obj.domainStatus &&& (0x3FD + num (bit (s.get Obj.supplyStatus) 2) * 2))
  | 0x0300 => some s.ringTime
  | 0x0304 => some s.holdoverTime
  | 0x0321 => some s.syncState
  | 0x0410 => if 1 ≤ i && 4 ≤ s.channel i then some 0xFF1 else none
  | 0x0430 => if 1 ≤ i && 4 ≤ s.channel i then some 0xFF1 else none
  | 0x0420 => if 1 ≤ i then some (s.channel i) else none
  | 0x0421 => if 1 ≤ i then some (setBits (s.get (Obj.spareState + i)) 0 3 (s.spare i)) else none
  | 0x0444 => some s.boundTerms
  | 0x0506 => some s.gainBound
  | 0x0510 => if s.on .icx then none else some (setBits (s.get Obj.currentResult) 0 8 0xFF)
  | 0x0511 => if s.on .icx then none else some 0
  | 0x0512 => some s.currentStatus
  | 0x0520 => some s.cur.counter
  | 0x0522 => some s.coulombCharge
  | 0x0601 => some s.planStatus
  | 0x0611 => if 1 ≤ i then some (s.slotInfo (i - 1)) else none
  | 0x0710 => if 1 ≤ i then some (s.auxWord (i - 1)) else none
  | 0x0721 => some s.dieMaxWord
  | 0x0730 => if 1 ≤ i then some (s.axTemp i) else none
  | 0x0752 => some s.facetStatusNow
  | 0x0803 => some (setBit (s.get Obj.balStatus) 0 (s.modeIn outputModes && s.on .bal))
  | 0x0808 => some s.commElapsed
  | 0x0809 => if 1 ≤ i then some (s.balOnMs i) else none
  | 0x0916 => some s.xferElapsedMs
  | 0x0917 => some s.xferOnMs
  | 0x0A10 => if i = 1 then some (s.linkStatusNow .north) else if i = 2 then some (s.linkStatusNow .south) else none
  | 0x0A0A => some Config.nodeUid.toNat
  | 0x0B11 => some (s.sessionStatus src)
  | 0x0C06 => some s.mirrorFlags
  | 0x0C11 => some s.srqStatusNow
  | 0x0C21 => some s.cenStatus
  | 0x0C35 => some s.tripMap
  | 0x0C36 => if s.on .rng then some (num s.ringSafe) else none
  | 0x0C42 => if s.on .rng then some s.watchdogStatusNow else none
  | 0x0E01 => some s.flt.latched
  | 0x1000 => some s.nvmStatusNow
  | 0x1001 => if 1 ≤ i then some (s.logSectorWord (i - 1)) else none
  | 0x1003 => if 1 ≤ i then some (s.regionAge i) else none
  | 0x1009 => some s.logFree
  | 0x1015 => if 1 ≤ i then some (s.fwInfo (i == 2)) else none
  | 0x1016 => if 1 ≤ i then some (s.fwVersion (i == 2)) else none
  | _ =>
    match faultIndex ix with
    | some c => if i = 1 then some (num (s.faultOn c)) else none
    | none => none

/-- What an object reads as, as a number. -/
def State.read (s : State) (src : Source) (ix sub : Nat) : Nat := (s.view src ix sub).getD (s.get (objKey ix sub))

/-- The content of a DOMAIN object that can be read. -/
def State.content (s : State) (ix : Nat) : List Nat :=
  match ix with
  | 0x0008 => s.latest
  | 0x0610 => s.slotImage (s.get Obj.planSlotSelect)
  | 0x0A31 => s.ring.legacyRx
  | 0x0E02 => s.flt.log.flatMap (leBytes 8)
  | 0x0F41 => s.ledger.headD []
  | 0x0F42 => s.ledger.flatten
  | _ => []

/-- The bytes of a read. -/
def State.readBytes (s : State) (src : Source) (r : ObjRow) (ix sub : Nat) : List Nat :=
  if r.kind = .domain then s.content ix else leBytes r.size (s.read src ix sub)

/-- What a read leaves behind (R332). -/
def afterRead (ix sub : Nat) (s : State) : State :=
  match faultIndex ix with
  | some c => if sub = 1 then readFaultStatus c s else s
  | none => s

/-! Checks (R553). Each gives the code of the first check that fails, 0 for none. -/

/-- The row of an object, or the code of step 3. -/
def lookup (ix sub : Nat) : Sum Nat ObjRow :=
  match Dict.row ix sub with
  | some r => .inr r
  | none => .inl (if (Dict.indexRows ix).isEmpty then 1 else 2)

/-- Step 4 (R41). -/
def State.coreAbsent (s : State) (r : ObjRow) : Bool := !r.hw && !s.supReady

/-- Steps 5 and 6 of a read (R33, R35). -/
def State.readAccess (s : State) (src : Source) (r : ObjRow) : Nat :=
  if r.acc = .wo then 4 else if !r.hw && s.role src = 0 then 7 else 0

/-- The role may write the object (R35, R56, R430). -/
def State.mayWrite (s : State) (c : Ctx) (k : Nat) (r : ObjRow) : Bool :=
  if k = Obj.sessionRequest then true
  else if k = Obj.watchdogService then s.wdOrigin (.host c)
  else s.role c.src == 2 || (s.role c.src == 1 && r.observer)

/-- Steps 5 to 8 of a write (R33, R35, R430). -/
def State.writeAccess (s : State) (c : Ctx) (k : Nat) (r : ObjRow) : Nat :=
  if r.acc = .ro || r.acc = .const then 3
  else if !s.mayWrite c k r then 7
  else if (r.acc = .rwc || r.acc = .rw1) && !s.modeIn [Mode.configHold, Mode.ready] then 5
  else if r.acc = .rw1 && s.safe.wdWritten then 6
  else 0

/-- What a refused access leaves behind: a write of WatchdogService from another origin counts (R430). -/
def accessRefused (k code : Nat) (s : State) : State :=
  if k = Obj.watchdogService && code = 7 then s.count Obj.watchdogRefused 16 else s

/-! Writes that more than one chapter shares. -/

/-- The value of an object as it was last written, staged or not (R21). -/
def State.written (s : State) (k : Nat) : Nat := ((s.staged.find? (fun p => p.1 = k)).map (·.2)).getD (s.get k)

/-- A staged object waits for the next plan-cycle boundary; without a plan there is none, and the value acts at once (R21). -/
def writeStaged (k v : Nat) (s : State) : WriteRes :=
  if s.planRuns then .done (stage k v s)
  else
    let t := s.set k v
    .done (if k = Obj.shuntTempSource then adoptShuntSource t else t)

/-- A write of SessionRequest (R56, R57), at the client's own port alone. The DETAIL of a MASTER_LOST for a session that its client closes
is not stated, and free; a close by a client without a session changes nothing and is answered (log entry 107). A request that would open
one session more than the port holds is refused BUSY, TAKE too, which R57 grants always (log entry 108). -/
def writeSession (src : Source) (v : Nat) (s : State) : WriteRes :=
  match src with
  | .ring _ _ => .refuse 7 0 s
  | .host n =>
    let k := s.client n
    let want := v % 4
    if want = 0 then .done (endSession k (s.free 8) s).freeUsed
    else if 2 ≤ want && !s.isHead then .refuse 0x11 0 s
    else if (s.session k).isNone && (if s.onSpi then 1 else 4) ≤ s.port.sessions.length then .refuse 0x0C 0 s
    else if want = 2 && s.masterSession.isSome then .refuse 0x0C 0 s
    else
      let other := s.masterSession.any (fun x => x.client != k)
      let t := if want = 3 && other then dropMaster s else s
      let u := if want = 1 && s.role src = 2 then endWrite (.host k) t else t
      .done (openSession k (if want = 1 then 1 else 2) u)

/-- A write of AuxSelect (R211, R217): DETAIL 02h and 03h for the checks of the active bank. -/
def writeAuxSelect (k v : Nat) (s : State) : WriteRes :=
  let t := s.set k v
  let im := s.active.image
  let es := imageEntries im
  if im.isEmpty || !s.active.valid then .done t
  else if (cadenceFault im es t.auxSel).isSome then rejected 2 s
  else if (auxFault im es (fun p => 2 ^ bits (t.auxSel p) 8 3)).isSome then rejected 3 s
  else .done t

/-- A write of BalLockout (R303): a bit that the device has set in this frame stays set, and 10h counts a collision; 10h may recover once the
mask is 0. -/
def writeLockout (v : Nat) (s : State) : WriteRes :=
  let old := s.get Obj.balLockout
  let stays := s.bal.lockedIn &&& (old - (old &&& v))
  let t := unchop (v ||| stays) (s.set Obj.balLockout (v ||| stays))
  let u := { t with bal := { t.bal with unlockedIn := t.bal.unlockedIn ||| (old - (old &&& v)) } }
  let w := if stays != 0 then u.count (faultObj Obj.faultCollisionCount 0x10) 16 else u
  .done (if w.get Obj.balLockout = 0 && bit w.flt.cond 0x10 then faultEnd 0x10 w else w)

/-- A write of RingRoleConfig (R28, R374, R529): 00h clears ROLE_MISMATCH. -/
def writeRoleConfig (v : Nat) (s : State) : WriteRes :=
  if v != 0 && !bit (s.get Obj.ringRole) 0 then rejected 1 s
  else
    let t := s.set Obj.ringRoleConfig v
    if v = 0 then (let u := t.setBitOf Obj.strapStatus 22 false; .done (faultFollow 0x2D (strapBad u) u)) else .done t

/-- A write of NominalBitRate (sub 1) or DataBitRate (sub 2): the data rate is not below the nominal rate (R73). -/
def writeBitRate (k v : Nat) (s : State) : WriteRes :=
  let nominal := if k % 256 = 1 then v else s.get Obj.nominalBitRate
  let dataRate := if k % 256 = 2 then v else s.get Obj.dataBitRate
  if dataRate < nominal then .refuse 9 0 s else .done (s.set k v)

/-! What a write comes to (R553, steps 10 and 11). -/

/-- A write of a value, whose type and range have been checked, at its destination: object by object. -/
def writeValue (c : Ctx) (k v : Nat) (s : State) : WriteRes :=
  let plain : WriteRes := .done (s.set k v)
  match k / 256 with
  | 0x0003 => writeResetCommand v c.src s
  | 0x0005 => if bits v 16 16 ≤ bits v 8 8 then .refuse 9 0 s else plain
  | 0x0200 => writeModeRequest v s
  | 0x0222 => .done (settleWakeOut (s.set k (s.get k - (s.get k &&& v))))
  | 0x0422 => writeChannelControl v s
  | 0x0440 => .done (settleChanged s (s.set k v))
  | 0x0441 => .done (settleChanged s (s.set k v))
  | 0x0450 => if v ≤ s.written Obj.cellUvThreshold then rejected 1 s else writeStaged k v s
  | 0x0451 => if s.written Obj.cellOvThreshold ≤ v then rejected 1 s else plain
  | 0x0500 => .done ((s.set k v).setBitOf Obj.ringRole 3 (v = 1))
  | 0x0502 => writeStaged k v s
  | 0x0503 => writeStaged k v s
  | 0x0505 => writeStaged k v s
  | 0x0600 => writePlanControl v c.storeOk s
  | 0x0602 => writePlanSwitch (bits v 56 8) (bits v 0 48) s
  | 0x0701 => writeAuxSelect k v s
  | 0x0703 => writeAuxRequest v s
  | 0x070C => if v ≤ s.get (Obj.auxLimitLow + k % 256) then rejected 1 s else plain
  | 0x0750 => writeFacetEnable v s
  | 0x0751 => writeFacetSearch v s
  | 0x080A => writeLockout v s
  | 0x0940 => writePolicy v s
  | 0x0A02 => writeRoleConfig v s
  | 0x0A03 => .done ((s.setEnm { s.ring.enm with cap := 3 } |>.set k v).set Obj.generationCapStored 0)
  | 0x0A05 => writeEnumControl v s
  | 0x0A26 => writeDeputyControl c.src s
  | 0x0B10 => writeSession c.src v s
  | 0x0B20 => if k % 256 ≤ 2 then writeBitRate k v s else plain
  | 0x0C00 => writeMirrorLimit true v s
  | 0x0C01 => writeMirrorLimit false v s
  | 0x0C09 => writeMirrorRelease v s
  | 0x0C40 => writeWatchdog v (.host c) s
  | 0x0C41 => writeWatchdogConfig v s
  | 0x0D14 => writeCrcControl v s
  | 0x0D20 => writeAliveConfig v s
  | 0x0D21 => writeAliveInput v s
  | 0x0F31 => .done (margins (s.set k v))
  | 0x0F52 => .done (margins (s.set k v))
  | 0x1008 => if v ≤ s.get Obj.nvmMarginLimit then rejected 1 s else plain
  | 0x1011 => writeUpdateControl v c.storeOk s
  | ix =>
    if loupeConfigObject k then (if bit (s.get Obj.loupeSessionStatus) 16 then rejected 1 s else plain)
    else if 0x0900 ≤ ix && ix ≤ 0x090E then
      (let d := xferWriteRefusal k v s; if d != 0 then rejected d s else plain)
    else match faultIndex ix with
      | some f =>
        if k % 256 = 1 then writeFaultStatus f v s
        else if k % 256 = 2 && f ≤ 1 && v != 3 then rejected 1 s
        else plain
      | none => plain

/-- The store of a P object that its destination has accepted (R34, R496, R502), with the configuration check that follows the commit (R97), for which
what R97 and R499 found wrong with the object's record is gone; `s` is the state before and `t` the one after. -/
def commit (c : Ctx) (k v : Nat) (s t : State) : WriteRes :=
  if !c.storeOk then .refuse 0x13 0 (nvmWear (retireSector s))
  else if !s.logTakes k (v == s.dft k) then .refuse 0x13 0 s
  else
    let u := storeRecord k v (v == s.dft k) t
    .done (nvmWear (if u.modeCode = 0 then u else checkConfig u))

/-- Steps 10 and 11 for a value of the right length. -/
def writeObject (c : Ctx) (k : Nat) (r : ObjRow) (raw : Nat) (s : State) : WriteRes :=
  let v := raw &&& r.mask
  if !r.inRange v then .refuse 9 0 s
  else
    match writeValue c k v s with
    | .done t => if r.p then commit c k (if r.staged then v else t.get k) s t else .done t
    | x => x

/-! DOMAIN objects that are written (R49, R50). -/

/-- LENGTH of a whole DOMAIN write. -/
def domainLength (ix n : Nat) : Bool :=
  match ix with
  | 0x0A30 => 3 ≤ n && n ≤ 35
  | 0x0D15 => 1 ≤ n && n ≤ 262144
  | _ => n ≤ 262144

/-- What refuses a segmented write at its start, as code and DETAIL (R54, R258, R372, R449, R508). -/
def domainStart (ix total : Nat) (s : State) : Option (Nat × Nat) :=
  match ix with
  | 0x0610 => if s.backs (s.get Obj.planSlotSelect) != 0 then some (0x0A, 3) else none
  | 0x0A30 =>
    if !s.isHead then some (0x0A, 1)
    else if s.get Obj.ringGeneration != 1 then some (0x0A, 2)
    else if s.ring.legacyWait.isSome then some (0x0C, 0)
    else none
  | 0x0D15 => if !s.check.crcStarted then some (0x0A, 2) else none
  | 0x1010 => fwStartRefusal total s
  | _ => none

/-- A whole DOMAIN write at LAST. -/
def writeDomain (c : Ctx) (ix : Nat) (bs : List Nat) (aux : Nat) (s : State) : WriteRes :=
  match ix with
  | 0x0610 => writePlanImage bs c.storeOk s
  | 0x0A30 => writeLegacyTransmit bs aux s
  | 0x0D15 => writeCrcData bs s
  | 0x1010 => writeFirmware bs c.storeOk s
  | _ => .refuse 3 0 s

end Sys2Proof.Machine
end

