-- ==== Sys2Proof/Machine/Packets.lean ====
section
/-! DEFINITION. Command packets at the node that executes them (R42 to R55): the checks of R553 in their order, expedited and segmented
transfers, repeated commands (R46), and commands that wait for a slice (R472). -/

namespace Sys2Proof.Machine

/-! Small helpers. -/

/-- The command is answered. -/
def reply (x : Cmd) (data : List Nat) (s : State) : State := answer x.c x.op x.index x.sub data s

/-- The command is refused. -/
def refuse (x : Cmd) (code detail : Nat) (s : State) : State := abort x.c x.op x.index x.sub code detail s

/-- What a write comes to is answered (R44, R555): `data` goes with an acceptance; a restart that the command asks for acts after it. -/
def conclude (x : Cmd) (data : List Nat) (w : WriteRes) : State :=
  match w with
  | .done t => updateRestart (reply x data t)
  | .refuse code detail t => refuse x code detail t
  | .silent t => t

/-- The command that a packet carries, by its header (R42). -/
def packetCmd (c : Ctx) (bs : List Nat) (aux : Nat) : Cmd :=
  ⟨c, bs.getD 0 0, leAt bs 3 2, bs.getD 5 0, bs.drop 8, aux⟩

/-- An OP of R43 that a host sends. -/
def knownOp (op : Nat) : Bool := 1 ≤ op && op ≤ 7

/-- The internal OP of a row that brings a whole DOMAIN write at once; it is answered as SEG_DATA. -/
abbrev wholeOp : Nat := 0x105

/-- The OP with which a command is answered and matched. -/
def Cmd.wireOp (x : Cmd) : Nat := if x.op = wholeOp then 5 else x.op

/-! Expedited transfers (R48). -/

/-- READ. -/
def cmdRead (x : Cmd) (s : State) : State :=
  match lookup x.index x.sub with
  | .inl code => refuse x code 0 s
  | .inr r =>
    let a := s.readAccess x.c.src r
    if s.coreAbsent r then refuse x 0x0B 0 s
    else if a != 0 then refuse x a 0 s
    else if r.kind = .domain || !x.data.isEmpty then refuse x 8 0 s
    else afterRead x.index x.sub (reply x (s.readBytes x.c.src r x.index x.sub) s)

/-- WRITE. -/
def cmdWrite (x : Cmd) (s : State) : State :=
  match lookup x.index x.sub with
  | .inl code => refuse x code 0 s
  | .inr r =>
    let k := objKey x.index x.sub
    let a := s.writeAccess x.c k r
    if s.coreAbsent r then refuse x 0x0B 0 s
    else if a != 0 then refuse x a 0 (accessRefused k a s)
    else if r.kind = .domain || x.data.length != r.size then refuse x 8 0 s
    else conclude x [] (writeObject x.c k r (ofLe x.data) s)

/-! Segmented transfers (R49 to R55). -/

/-- The segment size (R49). -/
abbrev segSize : Nat := 1024

/-- An update whose transfer is gone before its last segment is interrupted (R508, R514). -/
def settleUpdate (s : State) : State :=
  let runs := match s.port.writeXfer with
    | some w => w.index == 0x1010
    | none => false
  if s.updStage = 1 && !runs && !s.nvm.final then interruptUpdate s else s

/-- A source starts a read, or a write, of an object anew: an earlier one that ended by time is past (R52). -/
def forgetEnded (e : EndedXfer) (s : State) : State :=
  { s with port := { s.port with ended := s.port.ended.filter (fun y => y != e) } }

/-- SEG_READ_START (R51). -/
def cmdSegReadStart (x : Cmd) (s : State) : State :=
  match lookup x.index x.sub with
  | .inl code => refuse x code 0 s
  | .inr r =>
    let a := s.readAccess x.c.src r
    if s.coreAbsent r then refuse x 0x0B 0 s
    else if a != 0 then refuse x a 0 s
    else if r.kind != .domain || !x.data.isEmpty then refuse x 8 0 s
    else
      let bs := s.content x.index
      let t := forgetEnded ⟨x.c.src, x.index, x.sub, false⟩ s
      if bs.length ≤ segSize then reply x (leBytes 4 bs.length ++ bs) t
      else
        let l := ⟨x.c.src, x.index, x.sub, bs, 0⟩ :: t.port.readXfers.filter (fun y => y.src != x.c.src)
        reply x (leBytes 4 bs.length) { t with port := { t.port with readXfers := l } }

/-- SEG_WRITE_START (R50, R53, R54), in the order of R553. -/
def cmdSegWriteStart (x : Cmd) (s : State) : State :=
  match lookup x.index x.sub with
  | .inl code => refuse x code 0 s
  | .inr r =>
    let k := objKey x.index x.sub
    let total := ofLe x.data
    let a := s.writeAccess x.c k r
    if s.coreAbsent r then refuse x 0x0B 0 s
    else if a != 0 then refuse x a 0 (accessRefused k a s)
    else if r.kind != .domain || x.data.length != 4 || !domainLength x.index total then refuse x 8 0 s
    else
      match domainStart x.index total s with
      | some (code, detail) => refuse x code detail s
      | none =>
        if s.port.writeXfer.isSome then refuse x 0x0C 0 s
        else
          let t := forgetEnded ⟨x.c.src, x.index, x.sub, true⟩ s
          let u := if x.index = 0x1010 then fwStart total t else t
          reply x (leBytes 2 segSize) { u with port := { u.port with
            writeXfer := some ⟨x.c.src, x.index, x.sub, total, 0, []⟩ } }

/-- The segmented write ends without effect (R52). -/
def dropWrite (s : State) : State := settleUpdate { s with port := { s.port with writeXfer := none } }

/-- A whole object at LAST, whose access has been checked again: steps 9 to 11, then its destination (R50, R54). -/
def lastSegment (x : Cmd) (seq : Nat) (bs : List Nat) (s : State) : State :=
  if !domainLength x.index bs.length then refuse x 8 0 s
  else conclude x (leBytes 2 seq) (writeDomain x.c x.index bs x.aux s)

/-- A segment of FirmwareImage that is taken in (R508, R509). -/
def firmwareSegment (x : Cmd) (w : WriteXfer) (seq : Nat) (last : Bool) (payload : List Nat) (s : State) : State :=
  if s.updStage != 1 then refuse x 0x13 0 (dropWrite s)
  else if last && s.nvm.received.length + payload.length != s.nvm.length then refuse x 8 0 (dropWrite s)
  else
    let t := { s with port := { s.port with writeXfer := if last then none else some { w with next := w.next + 1 } } }
    fwSegment ⟨x.c, seq, last⟩ payload t

/-- SEG_DATA of the open segmented write (R50, R52): SEQUENCE first, then, at LAST, steps 5 to 8 of R553 again, then LENGTH. Data too short
to hold a SEQ has none to check. -/
def writeSegment (x : Cmd) (r : ObjRow) (w : WriteXfer) (s : State) : State :=
  let seq := leAt x.data 0 2
  let last := bit (x.data.getD 2 0) 0
  let payload := x.data.drop 4
  if x.data.length < 2 then refuse x 8 0 s
  else if w.next != 0 && (seq + 1) % 65536 = w.next % 65536 then reply x (leBytes 2 seq) s
  else if seq != w.next % 65536 then refuse x 0x0D 0 (dropWrite s)
  else if last && s.writeAccess x.c (objKey x.index x.sub) r != 0 then
    let a := s.writeAccess x.c (objKey x.index x.sub) r
    refuse x a 0 (accessRefused (objKey x.index x.sub) a (dropWrite s))
  else if payload.isEmpty || segSize < payload.length then refuse x 8 0 s
  else if x.index = 0x1010 then firmwareSegment x w seq last payload s
  else
    let bs := w.data ++ payload
    if !last then
      reply x (leBytes 2 seq) { s with port := { s.port with writeXfer := some { w with next := w.next + 1, data := bs } } }
    else
      let t := { s with port := { s.port with writeXfer := none } }
      if bs.length != w.total then refuse x 8 0 t else lastSegment x seq bs t

/-- The open segmented read of a source changes, or ends. -/
def setRead (src : Source) (v : Option ReadXfer) (s : State) : State :=
  { s with port := { s.port with readXfers := v.toList ++ s.port.readXfers.filter (fun y => y.src != src) } }

/-- SEG_DATA of an open segmented read (R51, R52): SEQUENCE first, then LENGTH; the one that ends the object completes the transfer. -/
def readSegment (x : Cmd) (t : ReadXfer) (s : State) : State :=
  let seq := leAt x.data 0 2
  let again := t.next != 0 && seq + 1 = t.next
  if x.data.length < 2 then refuse x 8 0 s
  else if seq != t.next && !again then refuse x 0x0D 0 (setRead x.c.src none s)
  else if x.data.length != 4 then refuse x 8 0 s
  else
    let last := t.data.length ≤ (seq + 1) * segSize
    let u := setRead x.c.src (if last then none else some { t with next := seq + 1 }) s
    reply x (leBytes 2 seq ++ [num last, 0] ++ (t.data.drop (seq * segSize)).take segSize) u

/-- The transfer that ended by time to which a packet belongs: one of its object; a segment with payload belongs to a write, one without to a
read where both have ended. -/
def State.endedOf (s : State) (x : Cmd) : Option EndedXfer :=
  let mine := s.port.ended.filter (fun e => e.src = x.c.src && e.index = x.index && e.sub = x.sub)
  if x.op = 5 && 4 < x.data.length then mine.find? (fun e => e.write)
  else (mine.find? (fun e => !e.write)).orElse (fun _ => mine.head?)

/-- A packet of a transfer that is not open (R52, R55). -/
def noTransfer (x : Cmd) (r : ObjRow) (s : State) : State :=
  if s.coreAbsent r then refuse x 0x0B 0 s
  else
    match s.endedOf x with
    | some e => refuse x 0x0E 0 (forgetEnded e s)
    | none => refuse x 0x0D 0 s

/-- The open segmented write that a packet belongs to. -/
def Cmd.write? (x : Cmd) (s : State) : Option WriteXfer :=
  s.port.writeXfer.filter (fun w => w.src = x.c.src && w.index = x.index && w.sub = x.sub)

/-- The open segmented read that a packet belongs to. -/
def Cmd.read? (x : Cmd) (s : State) : Option ReadXfer :=
  s.port.readXfers.find? (fun t => t.src = x.c.src && t.index = x.index && t.sub = x.sub)

/-- SEG_DATA. A segment with payload belongs to a write, one without to a read where both are open. -/
def cmdSegData (x : Cmd) (s : State) : State :=
  match lookup x.index x.sub with
  | .inl code => refuse x code 0 s
  | .inr r =>
    match x.write? s, x.read? s with
    | none, none => noTransfer x r s
    | some w, none => writeSegment x r w s
    | none, some t => readSegment x t s
    | some w, some t => if x.data.length ≤ 4 then readSegment x t s else writeSegment x r w s

/-- SEG_CANCEL (R52). -/
def cmdSegCancel (x : Cmd) (s : State) : State :=
  match lookup x.index x.sub with
  | .inl code => refuse x code 0 s
  | .inr r =>
    if (x.write? s).isNone && (x.read? s).isNone then noTransfer x r s
    else if s.coreAbsent r then refuse x 0x0B 0 s
    else if !x.data.isEmpty then refuse x 8 0 s
    else
      let t := if (x.write? s).isSome then dropWrite s else s
      reply x [] (if (x.read? s).isSome then setRead x.c.src none t else t)

/-- A whole DOMAIN write, whose segments have arrived in order (the rows PLAN_IMAGE_WRITE, CRC_DATA, LEGACY_TRANSMIT and
FIRMWARE_IMAGE_WRITE): the checks of its start and of LAST at once, and the answer to its last segment. -/
def cmdWhole (x0 : Cmd) (s : State) : State :=
  let x := { x0 with op := 5 }
  match lookup x.index x.sub with
  | .inl code => refuse x code 0 s
  | .inr r =>
    let k := objKey x.index x.sub
    let a := s.writeAccess x.c k r
    if s.coreAbsent r then refuse x 0x0B 0 s
    else if a != 0 then refuse x a 0 (accessRefused k a s)
    else if !domainLength x.index x.data.length then refuse x 8 0 s
    else
      match domainStart x.index x.data.length s with
      | some (code, detail) => refuse x code detail s
      | none =>
        if s.port.writeXfer.isSome then refuse x 0x0C 0 s
        else conclude x (leBytes 2 ((x.data.length - 1) / segSize)) (writeDomain x.c x.index x.data x.aux s)

/-! The execution of a command. -/

/-- A command is executed, whatever waits. -/
def execCmd (x : Cmd) (s : State) : State :=
  match x.op with
  | 1 => cmdRead x s
  | 2 => cmdWrite x s
  | 3 => cmdSegReadStart x s
  | 4 => cmdSegWriteStart x s
  | 5 => cmdSegData x s
  | 6 => cmdSegCancel x s
  | 7 => if x.data.isEmpty then reply x [] s else refuse x 8 0 s
  | 0x105 => cmdWhole x s
  | _ => refuse x 0x12 0 s

/-- Two numbers differ by at most 1. -/
def near (a b : Nat) : Bool := a ≤ b + 1 && b ≤ a + 1

/-- A command addresses an object of the block that a slice tests (R472). -/
def Cmd.waitsFor (x : Cmd) (sl : Slice) : Bool :=
  match sl.kind with
  | 1 => (x.index == 0x0422 && x.data.getD 1 0 == sl.target) || (x.index == 0x0430 && x.sub == sl.target)
  | 2 => x.index == 0x0422
  | 3 => x.index == 0x0422
  | 6 => x.index == 0x0C09
  | 10 => x.index == 0x0750 || x.index == 0x0751
  | 4 => x.index == 0x080A || (x.index == 0x0810 && x.sub == sl.target) ||
      ((x.index == 0x0440 || x.index == 0x0441) && near x.sub sl.target)
  | 5 => x.index == 0x080A || (x.index == 0x0810 && x.sub == sl.target) ||
      ((x.index == 0x0440 || x.index == 0x0441) && near x.sub sl.target)
  | _ => false

/-- A command waits: for a slice (R472), or, a segment of FirmwareImage, for the answer to the one before it (R45, R508). -/
def State.holdsBack (s : State) (x : Cmd) : Bool :=
  s.test.slices.any (fun sl => x.waitsFor sl) || (x.op == 5 && x.index == 0x1010 && s.nvm.owed.isSome)

/-- The commands that wait are executed in order, up to the first that must wait on; `fuel` bounds their number. -/
def drain : Nat → State → State
  | 0, s => s
  | n + 1, s =>
    match s.port.waiting with
    | [] => s
    | x :: l => if s.holdsBack x then s else drain n (execCmd x { s with port := { s.port with waiting := l } })

/-- The commands that can run now do. -/
def runWaiting (s : State) : State := drain s.port.waiting.length s

/-- A command arrives at the node that executes it (R45, R46, R472): a repeated one is answered as before, one that must wait, or that finds
others waiting, waits. -/
def command (x : Cmd) (s0 : State) : State :=
  let s := runWaiting s0
  match s.keptAnswer x.c x.wireOp x.index x.sub with
  | some pkt => deliver x.c x.wireOp x.index x.sub pkt s
  | none =>
    if !s.port.waiting.isEmpty || s.holdsBack x then { s with port := { s.port with waiting := s.port.waiting ++ [x] } }
    else settleUpdate (execCmd x s)

/-- SLICE_END (R467, R469); the commands that waited for the slice are executed (R472). -/
def effSliceEnd (kind target : Nat) (token : Bool) (o : SliceOut) (s : State) : State :=
  runWaiting (endSlice kind target token o s)

/-- SLICE_END (R467). -/
def execSliceEnd (dt kind target : Nat) (token : Bool) (out : SliceOut) (s : State) :
    Host.Outcome State Fault Refusal :=
  run (Instr.wf (.sliceEnd dt kind target token out)) dt (effSliceEnd kind target token out) s

/-- One tick of the timebase with no command: time passes, and commands that need wait no longer are executed (log entry 1). -/
def tick (s : State) : Host.Outcome State Fault Refusal := .next (effect 1 runWaiting s)

end Sys2Proof.Machine
end

