-- ==== Sys2Proof/Machine/HostPort.lean ====
section
/-! DEFINITION. The host port: commands as they arrive at it, and those that the head sends on the ring (R24, R42, R47, R553); the SPI port
(R64 to R67), the CAN FD port (R69 to R73), and the time limits of sessions and transfers (R52, R58). -/

namespace Sys2Proof.Machine

/-! Arrival. -/

/-- The port itself refuses a command, whatever node it addresses; the answer is kept as any other (R46). -/
def portAbort (x : Cmd) (code : Nat) (s : State) : State :=
  let pkt := packetBytes 255 x.c.tag (s.answerAddr x.c) x.index x.sub (abortData code 0)
  keepAnswer x.c x.wireOp x.index x.sub pkt (sendAnswer x.c.src pkt s)

/-- READ, SEG_READ_START and PING, which a broadcast may not be (R44, R47). -/
def readsOnly (op : Nat) : Bool := op == 1 || op == 3 || op == 7

/-- The head's port refuses a command for another node by its role (R35), as far as R553 lets it: a target gives the codes that come before
ROLE itself, and of the segments of a write LAST alone is checked for it. -/
def State.roleRefused (s : State) (x : Cmd) : Bool :=
  match lookup x.index x.sub with
  | .inl _ => false
  | .inr r =>
    let role := s.role x.c.src
    let writes := x.op = 2 || x.op = 4 || x.op = wholeOp || (x.op = 5 && 4 < x.data.length && bit (x.data.getD 2 0) 0)
    if role = 2 then false
    else if writes then
      r.acc != .ro && r.acc != .const && !(role = 1 && r.observer) && objKey x.index x.sub != Obj.sessionRequest
    else role = 0 && (x.op = 1 || x.op = 3) && r.acc != .wo && !r.hw

/-- SESSION of a client's ring commands (R351); no rule gives one to a client without a session, and it is free. -/
def ringSession (client : Nat) (s : State) : Nat × State :=
  match s.session client with
  | some y => (y.number, s)
  | none => (s.free 3, s.freeUsed)

/-- The head sends a client's command on the ring and waits for its answer, or for its return (R47, R354). -/
def sendCommand (client : Nat) (x : Cmd) (s0 : State) : State :=
  let (session, s) := ringSession client s0
  let pkt := packetBytes x.op x.c.tag (x.c.addr % 64) x.index x.sub x.data
  let seq := if pkt.length ≤ 256 then s.nextSeq 0 else 256 + (s.nextSeq 5 + (pkt.length + 251) / 252 - 1) % 256
  let t := ringPacket false session (x.c.addr % 64) pkt s
  let others := t.ring.cmds.filter (fun r => !(r.client = client && r.tag = x.c.tag))
  { t with ring := { t.ring with
      cmds := others ++ [⟨client, session, x.op, x.c.tag, x.c.addr, x.index, x.sub, seq, [], false⟩] } }

/-- A command addresses the node at whose port it arrives (R42). -/
def State.ownCommand (s : State) (x : Cmd) : Bool := bit x.c.addr 6 || (s.address != 0 && x.c.addr % 64 == s.address)

/-- The most data bytes that a packet carries (R42). -/
abbrev maxData : Nat := 1028

/-- The port has answered a client's command (R46), and waits for no ring command of that TAG. -/
def State.answeredBefore (s : State) (client : Nat) (x : Cmd) : Bool :=
  (s.keptAnswer x.c x.wireOp x.index x.sub).isSome && !s.ring.cmds.any (fun r => r.client == client && r.tag == x.c.tag)

/-- A command from a client reaches the port: it is the session's latest packet (R58) and, at the head, ring activity (R299); then the first two
steps of R553, and its execution here, on the ring, or both (R47). A command that this port has answered, and that it would not execute here, is
answered again (R46); one whose data no LEN can have goes no further than its checks. -/
def hostArrive (client : Nat) (x0 : Cmd) (s0 : State) : State :=
  if !s0.portUp then s0
  else
    let n := s0.client client
    let x := { x0 with c := { x0.c with src := .host n } }
    let s := touchSession x.c.src (if s0.isHead then ringActivity s0 else s0)
    if s.ownCommand x && (knownOp x.op || x.op = wholeOp) then command x s
    else if s.answeredBefore n x then
      sendAnswer x.c.src ((s.keptAnswer x.c x.wireOp x.index x.sub).getD []) s
    else if !knownOp x.op && x.op != wholeOp then portAbort x 0x12 s
    else if isBroadcast x.c && readsOnly x.op then portAbort x 0x10 s
    else if !s.isHead || (!isBroadcast x.c && !bit (s.get Obj.nodeMap) (x.c.addr % 64)) then portAbort x 0x0F s
    else if s.roleRefused x then portAbort x 7 s
    else if maxData < x.data.length && x.op != wholeOp then
      portAbort x (match lookup x.index x.sub with
        | .inl code => code
        | .inr _ => 8) s
    else if isBroadcast x.c then command x (if x.op = wholeOp then s else sendCommand n x s)
    else if x.op = wholeOp then s
    else sendCommand n x s

/-- A command reaches the node by the ring (R354): with LOCAL it is not executed, and neither is a broadcast read (R47). -/
def ringArrive (x : Cmd) (s : State) : State :=
  if !s.on .rng || bit x.c.addr 6 || (isBroadcast x.c && readsOnly x.op) then s else command x s

/-- A command packet arrives. -/
def arrive (x : Cmd) (s : State) : State :=
  match x.c.src with
  | .host n => hostArrive n x s
  | .ring _ _ => ringArrive x s

/-- A packet whose row brings no plan value with it: the ticks to the next MARK that LegacyTransmit needs are free (log entry 4). -/
def arriveOpen (c : Ctx) (op index sub : Nat) (data : List Nat) (s : State) : State :=
  if index = 0x0A30 then arrive ⟨c, op, index, sub, data, s.free 24⟩ s.freeUsed
  else arrive ⟨c, op, index, sub, data, 0⟩ s

/-- The data of a packet whose LEN differs from the bytes that follow, or exceeds 1028: longer than any that an operation takes, so that the
command is refused with LENGTH where R553 checks it. -/
def overlong (bs : List Nat) : List Nat := bs ++ List.replicate (maxData + 1) 0

/-- A packet as bytes at the host port (R42): without a whole header it is none. -/
def hostBytes (client : Nat) (storeOk : Bool) (bs : List Nat) (s : State) : State :=
  if bs.length < 8 || !s.portUp then s
  else
    let c : Ctx := ⟨.host (s.client client), bs.getD 1 0, bs.getD 2 0, storeOk⟩
    let fits := leAt bs 6 2 + 8 = bs.length && bs.length ≤ maxData + 8
    arriveOpen c (bs.getD 0 0) (leAt bs 3 2) (bs.getD 5 0) (if fits then bs.drop 8 else overlong (bs.drop 8)) s

/-! The rows of the packet layer (R43). -/

/-- READ (R48). -/
def effRead (c : Ctx) (index sub : Nat) (data : List Nat) (s : State) : State := arriveOpen c 1 index sub data s

/-- READ (R48). -/
def execRead (dt : Nat) (c : Ctx) (index sub : Nat) (data : List Nat) (s : State) : Host.Outcome State Fault Refusal :=
  run (Instr.wf (.read dt c index sub data)) dt (effRead c index sub data) s

/-- WRITE (R48). -/
def effWrite (c : Ctx) (index sub : Nat) (data : List Nat) (s : State) : State := arriveOpen c 2 index sub data s

/-- WRITE (R48). -/
def execWrite (dt : Nat) (c : Ctx) (index sub : Nat) (data : List Nat) (s : State) : Host.Outcome State Fault Refusal :=
  run (Instr.wf (.write dt c index sub data)) dt (effWrite c index sub data) s

/-- SEG_READ_START (R51). -/
def effSegReadStart (c : Ctx) (index sub : Nat) (s : State) : State := arriveOpen c 3 index sub [] s

/-- SEG_READ_START (R51). -/
def execSegReadStart (dt : Nat) (c : Ctx) (index sub : Nat) (s : State) : Host.Outcome State Fault Refusal :=
  run (Instr.wf (.segReadStart dt c index sub)) dt (effSegReadStart c index sub) s

/-- SEG_WRITE_START (R50). -/
def effSegWriteStart (c : Ctx) (index sub total : Nat) (s : State) : State := arriveOpen c 4 index sub (leBytes 4 total) s

/-- SEG_WRITE_START (R50). -/
def execSegWriteStart (dt : Nat) (c : Ctx) (index sub total : Nat) (s : State) : Host.Outcome State Fault Refusal :=
  run (Instr.wf (.segWriteStart dt c index sub total)) dt (effSegWriteStart c index sub total) s

/-- SEG_DATA (R49, R52): the segment header, then the payload. -/
def effSegData (c : Ctx) (index sub seq : Nat) (last : Bool) (payload : List Nat) (s : State) : State :=
  arriveOpen c 5 index sub (leBytes 2 seq ++ [num last, 0] ++ payload) s

/-- SEG_DATA (R52). -/
def execSegData (dt : Nat) (c : Ctx) (index sub seq : Nat) (last : Bool) (payload : List Nat) (s : State) :
    Host.Outcome State Fault Refusal :=
  run (Instr.wf (.segData dt c index sub seq last payload)) dt (effSegData c index sub seq last payload) s

/-- SEG_CANCEL (R52). -/
def effSegCancel (c : Ctx) (index sub : Nat) (s : State) : State := arriveOpen c 6 index sub [] s

/-- SEG_CANCEL (R52). -/
def execSegCancel (dt : Nat) (c : Ctx) (index sub : Nat) (s : State) : Host.Outcome State Fault Refusal :=
  run (Instr.wf (.segCancel dt c index sub)) dt (effSegCancel c index sub) s

/-- PING (R43). -/
def effPing (c : Ctx) (s : State) : State := arriveOpen c 7 0 0 [] s

/-- PING (R43). -/
def execPing (dt : Nat) (c : Ctx) (s : State) : Host.Outcome State Fault Refusal :=
  run (Instr.wf (.ping dt c)) dt (effPing c) s

/-! The SPI port (R64 to R67). -/

/-- The SPI controller works. -/
def State.spiUp (s : State) : Bool := s.portUp && s.onSpi

/-- The commands of a client that are outstanding: waiting, under way on the ring, owed an answer, or with an answer that the host has not
removed (R46, R62). -/
def State.outstanding (s : State) (client : Nat) : Nat :=
  (s.port.outQ.filter (fun p => p.kind == .response client)).length +
    (s.port.waiting.filter (fun x => x.c.src == .host client)).length +
    (s.ring.cmds.filter (fun r => r.client == client)).length +
    (match s.nvm.owed with
     | some o => num (o.c.src == .host client)
     | none => 0)

/-- STAT (R65). -/
def State.spiStat (s : State) : Nat :=
  num (s.port.outQ.any (fun p => p.kind.isEvent)) * 2 ^ 7 + num (s.port.outQ.any (fun p => !p.kind.isEvent)) * 2 ^ 6 +
    num (decide (4 ≤ s.outstanding 0)) * 2 ^ 5 + num s.port.spiCrcErr * 2 ^ 4 + num s.port.spiFrameErr * 2 ^ 3

/-- The packet at the head of the output queue; empty when none waits. -/
def State.pendingPacket (s : State) : List Nat :=
  match s.port.outQ with
  | [] => []
  | p :: _ => p.bytes

/-- The 4 header bytes on SDO (R64). -/
def State.spiHeader (s : State) : List Nat := [s.spiStat] ++ leBytes 2 s.pendingPacket.length ++ [s.port.spiLastSeq]

/-- SDO has given some bytes. -/
def showSdo (bs : List Nat) (s : State) : State := { s with port := { s.port with sdo := bs } }

/-- A transaction is refused for its CRC or its length: it counts, and the eighth in a row raises 2Fh (R67). -/
def spiRefused (crcErr frameErr : Bool) (s : State) : State :=
  let n := min 8 (s.port.spiBadRow + 1)
  let t := ({ s with port := { s.port with spiCrcErr := crcErr, spiFrameErr := frameErr, spiBadRow := n } }).count Obj.linkErrors 16
  if n = 8 then faultOccur 0x2F t else t

/-- A transaction is taken (R65, R67); 2Fh may recover. -/
def spiTaken (crcErr : Bool) (s : State) : State :=
  let t := { s with port := { s.port with spiCrcErr := crcErr, spiFrameErr := false, spiBadRow := 0 } }
  if bit t.flt.cond 0x2F then faultEnd 0x2F t else t

/-- STATUS: `length` bytes were clocked (R64). -/
def effStatus (length : Nat) (s : State) : State :=
  if !s.spiUp then s
  else
    let t := showSdo (s.spiHeader.take length) s
    if length < 4 then spiRefused s.port.spiCrcErr true t else spiTaken s.port.spiCrcErr t

/-- STATUS (R64). -/
def execStatus (dt length : Nat) (s : State) : Host.Outcome State Fault Refusal :=
  run (Instr.wf (.status dt length)) dt (effStatus length) s

/-- PUT (R64, R67): LEN, SEQ, the packet bytes that came, and the CRC-16 that followed them. A repeat of LASTSEQ is not executed; while 4
commands are outstanding a PUT is refused, without a count. -/
def effPut (length seq : Nat) (packet : List Nat) (crc : Nat) (storeOk : Bool) (s : State) : State :=
  if !s.spiUp then s
  else
    let t := showSdo s.spiHeader s
    if packet.length != length then spiRefused false true t
    else if crc16 ([1] ++ leBytes 2 length ++ [seq] ++ packet) != crc then spiRefused true false t
    else
      let u := spiTaken false t
      if seq = s.port.spiLastSeq || 4 ≤ s.outstanding 0 then u
      else hostBytes 0 storeOk packet { u with port := { u.port with spiLastSeq := seq } }

/-- PUT (R67). -/
def execPut (dt length seq : Nat) (packet : List Nat) (crc : Nat) (storeOk : Bool) (s : State) : Host.Outcome State Fault Refusal :=
  run (Instr.wf (.put dt length seq packet crc storeOk)) dt (effPut length seq packet crc storeOk) s

/-- GET (R64, R67): `clocked` bytes in all; LEN must equal PENDLEN. The packet stays in the queue. -/
def effGet (length clocked : Nat) (s : State) : State :=
  if !s.spiUp then s
  else
    let h := s.spiHeader
    if length != s.pendingPacket.length then spiRefused s.port.spiCrcErr true (showSdo (h.take clocked) s)
    else
      let body := h ++ s.pendingPacket
      let t := showSdo ((body ++ leBytes 2 (crc16 body)).take clocked) s
      if clocked != 6 + length then spiRefused s.port.spiCrcErr true t else spiTaken s.port.spiCrcErr t

/-- GET (R67). -/
def execGet (dt length clocked : Nat) (s : State) : Host.Outcome State Fault Refusal :=
  run (Instr.wf (.get dt length clocked)) dt (effGet length clocked) s

/-- The packet at the head of the output queue leaves it; a lost event may then be announced (R62). -/
def popQueue (s : State) : State := announceLost { s with port := { s.port with outQ := s.port.outQ.tail } }

/-- POP (R64, R67). -/
def effPop (length seq crc clocked : Nat) (s : State) : State :=
  if !s.spiUp then s
  else
    let t := showSdo (s.spiHeader.take clocked) s
    if clocked != 6 then spiRefused false true t
    else if crc16 ([3] ++ leBytes 2 length ++ [seq]) != crc then spiRefused true false t
    else popQueue (spiTaken false t)

/-- POP (R67). -/
def execPop (dt length seq crc clocked : Nat) (s : State) : Host.Outcome State Fault Refusal :=
  run (Instr.wf (.pop dt length seq crc clocked)) dt (effPop length seq crc clocked) s

/-! The CAN FD port (R69 to R73). -/

/-- The CAN controller works and is not bus-off. -/
def State.canUp (s : State) : Bool := s.portUp && s.get Obj.hostPortActive == 2 && !s.port.busOff

/-- Nothing is open of a client's packets any more. -/
def canClose (client : Nat) (s : State) : State :=
  { s with port := { s.port with canRx := s.port.canRx.filter (fun r => r.client != client) } }

/-- A packet is discarded for its fragments or its identifier, and counted once (R59, R70, R71); where it is not at its LAST, its further
fragments belong to no packet. -/
def canError (client : Nat) (last : Bool) (s : State) : State :=
  let t := (canClose client s).count Obj.linkErrors 16
  if last then t else { t with port := { t.port with canRx := ⟨client, 0, [], [], true⟩ :: t.port.canRx } }

/-- The commands whose format the port remembers are told apart by CLIENT and TAG (R46). -/
abbrev canKey (client tag : Nat) : Nat := 256 * client + tag

/-- A whole COMMAND has arrived: what follows its LEN bytes goes as padding, NODE of every frame must match, and it is executed (R70, R71).
One that ends with fewer bytes than its header, or than LEN, counts as one with a missing fragment (log entry 109). The format remembered for
its answer is that of its last frame (log entry 130). -/
def canPacket (client format : Nat) (nodes : List Nat) (storeOk : Bool) (bs : List Nat) (s : State) : State :=
  let n := 8 + leAt bs 6 2
  let t := canClose client s
  if bs.length < 8 || bs.length < n || (!bit (bs.getD 2 0) 6 && nodes.any (fun x => x != bs.getD 2 0 % 64)) then canError client true t
  else
    hostBytes client storeOk (bs.take n)
      { t with port := { t.port with canFormats := assocSet t.port.canFormats (canKey client (bs.getD 1 0)) format } }

/-- A fragment is taken in (R71). -/
def canTake (client format : Nat) (nodes : List Nat) (storeOk last : Bool) (count : Nat) (bs : List Nat) (s : State) : State :=
  if last then canPacket client format nodes storeOk bs s
  else { s with port := { s.port with
    canRx := ⟨client, (count + 1) % 64, bs, nodes, false⟩ :: s.port.canRx.filter (fun r => r.client != client) } }

/-- CAN_COMMAND_FRAME (R69 to R72). Frames of another KIND, for another PORT, or without a client are not the port's. The fragments of a
packet are told from those of others by CLIENT alone (log entry 110), and a frame is taken in with however many bytes it carries (log entry
131). -/
def effCanCommandFrame (ident format : Nat) (data : List Nat) (storeOk : Bool) (s : State) : State :=
  let client := bits ident 8 4
  let h := data.getD 0 0
  let count := h % 64
  let last := bit h 6
  if !s.canUp || bits ident 12 4 != 0 || bits ident 22 4 != s.get Obj.canPortId || client = 0 then s
  else
    match s.port.canRx.find? (fun r => r.client = client), bit h 7 with
    | rx, true =>
      let t := if rx.any (fun r => !r.bad) then canError client true s else canClose client s
      if count != 0 then canError client last t else canTake client format [bits ident 16 6] storeOk last count (data.drop 1) t
    | none, false => canError client last s
    | some r, false =>
      if r.bad then (if last then canClose client s else s)
      else if count != r.next then canError client last s
      else canTake client format (bits ident 16 6 :: r.nodes) storeOk last count (r.bytes ++ data.drop 1) s

/-- CAN_COMMAND_FRAME (R71). -/
def execCanCommandFrame (dt ident format : Nat) (data : List Nat) (storeOk : Bool) (s : State) : Host.Outcome State Fault Refusal :=
  run (Instr.wf (.canCommandFrame dt ident format data storeOk)) dt (effCanCommandFrame ident format data storeOk) s

/-- An identifier (R69). -/
def canIdent (prio port node kind client tag : Nat) : Nat :=
  prio * 2 ^ 26 + port % 16 * 2 ^ 22 + node % 64 * 2 ^ 16 + kind * 2 ^ 12 + client % 16 * 2 ^ 8 + tag % 256

/-- The next length of FD data (R71). -/
def canLength (n : Nat) : Nat := ([12, 16, 20, 24, 32, 48, 64].find? (fun m => n ≤ m)).getD 64

/-- Data padded with 00h to the next valid length. -/
def canPad (bs : List Nat) : List Nat := if bs.length ≤ 8 then bs else bs ++ List.replicate (canLength bs.length - bs.length) 0

/-- The pieces of a list, `k` long; `fuel` bounds their number. -/
def canPieces (k : Nat) : Nat → List Nat → List (List Nat)
  | 0, _ => []
  | _, [] => []
  | n + 1, l => l.take k :: canPieces k n (l.drop k)

/-- The frames of a packet in fragments (R71). -/
def canFragments (ident format : Nat) (pkt : List Nat) : List CanFrame :=
  let ps := canPieces (if format = 0 then 7 else 63) pkt.length pkt
  ps.zipIdx.map (fun p =>
    (⟨ident, format, canPad ((num (p.2 = 0) * 128 + num (p.2 + 1 = ps.length) * 64 + p.2 % 64) :: p.1)⟩ : CanFrame))

/-- The frames of a result set (R72): two FD frames, or 16 classical ones. -/
def canSet (port format : Nat) (set : List Nat) : List CanFrame :=
  let node := set.getD 0 0 % 64
  let cyc := set.getD 2 0
  let ps := canPieces (if format = 0 then 8 else 64) 16 (set.take 128)
  ps.zipIdx.map (fun p =>
    (⟨canIdent 5 port node 2 0 (if format = 0 then p.2 * 16 + cyc % 16 else p.2 * 128 + cyc % 128), format, p.1⟩ : CanFrame))

/-- The frames of a packet of the output queue (R69, R71, R72): a response in its command's format, as its CLIENT and TAG give it when it
leaves (log entry 130); events and sets in CanTxFormat. -/
def State.canFrames (s : State) (p : OutPkt) : List CanFrame :=
  let port := s.get Obj.canPortId
  let node := p.bytes.getD 2 0 % 64
  let tag := p.bytes.getD 1 0
  match p.kind with
  | .response client =>
    let f := ((s.port.canFormats.find? (fun q => q.1 = canKey client tag)).map (·.2)).getD 0
    canFragments (canIdent 3 port node 1 client tag) f p.bytes
  | .event _ => canFragments (canIdent 1 port node 8 0 tag) (s.get Obj.canTxFormat) p.bytes
  | .result => canSet port (s.get Obj.canTxFormat) (p.bytes.drop 8)

/-- CAN_FRAME_TRANSMITTED: the packet at the head of the output queue has left (R555). -/
def effCanFrameTransmitted (s : State) : State :=
  match s.canUp, s.port.outQ with
  | true, p :: _ => popQueue { s with port := { s.port with canTx := s.canFrames p } }
  | _, _ => s

/-- CAN_FRAME_TRANSMITTED (R555). -/
def execCanFrameTransmitted (dt : Nat) (s : State) : Host.Outcome State Fault Refusal :=
  run (Instr.wf (.canFrameTransmitted dt)) dt effCanFrameTransmitted s

/-- BUS_OFF (R73): 2Fh sets; packets in fragments are lost. -/
def effBusOff (s : State) : State :=
  if s.canUp then faultOccur 0x2F { s with port := { s.port with busOff := true, canRx := [] } } else s

/-- BUS_OFF (R73). -/
def execBusOff (dt : Nat) (s : State) : Host.Outcome State Fault Refusal :=
  run (Instr.wf (.busOff dt)) dt effBusOff s

/-- BUS_OFF_RECOVERY (R73). -/
def effBusOffRecovery (s : State) : State :=
  if s.port.busOff then faultEnd 0x2F { s with port := { s.port with busOff := false } } else s

/-- BUS_OFF_RECOVERY (R73). -/
def execBusOffRecovery (dt : Nat) (s : State) : Host.Outcome State Fault Refusal :=
  run (Instr.wf (.busOffRecovery dt)) dt effBusOffRecovery s

/-! Time limits. -/

/-- SESSION_TIMEOUT: a session that has sent no packet for SessionTimeout ends (R58). -/
def effSessionTimeout (client : Nat) (s : State) : State := settleUpdate (endSession (s.client client) 1 s)

/-- SESSION_TIMEOUT (R58). -/
def execSessionTimeout (dt client : Nat) (s : State) : Host.Outcome State Fault Refusal :=
  run (Instr.wf (.sessionTimeout dt client)) dt (effSessionTimeout client) s

/-- TRANSFER_TIMEOUT: a transfer without a segment for 1000 ms ends, and its next packet is refused (R52). -/
def effTransferTimeout (src0 : Source) (write : Bool) (s : State) : State :=
  let src := match src0 with
    | .host c => .host (s.client c)
    | x => x
  let mark (e : EndedXfer) : State := { s with port := { s.port with ended := e :: s.port.ended.filter (fun y => y != e) } }
  if write then
    match s.port.writeXfer with
    | some w => if w.src = src then dropWrite (mark ⟨src, w.index, w.sub, true⟩) else s
    | none => s
  else
    match s.port.readXfers.find? (fun r => r.src = src) with
    | some r => setRead src none (mark ⟨src, r.index, r.sub, false⟩)
    | none => s

/-- TRANSFER_TIMEOUT (R52). -/
def execTransferTimeout (dt : Nat) (src : Source) (write : Bool) (s : State) : Host.Outcome State Fault Refusal :=
  run (Instr.wf (.transferTimeout dt src write)) dt (effTransferTimeout src write) s

end Sys2Proof.Machine
end

