-- ==== Sys2Proof/Machine/RingPackets.lean ====
section
/-! DEFINITION. COMMAND, RESPONSE and BULK frames (R47, R354 to R356): what the node they address does with them, and the head with the
answers. -/

namespace Sys2Proof.Machine

/-- A packet that came as a COMMAND is executed (R354), with a notification to the core (R17): with LOCAL set it is not, and counts in
RxDiscarded. -/
def ringCommand (p : Side) (src session : Nat) (storeOk : Bool) (pkt : List Nat) (s : State) : State :=
  if pkt.length < 8 then s
  else if bit (pkt.getD 2 0) 6 then s.portCount Obj.rxDiscarded p
  else
    arriveOpen ⟨.ring src session, pkt.getD 1 0, pkt.getD 2 0 % 64, storeOk⟩ (pkt.getD 0 0) (leAt pkt 3 2) (pkt.getD 5 0)
      ((pkt.drop 8).take (leAt pkt 6 2)) (notify s)

/-- A packet that came as a RESPONSE answers the command that waits for it (R44, R354); a later one is discarded, and one with LOCAL set
counts in RxDiscarded. -/
def ringResponse (p : Side) (src session : Nat) (pkt : List Nat) (s : State) : State :=
  let mine (r : RingCmd) : Bool := r.session == session && r.tag == pkt.getD 1 0 && r.addr % 64 == src
  if bit (pkt.getD 2 0) 6 then s.portCount Obj.rxDiscarded p
  else match s.ring.cmds.find? mine with
  | none => s
  | some r =>
    let t := { s with ring := { s.ring with cmds := s.ring.cmds.filter (fun x => !mine x) } }
    hostResponse r.client pkt t

/-- The frame addresses the node (R354). -/
def forUs (s : State) (bs : List Nat) : Bool := bs.getD 4 0 % 64 == s.address || bs.getD 4 0 % 64 == 63

/-- A broadcast of the head's own has returned (R47): its own answer goes to the host. `key` is the SEQ, with 256 added for BULK. -/
def ownReturned (key : Nat) (s : State) : State :=
  let mine (r : RingCmd) : Bool := r.addr % 64 == 63 && r.seq == key
  match s.ring.cmds.find? mine with
  | none => s
  | some r =>
    if r.own.isEmpty then
      { s with ring := { s.ring with cmds := s.ring.cmds.map (fun x => if mine x then { x with returned := true } else x) } }
    else hostResponse r.client r.own { s with ring := { s.ring with cmds := s.ring.cmds.filter (fun x => !mine x) } }

/-- COMMAND at the node (R354, R355). -/
def actCommand (p : Side) (storeOk : Bool) (bs : List Nat) (s : State) : State :=
  if frameType bs != 0 || !actsOn bs s || !forUs s bs then s
  else actOnce bs (ringCommand p (frameSrc bs) (frameFlags bs % 8) storeOk (framePayload bs)) s

/-- COMMAND back at the head (R47). -/
def ownCommandBack (bs : List Nat) (s : State) : State :=
  if frameType bs = 0 && bs.getD 4 0 % 64 = 63 then ownReturned (bs.getD 5 0) s else s

/-- COMMAND_FRAME (R354). -/
def execCommandFrame (dt : Nat) (f : RingFrame) (storeOk : Bool) (s : State) : Host.Outcome State Fault Refusal :=
  run (Instr.wf (.commandFrame dt f storeOk))
    dt (ringReceive f f.bytes (actCommand f.side storeOk f.bytes) (ownCommandBack f.bytes)) s

/-- RESPONSE at the node that sent the command (R354). -/
def actResponse (p : Side) (bs : List Nat) (s : State) : State :=
  if frameType bs != 1 || !actsOn bs s || bs.getD 4 0 % 64 != s.address then s
  else actOnce bs (ringResponse p (frameSrc bs) (frameFlags bs % 8) (framePayload bs)) s

/-- RESPONSE_FRAME (R354). -/
def execResponseFrame (dt : Nat) (f : RingFrame) (s : State) : Host.Outcome State Fault Refusal :=
  run (Instr.wf (.responseFrame dt f)) dt (ringReceive f f.bytes (actResponse f.side f.bytes) id) s

/-! BULK (R356). -/

/-- The state with what is arriving from a source changed, or gone. -/
def setBulk (src : Nat) (v : Option BulkRx) (s : State) : State :=
  { s with ring := { s.ring with bulk := v.toList ++ s.ring.bulk.filter (fun b => b.src != src) } }

/-- Fragments 0 to LAST have all arrived. -/
def BulkRx.whole (b : BulkRx) : Option (List Nat) :=
  match b.last with
  | none => none
  | some n =>
    let fs := (List.range (n + 1)).map (fun i => (b.frags.find? (fun p => p.1 = i)).map (·.2))
    if fs.all Option.isSome then some (fs.filterMap id).flatten else none

/-- A fragment is taken in: a new XID of the source discards an incomplete packet, and the first copy of a fragment counts. -/
def bulkTake (p : Side) (storeOk : Bool) (bs : List Nat) (s : State) : State :=
  let src := frameSrc bs
  let pl := framePayload bs
  let xid := pl.getD 0 0
  let frag := pl.getD 1 0
  let new : BulkRx := ⟨src, xid, bit (frameFlags bs) 0, frameFlags bs / 2, [], none⟩
  let old := ((s.ring.bulk.find? (fun b => b.src = src && b.xid = xid))).getD new
  let b := { old with
    frags := if old.frags.any (fun q => q.1 = frag) then old.frags else old.frags ++ [(frag, pl.drop 4)]
    last := if bit (pl.getD 2 0) 0 then some frag else old.last }
  match b.whole with
  | none => setBulk src (some b) s
  | some pkt =>
    let t := setBulk src none s
    if b.response then ringResponse p src b.session pkt t else ringCommand p src b.session storeOk pkt t

/-- BULK at the node. -/
def actBulk (p : Side) (storeOk : Bool) (bs : List Nat) (s : State) : State :=
  if frameType bs != 5 || !actsOn bs s || !forUs s bs || (framePayload bs).length < 5 then s
  else actOnce bs (bulkTake p storeOk bs) s

/-- A BULK frame back at the head: the last fragment of a broadcast (R47). -/
def ownBulkBack (bs : List Nat) (s : State) : State :=
  if frameType bs = 5 && bs.getD 4 0 % 64 = 63 && bit ((framePayload bs).getD 2 0) 0 then ownReturned (256 + bs.getD 5 0) s else s

/-- BULK_FRAME (R356). -/
def execBulkFrame (dt : Nat) (f : RingFrame) (storeOk : Bool) (s : State) : Host.Outcome State Fault Refusal :=
  run (Instr.wf (.bulkFrame dt f storeOk))
    dt (ringReceive f f.bytes (actBulk f.side storeOk f.bytes) (ownBulkBack f.bytes)) s

/-- BULK_REASSEMBLY_TIMEOUT (R356). -/
def effBulkReassemblyTimeout (src : Nat) (s : State) : State := setBulk src none s

/-- BULK_REASSEMBLY_TIMEOUT (R356). -/
def execBulkReassemblyTimeout (dt src : Nat) (s : State) : Host.Outcome State Fault Refusal :=
  run (Instr.wf (.bulkReassemblyTimeout dt src)) dt (effBulkReassemblyTimeout src) s

/-- RING_COMMAND_TIMEOUT: no answer, or no return of the broadcast, within 20 ms (R44, R47). -/
def effRingCommandTimeout (client0 tag : Nat) (s : State) : State :=
  let client := s.client client0
  let mine (r : RingCmd) : Bool := r.client == client && r.tag == tag
  match s.ring.cmds.find? mine with
  | none => s
  | some r =>
    portAbort ⟨⟨.host client, tag, r.addr, true⟩, r.op, r.index, r.sub, [], 0⟩ 0x0F
      { s with ring := { s.ring with cmds := s.ring.cmds.filter (fun x => !mine x) } }

/-- RING_COMMAND_TIMEOUT (R47). -/
def execRingCommandTimeout (dt client tag : Nat) (s : State) : Host.Outcome State Fault Refusal :=
  run (Instr.wf (.ringCommandTimeout dt client tag)) dt (effRingCommandTimeout client tag) s

end Sys2Proof.Machine
end

