-- ==== Sys2Proof/Machine/Requests.lean ====
section
/-! DEFINITION. The rows of the table that are a packet to one object: each is that packet, and takes the way of every packet (Machine/HostPort.lean,
Machine/Packets.lean) to the meaning of that object's write or read (Machine/Objects.lean). -/

namespace Sys2Proof.Machine

/-! Resets (R38, R555). -/

/-- RESET_SUP_DOMAIN (R38): a write of 5A01h to ResetCommand. -/
def effResetSupDomain (c : Ctx) (s : State) : State := arrive ⟨c, 2, 0x0003, 0, [0x01, 0x5A], 0⟩ s

/-- RESET_SUP_DOMAIN (R38). -/
def execResetSupDomain (dt : Nat) (c : Ctx) (s : State) : Host.Outcome State Fault Refusal :=
  run (Instr.wf (.resetSupDomain dt c)) dt (effResetSupDomain c) s

/-- RESET_WHOLE_DEVICE (R38): a write of 5A02h to ResetCommand. -/
def effResetWholeDevice (c : Ctx) (s : State) : State := arrive ⟨c, 2, 0x0003, 0, [0x02, 0x5A], 0⟩ s

/-- RESET_WHOLE_DEVICE (R38). -/
def execResetWholeDevice (dt : Nat) (c : Ctx) (s : State) : Host.Outcome State Fault Refusal :=
  run (Instr.wf (.resetWholeDevice dt c)) dt (effResetWholeDevice c) s

/-- RELEASE_HELD_SUP (R465): a write of 5A03h to ResetCommand. -/
def effReleaseHeldSup (c : Ctx) (s : State) : State := arrive ⟨c, 2, 0x0003, 0, [0x03, 0x5A], 0⟩ s

/-- RELEASE_HELD_SUP (R465). -/
def execReleaseHeldSup (dt : Nat) (c : Ctx) (s : State) : Host.Outcome State Fault Refusal :=
  run (Instr.wf (.releaseHeldSup dt c)) dt (effReleaseHeldSup c) s

/-! Sessions (R56, R57). -/

/-- SESSION_CLOSE (R56): a write to SessionRequest with ROLE close. -/
def effSessionClose (c : Ctx) (s : State) : State := arrive ⟨c, 2, 0x0B10, 0, [0, 0], 0⟩ s

/-- SESSION_CLOSE (R56). -/
def execSessionClose (dt : Nat) (c : Ctx) (s : State) : Host.Outcome State Fault Refusal :=
  run (Instr.wf (.sessionClose dt c)) dt (effSessionClose c) s

/-- SESSION_OPEN_OBSERVER (R56): a write to SessionRequest with ROLE OBSERVER. -/
def effSessionOpenObserver (c : Ctx) (s : State) : State := arrive ⟨c, 2, 0x0B10, 0, [1, 0], 0⟩ s

/-- SESSION_OPEN_OBSERVER (R56). -/
def execSessionOpenObserver (dt : Nat) (c : Ctx) (s : State) : Host.Outcome State Fault Refusal :=
  run (Instr.wf (.sessionOpenObserver dt c)) dt (effSessionOpenObserver c) s

/-- SESSION_REQUEST_MASTER (R57): a write to SessionRequest with ROLE MASTER. -/
def effSessionRequestMaster (c : Ctx) (s : State) : State := arrive ⟨c, 2, 0x0B10, 0, [2, 0], 0⟩ s

/-- SESSION_REQUEST_MASTER (R57). -/
def execSessionRequestMaster (dt : Nat) (c : Ctx) (s : State) : Host.Outcome State Fault Refusal :=
  run (Instr.wf (.sessionRequestMaster dt c)) dt (effSessionRequestMaster c) s

/-- SESSION_MASTER_TAKE (R57): a write to SessionRequest with ROLE MASTER with TAKE. -/
def effSessionMasterTake (c : Ctx) (s : State) : State := arrive ⟨c, 2, 0x0B10, 0, [3, 0], 0⟩ s

/-- SESSION_MASTER_TAKE (R57). -/
def execSessionMasterTake (dt : Nat) (c : Ctx) (s : State) : Host.Outcome State Fault Refusal :=
  run (Instr.wf (.sessionMasterTake dt c)) dt (effSessionMasterTake c) s

/-! Modes, channels, power. -/

/-- MODE_REQUEST (R92): a write to ModeRequest (R90 to R92). -/
def effModeRequest (c : Ctx) (value : Nat) (s : State) : State := arrive ⟨c, 2, 0x0200, 0, [value], 0⟩ s

/-- MODE_REQUEST (R92). -/
def execModeRequest (dt : Nat) (c : Ctx) (value : Nat) (s : State) : Host.Outcome State Fault Refusal :=
  run (Instr.wf (.modeRequest dt c value)) dt (effModeRequest c value) s

/-- RETIRE (R152): a write to ChannelControl (R152, R154). -/
def effRetire (c : Ctx) (cell : Nat) (s : State) : State := arrive ⟨c, 2, 0x0422, 0, [1, cell], 0⟩ s

/-- RETIRE (R152). -/
def execRetire (dt : Nat) (c : Ctx) (cell : Nat) (s : State) : Host.Outcome State Fault Refusal :=
  run (Instr.wf (.retire dt c cell)) dt (effRetire c cell) s

/-- REINSTATE (R154): a write to ChannelControl (R154). -/
def effReinstate (c : Ctx) (cell : Nat) (s : State) : State := arrive ⟨c, 2, 0x0422, 0, [2, cell], 0⟩ s

/-- REINSTATE (R154). -/
def execReinstate (dt : Nat) (c : Ctx) (cell : Nat) (s : State) : Host.Outcome State Fault Refusal :=
  run (Instr.wf (.reinstate dt c cell)) dt (effReinstate c cell) s

/-- POWER_PATH_POLICY_WRITE (R80): a write to PowerPathPolicy. -/
def effPowerPathPolicyWrite (c : Ctx) (value : Nat) (s : State) : State := arrive ⟨c, 2, 0x0940, 0, [value], 0⟩ s

/-- POWER_PATH_POLICY_WRITE (R80). -/
def execPowerPathPolicyWrite (dt : Nat) (c : Ctx) (value : Nat) (s : State) : Host.Outcome State Fault Refusal :=
  run (Instr.wf (.powerPathPolicyWrite dt c value)) dt (effPowerPathPolicyWrite c value) s

/-! The sampling plan (R258 to R262). -/

/-- LOAD (R260): a write to PlanControl. -/
def effLoad (c : Ctx) (slot : Nat) (s : State) : State := arrive ⟨c, 2, 0x0600, 0, [slot, 1], 0⟩ s

/-- LOAD (R260). -/
def execLoad (dt : Nat) (c : Ctx) (slot : Nat) (s : State) : Host.Outcome State Fault Refusal :=
  run (Instr.wf (.load dt c slot)) dt (effLoad c slot) s

/-- DISCARD (R260): a write to PlanControl. -/
def effDiscard (c : Ctx) (s : State) : State := arrive ⟨c, 2, 0x0600, 0, [0, 2], 0⟩ s

/-- DISCARD (R260). -/
def execDiscard (dt : Nat) (c : Ctx) (s : State) : Host.Outcome State Fault Refusal :=
  run (Instr.wf (.discard dt c)) dt (effDiscard c) s

/-- ERASE (R260): a write to PlanControl. -/
def effErase (c : Ctx) (slot : Nat) (s : State) : State := arrive ⟨c, 2, 0x0600, 0, [slot, 3], 0⟩ s

/-- ERASE (R260). -/
def execErase (dt : Nat) (c : Ctx) (slot : Nat) (s : State) : Host.Outcome State Fault Refusal :=
  run (Instr.wf (.erase dt c slot)) dt (effErase c slot) s

/-- CANCEL (R260): a write to PlanControl. -/
def effCancel (c : Ctx) (s : State) : State := arrive ⟨c, 2, 0x0600, 0, [0, 4], 0⟩ s

/-- CANCEL (R260). -/
def execCancel (dt : Nat) (c : Ctx) (s : State) : Host.Outcome State Fault Refusal :=
  run (Instr.wf (.cancel dt c)) dt (effCancel c) s

/-- PLAN_SWITCH (R262): a write to PlanSwitch. -/
def effPlanSwitch (c : Ctx) (planId : Nat) (start : Nat) (s : State) : State := arrive ⟨c, 2, 0x0602, 0, leBytes 6 start ++ [0, planId], 0⟩ s

/-- PLAN_SWITCH (R262). -/
def execPlanSwitch (dt : Nat) (c : Ctx) (planId : Nat) (start : Nat) (s : State) : Host.Outcome State Fault Refusal :=
  run (Instr.wf (.planSwitch dt c planId start)) dt (effPlanSwitch c planId start) s

/-- PLAN_IMAGE_WRITE (R259): a segmented write of PlanImage, at LAST. -/
def effPlanImageWrite (c : Ctx) (image : List Nat) (s : State) : State := arrive ⟨c, wholeOp, 0x0610, 0, image, 0⟩ s

/-- PLAN_IMAGE_WRITE (R259). -/
def execPlanImageWrite (dt : Nat) (c : Ctx) (image : List Nat) (s : State) : Host.Outcome State Fault Refusal :=
  run (Instr.wf (.planImageWrite dt c image)) dt (effPlanImageWrite c image) s

/-! The auxiliary converter and the Facet bus (R212, R231, R234). -/

/-- AUX_REQUEST (R212): a write to AuxRequest. -/
def effAuxRequest (c : Ctx) (channel : Nat) (s : State) : State := arrive ⟨c, 2, 0x0703, 0, [channel], 0⟩ s

/-- AUX_REQUEST (R212). -/
def execAuxRequest (dt : Nat) (c : Ctx) (channel : Nat) (s : State) : Host.Outcome State Fault Refusal :=
  run (Instr.wf (.auxRequest dt c channel)) dt (effAuxRequest c channel) s

/-- FACET_SEARCH (R231): a write to FacetSearch. -/
def effFacetSearch (c : Ctx) (value : Nat) (s : State) : State := arrive ⟨c, 2, 0x0751, 0, [value], 0⟩ s

/-- FACET_SEARCH (R231). -/
def execFacetSearch (dt : Nat) (c : Ctx) (value : Nat) (s : State) : Host.Outcome State Fault Refusal :=
  run (Instr.wf (.facetSearch dt c value)) dt (effFacetSearch c value) s

/-- FACET_ENABLE (R234): a write to FacetEnable. -/
def effFacetEnable (c : Ctx) (value : Nat) (s : State) : State := arrive ⟨c, 2, 0x0750, 0, [value], 0⟩ s

/-- FACET_ENABLE (R234). -/
def execFacetEnable (dt : Nat) (c : Ctx) (value : Nat) (s : State) : Host.Outcome State Fault Refusal :=
  run (Instr.wf (.facetEnable dt c value)) dt (effFacetEnable c value) s

/-! Safety (R405, R430 to R434). -/

/-- MIRROR_RELEASE (R405): what the comparators have sampled and the checks of R406 find up to the write, and the write to MirrorRelease. -/
def effMirrorRelease (c : Ctx) (value : Nat) (samples : List MirrorRun) (failing : Nat) (s : State) : State :=
  arrive ⟨c, 2, 0x0C09, 0, leBytes 2 value, 0⟩ (mirrorChecks failing (samples.foldl (fun t x => mirrorSampled x t) s))

/-- MIRROR_RELEASE (R405). -/
def execMirrorRelease (dt : Nat) (c : Ctx) (value : Nat) (found : MirrorFinds) (s : State) :
    Host.Outcome State Fault Refusal :=
  run (Instr.wf (.mirrorRelease dt c value found)) dt (effMirrorRelease c value found.samples found.failing) s

/-- WATCHDOG_FIRST_KEY (R431): a write of 9E37h to WatchdogService, by the core or by the host. -/
def effWatchdogFirstKey (o : WdOrigin) (s : State) : State :=
  match o with
  | .core p => coreWatchdog 0x9E37 p s
  | .host c => arrive ⟨c, 2, 0x0C40, 0, leBytes 2 0x9E37, 0⟩ s

/-- WATCHDOG_FIRST_KEY (R431). -/
def execWatchdogFirstKey (dt : Nat) (o : WdOrigin) (s : State) : Host.Outcome State Fault Refusal :=
  run (Instr.wf (.watchdogFirstKey dt o)) dt (effWatchdogFirstKey o) s

/-- WATCHDOG_SECOND_KEY (R431): a write of 61C8h to WatchdogService, by the core or by the host. -/
def effWatchdogSecondKey (o : WdOrigin) (s : State) : State :=
  match o with
  | .core p => coreWatchdog 0x61C8 p s
  | .host c => arrive ⟨c, 2, 0x0C40, 0, leBytes 2 0x61C8, 0⟩ s

/-- WATCHDOG_SECOND_KEY (R431). -/
def execWatchdogSecondKey (dt : Nat) (o : WdOrigin) (s : State) : Host.Outcome State Fault Refusal :=
  run (Instr.wf (.watchdogSecondKey dt o)) dt (effWatchdogSecondKey o) s

/-- WATCHDOG_CONFIG_WRITE (R430): a write to WatchdogConfig. -/
def effWatchdogConfigWrite (c : Ctx) (value : Nat) (s : State) : State := arrive ⟨c, 2, 0x0C41, 0, leBytes 4 value, 0⟩ s

/-- WATCHDOG_CONFIG_WRITE (R430). -/
def execWatchdogConfigWrite (dt : Nat) (c : Ctx) (value : Nat) (s : State) : Host.Outcome State Fault Refusal :=
  run (Instr.wf (.watchdogConfigWrite dt c value)) dt (effWatchdogConfigWrite c value) s

/-! The checking engines (R448, R451). -/

/-- CRC_START (R448): a write of START to CrcControl. -/
def effCrcStart (c : Ctx) (s : State) : State := arrive ⟨c, 2, 0x0D14, 0, [1], 0⟩ s

/-- CRC_START (R448). -/
def execCrcStart (dt : Nat) (c : Ctx) (s : State) : Host.Outcome State Fault Refusal :=
  run (Instr.wf (.crcStart dt c)) dt (effCrcStart c) s

/-- CRC_DATA (R448): a segmented write of CrcData. -/
def effCrcData (c : Ctx) (data : List Nat) (s : State) : State := arrive ⟨c, wholeOp, 0x0D15, 0, data, 0⟩ s

/-- CRC_DATA (R448). -/
def execCrcData (dt : Nat) (c : Ctx) (data : List Nat) (s : State) : Host.Outcome State Fault Refusal :=
  run (Instr.wf (.crcData dt c data)) dt (effCrcData c data) s

/-- ALIVE_INPUT (R451): a write to AliveInput. -/
def effAliveInput (c : Ctx) (value : Nat) (s : State) : State := arrive ⟨c, 2, 0x0D21, 0, leBytes 2 value, 0⟩ s

/-- ALIVE_INPUT (R451). -/
def execAliveInput (dt : Nat) (c : Ctx) (value : Nat) (s : State) : Host.Outcome State Fault Refusal :=
  run (Instr.wf (.aliveInput dt c value)) dt (effAliveInput c value) s

/-- ALIVE_CONFIG (R451): a write to AliveConfig. -/
def effAliveConfig (c : Ctx) (value : Nat) (s : State) : State := arrive ⟨c, 2, 0x0D20, 0, leBytes 4 value, 0⟩ s

/-- ALIVE_CONFIG (R451). -/
def execAliveConfig (dt : Nat) (c : Ctx) (value : Nat) (s : State) : Host.Outcome State Fault Refusal :=
  run (Instr.wf (.aliveConfig dt c value)) dt (effAliveConfig c value) s

/-! The ring (R362, R372, R389). -/

/-- ENUM_NEW (R362): a write of NEW to EnumControl. -/
def effEnumNew (c : Ctx) (s : State) : State := arrive ⟨c, 2, 0x0A05, 0, [1], 0⟩ s

/-- ENUM_NEW (R362). -/
def execEnumNew (dt : Nat) (c : Ctx) (s : State) : Host.Outcome State Fault Refusal :=
  run (Instr.wf (.enumNew dt c)) dt (effEnumNew c) s

/-- ENUM_VERIFY (R363): a write of VERIFY to EnumControl. -/
def effEnumVerify (c : Ctx) (s : State) : State := arrive ⟨c, 2, 0x0A05, 0, [2], 0⟩ s

/-- ENUM_VERIFY (R363). -/
def execEnumVerify (dt : Nat) (c : Ctx) (s : State) : Host.Outcome State Fault Refusal :=
  run (Instr.wf (.enumVerify dt c)) dt (effEnumVerify c) s

/-- DEPUTY_CONTROL (R389): a write to DeputyControl. -/
def effDeputyControl (c : Ctx) (s : State) : State := arrive ⟨c, 2, 0x0A26, 0, [1], 0⟩ s

/-- DEPUTY_CONTROL (R389). -/
def execDeputyControl (dt : Nat) (c : Ctx) (s : State) : Host.Outcome State Fault Refusal :=
  run (Instr.wf (.deputyControl dt c)) dt (effDeputyControl c) s

/-- LEGACY_TRANSMIT (R372): a segmented write of LegacyTransmit; `markIn` are the ticks to the next MARK. -/
def effLegacyTransmit (c : Ctx) (data : List Nat) (markIn : Nat) (s : State) : State :=
  arrive ⟨c, wholeOp, 0x0A30, 0, data, markIn⟩ s

/-- LEGACY_TRANSMIT (R372). -/
def execLegacyTransmit (dt : Nat) (c : Ctx) (data : List Nat) (markIn : Nat) (s : State) : Host.Outcome State Fault Refusal :=
  run (Instr.wf (.legacyTransmit dt c data markIn)) dt (effLegacyTransmit c data markIn) s

/-! Update (R508 to R511). -/

/-- ACTIVATE (R510): a write to UpdateControl. -/
def effActivate (c : Ctx) (s : State) : State := arrive ⟨c, 2, 0x1011, 0, [1], 0⟩ s

/-- ACTIVATE (R510). -/
def execActivate (dt : Nat) (c : Ctx) (s : State) : Host.Outcome State Fault Refusal :=
  run (Instr.wf (.activate dt c)) dt (effActivate c) s

/-- ABANDON (R510): a write to UpdateControl. -/
def effAbandon (c : Ctx) (s : State) : State := arrive ⟨c, 2, 0x1011, 0, [2], 0⟩ s

/-- ABANDON (R510). -/
def execAbandon (dt : Nat) (c : Ctx) (s : State) : Host.Outcome State Fault Refusal :=
  run (Instr.wf (.abandon dt c)) dt (effAbandon c) s

/-- UPDATE_VERIFY (R510): a write to UpdateControl. -/
def effUpdateVerify (c : Ctx) (s : State) : State := arrive ⟨c, 2, 0x1011, 0, [3], 0⟩ s

/-- UPDATE_VERIFY (R510). -/
def execUpdateVerify (dt : Nat) (c : Ctx) (s : State) : Host.Outcome State Fault Refusal :=
  run (Instr.wf (.updateVerify dt c)) dt (effUpdateVerify c) s

/-- CONFIRM (R510): a write to UpdateControl. -/
def effConfirm (c : Ctx) (s : State) : State := arrive ⟨c, 2, 0x1011, 0, [4], 0⟩ s

/-- CONFIRM (R510). -/
def execConfirm (dt : Nat) (c : Ctx) (s : State) : Host.Outcome State Fault Refusal :=
  run (Instr.wf (.confirm dt c)) dt (effConfirm c) s

/-- ROLLBACK (R510): a write to UpdateControl. -/
def effRollback (c : Ctx) (s : State) : State := arrive ⟨c, 2, 0x1011, 0, [5], 0⟩ s

/-- ROLLBACK (R510). -/
def execRollback (dt : Nat) (c : Ctx) (s : State) : Host.Outcome State Fault Refusal :=
  run (Instr.wf (.rollback dt c)) dt (effRollback c) s

/-- FIRMWARE_IMAGE_WRITE (R508, R509): a segmented write of FirmwareImage, its programming, and its validation at LAST. -/
def effFirmwareImageWrite (c : Ctx) (data : List Nat) (s : State) : State := arrive ⟨c, wholeOp, 0x1010, 0, data, 0⟩ s

/-- FIRMWARE_IMAGE_WRITE (R508). -/
def execFirmwareImageWrite (dt : Nat) (c : Ctx) (data : List Nat) (s : State) : Host.Outcome State Fault Refusal :=
  run (Instr.wf (.firmwareImageWrite dt c data)) dt (effFirmwareImageWrite c data) s

/-! Fault sources (R332, R462). -/

/-- FAULT_CLEAR (R462): a write to FaultStatus. -/
def effFaultClear (c : Ctx) (source : Nat) (value : Nat) (s : State) : State := arrive ⟨c, 2, 0x0E10 + source, 1, [value], 0⟩ s

/-- FAULT_CLEAR (R462). -/
def execFaultClear (dt : Nat) (c : Ctx) (source : Nat) (value : Nat) (s : State) : Host.Outcome State Fault Refusal :=
  run (Instr.wf (.faultClear dt c source value)) dt (effFaultClear c source value) s

/-- FAULT_STATUS_READ_CLEAR (R332): a read of FaultStatus. -/
def effFaultStatusReadClear (c : Ctx) (source : Nat) (s : State) : State := arrive ⟨c, 1, 0x0E10 + source, 1, [], 0⟩ s

/-- FAULT_STATUS_READ_CLEAR (R332). -/
def execFaultStatusReadClear (dt : Nat) (c : Ctx) (source : Nat) (s : State) : Host.Outcome State Fault Refusal :=
  run (Instr.wf (.faultStatusReadClear dt c source)) dt (effFaultStatusReadClear c source) s

end Sys2Proof.Machine
end

