-- ==== Sys2Proof/Machine/Dispatch.lean ====
section
/-! DEFINITION. One arm per command: a direct call of its meaning. -/

namespace Sys2Proof.Machine

def exec (i : Instr) (s : State) : Host.Outcome State Fault Refusal :=
  match i with
  | .read dt c index sub data => Sys2Proof.Machine.execRead dt c index sub data s
  | .write dt c index sub data => Sys2Proof.Machine.execWrite dt c index sub data s
  | .segReadStart dt c index sub => Sys2Proof.Machine.execSegReadStart dt c index sub s
  | .segWriteStart dt c index sub total => Sys2Proof.Machine.execSegWriteStart dt c index sub total s
  | .segData dt c index sub seq last payload => Sys2Proof.Machine.execSegData dt c index sub seq last payload s
  | .segCancel dt c index sub => Sys2Proof.Machine.execSegCancel dt c index sub s
  | .ping dt c => Sys2Proof.Machine.execPing dt c s
  | .status dt length => Sys2Proof.Machine.execStatus dt length s
  | .put dt length seq packet crc storeOk => Sys2Proof.Machine.execPut dt length seq packet crc storeOk s
  | .get dt length clocked => Sys2Proof.Machine.execGet dt length clocked s
  | .pop dt length seq crc clocked => Sys2Proof.Machine.execPop dt length seq crc clocked s
  | .canCommandFrame dt ident format data storeOk => Sys2Proof.Machine.execCanCommandFrame dt ident format data storeOk s
  | .busOff dt => Sys2Proof.Machine.execBusOff dt s
  | .busOffRecovery dt => Sys2Proof.Machine.execBusOffRecovery dt s
  | .resetSupDomain dt c => Sys2Proof.Machine.execResetSupDomain dt c s
  | .resetWholeDevice dt c => Sys2Proof.Machine.execResetWholeDevice dt c s
  | .releaseHeldSup dt c => Sys2Proof.Machine.execReleaseHeldSup dt c s
  | .resetActs dt => Sys2Proof.Machine.execResetActs dt s
  | .sessionClose dt c => Sys2Proof.Machine.execSessionClose dt c s
  | .sessionOpenObserver dt c => Sys2Proof.Machine.execSessionOpenObserver dt c s
  | .sessionRequestMaster dt c => Sys2Proof.Machine.execSessionRequestMaster dt c s
  | .sessionMasterTake dt c => Sys2Proof.Machine.execSessionMasterTake dt c s
  | .sessionTimeout dt client => Sys2Proof.Machine.execSessionTimeout dt client s
  | .transferTimeout dt src write => Sys2Proof.Machine.execTransferTimeout dt src write s
  | .modeRequest dt c value => Sys2Proof.Machine.execModeRequest dt c value s
  | .modeTransition dt => Sys2Proof.Machine.execModeTransition dt s
  | .shutdownSequenceComplete dt => Sys2Proof.Machine.execShutdownSequenceComplete dt s
  | .retire dt c cell => Sys2Proof.Machine.execRetire dt c cell s
  | .reinstate dt c cell => Sys2Proof.Machine.execReinstate dt c cell s
  | .load dt c slot => Sys2Proof.Machine.execLoad dt c slot s
  | .discard dt c => Sys2Proof.Machine.execDiscard dt c s
  | .erase dt c slot => Sys2Proof.Machine.execErase dt c slot s
  | .cancel dt c => Sys2Proof.Machine.execCancel dt c s
  | .planSwitch dt c planId start => Sys2Proof.Machine.execPlanSwitch dt c planId start s
  | .bankSwitch dt => Sys2Proof.Machine.execBankSwitch dt s
  | .planImageWrite dt c image => Sys2Proof.Machine.execPlanImageWrite dt c image s
  | .auxRequest dt c channel => Sys2Proof.Machine.execAuxRequest dt c channel s
  | .facetSearch dt c value => Sys2Proof.Machine.execFacetSearch dt c value s
  | .facetEnable dt c value => Sys2Proof.Machine.execFacetEnable dt c value s
  | .mirrorRelease dt c value found => Sys2Proof.Machine.execMirrorRelease dt c value found s
  | .watchdogFirstKey dt o => Sys2Proof.Machine.execWatchdogFirstKey dt o s
  | .watchdogSecondKey dt o => Sys2Proof.Machine.execWatchdogSecondKey dt o s
  | .watchdogConfigWrite dt c value => Sys2Proof.Machine.execWatchdogConfigWrite dt c value s
  | .crcStart dt c => Sys2Proof.Machine.execCrcStart dt c s
  | .crcData dt c data => Sys2Proof.Machine.execCrcData dt c data s
  | .aliveInput dt c value => Sys2Proof.Machine.execAliveInput dt c value s
  | .aliveConfig dt c value => Sys2Proof.Machine.execAliveConfig dt c value s
  | .enumNew dt c => Sys2Proof.Machine.execEnumNew dt c s
  | .enumVerify dt c => Sys2Proof.Machine.execEnumVerify dt c s
  | .deputyControl dt c => Sys2Proof.Machine.execDeputyControl dt c s
  | .legacyTransmit dt c data markIn => Sys2Proof.Machine.execLegacyTransmit dt c data markIn s
  | .activate dt c => Sys2Proof.Machine.execActivate dt c s
  | .abandon dt c => Sys2Proof.Machine.execAbandon dt c s
  | .updateVerify dt c => Sys2Proof.Machine.execUpdateVerify dt c s
  | .confirm dt c => Sys2Proof.Machine.execConfirm dt c s
  | .rollback dt c => Sys2Proof.Machine.execRollback dt c s
  | .firmwareImageWrite dt c data => Sys2Proof.Machine.execFirmwareImageWrite dt c data s
  | .faultClear dt c source value => Sys2Proof.Machine.execFaultClear dt c source value s
  | .faultStatusReadClear dt c source => Sys2Proof.Machine.execFaultStatusReadClear dt c source s
  | .powerPathPolicyWrite dt c value => Sys2Proof.Machine.execPowerPathPolicyWrite dt c value s
  | .convert dt cells osr through charge => Sys2Proof.Machine.execConvert dt cells osr through charge s
  | .snapCurrent dt charge => Sys2Proof.Machine.execSnapCurrent dt charge s
  | .balHold dt switches => Sys2Proof.Machine.execBalHold dt switches s
  | .balRelease dt switches => Sys2Proof.Machine.execBalRelease dt switches s
  | .aux dt select => Sys2Proof.Machine.execAux dt select s
  | .openwire dt param => Sys2Proof.Machine.execOpenwire dt param s
  | .report dt op => Sys2Proof.Machine.execReport dt op s
  | .mark dt offset last => Sys2Proof.Machine.execMark dt offset last s
  | .slice dt channels param => Sys2Proof.Machine.execSlice dt channels param s
  | .xferOn dt => Sys2Proof.Machine.execXferOn dt s
  | .xferOff dt => Sys2Proof.Machine.execXferOff dt s
  | .loupeStart dt point switches => Sys2Proof.Machine.execLoupeStart dt point switches s
  | .loupeStop dt => Sys2Proof.Machine.execLoupeStop dt s
  | .adhocSlot dt => Sys2Proof.Machine.execAdhocSlot dt s
  | .planCycleBoundary dt words => Sys2Proof.Machine.execPlanCycleBoundary dt words s
  | .planEntryFetch dt entry wordsOk => Sys2Proof.Machine.execPlanEntryFetch dt entry wordsOk s
  | .entryRefetchComplete dt entry ok inTime => Sys2Proof.Machine.execEntryRefetchComplete dt entry ok inTime s
  | .lateEntry dt entry => Sys2Proof.Machine.execLateEntry dt entry s
  | .planScrubPass dt active inactive => Sys2Proof.Machine.execPlanScrubPass dt active inactive s
  | .calScrubPass dt words => Sys2Proof.Machine.execCalScrubPass dt words s
  | .apertureComplete dt a cells s1 s2 cur sense e => Sys2Proof.Machine.execApertureComplete dt a cells s1 s2 cur sense e s
  | .recomputationComplete dt a converter ok => Sys2Proof.Machine.execRecomputationComplete dt a converter ok s
  | .auxConversionComplete dt volts => Sys2Proof.Machine.execAuxConversionComplete dt volts s
  | .spareArmingComplete dt spare => Sys2Proof.Machine.execSpareArmingComplete dt spare s
  | .handBackTimeout dt spare => Sys2Proof.Machine.execHandBackTimeout dt spare s
  | .sliceEnd dt kind target token out => Sys2Proof.Machine.execSliceEnd dt kind target token out s
  | .selftestComplete dt mem again words => Sys2Proof.Machine.execSelftestComplete dt mem again words s
  | .markCopy dt f residence sub => Sys2Proof.Machine.execMarkCopy dt f residence sub s
  | .laneServiceEvaluation dt => Sys2Proof.Machine.execLaneServiceEvaluation dt s
  | .markSilence dt => Sys2Proof.Machine.execMarkSilence dt s
  | .holdoverLimit dt => Sys2Proof.Machine.execHoldoverLimit dt s
  | .syncEdge dt rising => Sys2Proof.Machine.execSyncEdge dt rising s
  | .linkLock dt side => Sys2Proof.Machine.execLinkLock dt side s
  | .linkLoss dt side violations => Sys2Proof.Machine.execLinkLoss dt side violations s
  | .trainingGenerationSwitch dt side => Sys2Proof.Machine.execTrainingGenerationSwitch dt side s
  | .remoteFaultIdle dt side => Sys2Proof.Machine.execRemoteFaultIdle dt side s
  | .portServing dt side => Sys2Proof.Machine.execPortServing dt side s
  | .commandFrame dt f storeOk => Sys2Proof.Machine.execCommandFrame dt f storeOk s
  | .responseFrame dt f => Sys2Proof.Machine.execResponseFrame dt f s
  | .bulkFrame dt f storeOk => Sys2Proof.Machine.execBulkFrame dt f storeOk s
  | .bulkReassemblyTimeout dt src => Sys2Proof.Machine.execBulkReassemblyTimeout dt src s
  | .resultFrame dt f => Sys2Proof.Machine.execResultFrame dt f s
  | .safetyFrame dt f => Sys2Proof.Machine.execSafetyFrame dt f s
  | .eventFrame dt f => Sys2Proof.Machine.execEventFrame dt f s
  | .legacyFrame dt f => Sys2Proof.Machine.execLegacyFrame dt f s
  | .discover dt f => Sys2Proof.Machine.execDiscover dt f s
  | .enumReport dt f => Sys2Proof.Machine.execEnumReport dt f s
  | .enumConfirm dt f => Sys2Proof.Machine.execEnumConfirm dt f s
  | .genSwitch dt f => Sys2Proof.Machine.execGenSwitch dt f s
  | .portGenerationSwitch dt => Sys2Proof.Machine.execPortGenerationSwitch dt s
  | .genSwitchFailure dt => Sys2Proof.Machine.execGenSwitchFailure dt s
  | .delayReq dt f turnaround => Sys2Proof.Machine.execDelayReq dt f turnaround s
  | .delayResp dt f roundTrip => Sys2Proof.Machine.execDelayResp dt f roundTrip s
  | .delayMeasurement dt side => Sys2Proof.Machine.execDelayMeasurement dt side s
  | .enumerationStart dt => Sys2Proof.Machine.execEnumerationStart dt s
  | .collectionEnd dt => Sys2Proof.Machine.execCollectionEnd dt s
  | .frameTransmit dt side bad crc => Sys2Proof.Machine.execFrameTransmit dt side bad crc s
  | .ringCommandTimeout dt client tag => Sys2Proof.Machine.execRingCommandTimeout dt client tag s
  | .ringCrcInterval dt => Sys2Proof.Machine.execRingCrcInterval dt s
  | .deputyTimeout dt => Sys2Proof.Machine.execDeputyTimeout dt s
  | .srqTick dt srq pins => Sys2Proof.Machine.execSrqTick dt srq pins s
  | .cenClose dt => Sys2Proof.Machine.execCenClose dt s
  | .cenStaticCheck dt highAbove lowBelow => Sys2Proof.Machine.execCenStaticCheck dt highAbove lowBelow s
  | .cenTestStart dt => Sys2Proof.Machine.execCenTestStart dt s
  | .cenTestTransition dt => Sys2Proof.Machine.execCenTestTransition dt s
  | .cenTestTimeout dt => Sys2Proof.Machine.execCenTestTimeout dt s
  | .cfbMismatch dt level => Sys2Proof.Machine.execCfbMismatch dt level s
  | .mirrorTrip dt cell samples => Sys2Proof.Machine.execMirrorTrip dt cell samples s
  | .mirrorSelfFault dt cause => Sys2Proof.Machine.execMirrorSelfFault dt cause s
  | .watchdogExpiry dt => Sys2Proof.Machine.execWatchdogExpiry dt s
  | .supervisorReady dt found => Sys2Proof.Machine.execSupervisorReady dt found s
  | .quietPeriodEnd dt source => Sys2Proof.Machine.execQuietPeriodEnd dt source s
  | .recoveryWindowEnd dt source => Sys2Proof.Machine.execRecoveryWindowEnd dt source s
  | .powerOnReset dt p stkOk xbsOk fromShip => Sys2Proof.Machine.execPowerOnReset dt p stkOk xbsOk fromShip s
  | .configurationCheck dt => Sys2Proof.Machine.execConfigurationCheck dt s
  | .brownOut x => Sys2Proof.Machine.execBrownOut x s
  | .aoReset dt => Sys2Proof.Machine.execAoReset dt s
  | .supplyUndervoltage dt => Sys2Proof.Machine.execSupplyUndervoltage dt s
  | .supplyUvClears dt => Sys2Proof.Machine.execSupplyUvClears dt s
  | .supplyOvervoltage dt => Sys2Proof.Machine.execSupplyOvervoltage dt s
  | .supplyOvClears dt => Sys2Proof.Machine.execSupplyOvClears dt s
  | .exchangeBusValid dt => Sys2Proof.Machine.execExchangeBusValid dt s
  | .exchangeBusInvalid dt => Sys2Proof.Machine.execExchangeBusInvalid dt s
  | .exchangeBusOvervoltage dt => Sys2Proof.Machine.execExchangeBusOvervoltage dt s
  | .exchangeBusOvClears dt => Sys2Proof.Machine.execExchangeBusOvClears dt s
  | .railOutOfWindow dt rail => Sys2Proof.Machine.execRailOutOfWindow dt rail s
  | .nrstLow dt => Sys2Proof.Machine.execNrstLow dt s
  | .nrstRelease dt => Sys2Proof.Machine.execNrstRelease dt s
  | .nrstStuck dt => Sys2Proof.Machine.execNrstStuck dt s
  | .wakeIn dt => Sys2Proof.Machine.execWakeIn dt s
  | .wakeTone dt side => Sys2Proof.Machine.execWakeTone dt side s
  | .wakeOutRelease dt => Sys2Proof.Machine.execWakeOutRelease dt s
  | .sleepCheck dt m => Sys2Proof.Machine.execSleepCheck dt m s
  | .dwellComplete dt => Sys2Proof.Machine.execDwellComplete dt s
  | .handoverComplete dt => Sys2Proof.Machine.execHandoverComplete dt s
  | .balancingFrameStart dt x => Sys2Proof.Machine.execBalancingFrameStart dt x s
  | .communicationTimeout dt => Sys2Proof.Machine.execCommunicationTimeout dt s
  | .stuckOnDetected dt n => Sys2Proof.Machine.execStuckOnDetected dt n s
  | .loupeWindowEnd dt => Sys2Proof.Machine.execLoupeWindowEnd dt s
  | .loupePointResult dt => Sys2Proof.Machine.execLoupePointResult dt s
  | .loupeReferenceTimeout dt a => Sys2Proof.Machine.execLoupeReferenceTimeout dt a s
  | .safetyTimerExpiry dt => Sys2Proof.Machine.execSafetyTimerExpiry dt s
  | .stopSequenceComplete dt => Sys2Proof.Machine.execStopSequenceComplete dt s
  | .xferOvercurrent dt => Sys2Proof.Machine.execXferOvercurrent dt s
  | .thermalHoldExpiry dt => Sys2Proof.Machine.execThermalHoldExpiry dt s
  | .busRiseTimeout dt => Sys2Proof.Machine.execBusRiseTimeout dt s
  | .nxfltLow dt => Sys2Proof.Machine.execNxfltLow dt s
  | .facetPowerPhaseEnd dt => Sys2Proof.Machine.execFacetPowerPhaseEnd dt s
  | .facetWindowEnd dt window line => Sys2Proof.Machine.execFacetWindowEnd dt window line s
  | .facetLineFault dt => Sys2Proof.Machine.execFacetLineFault dt s
  | .hourlyReferenceCheck dt => Sys2Proof.Machine.execHourlyReferenceCheck dt s
  | .dailyLedgerRecord dt => Sys2Proof.Machine.execDailyLedgerRecord dt s
  | .marginScrub dt margins sectors lasting => Sys2Proof.Machine.execMarginScrub dt margins sectors lasting s
  | .nvmOperationComplete dt ok copyOk => Sys2Proof.Machine.execNvmOperationComplete dt ok copyOk s
  | .updateTrialExpiry dt => Sys2Proof.Machine.execUpdateTrialExpiry dt s
  | .syncEdgeMissing dt => Sys2Proof.Machine.execSyncEdgeMissing dt s
  | .delayRespTimeout dt side => Sys2Proof.Machine.execDelayRespTimeout dt side s
  | .handBackChannelActive dt spare => Sys2Proof.Machine.execHandBackChannelActive dt spare s
  | .watchdogKeyTimeout dt => Sys2Proof.Machine.execWatchdogKeyTimeout dt s
  | .counterCopyDisagreement dt allDiffer => Sys2Proof.Machine.execCounterCopyDisagreement dt allDiffer s
  | .counterSuspectClears dt => Sys2Proof.Machine.execCounterSuspectClears dt s
  | .handoverVpreTimeout dt => Sys2Proof.Machine.execHandoverVpreTimeout dt s
  | .railBackInWindow dt rail => Sys2Proof.Machine.execRailBackInWindow dt rail s
  | .canFrameTransmitted dt => Sys2Proof.Machine.execCanFrameTransmitted dt s
  | .mirrorFirstComparisonEnd dt => Sys2Proof.Machine.execMirrorFirstComparisonEnd dt s
  | .xferRampComplete dt => Sys2Proof.Machine.execXferRampComplete dt s
  | .planRequestRepeat dt => Sys2Proof.Machine.execPlanRequestRepeat dt s
  | .coalescedStateStore dt index sub ok => Sys2Proof.Machine.execCoalescedStateStore dt index sub ok s
  | .nrstHigh10Ms dt => Sys2Proof.Machine.execNrstHigh10Ms dt s
  | .refDormantWarmUpEnd dt => Sys2Proof.Machine.execRefDormantWarmUpEnd dt s
  | .refDormantTimeLimit dt => Sys2Proof.Machine.execRefDormantTimeLimit dt s
  | .discoverCcwOnlyTimeout dt => Sys2Proof.Machine.execDiscoverCcwOnlyTimeout dt s
  | .switchBudgetSpent dt n => Sys2Proof.Machine.execSwitchBudgetSpent dt n s

end Sys2Proof.Machine
end

