-- ==== Sys2Proof/Safety.lean ====
section
/-! DEFINITION. What counts as safe, in the terms that statements use: CEN is closed only under both permits (R416), the permits that
the state holds are the permits as they stand (R425), no balancing gate conducts outside its conditions (R293), and the safe state
of the device (R398); and what a command leaves as it was, block by block. -/

namespace Sys2Proof.Machine

/-- CEN is on only while both permits are given (R416). -/
def CenGuarded (s : State) : Prop := s.safe.cenOn = true → s.supPermit = true ∧ s.mirPermit = true

/-- A CEN test runs only while both permits are given (R419). -/
def TestGuarded (s : State) : Prop := s.safe.testing.isSome = true → s.supPermit = true ∧ s.mirPermit = true

/-- The permits and PACK_TRIP that the next command compares with are those that stand now (R425). -/
def PermitsKept (s : State) : Prop :=
  s.safe.permitSup = s.supPermit ∧ s.safe.permitMir = s.mirPermit ∧ s.safe.packTrip = s.packTripNow

/-- A switch conducts only while the conditions of R293 hold for it. -/
def GatesGuarded (s : State) : Prop := s.cells.conducting = s.conductMask &&& s.mayConduct

/-- What every command leaves true. -/
def Guarded (s : State) : Prop := CenGuarded s ∧ TestGuarded s ∧ PermitsKept s ∧ GatesGuarded s

/-- The safe state of R398: both CEN switches open, the BAL domain off, the transfer gates off. -/
def SafeState (s : State) : Prop :=
  s.safe.cenOn = false ∧ s.safe.testing = none ∧ s.on .bal = false ∧ s.xferState ≠ 2 ∧ s.xferState ≠ 5

/-! What a command leaves. -/

/-- The parts of the state beside the objects. -/
inductive Block where
  | pending | clk | ringTime | free | latest | staged | notes | port | mode | time | cells | cur | aux | facet | plan | bal | loupe
  | xfer | ring | safe | flt | check | test | nvm
deriving DecidableEq, Repr

/-- A block is as it was, but for what the end of every command settles: the gates that conduct, with what open apertures and the stamps of
R172 note of it; CEN with its test, and the record of the permits (R416, R425); and the safety records among the frames that wait. -/
def Block.same : Block → State → State → Prop
  | .pending, s, t => t.pending = s.pending
  | .clk, s, t => t.clk = s.clk
  | .ringTime, s, t => t.ringTime = s.ringTime
  | .free, s, t => t.freeCtr = s.freeCtr
  | .latest, s, t => t.latest = s.latest
  | .staged, s, t => t.staged = s.staged
  | .notes, s, t => t.notifyQ = s.notifyQ
  | .port, s, t => t.port = s.port
  | .mode, s, t => t.mode = s.mode
  | .time, s, t => t.time = s.time
  | .cells, s, t =>
    t.cells = { s.cells with apertures := t.cells.apertures, tOff := t.cells.tOff, conducting := t.cells.conducting } ∧
      t.cells.apertures.map (fun a => { a with conduct := 0 }) = s.cells.apertures.map (fun a => { a with conduct := 0 })
  | .cur, s, t => t.cur = s.cur
  | .aux, s, t => t.aux = s.aux
  | .facet, s, t => t.facet = s.facet
  | .plan, s, t => t.plan = s.plan
  | .bal, s, t => t.bal = s.bal
  | .loupe, s, t => t.loupe = s.loupe
  | .xfer, s, t => t.xfer = s.xfer
  | .ring, s, t =>
    t.ring = { s.ring with txQ := t.ring.txQ, seqs := t.ring.seqs } ∧
      ∃ l : List TxFrame, t.ring.txQ = s.ring.txQ ++ l ∧ ∀ f ∈ l, f.type = 4
  | .safe, s, t =>
    t.safe = { s.safe with
      cenOn := t.safe.cenOn, testing := t.safe.testing, permitSup := t.safe.permitSup, permitMir := t.safe.permitMir,
      packTrip := t.safe.packTrip, permitSince := t.safe.permitSince, alive := t.safe.alive, record := t.safe.record }
  | .flt, s, t => t.flt = s.flt
  | .check, s, t => t.check = s.check
  | .test, s, t => t.test = s.test
  | .nvm, s, t => t.nvm = s.nvm

/-- Every object but those of a list, and every block but those of a list, is as it was. -/
def Keeps (objects : List Nat) (blocks : List Block) (s t : State) : Prop :=
  (∀ k, k ∉ objects → t.get k = s.get k) ∧ ∀ b, b ∉ blocks → Block.same b s t

/-- A command answers a next state, which stands in a relation to the state that the command finds (the time of its first operand has passed),
and nothing but the listed objects and blocks has changed since then. -/
def Completes (i : Instr) (dt : Nat) (s : State) (objects : List Nat) (blocks : List Block) (post : State → State → Prop) : Prop :=
  ∃ t, exec i s = .next t ∧ post (s.found dt) t ∧ Keeps objects blocks (s.found dt) t

/-- A command answers a next state that stands in a relation to the state that the command finds. -/
def Leads (i : Instr) (dt : Nat) (s : State) (post : State → State → Prop) : Prop :=
  ∃ t, exec i s = .next t ∧ post (s.found dt) t

/-- The fault sources but for what a collision window holds (R463). -/
def FaultEng.base (f : FaultEng) : FaultEng := { f with setIn := 0, clearedIn := 0 }

/-- No source sets, recurs, ends or clears, but a new collision window may begin. -/
def SourcesStay (s t : State) : Prop := t.flt.base = s.flt.base

/-- MarginStatus shows the margins as they are (R491). -/
def MarginsStand (s : State) : Prop := bits (s.get Obj.marginStatus) 0 40 = ofLe s.marginList

/-! Commands at the host port. -/

/-- A command packet of client `n` reaches its node and is executed at once: the port works, the packet addresses the node at whose port it
arrives (R42), nothing waits (R472, R508), no firmware image is being received, no reset waits (R555), and the command is no repetition (R46). -/
structure Heard (s : State) (c : Ctx) (n op index sub : Nat) : Prop where
  src : c.src = .host n
  up : s.portUp = true
  own : bit c.addr 6 = true ∨ (s.address ≠ 0 ∧ c.addr % 64 = s.address)
  single : isBroadcast c = false
  waiting : s.port.waiting = []
  slices : s.test.slices = []
  owed : s.nvm.owed = none
  update : s.updStage ≠ 1
  reset : s.port.resetReq = none
  fresh : s.keptAnswer { c with src := .host (s.client n) } op index sub = none

/-- As Heard, from a client that holds MASTER, while the core serves objects (R35, R41). -/
structure HeardMaster (s : State) (c : Ctx) (n op index sub : Nat) : Prop extends Heard s c n op index sub where
  master : s.role (.host n) = 2
  ready : s.supReady = true

/-- The answer to a command waits in the output queue (R45, R62): OP is the command's plus 80h. -/
def Answered (s t : State) (c : Ctx) (n op index sub : Nat) (data : List Nat) : Prop :=
  ⟨.response (s.client n), packetBytes (op + 128) c.tag (s.answerAddr c) index sub data⟩ ∈ t.port.outQ

/-- The command is refused with ABORT, a code and a DETAIL (R44). -/
def Refused (s t : State) (c : Ctx) (n index sub code detail : Nat) : Prop :=
  ⟨.response (s.client n), packetBytes 255 c.tag (s.answerAddr c) index sub (abortData code detail)⟩ ∈ t.port.outQ

/-- A source as the port names it: on SPI it has one client (R56). -/
def State.resolved (s : State) : Source → Source
  | .host c => .host (s.client c)
  | x => x

/-- The host port's session of a packet's client has sent it now (R58), and at the head it is ring activity (R299). -/
def received (n : Nat) (s : State) : State := touchSession (.host (s.client n)) (if s.isHead then ringActivity s else s)

/-! What the shared actions touch: the start and the end of a plan, a change of mode, the entry into SAFE, and the setting of a source. -/

/-- No slice runs and no Loupe point is in progress. -/
def Calm (s : State) : Prop := s.test.slices = [] ∧ s.loupe.point = none

/-- The objects that the actions of a plan change write. -/
def planObjects : List Nat :=
  [Obj.xferStatus, Obj.xferElapsed, Obj.cycleStart, Obj.cycleCount, Obj.adhocMaxGap, Obj.mirrorCodes, Obj.mirrorGuardBand, Obj.retiredMask] ++
    (List.range 25).map (Obj.channelState + ·) ++ (List.range 25).map (Obj.shadowResult + ·) ++ (List.range 25).map (Obj.cellResult + ·) ++
    (List.range 3).map (Obj.spareState + ·)

/-- The objects that a change of mode writes. -/
def modeObjects : List Nat :=
  planObjects ++ [Obj.modeStatus, Obj.domainStatus, Obj.selftestStatus, Obj.balEnable, Obj.cenRequest, Obj.counterGapCount, Obj.eventsLost,
    Obj.ringEventsLost, Obj.notifyLost]

/-- The objects that the entry into SAFE writes. -/
def safeObjects : List Nat := modeObjects ++ [Obj.loupeSessionStatus, Obj.powerPathStatus]

/-- The objects and blocks that the setting of a source writes, when it does not lead to SAFE. -/
def faultObjects (c : Nat) : List Nat :=
  [Obj.faultLogCount, faultObj Obj.faultRecoveryCount c, faultObj Obj.faultCollisionCount c, Obj.eventsLost, Obj.ringEventsLost,
    Obj.notifyLost]

/-- The blocks of the same. -/
def faultBlocks : List Block := [.port, .ring, .notes, .mode, .flt]

/-- The blocks that a change of mode touches. -/
def modeBlocks : List Block :=
  [.port, .mode, .time, .cells, .cur, .aux, .plan, .bal, .loupe, .xfer, .ring, .safe, .test, .flt, .notes]

/-- The objects that the margins and their source 2Bh concern. -/
def marginObjects : List Nat := [Obj.marginStatus, Obj.ageingMarginCause] ++ faultObjects 0x2B

/-- The ROM boot finds a firmware image to start (R506): slot A is confirmed and good, and slot B neither starts a trial nor is confirmed. -/
structure GoodFirmware (s : State) : Prop where
  confirmed : s.nvm.slotA.confirmed = true
  kept : s.nvm.slotA.revoked = false
  good : imageCrcOk s.nvm.slotA = true
  other : s.nvm.slotB.confirmed = false
  noTrial : (s.nvm.slotB.trial && !s.nvm.slotB.trialBooted && !s.nvm.slotB.revoked) = false

/-! Commands that come by the ring. -/

/-- A command packet of a session of another node's port reaches its node by the ring and is executed at once (R354). -/
structure HeardRing (s : State) (c : Ctx) (node session op index sub : Nat) : Prop where
  src : c.src = .ring node session
  on : s.on .rng = true
  remote : bit c.addr 6 = false
  single : isBroadcast c = false
  waiting : s.port.waiting = []
  slices : s.test.slices = []
  owed : s.nvm.owed = none
  update : s.updStage ≠ 1
  reset : s.port.resetReq = none
  fresh : s.keptAnswer c op index sub = none

/-- The answer waits as a RESPONSE frame for the session that sent the command (R354). -/
def AnsweredRing (s t : State) (c : Ctx) (node session op index sub : Nat) (data : List Nat) : Prop :=
  (⟨1, session, node, s.nextSeq 1, packetBytes (op + 128) c.tag (s.answerAddr c) index sub data, true, true⟩ : TxFrame) ∈ t.ring.txQ

/-! Frames on the ring. -/

/-- A frame of a type that reaches a node which receives on that side, ends well (R345), and carries the epoch of a node that holds an address
(R352). -/
structure GoodFrame (s : State) (f : RingFrame) (type : Nat) : Prop where
  receives : s.receives f.side = true
  good : frameEnd s f = .good
  type : frameType f.bytes = type
  member : s.address ≠ 0
  epoch : f.bytes.getD 1 0 = s.epoch

/-- What the passing of a frame that arrives at a port counts: it at the port, and its copy where it cannot leave (R344, R380). -/
def frameObjects (p : Side) : List Nat := [Obj.rxFrames + sideSub p, Obj.txDropped + sideSub (otherSide p)]

/-- The blocks that a frame of a node's own ring touches: the lines, and the ring activity of R299. -/
def frameBlocks : List Block := [.ring, .bal, .flt]

/-- A port sends a frame: it stands on the pair, within the frame that it has preempted (R348), or in the insertion buffer (R347). -/
def State.sends (s : State) (p : Side) (l : List Nat) : Prop :=
  s.line p = l ∨ (∃ n sd, (s.ringPort p).inset = some (n, sd, l)) ∨ ∃ n, (n, l) ∈ (s.ringPort p).held

/-- A copy of a good frame that arrives at the North port leaves by the South port: that port serves at the same generation (R343, R380). -/
def PassesOn (s : State) : Prop := s.serving .south = true ∧ s.linkGen .south = s.linkGen .north

/-! Transfer sessions. -/

/-- A transfer session runs, and a source that ends it is not set and leads not to SAFE. -/
structure SessionRuns (s : State) (c : Nat) : Prop where
  runs : s.xferRuns = true
  own : s.xfer.loupe = false
  clear : s.faultOn c = false
  severity : s.get (faultObj Obj.faultSeverity c) ≠ 3

/-- A command sets a transfer source and ends the session with an END code by the stop sequence (R327, R328, R331). -/
def StopsSession (i : Instr) (dt c code : Nat) (s : State) : Prop :=
  Completes i dt s ([Obj.xferStatus, Obj.xferElapsed, Obj.powerPathStatus] ++ faultObjects c) ([.xfer, .plan] ++ faultBlocks) (fun u t =>
    t.faultOn c = true ∧ t.xferState = 4 ∧ t.xfer.stop = some (code, u.clk) ∧ t.xfer.ended = some code ∧ t.plan.gateEnable = false)

end Sys2Proof.Machine
end

