-- ==== Sys2Proof/Certificates/Slice0/Obligations.lean ====
section
/-! DEFINITION. The statements about the block, in the order of OBLIGATIONS.json. -/

open Sys2Proof Sys2Proof.Machine

/-! The machine as a whole. -/

/-- A step of the block runs the command at the front of its queue on the state with the rest of the queue. -/
def Obligations.StepRunsFrontCommand : Prop :=
  ∀ (i : Instr) (s : State), step { s with pending := i :: s.pending } = exec i s

/-- On an empty queue a step is one tick of the timebase in which no command comes: it answers a next state, the queue stays empty, and the
state settles as after every command. That a step on an empty queue is one tick is the model's own choice (log entry 1). -/
def Obligations.EmptyQueueTicks : Prop :=
  ∀ s : State, s.pending = [] → (s.found 1).port.waiting = [] →
    ∃ t, step s = .next t ∧ Keeps [] [] (s.found 1) t ∧ t.clk = s.clk + 1 ∧ Guarded t

/-- Every command answers a next state, from every state, and leaves the guards standing; one whose operands no wire and no pin can bring is no
command of the part, and only its time passes (log entry 101). -/
def Obligations.EveryCommandCompletes : Prop :=
  ∀ (i : Instr) (s : State),
    ∃ t, exec i s = .next t ∧ Guarded t ∧ (Instr.wf i = false → ∃ dt, Keeps [] [] (s.found dt) t)

/-- The state after reset meets the guards. -/
def Obligations.ResetIsGuarded : Prop := Guarded State.reset

/-- Whatever state a step starts from, CEN is closed, and tested, only while both permits stand, and no switch conducts outside its conditions, in
every state that a step leads to. -/
def Obligations.StepsKeepGuards : Prop := ∀ s t : State, step s = .next t → Guarded t

/-! The packet layer. -/

/-- READ of an object that is no DOMAIN and no fault status: the value, little-endian, in an answer with OP 81h. A hardware-served object is answered
whatever the core does, and without a session; a command for any other object is refused with SUPERVISOR_ABSENT while the core serves none. -/
def Obligations.ReadAnswersValue : Prop :=
  (∀ (dt : Nat) (c : Ctx) (n index sub : Nat) (r : ObjRow) (s : State),
    Instr.wf (.read dt c index sub []) = true → lookup index sub = .inr r → r.kind ≠ .domain → r.acc ≠ .wo →
    faultIndex index = none → index ≠ 0x0C09 → index ≠ 0x0A30 →
    (r.hw = true ∨ ((s.found dt).role (.host n) ≠ 0 ∧ (s.found dt).supReady = true)) → Heard (s.found dt) c n 1 index sub →
    Completes (.read dt c index sub []) dt s [] [.port, .bal, .flt] (fun u t =>
      Answered u t c n 1 index sub (leBytes r.size ((received n u).read (.host (u.client n)) index sub)))) ∧
  (∀ (dt : Nat) (c : Ctx) (n index sub : Nat) (data : List Nat) (r : ObjRow) (s : State),
    lookup index sub = .inr r → r.hw = false → index ≠ 0x0C09 → index ≠ 0x0A30 → (s.found dt).supReady = false →
    (Instr.wf (.read dt c index sub data) = true → Heard (s.found dt) c n 1 index sub →
      Completes (.read dt c index sub data) dt s [] [.port, .bal, .flt] (fun u t => Refused u t c n index sub 0x0B 0)) ∧
    (Instr.wf (.write dt c index sub data) = true → Heard (s.found dt) c n 2 index sub →
      Completes (.write dt c index sub data) dt s [] [.port, .bal, .flt] (fun u t => Refused u t c n index sub 0x0B 0))) ∧
  ∀ (dt : Nat) (c : Ctx) (n index sub total : Nat) (r : ObjRow) (s : State),
    lookup index sub = .inr r → r.hw = false → index ≠ 0x0C09 → index ≠ 0x0A30 → (s.found dt).supReady = false →
    (Instr.wf (.segReadStart dt c index sub) = true → Heard (s.found dt) c n 3 index sub →
      Completes (.segReadStart dt c index sub) dt s [] [.port, .bal, .flt] (fun u t => Refused u t c n index sub 0x0B 0)) ∧
    (Instr.wf (.segWriteStart dt c index sub total) = true → Heard (s.found dt) c n 4 index sub →
      Completes (.segWriteStart dt c index sub total) dt s [] [.port, .bal, .flt] (fun u t => Refused u t c n index sub 0x0B 0))

/-- WRITE by MASTER of an object that its destination holds as a plain value: 82h, and the object holds the value. PING: 87h. -/
def Obligations.WriteSetsValue : Prop :=
  (∀ (dt : Nat) (c : Ctx) (n index v : Nat) (s : State),
    index ∈ [0x0443, 0x0609, 0x0800, 0x0841, 0x0B30, 0x0C20, 0x0D11, 0x0D12, 0x0D13, 0x1014] →
    Instr.wf (.write dt c index 0 []) = true → HeardMaster (s.found dt) c n 2 index 0 →
    (s.found dt).get Obj.loupeSessionStatus = 0 →
    (∀ r, lookup index 0 = .inr r → v < 256 ^ r.size ∧ v &&& r.mask = v ∧ r.inRange v = true) →
    ∀ r, lookup index 0 = .inr r →
    Completes (.write dt c index 0 (leBytes r.size v)) dt s [objKey index 0] [.port, .bal, .flt] (fun u t =>
      t.get (objKey index 0) = v ∧ Answered u t c n 2 index 0 [])) ∧
  ∀ (dt : Nat) (c : Ctx) (n : Nat) (s : State), Instr.wf (.ping dt c) = true → Heard (s.found dt) c n 7 0 0 →
    Completes (.ping dt c) dt s [] [.port, .bal, .flt] (fun u t => Answered u t c n 7 0 0 [])

/-- SEG_READ_START of a readable DOMAIN object: its size, and with up to 1024 bytes its content; a longer object opens a segmented read, whose
segments SEG_DATA fetches in order, the one that ends the object with LAST. -/
def Obligations.SegmentedReadRuns : Prop :=
  (∀ (dt : Nat) (c : Ctx) (n index sub : Nat) (r : ObjRow) (s : State),
    Instr.wf (.segReadStart dt c index sub) = true → lookup index sub = .inr r → r.kind = .domain → r.acc ≠ .wo → index ≠ 0x0A30 →
    index ≠ 0x0C09 →
    (r.hw = true ∨ ((s.found dt).role (.host n) ≠ 0 ∧ (s.found dt).supReady = true)) → Heard (s.found dt) c n 3 index sub →
    Completes (.segReadStart dt c index sub) dt s [] [.port, .bal, .flt] (fun u t =>
      let bs := (received n u).content index
      if bs.length ≤ 1024 then Answered u t c n 3 index sub (leBytes 4 bs.length ++ bs)
      else Answered u t c n 3 index sub (leBytes 4 bs.length) ∧
        (⟨.host (u.client n), index, sub, bs, 0⟩ : ReadXfer) ∈ t.port.readXfers)) ∧
  ∀ (dt : Nat) (c : Ctx) (n index sub seq : Nat) (r : ObjRow) (x : ReadXfer) (s : State),
    Instr.wf (.segData dt c index sub seq false []) = true → lookup index sub = .inr r → index ≠ 0x0A30 → index ≠ 0x0C09 →
    Heard (s.found dt) c n 5 index sub →
    (s.found dt).port.readXfers.find? (fun y => y.src = .host ((s.found dt).client n) && y.index = index && y.sub = sub) = some x →
    seq = x.next →
    Completes (.segData dt c index sub seq false []) dt s [] [.port, .bal, .flt] (fun u t =>
      Answered u t c n 5 index sub
        (leBytes 2 seq ++ [num (decide (x.data.length ≤ (seq + 1) * 1024)), 0] ++ (x.data.drop (seq * 1024)).take 1024))

/-- SEG_WRITE_START by MASTER opens the node's one segmented write and names the segment size; its segments are taken in order; a segment out of
order is refused with SEQUENCE and ends the write; a second write is refused with BUSY; SEG_CANCEL ends it without effect. A session runs one
segmented read beside it. -/
def Obligations.SegmentedWriteRuns : Prop :=
  (∀ (dt : Nat) (c : Ctx) (n index sub total : Nat) (r : ObjRow) (s : State),
    Instr.wf (.segWriteStart dt c index sub total) = true → lookup index sub = .inr r → r.kind = .domain →
    r.acc = .rw ∨ r.acc = .wo → index ≠ 0x0A30 → index ≠ 0x1010 → index ≠ 0x0C09 → domainLength index total = true →
    domainStart index total (received n (s.found dt)) = none → HeardMaster (s.found dt) c n 4 index sub →
    Completes (.segWriteStart dt c index sub total) dt s [] [.port, .bal, .flt] (fun u t =>
      if u.port.writeXfer = none then
        Answered u t c n 4 index sub (leBytes 2 1024) ∧ t.port.writeXfer = some ⟨.host (u.client n), index, sub, total, 0, []⟩
      else Refused u t c n index sub 0x0C 0 ∧ t.port.writeXfer = u.port.writeXfer)) ∧
  (∀ (dt : Nat) (c : Ctx) (n index sub seq : Nat) (payload : List Nat) (r : ObjRow) (w : WriteXfer) (s : State),
    Instr.wf (.segData dt c index sub seq false payload) = true → lookup index sub = .inr r → index ≠ 0x0A30 → index ≠ 0x1010 →
    index ≠ 0x0C09 →
    0 < payload.length → Heard (s.found dt) c n 5 index sub → (s.found dt).port.writeXfer = some w →
    w.src = .host ((s.found dt).client n) → w.index = index → w.sub = sub → w.next < 65536 →
    (w.next = 0 ∨ (seq + 1) % 65536 ≠ w.next) →
    Completes (.segData dt c index sub seq false payload) dt s [] [.port, .bal, .flt] (fun u t =>
      if seq = w.next then
        Answered u t c n 5 index sub (leBytes 2 seq) ∧
          t.port.writeXfer = some { w with next := w.next + 1, data := w.data ++ payload }
      else Refused u t c n index sub 0x0D 0 ∧ t.port.writeXfer = none)) ∧
  (∀ (dt : Nat) (c : Ctx) (n index sub : Nat) (r : ObjRow) (w : WriteXfer) (s : State),
    Instr.wf (.segCancel dt c index sub) = true → lookup index sub = .inr r → index ≠ 0x0A30 → index ≠ 0x0C09 →
    Heard (s.found dt) c n 6 index sub → (s.found dt).supReady = true → (s.found dt).port.writeXfer = some w →
    w.src = .host ((s.found dt).client n) → w.index = index → w.sub = sub →
    Completes (.segCancel dt c index sub) dt s [] [.port, .bal, .flt] (fun u t =>
      Answered u t c n 6 index sub [] ∧ t.port.writeXfer = none)) ∧
  ∀ (dt : Nat) (c : Ctx) (n index sub : Nat) (r : ObjRow) (w : WriteXfer) (s : State),
    Instr.wf (.segReadStart dt c index sub) = true → lookup index sub = .inr r → r.kind = .domain → r.acc ≠ .wo → index ≠ 0x0A30 →
    index ≠ 0x0C09 → (s.found dt).role (.host n) ≠ 0 → (s.found dt).supReady = true → Heard (s.found dt) c n 3 index sub →
    (s.found dt).port.writeXfer = some w → 1024 < ((received n (s.found dt)).content index).length →
    Completes (.segReadStart dt c index sub) dt s [] [.port, .bal, .flt] (fun u t =>
      t.port.writeXfer = some w ∧
        t.port.readXfers.filter (fun x => x.src = .host (u.client n)) =
          [⟨.host (u.client n), index, sub, (received n u).content index, 0⟩])

/-! The host port. -/

/-- STATUS and GET at the SPI port: SDO gives the header, and GET behind it the packet at the head of the output queue with its CRC-16; the packet
stays in the queue; a transaction of the wrong length counts. The eighth refused transaction in a row sets 2Fh. -/
def Obligations.SpiReadsRun : Prop :=
  (∀ (dt length : Nat) (s : State), Instr.wf (.status dt length) = true → (s.found dt).spiUp = true →
    bit (s.found dt).flt.cond 0x2F = false → (s.found dt).port.spiBadRow < 7 →
    Completes (.status dt length) dt s [Obj.linkErrors] [.port] (fun u t =>
      t.port.sdo = u.spiHeader.take length ∧ t.port.outQ = u.port.outQ ∧ t.port.spiFrameErr = decide (length < 4) ∧
      t.get Obj.linkErrors = if length < 4 then sat 65535 (u.get Obj.linkErrors + 1) else u.get Obj.linkErrors)) ∧
  (∀ (dt length clocked : Nat) (s : State), Instr.wf (.get dt length clocked) = true → (s.found dt).spiUp = true →
    bit (s.found dt).flt.cond 0x2F = false → (s.found dt).port.spiBadRow < 7 →
    Completes (.get dt length clocked) dt s [Obj.linkErrors] [.port] (fun u t =>
      let right := decide (length = u.pendingPacket.length ∧ clocked = 6 + length)
      let whole := u.spiHeader ++ u.pendingPacket
      (right = true → t.port.sdo = whole ++ leBytes 2 (crc16 whole)) ∧ t.port.outQ = u.port.outQ ∧ t.port.spiFrameErr = !right ∧
      t.get Obj.linkErrors = if right then u.get Obj.linkErrors else sat 65535 (u.get Obj.linkErrors + 1))) ∧
  ∀ (dt length : Nat) (s : State), Instr.wf (.status dt length) = true → (s.found dt).spiUp = true → length < 4 →
    (s.found dt).port.spiBadRow = 7 → (s.found dt).faultOn 0x2F = false → (s.found dt).get (faultObj Obj.faultSeverity 0x2F) ≠ 3 →
    Completes (.status dt length) dt s (Obj.linkErrors :: faultObjects 0x2F) faultBlocks (fun _ t => t.faultOn 0x2F = true)

/-- PUT and POP at the SPI port. A PUT with the right CRC, a SEQ other than LASTSEQ and fewer than 4 commands outstanding gives its packet to the
node (here a PING), and LASTSEQ becomes its SEQ; a repeat of LASTSEQ is not executed, and a wrong CRC counts. POP removes the packet at the head
of the output queue. -/
def Obligations.SpiWritesRun : Prop :=
  (∀ (dt seq crc tag addr : Nat) (storeOk : Bool) (s : State),
    Instr.wf (.put dt 8 seq [7, tag, addr, 0, 0, 0, 0, 0] crc storeOk) = true → (s.found dt).spiUp = true →
    crc = crc16 ([1, 8, 0, seq] ++ [7, tag, addr, 0, 0, 0, 0, 0]) → bit (s.found dt).flt.cond 0x2F = false →
    Heard (s.found dt) ⟨.host 0, tag, addr, storeOk⟩ 0 7 0 0 →
    Completes (.put dt 8 seq [7, tag, addr, 0, 0, 0, 0, 0] crc storeOk) dt s [] [.port, .bal, .flt] (fun u t =>
      t.port.sdo = u.spiHeader ∧ t.port.spiCrcErr = false ∧ t.port.spiFrameErr = false ∧
      if seq = u.port.spiLastSeq ∨ 4 ≤ u.outstanding 0 then t.port.spiLastSeq = u.port.spiLastSeq ∧ t.port.outQ = u.port.outQ
      else t.port.spiLastSeq = seq ∧ Answered u t ⟨.host 0, tag, addr, storeOk⟩ 0 7 0 0 [])) ∧
  (∀ (dt length seq crc : Nat) (packet : List Nat) (storeOk : Bool) (s : State),
    Instr.wf (.put dt length seq packet crc storeOk) = true → (s.found dt).spiUp = true → (s.found dt).port.spiBadRow < 7 →
    (packet.length ≠ length ∨ crc ≠ crc16 ([1] ++ leBytes 2 length ++ [seq] ++ packet)) →
    Completes (.put dt length seq packet crc storeOk) dt s [Obj.linkErrors] [.port] (fun u t =>
      t.port.sdo = u.spiHeader ∧ t.port.spiFrameErr = decide (packet.length ≠ length) ∧
      t.port.spiCrcErr = decide (packet.length = length) ∧ t.port.outQ = u.port.outQ ∧ t.port.spiLastSeq = u.port.spiLastSeq ∧
      t.get Obj.linkErrors = sat 65535 (u.get Obj.linkErrors + 1))) ∧
  ∀ (dt length seq crc : Nat) (s : State), Instr.wf (.pop dt length seq crc 6) = true → (s.found dt).spiUp = true →
    crc = crc16 ([3] ++ leBytes 2 length ++ [seq]) → bit (s.found dt).flt.cond 0x2F = false → (s.found dt).port.evLost = 0 →
    Completes (.pop dt length seq crc 6) dt s [] [.port] (fun u t =>
      t.port.sdo = u.spiHeader ∧ t.port.outQ = u.port.outQ.tail)

/-- The CAN FD port: a COMMAND in one frame is executed (here a PING); the fragments of a longer one gather from the first on, in order, and are
executed with the last; one out of order discards what has gathered and counts once, however many fragments of that packet follow, and so does a
NODE that is not the command's; a packet leaves the output queue with its frames. Bus-off sets 2Fh, and the fragments that have gathered are lost;
with the recovery the controller takes frames again, and the status stands until its quiet period has run. -/
def Obligations.CanPortRuns : Prop :=
  (∀ (dt ident tag addr : Nat) (storeOk : Bool) (s : State),
    Instr.wf (.canCommandFrame dt ident 1 [0xC0, 7, tag, addr, 0, 0, 0, 0, 0, 0, 0, 0] storeOk) = true → (s.found dt).canUp = true →
    bits ident 12 4 = 0 → bits ident 22 4 = (s.found dt).get Obj.canPortId → bits ident 8 4 ≠ 0 →
    (bit addr 6 = true ∨ addr % 64 = bits ident 16 6) →
    (s.found dt).port.canRx.find? (fun r => r.client = bits ident 8 4) = none →
    Heard (s.found dt) ⟨.host (bits ident 8 4), tag, addr, storeOk⟩ (bits ident 8 4) 7 0 0 →
    Completes (.canCommandFrame dt ident 1 [0xC0, 7, tag, addr, 0, 0, 0, 0, 0, 0, 0, 0] storeOk) dt s [] [.port, .bal, .flt] (fun u t =>
      Answered u t ⟨.host (bits ident 8 4), tag, addr, storeOk⟩ (bits ident 8 4) 7 0 0 [])) ∧
  (∀ (dt ident format count : Nat) (rest : List Nat) (storeOk : Bool) (r : CanRx) (s : State),
    Instr.wf (.canCommandFrame dt ident format (count :: rest) storeOk) = true → (s.found dt).canUp = true →
    bits ident 12 4 = 0 → bits ident 22 4 = (s.found dt).get Obj.canPortId → bits ident 8 4 ≠ 0 → count < 64 →
    (s.found dt).port.canRx.find? (fun x => x.client = bits ident 8 4) = some r → r.bad = false →
    Completes (.canCommandFrame dt ident format (count :: rest) storeOk) dt s [Obj.linkErrors] [.port] (fun u t =>
      t.port.outQ = u.port.outQ ∧
      if count = r.next then
        t.port.canRx.find? (fun x => x.client = bits ident 8 4) =
            some ⟨bits ident 8 4, (count + 1) % 64, r.bytes ++ rest, bits ident 16 6 :: r.nodes, false⟩ ∧
          t.get Obj.linkErrors = u.get Obj.linkErrors
      else
        t.port.canRx.find? (fun x => x.client = bits ident 8 4) = some ⟨bits ident 8 4, 0, [], [], true⟩ ∧
          t.get Obj.linkErrors = sat 65535 (u.get Obj.linkErrors + 1))) ∧
  (∀ (dt ident format h : Nat) (rest : List Nat) (storeOk : Bool) (r : CanRx) (s : State),
    Instr.wf (.canCommandFrame dt ident format (h :: rest) storeOk) = true → (s.found dt).canUp = true →
    bits ident 12 4 = 0 → bits ident 22 4 = (s.found dt).get Obj.canPortId → bits ident 8 4 ≠ 0 → bit h 7 = false →
    (s.found dt).port.canRx.find? (fun x => x.client = bits ident 8 4) = some r → r.bad = true →
    Completes (.canCommandFrame dt ident format (h :: rest) storeOk) dt s [] [.port] (fun u t =>
      t.port.outQ = u.port.outQ ∧
        t.port.canRx.find? (fun x => x.client = bits ident 8 4) = if bit h 6 then none else some r)) ∧
  (∀ (dt ident format : Nat) (rest : List Nat) (storeOk : Bool) (s : State),
    Instr.wf (.canCommandFrame dt ident format (128 :: rest) storeOk) = true → (s.found dt).canUp = true →
    bits ident 12 4 = 0 → bits ident 22 4 = (s.found dt).get Obj.canPortId → bits ident 8 4 ≠ 0 →
    (s.found dt).port.canRx.find? (fun x => x.client = bits ident 8 4) = none →
    Completes (.canCommandFrame dt ident format (128 :: rest) storeOk) dt s [] [.port] (fun _ t =>
      t.port.canRx.find? (fun x => x.client = bits ident 8 4) = some ⟨bits ident 8 4, 1, rest, [bits ident 16 6], false⟩)) ∧
  (∀ (dt ident format tag addr : Nat) (rest pad : List Nat) (storeOk : Bool) (r : CanRx) (s : State),
    Instr.wf (.canCommandFrame dt ident format ((64 + r.next) :: rest) storeOk) = true → (s.found dt).canUp = true →
    bits ident 12 4 = 0 → bits ident 22 4 = (s.found dt).get Obj.canPortId → bits ident 8 4 ≠ 0 → r.next < 64 → bit addr 6 = false →
    (s.found dt).port.canRx.find? (fun x => x.client = bits ident 8 4) = some r → r.bad = false →
    r.bytes ++ rest = [7, tag, addr, 0, 0, 0, 0, 0] ++ pad →
    Heard (s.found dt) ⟨.host (bits ident 8 4), tag, addr, storeOk⟩ (bits ident 8 4) 7 0 0 →
    Completes (.canCommandFrame dt ident format ((64 + r.next) :: rest) storeOk) dt s [Obj.linkErrors] [.port, .bal, .flt] (fun u t =>
      t.port.canRx.find? (fun x => x.client = bits ident 8 4) = none ∧
      if (bits ident 16 6 :: r.nodes).all (fun x => x = addr % 64) then
        Answered u t ⟨.host (bits ident 8 4), tag, addr, storeOk⟩ (bits ident 8 4) 7 0 0 [] ∧ t.get Obj.linkErrors = u.get Obj.linkErrors
      else t.port.outQ = u.port.outQ ∧ t.get Obj.linkErrors = sat 65535 (u.get Obj.linkErrors + 1))) ∧
  (∀ (dt : Nat) (p : OutPkt) (l : List OutPkt) (s : State),
    (s.found dt).canUp = true → (s.found dt).port.outQ = p :: l → (s.found dt).port.evLost = 0 →
    Completes (.canFrameTransmitted dt) dt s [] [.port] (fun u t => t.port.outQ = l ∧ t.port.canTx = u.canFrames p)) ∧
  (∀ (dt : Nat) (s : State), (s.found dt).canUp = true → (s.found dt).faultOn 0x2F = false →
    (s.found dt).get (faultObj Obj.faultSeverity 0x2F) ≠ 3 →
    Completes (.busOff dt) dt s (faultObjects 0x2F) faultBlocks (fun _ t =>
      t.port.busOff = true ∧ t.port.canRx = [] ∧ t.faultOn 0x2F = true)) ∧
  ∀ (dt : Nat) (s : State), (s.found dt).port.busOff = true →
    Completes (.busOffRecovery dt) dt s [] [.port, .flt] (fun u t =>
      t.port.busOff = false ∧ t.flt.status = u.flt.status ∧ bit t.flt.cond 0x2F = false)

/-- SESSION_OPEN_OBSERVER, SESSION_REQUEST_MASTER, SESSION_MASTER_TAKE and SESSION_CLOSE: a client without a session gets one while the port has
room for it; the head gives MASTER while no session holds it, and TAKE makes the holder an OBSERVER and the client MASTER. A client that would be
one more than the port holds gets BUSY, with TAKE too, which is the model's choice (log entry 108), as is the answer to a close without a
session (log entry 107). -/
def Obligations.SessionRequestsRun : Prop :=
  (∀ (dt : Nat) (c : Ctx) (n : Nat) (s : State), Instr.wf (.sessionOpenObserver dt c) = true →
    Heard (s.found dt) c n 2 0x0B10 0 → (s.found dt).supReady = true →
    Completes (.sessionOpenObserver dt c) dt s [] [.port, .bal, .flt] (fun u t =>
      if (u.session (u.client n)).isNone ∧ (if u.onSpi then 1 else 4) ≤ u.port.sessions.length then Refused u t c n 0x0B10 0 0x0C 0
      else t.role (.host n) = 1 ∧ Answered u t c n 2 0x0B10 0 [])) ∧
  (∀ (dt : Nat) (c : Ctx) (n : Nat) (s : State), Instr.wf (.sessionRequestMaster dt c) = true →
    Heard (s.found dt) c n 2 0x0B10 0 → (s.found dt).supReady = true →
    Completes (.sessionRequestMaster dt c) dt s [] [.port, .bal, .flt] (fun u t =>
      if u.isHead = false then Refused u t c n 0x0B10 0 0x11 0
      else if u.masterSession.isSome ∨ ((u.session (u.client n)).isNone ∧ (if u.onSpi then 1 else 4) ≤ u.port.sessions.length) then
        Refused u t c n 0x0B10 0 0x0C 0
      else t.role (.host n) = 2 ∧ Answered u t c n 2 0x0B10 0 [])) ∧
  (∀ (dt : Nat) (c : Ctx) (n : Nat) (s : State), Instr.wf (.sessionMasterTake dt c) = true →
    Heard (s.found dt) c n 2 0x0B10 0 → (s.found dt).supReady = true →
    Completes (.sessionMasterTake dt c) dt s [Obj.eventsLost] [.port, .bal, .flt] (fun u t =>
      if u.isHead = false then Refused u t c n 0x0B10 0 0x11 0
      else if (u.session (u.client n)).isNone ∧ (if u.onSpi then 1 else 4) ≤ u.port.sessions.length then Refused u t c n 0x0B10 0 0x0C 0
      else
        t.role (.host n) = 2 ∧ Answered u t c n 2 0x0B10 0 [] ∧
        ∀ x, u.masterSession = some x → x.client ≠ u.client n → ∃ y ∈ t.port.sessions, y.client = x.client ∧ y.role = 1)) ∧
  ∀ (dt : Nat) (c : Ctx) (n : Nat) (s : State), Instr.wf (.sessionClose dt c) = true → Heard (s.found dt) c n 2 0x0B10 0 →
    (s.found dt).supReady = true →
    Completes (.sessionClose dt c) dt s [Obj.eventsLost] [.port, .bal, .flt, .free] (fun u t =>
      t.role (.host n) = 0 ∧ Answered u t c n 2 0x0B10 0 [])

/-- A session that sends nothing for SessionTimeout ends, with its transfers, and a MASTER's is announced with MASTER_LOST; a transfer that sends
no segment for its time ends, and the next packet of its source that belongs to it is refused with TRANSFER_TIMEOUT; a packet that belongs to no
transfer, open or ended so, is refused with SEQUENCE. An update whose image
the transfer carried is interrupted. -/
def Obligations.PortTimeoutsRun : Prop :=
  (∀ (dt client : Nat) (x : Session) (s : State), Instr.wf (.sessionTimeout dt client) = true →
    (s.found dt).session ((s.found dt).client client) = some x →
    Completes (.sessionTimeout dt client) dt s [Obj.eventsLost, Obj.updateStatus, Obj.updateProgrammed] [.port, .nvm] (fun u t =>
      t.role (.host client) = 0 ∧ (∀ n, u.client n ≠ u.client client → t.role (.host n) = u.role (.host n)) ∧
      (∀ w, t.port.writeXfer = some w → w.src ≠ .host (u.client client)) ∧
      (x.role = 2 → u.portUp = true → bit (u.get Obj.eventMask) 4 = true → countKind OutKind.isEvent u.port.outQ < 12 →
        t.port.outQ = u.port.outQ ++ [⟨.event 4, packetBytes 0x88 (u.port.evSeq % 256) u.address 0 0
          (eventRecord 4 u.address 1 u.ringTime u.port.evSeq)⟩]))) ∧
  (∀ (dt : Nat) (src : Source) (w : WriteXfer) (s : State), Instr.wf (.transferTimeout dt src true) = true →
    (s.found dt).port.writeXfer = some w → w.src = (s.found dt).resolved src →
    Completes (.transferTimeout dt src true) dt s [Obj.updateStatus, Obj.updateProgrammed] [.port, .nvm] (fun u t =>
      t.port.writeXfer = none ∧ (⟨u.resolved src, w.index, w.sub, true⟩ : EndedXfer) ∈ t.port.ended ∧
        t.updStage = if u.updStage = 1 ∧ u.nvm.final = false then 4 else u.updStage)) ∧
  (∀ (dt : Nat) (src : Source) (x : ReadXfer) (s : State), Instr.wf (.transferTimeout dt src false) = true →
    (s.found dt).port.readXfers.find? (fun y => y.src = (s.found dt).resolved src) = some x →
    Completes (.transferTimeout dt src false) dt s [] [.port] (fun u t =>
      (∀ y ∈ t.port.readXfers, y.src ≠ u.resolved src) ∧
        (⟨u.resolved src, x.index, x.sub, false⟩ : EndedXfer) ∈ t.port.ended)) ∧
  ∀ (dt : Nat) (c : Ctx) (n index sub seq : Nat) (last : Bool) (payload : List Nat) (r : ObjRow) (s : State),
    Instr.wf (.segData dt c index sub seq last payload) = true → lookup index sub = .inr r → index ≠ 0x0A30 → index ≠ 0x0C09 →
    Heard (s.found dt) c n 5 index sub → (s.found dt).supReady = true → (s.found dt).port.writeXfer = none →
    (s.found dt).port.readXfers = [] →
    Completes (.segData dt c index sub seq last payload) dt s [] [.port, .bal, .flt] (fun u t =>
      if ∃ e ∈ u.port.ended, e.src = u.resolved c.src ∧ e.index = index ∧ e.sub = sub ∧ (payload = [] ∨ e.write = true) then
        Refused u t c n index sub 0x0E 0 ∧ t.port.ended.length < u.port.ended.length
      else Refused u t c n index sub 0x0D 0 ∧ t.port.ended = u.port.ended)

/-- Packets of another node's sessions, which come by the ring, are executed as those of the node's own port, and answered by a RESPONSE frame:
READ, WRITE and PING; SessionRequest concerns the port alone and is refused with ROLE. -/
def Obligations.RingCommandsRun : Prop :=
  (∀ (dt : Nat) (c : Ctx) (node session index sub : Nat) (r : ObjRow) (s : State),
    Instr.wf (.read dt c index sub []) = true → lookup index sub = .inr r → r.kind ≠ .domain → r.acc ≠ .wo →
    faultIndex index = none → index ≠ 0x0C09 → index ≠ 0x0A30 → (r.hw = true ∨ (s.found dt).supReady = true) →
    HeardRing (s.found dt) c node session 1 index sub → r.size ≤ 200 →
    Completes (.read dt c index sub []) dt s [] [.port, .ring] (fun u t =>
      AnsweredRing u t c node session 1 index sub (leBytes r.size (u.read c.src index sub)))) ∧
  (∀ (dt : Nat) (c : Ctx) (node session index v : Nat) (s : State),
    index ∈ [0x0443, 0x0609, 0x0800, 0x0841, 0x0B30, 0x0C20, 0x0D11, 0x0D12, 0x0D13, 0x1014] →
    Instr.wf (.write dt c index 0 []) = true → HeardRing (s.found dt) c node session 2 index 0 → (s.found dt).supReady = true →
    (s.found dt).get Obj.loupeSessionStatus = 0 →
    (∀ r, lookup index 0 = .inr r → v < 256 ^ r.size ∧ v &&& r.mask = v ∧ r.inRange v = true) →
    ∀ r, lookup index 0 = .inr r →
    Completes (.write dt c index 0 (leBytes r.size v)) dt s [objKey index 0] [.port, .ring] (fun u t =>
      t.get (objKey index 0) = v ∧ AnsweredRing u t c node session 2 index 0 [])) ∧
  (∀ (dt : Nat) (c : Ctx) (node session : Nat) (s : State), Instr.wf (.ping dt c) = true →
    HeardRing (s.found dt) c node session 7 0 0 →
    Completes (.ping dt c) dt s [] [.port, .ring] (fun u t => AnsweredRing u t c node session 7 0 0 [])) ∧
  ∀ (dt : Nat) (c : Ctx) (node session : Nat) (s : State), Instr.wf (.sessionOpenObserver dt c) = true →
    HeardRing (s.found dt) c node session 2 0x0B10 0 → (s.found dt).supReady = true →
    Completes (.sessionOpenObserver dt c) dt s [] [.port, .ring] (fun u t =>
      t.port.sessions = u.port.sessions ∧
      (⟨1, session, node, u.nextSeq 1, packetBytes 255 c.tag (u.answerAddr c) 0x0B10 0 (abortData 7 0), true, true⟩ : TxFrame) ∈
        t.ring.txQ)

/-! Resets. -/

/-- RESET_SUP_DOMAIN and RESET_WHOLE_DEVICE are answered, and the reset waits for its answer to leave. RESET_ACTS then resets the SUP domain: the
host port and the checking engines return to their defaults and the core is in reset; or the whole device, which starts up again without an address;
whatever firmware there is, the core is then not ready. RELEASE_HELD_SUP, which can only come by the ring while the SUP domain is held, starts it
from its ROM boot. -/
def Obligations.ResetsRun : Prop :=
  (∀ (dt : Nat) (c : Ctx) (n : Nat) (s : State), Instr.wf (.resetSupDomain dt c) = true → HeardMaster (s.found dt) c n 2 0x0003 0 →
    Completes (.resetSupDomain dt c) dt s [] [.port, .bal, .flt] (fun u t =>
      t.port.resetReq = some ⟨0x5A01, some (u.client n)⟩ ∧ Answered u t c n 2 0x0003 0 [])) ∧
  (∀ (dt : Nat) (c : Ctx) (n : Nat) (s : State), Instr.wf (.resetWholeDevice dt c) = true → HeardMaster (s.found dt) c n 2 0x0003 0 →
    Completes (.resetWholeDevice dt c) dt s [] [.port, .bal, .flt] (fun u t =>
      t.port.resetReq = some ⟨0x5A02, some (u.client n)⟩ ∧ Answered u t c n 2 0x0003 0 [])) ∧
  (∀ (dt : Nat) (r : ResetReq) (s : State), (s.found dt).port.resetReq = some r → r.code = 0x5A01 → GoodFirmware (s.found dt) →
    (s.found dt).test.slices = [] → (s.found dt).get Obj.supervisorState ≠ 2 →
    Completes (.resetActs dt) dt s
      [Obj.xferStatus, Obj.xferElapsed, Obj.selftestStatus, Obj.updateStatus, Obj.updateProgrammed, Obj.cenRequest, Obj.notifyLost,
        Obj.eventsLost, Obj.streamLost, Obj.linkErrors, Obj.crcResult, Obj.crcByteCount, Obj.aliveResult, Obj.aliveCounts + 1,
        Obj.aliveCounts + 2, Obj.aliveCounts + 3, Obj.supervisorState, Obj.domainStatus, Obj.hostPortActive]
      [.notes, .port, .mode, .plan, .xfer, .safe, .check, .nvm, .test] (fun _ t =>
        t.get Obj.supervisorState = 3 ∧ t.on .sup = false ∧ t.port = Port.empty ∧ t.check = CheckEng.reset ∧ t.safe.cenOn = false)) ∧
  (∀ (dt : Nat) (r : ResetReq) (s : State), (s.found dt).port.resetReq = some r → r.code = 0x5A02 → GoodFirmware (s.found dt) →
    Calm (s.found dt) →
    Leads (.resetActs dt) dt s (fun u t =>
      t.modeCode = 0 ∧ bit (t.get Obj.resetCause) 4 = true ∧ t.address = 0 ∧ t.isHead = false ∧ t.get Obj.supervisorState = 3 ∧
        t.port = Port.empty ∧ (∀ k, k ≠ 0x2B → t.faultOn k = false) ∧ (t.faultOn 0x2B = false → t.flt.log = u.flt.log) ∧
        t.safe.cenOn = false)) ∧
  (∀ (dt : Nat) (c : Ctx) (node session : Nat) (s : State), Instr.wf (.releaseHeldSup dt c) = true →
    HeardRing (s.found dt) c node session 2 0x0003 0 → GoodFirmware (s.found dt) → (s.found dt).get Obj.supervisorState = 2 →
    Completes (.releaseHeldSup dt c) dt s [Obj.supervisorState, Obj.domainStatus, Obj.hostPortActive, Obj.updateStatus]
      [.port, .flt, .safe, .ring, .nvm, .mode] (fun u t =>
        t.get Obj.supervisorState = 1 ∧ t.on .sup = true ∧ t.safe.wdHalted = false ∧ bit t.flt.latched 0x24 = false ∧
          AnsweredRing u t c node session 2 0x0003 0 [])) ∧
  ∀ (dt : Nat) (r : ResetReq) (s : State), (s.found dt).port.resetReq = some r → Calm (s.found dt) →
    Leads (.resetActs dt) dt s (fun _ t =>
      t.port = Port.empty ∧ t.safe.cenOn = false ∧ t.supReady = false ∧ t.check = CheckEng.reset ∧
        (r.code = 0x5A02 → t.modeCode = 0 ∧ bit (t.get Obj.resetCause) 4 = true ∧ t.address = 0))

/-! Modes. -/

/-- MODE_REQUEST for the current mode is accepted and without effect; any other is refused with the code that `modeRefusal` gives, which ModeStatus
shows too, or staged. A value outside 01h to 0Ch is refused with VALUE_RANGE and not shown (the model's choice, log entry 126). -/
def Obligations.ModeRequestRuns : Prop :=
  ∀ (dt : Nat) (c : Ctx) (n v : Nat) (s : State), Instr.wf (.modeRequest dt c v) = true →
    HeardMaster (s.found dt) c n 2 0x0200 0 →
    Completes (.modeRequest dt c v) dt s
      [Obj.modeRequest, Obj.modeStatus, Obj.xferStatus, Obj.loupeSessionStatus, Obj.powerPathStatus, Obj.selftestStatus]
      [.port, .bal, .flt, .mode, .test] (fun u t =>
        let still := t.get Obj.selftestStatus = u.get Obj.selftestStatus ∧ t.test = u.test
        if v = 0 ∨ 12 < v then
          Refused u t c n 0x0200 0 9 0 ∧ t.get Obj.modeStatus = u.get Obj.modeStatus ∧ t.mode = u.mode ∧ still
        else if v = u.modeCode then
          Answered u t c n 2 0x0200 0 [] ∧ t.get Obj.modeRequest = v ∧ t.get Obj.modeStatus = u.get Obj.modeStatus ∧ t.mode = u.mode ∧
            still
        else match modeRefusal v (received n u) with
        | some code =>
          Refused u t c n 0x0200 0 0x0A code ∧ bits (t.get Obj.modeStatus) 16 8 = code ∧ t.mode.staged = u.mode.staged ∧ still
        | none =>
          Answered u t c n 2 0x0200 0 [] ∧ t.get Obj.modeRequest = v ∧ t.mode.staged = some v ∧
            bits (t.get Obj.selftestStatus) 0 4 =
              (if bits (u.get Obj.selftestStatus) 0 4 = 1 then 4 else bits (u.get Obj.selftestStatus) 0 4))

/-- MODE_TRANSITION: an automatic transition that is due takes effect, and a staged request gives way to it; a staged request that waits stays; one
that is refused by then is dropped with the code; any other takes effect: READY, CONFIG HOLD, MEASURE, BALANCE and UPDATE at once; TRANSFER with
a session in REST, LOUPE with a session, SELFTEST with its set running; SLEEP, SHIP and STANDBY begin the power-down sequence, which waits for
the NVM and for a hand-over, and the mode follows at its end; a wake condition kept until then starts the device up. -/
def Obligations.ModeTransitionsRun : Prop :=
  (∀ (dt m : Nat) (s : State), Calm (s.found dt) → (s.found dt).mode.shutdown = none → (s.found dt).modeCode ≠ 0 →
    autoTarget (s.found dt) = none → (s.found dt).mode.staged = some m → m ∈ [4, 5, 6, 7] → requestWaits m (s.found dt) = false →
    ((s.found dt).plan.running = RunningPlan.rom → runsBank m = true → (s.found dt).plan.switchAt = none) →
    refusal m false (s.found dt) = none → (s.found dt).get (faultObj Obj.faultSeverity 0x2B) ≠ 3 →
    Completes (.modeTransition dt) dt s (safeObjects ++ marginObjects) modeBlocks (fun u t =>
      t.modeCode = m ∧ t.mode.staged = none ∧ bits (t.get Obj.modeStatus) 8 8 = u.modeCode ∧ bits (t.get Obj.modeStatus) 24 8 = 2 ∧
        ∀ c, c ≠ 0x2B → t.faultOn c = u.faultOn c)) ∧
  (∀ (dt m : Nat) (s : State), Calm (s.found dt) → (s.found dt).mode.shutdown = none → (s.found dt).modeCode ≠ 0 →
    autoTarget (s.found dt) = none → (s.found dt).mode.staged = some m → m ∈ [8, 9, 10] → requestWaits m (s.found dt) = false →
    ((s.found dt).plan.running = RunningPlan.rom → runsBank m = true → (s.found dt).plan.switchAt = none) →
    refusal m false (s.found dt) = none → (s.found dt).get (faultObj Obj.faultSeverity 0x2B) ≠ 3 →
    ((s.found dt).fetHot = true → (s.found dt).get (faultObj Obj.faultSeverity 0x14) ≠ 3) →
    Leads (.modeTransition dt) dt s (fun u t =>
      t.modeCode = m ∧ t.mode.staged = none ∧
        (m = 8 → if u.fetHot then t.xferState = 4 ∧ t.xfer.ended = some 3 else t.xferState = 1 ∧ t.xfer.start = some u.clk) ∧
        (m = 9 → bit (t.get Obj.loupeSessionStatus) 16 = true) ∧ (m = 10 → t.get Obj.selftestStatus = 1))) ∧
  (∀ (dt m : Nat) (s : State), Calm (s.found dt) → (s.found dt).mode.shutdown = none → (s.found dt).modeCode ≠ 0 →
    autoTarget (s.found dt) = none → (s.found dt).mode.staged = some m → m ∈ [1, 2, 3] → refusal m false (s.found dt) = none →
    (s.found dt).get (faultObj Obj.faultSeverity 0x2B) ≠ 3 →
    Completes (.modeTransition dt) dt s (Obj.ledgerCount :: (safeObjects ++ marginObjects)) ([.free, .nvm] ++ modeBlocks) (fun u t =>
      t.mode.shutdown = some m ∧ t.modeCode = u.modeCode ∧ t.planRuns = false ∧ t.mode.staged = none)) ∧
  (∀ (dt : Nat) (s : State), Calm (s.found dt) → (s.found dt).mode.shutdown = none → (s.found dt).modeCode ≠ 0 →
    autoTarget (s.found dt) = none → (s.found dt).mode.staged = some 12 → refusal 12 false (s.found dt) = none →
    (s.found dt).get (faultObj Obj.faultSeverity 0x2B) ≠ 3 →
    Leads (.modeTransition dt) dt s (fun u t =>
      t.modeCode = 12 ∧ t.mode.staged = none ∧ bits (t.get Obj.modeStatus) 8 8 = u.modeCode)) ∧
  (∀ (dt m cause : Nat) (s : State), Calm (s.found dt) → (s.found dt).mode.shutdown = none → (s.found dt).modeCode ≠ 0 →
    autoTarget (s.found dt) = some (m, cause) → m ≤ 12 → cause < 256 → (s.found dt).get (faultObj Obj.faultSeverity 0x2B) ≠ 3 →
    Leads (.modeTransition dt) dt s (fun u t =>
      t.modeCode = m ∧ t.mode.staged = none ∧ (u.get (faultObj Obj.faultSeverity 0x2B) ≠ 2 → t.mode.auto = none) ∧ bits (t.get Obj.modeStatus) 8 8 = u.modeCode ∧
        bits (t.get Obj.modeStatus) 24 8 = cause)) ∧
  (∀ (dt m : Nat) (s : State), (s.found dt).mode.shutdown = none → (s.found dt).modeCode ≠ 0 → autoTarget (s.found dt) = none →
    (s.found dt).mode.staged = some m → requestWaits m (s.found dt) = true →
    Completes (.modeTransition dt) dt s [] [] (fun _ _ => True)) ∧
  (∀ (dt m code : Nat) (s : State), (s.found dt).mode.shutdown = none → (s.found dt).modeCode ≠ 0 → autoTarget (s.found dt) = none →
    (s.found dt).mode.staged = some m → requestWaits m (s.found dt) = false →
    (runsBank m = true → (s.found dt).plan.running = RunningPlan.rom → (s.found dt).plan.switchAt = none) →
    refusal m false (s.found dt) = some code →
    Completes (.modeTransition dt) dt s [Obj.modeStatus, Obj.powerPathStatus] [.mode] (fun u t =>
      t.modeCode = u.modeCode ∧ t.mode.staged = none ∧ bits (t.get Obj.modeStatus) 16 8 = code)) ∧
  (∀ (dt m : Nat) (s : State), (s.found dt).mode.shutdown = some m → (s.found dt).shutdownReady = false →
    Completes (.shutdownSequenceComplete dt) dt s [] [] (fun _ _ => True)) ∧
  (∀ (dt m : Nat) (s : State), Calm (s.found dt) → (s.found dt).mode.shutdown = some m → m ∈ [1, 2, 3] →
    (s.found dt).shutdownReady = true → (s.found dt).mode.wakeKept = 0 → (s.found dt).get (faultObj Obj.faultSeverity 0x28) ≠ 3 →
    Leads (.shutdownSequenceComplete dt) dt s (fun u t =>
      t.modeCode = m ∧ t.mode.shutdown = none ∧ t.planRuns = false ∧ t.on .bal = false ∧ bits (t.get Obj.modeStatus) 8 8 = u.modeCode ∧
        (m = 1 → t.get Obj.domainStatus = 1) ∧ (m = 2 → t.get Obj.domainStatus = 0x203))) ∧
  ∀ (dt m kept : Nat) (s : State), Calm (s.found dt) → GoodFirmware (s.found dt) → (s.found dt).mode.shutdown = some 2 →
    (s.found dt).shutdownReady = true → (s.found dt).mode.wakeKept = kept → m < 5 → bit kept m = true →
    bit ((s.found dt).get Obj.wakeEnable) m = true →
    Leads (.shutdownSequenceComplete dt) dt s (fun _ t =>
      t.modeCode = 0 ∧ t.mode.shutdown = none ∧ bit (t.get Obj.wakeCause) m = true ∧ t.mode.wakeOut = true ∧
        t.get Obj.supervisorState = 1)

/-! Channels, plan slots and banks. -/

/-- RETIRE and REINSTATE: refused with the DETAIL of the rule, or the channel waits for its cover, or for the boundary at which it returns. -/
def Obligations.ChannelRequestsRun : Prop :=
  (∀ (dt : Nat) (c : Ctx) (n cell : Nat) (s : State), 1 ≤ cell → cell ≤ 24 → Instr.wf (.retire dt c cell) = true →
    HeardMaster (s.found dt) c n 2 0x0422 0 → (s.found dt).get (faultObj Obj.faultSeverity 0x2B) ≠ 3 →
    Completes (.retire dt c cell) dt s ([Obj.spareState + 1, Obj.spareState + 2] ++ marginObjects) ([.bal, .cells] ++ faultBlocks) (fun u t =>
      if channelRefusal false cell u = 0 then bit t.cells.retiring (cell - 1) = true ∧ Answered u t c n 2 0x0422 0 []
      else Refused u t c n 0x0422 0 0x0A (channelRefusal false cell u))) ∧
  ∀ (dt : Nat) (c : Ctx) (n cell : Nat) (s : State), 1 ≤ cell → cell ≤ 24 → Instr.wf (.reinstate dt c cell) = true →
    HeardMaster (s.found dt) c n 2 0x0422 0 →
    Completes (.reinstate dt c cell) dt s [] [.port, .bal, .flt, .cells] (fun u t =>
      if channelRefusal true cell u = 0 then bit t.cells.reinstate (cell - 1) = true ∧ Answered u t c n 2 0x0422 0 []
      else Refused u t c n 0x0422 0 0x0A (channelRefusal true cell u))

/-- LOAD, DISCARD, ERASE and CANCEL of PlanControl: the inactive bank takes the slot's image or becomes empty, the slot is erased, the pending
switch goes; each is refused where its rule says. Of the slot operand only the two bits that are not reserved count. -/
def Obligations.PlanControlRuns : Prop :=
  (∀ (dt : Nat) (c : Ctx) (n slot : Nat) (s : State), Instr.wf (.load dt c slot) = true → HeardMaster (s.found dt) c n 2 0x0600 0 →
    Completes (.load dt c slot) dt s [Obj.planControl, Obj.planStatus, Obj.planRejectDetail] [.port, .bal, .flt, .plan] (fun u t =>
      let m := slot % 4
      if u.slotImage m = [] then Refused u t c n 0x0600 0 0x0A 1 ∧ t.plan = u.plan
      else if u.plan.switchAt.isSome then Refused u t c n 0x0600 0 0x0A 2 ∧ t.plan = u.plan
      else if (bankFault false (u.slotImage m) (received n u)).isSome then
        Refused u t c n 0x0600 0 0x0A 5 ∧ t.inactive = Bank.empty ∧ t.active = u.active
      else Answered u t c n 2 0x0600 0 [] ∧ t.inactive = ⟨u.slotImage m, m, true⟩ ∧ t.active = u.active ∧
        t.get Obj.planControl = 0x100 + m)) ∧
  (∀ (dt : Nat) (c : Ctx) (n : Nat) (s : State), Instr.wf (.discard dt c) = true → HeardMaster (s.found dt) c n 2 0x0600 0 →
    Completes (.discard dt c) dt s [Obj.planControl] [.port, .bal, .flt, .plan] (fun u t =>
      if u.plan.switchAt.isSome then Refused u t c n 0x0600 0 0x0A 2 ∧ t.plan = u.plan
      else Answered u t c n 2 0x0600 0 [] ∧ t.inactive = Bank.empty ∧ t.active = u.active ∧ t.get Obj.planControl = 0x200)) ∧
  (∀ (dt : Nat) (c : Ctx) (n slot : Nat) (s : State), Instr.wf (.erase dt c slot) = true → c.storeOk = true →
    HeardMaster (s.found dt) c n 2 0x0600 0 →
    Completes (.erase dt c slot) dt s [Obj.planControl] [.port, .bal, .flt, .plan] (fun u t =>
      let k := slot % 4
      if u.backs k ≠ 0 then Refused u t c n 0x0600 0 0x0A 3 ∧ t.plan = u.plan
      else Answered u t c n 2 0x0600 0 [] ∧ t.slotImage k = [] ∧ (∀ m, m ≠ k → t.slotImage m = u.slotImage m) ∧
        t.get Obj.planControl = 0x300 + k)) ∧
  ∀ (dt : Nat) (c : Ctx) (n : Nat) (s : State), Instr.wf (.cancel dt c) = true → HeardMaster (s.found dt) c n 2 0x0600 0 →
    Completes (.cancel dt c) dt s [Obj.planControl] [.port, .bal, .flt, .plan] (fun u t =>
      if u.plan.switchAt = none then Refused u t c n 0x0600 0 0x0A 4
      else Answered u t c n 2 0x0600 0 [] ∧ t.plan.switchAt = none ∧ t.get Obj.planControl = 0x400)

/-- PLAN_SWITCH arms the switch or is refused with the code that PlanSwitchRefusal shows; PLAN_IMAGE_WRITE puts a good image into the slot that
PlanSlotSelect names; BANK_SWITCH makes the inactive bank active: under a bank the new bank starts its first cycle at once, and a transfer session
for which it has no XFER_ON ends; under the ROM minimal plan the roles swap, and a bank that was to start then, or a mode that has waited for the
switch, starts with it. -/
def Obligations.PlanSwitchRuns : Prop :=
  (∀ (dt : Nat) (c : Ctx) (n planId start : Nat) (s : State), Instr.wf (.planSwitch dt c planId start) = true →
    HeardMaster (s.found dt) c n 2 0x0602 0 →
    Completes (.planSwitch dt c planId start) dt s [Obj.planSwitchRefusal] [.port, .bal, .flt, .plan] (fun u t =>
      t.get Obj.planSwitchRefusal = switchRefusal planId start u ∧
      if switchRefusal planId start u = 0 then Answered u t c n 2 0x0602 0 [] ∧ t.plan.switchAt = some start
      else Refused u t c n 0x0602 0 0x0A (switchRefusal planId start u) ∧ t.plan.switchAt = u.plan.switchAt)) ∧
  (∀ (dt : Nat) (c : Ctx) (n : Nat) (image : List Nat) (s : State), Instr.wf (.planImageWrite dt c image) = true → c.storeOk = true →
    HeardMaster (s.found dt) c n 5 0x0610 0 → (s.found dt).backs ((s.found dt).get Obj.planSlotSelect) = 0 →
    (s.found dt).port.writeXfer = none → (s.found dt).get Obj.planSlotSelect < (s.found dt).plan.slots.length →
    Completes (.planImageWrite dt c image) dt s
      [Obj.planStatus, Obj.planRejectDetail, Obj.nvmRegionAge + ((s.found dt).get Obj.planSlotSelect + 3)] [.port, .bal, .flt, .plan, .nvm]
      (fun u t =>
        if (writeFault u.safe.cells image).isSome then Refused u t c n 0x0610 0 0x0A 5 ∧ t.plan = u.plan
        else Answered u t c n 5 0x0610 0 (leBytes 2 ((image.length - 1) / 1024)) ∧
          t.slotImage (u.get Obj.planSlotSelect) = image)) ∧
  (∀ (dt : Nat) (s : State), (s.found dt).plan.switchAt.isSome = true → (s.found dt).plan.running ≠ RunningPlan.bank →
    (s.found dt).mode.staged = none → ((s.found dt).plan.running = RunningPlan.rom → (s.found dt).plan.startAt ≠ (s.found dt).plan.switchAt) →
    Completes (.bankSwitch dt) dt s [Obj.planStatus, Obj.planRejectDetail] [.plan, .flt] (fun u t =>
      t.plan.activeB = !u.plan.activeB ∧ t.plan.switchAt = none ∧ t.plan.running = u.plan.running ∧
        (u.plan.withdraw = none → t.get Obj.planRejectDetail = u.get Obj.planRejectDetail ∧ t.flt = u.flt))) ∧
  (∀ (dt : Nat) (s : State), (s.found dt).plan.switchAt.isSome = true →
    ((s.found dt).plan.running = RunningPlan.bank ∨
      (s.found dt).plan.running = RunningPlan.rom ∧ (s.found dt).mode.staged = none ∧
        (s.found dt).plan.startAt = (s.found dt).plan.switchAt) →
    Calm (s.found dt) → bankFault true (s.found dt).inactive.image (swapBanks (s.found dt)) = none →
    (s.found dt).get (faultObj Obj.faultSeverity 0x2B) ≠ 3 →
    Leads (.bankSwitch dt) dt s (fun u t =>
      t.plan.activeB = !u.plan.activeB ∧ t.plan.switchAt = none ∧ t.plan.running = RunningPlan.bank ∧ t.cycle = 0 ∧
        t.get Obj.cycleStart = u.ringTime ∧
        (u.plan.running = RunningPlan.bank → u.xferRuns = true → hasXferOn u.inactive.image = false →
          t.xferState = 4 ∧ t.xfer.ended = some 9))) ∧
  ∀ (dt m : Nat) (s : State), (s.found dt).plan.switchAt.isSome = true → (s.found dt).plan.running = RunningPlan.rom →
    (s.found dt).mode.staged = some m → runsBank m = true → sessionWaits m (s.found dt) = false →
    refusal m false (swapBanks (s.found dt)) = none → Calm (s.found dt) → (s.found dt).get (faultObj Obj.faultSeverity 0x2B) ≠ 3 →
    bankFault true (s.found dt).inactive.image (swapBanks (s.found dt)) = none →
    Leads (.bankSwitch dt) dt s (fun u t =>
      t.plan.activeB = !u.plan.activeB ∧ t.plan.switchAt = none ∧ t.plan.running = RunningPlan.bank ∧ t.modeCode = m ∧
        t.mode.staged = none ∧ t.get Obj.cycleStart = u.ringTime)

/-! Requests to the auxiliary converter, the Facet bus and the power path. -/

/-- AUX_REQUEST waits for an ADHOC slot of the running plan, FACET_SEARCH for the next frame, one that a line fault has stopped
being over 4 ms after its start; each is refused where its rule says.
FACET_ENABLE and POWER_PATH_POLICY_WRITE are stored in NVM before they are answered; off, the Facet bus has no window and nothing in progress, and
policy 00h leaves the exchange bus. -/
def Obligations.BusRequestsRun : Prop :=
  (∀ (dt : Nat) (c : Ctx) (n channel : Nat) (s : State), channel ≤ 0x1D → Instr.wf (.auxRequest dt c channel) = true →
    HeardMaster (s.found dt) c n 2 0x0703 0 →
    Completes (.auxRequest dt c channel) dt s [] [.port, .bal, .flt, .aux] (fun u t =>
      if u.get Obj.adhocMaxGap = 0 ∨ u.planRuns = false then Refused u t c n 0x0703 0 0x0A 1 ∧ t.aux = u.aux
      else if u.aux.request.isSome ∨ u.test.refOn = true then Refused u t c n 0x0703 0 0x0C 0 ∧ t.aux = u.aux
      else Answered u t c n 2 0x0703 0 [] ∧ t.aux = { u.aux with request := some (channel, u.clk) })) ∧
  (∀ (dt : Nat) (c : Ctx) (n : Nat) (s : State), Instr.wf (.facetSearch dt c 1) = true → HeardMaster (s.found dt) c n 2 0x0751 0 →
    (s.found dt).facet.stopped = false →
    Completes (.facetSearch dt c 1) dt s [] [.port, .bal, .flt, .facet] (fun u t =>
      if u.facet.searchFrames.isSome then Refused u t c n 0x0751 0 0x0C 0 ∧ t.facet = u.facet
      else Answered u t c n 2 0x0751 0 [] ∧ t.facet = { u.facet with searchWait := true })) ∧
  (∀ (dt : Nat) (c : Ctx) (n v : Nat) (s : State), v ≤ 1 → Instr.wf (.facetEnable dt c v) = true →
    HeardMaster (s.found dt) c n 2 0x0750 0 → c.storeOk = true → (s.found dt).logTakes Obj.facetEnable (v == 1) = true →
    Leads (.facetEnable dt c v) dt s (fun u t =>
      t.get Obj.facetEnable = v ∧ Answered u t c n 2 0x0750 0 [] ∧ (v = 0 → t.facet = FacetEng.empty) ∧
        (v = 0 → t.nvm.log = logAppend (u.get Obj.nvmRefreshMargin) (objectRecord 1 Obj.facetEnable 0 false) (drainLog u).nvm.log)))  ∧
  (∀ (dt : Nat) (c : Ctx) (n v : Nat) (s : State), v ≤ 1 → Instr.wf (.powerPathPolicyWrite dt c v) = true →
    HeardMaster (s.found dt) c n 2 0x0940 0 → c.storeOk = true → (s.found dt).logTakes Obj.powerPathPolicy (v == 0) = true →
    Leads (.powerPathPolicyWrite dt c v) dt s (fun u t =>
      t.get Obj.powerPathPolicy = v ∧ Answered u t c n 2 0x0940 0 [] ∧ (v = 0 → u.pathState = 2 → t.pathState = 3) ∧
        (v = 1 → t.nvm.log = logAppend (u.get Obj.nvmRefreshMargin) (objectRecord 1 Obj.powerPathPolicy 1 false) (drainLog u).nvm.log))) ∧
  ∀ (dt : Nat) (c : Ctx) (n : Nat) (s : State), Instr.wf (.facetSearch dt c 1) = true → HeardMaster (s.found dt) c n 2 0x0751 0 →
    (s.found dt).facet.stopped = true →
    Leads (.facetSearch dt c 1) dt s (fun u t =>
      if (facetFrameOver u).facet.searchFrames.isSome then Refused u t c n 0x0751 0 0x0C 0
      else Answered u t c n 2 0x0751 0 [] ∧ t.facet.searchWait = true)

/-- A hand-over to the exchange bus starts when the dwell is over, and ends with the source that it has closed; one to the exchange bus that this no
longer allows is followed by the return. It raises 16h when it completes to STK below its undervoltage threshold, and when VPRE is not in its
window in time, the path staying on the closed source. -/
def Obligations.HandoversRun : Prop :=
  (∀ (dt : Nat) (s : State), (s.found dt).mode.dwell = true → (s.found dt).dwellHolds = true →
    Completes (.dwellComplete dt) dt s [Obj.powerPathStatus, Obj.xferStatus] [.mode] (fun u t =>
      t.pathState = 1 ∧ t.mode.handover = some ⟨true, u.clk, false⟩ ∧ t.mode.dwell = false)) ∧
  (∀ (dt : Nat) (h : Handover) (s : State), (s.found dt).mode.handover = some h →
    (h.toXbs = true → h.failed = false ∧ xbusBarred (s.found dt) = false) → (h.toXbs = false → (s.found dt).stkUv = false) →
    Completes (.handoverComplete dt) dt s [Obj.powerPathStatus, Obj.handoverCount, Obj.xferStatus] [.mode] (fun u t =>
      t.pathState = (if h.toXbs then 2 else 0) ∧ t.mode.handover = none ∧
        t.get Obj.handoverCount = sat (2 ^ 32 - 1) (u.get Obj.handoverCount + 1))) ∧
  (∀ (dt : Nat) (h : Handover) (s : State), (s.found dt).mode.handover = some h → h.toXbs = false → (s.found dt).stkUv = true →
    (s.found dt).faultOn 0x16 = false → (s.found dt).get (faultObj Obj.faultSeverity 0x16) ≠ 3 →
    Completes (.handoverComplete dt) dt s ([Obj.powerPathStatus, Obj.handoverCount, Obj.xferStatus] ++ faultObjects 0x16) faultBlocks
      (fun _ t => t.pathState = 0 ∧ t.mode.handover = none ∧ t.faultOn 0x16 = true)) ∧
  (∀ (dt : Nat) (h : Handover) (s : State), (s.found dt).mode.handover = some h → h.toXbs = true →
    (h.failed = true ∨ xbusBarred (s.found dt) = true) →
    Completes (.handoverComplete dt) dt s [Obj.powerPathStatus, Obj.handoverCount, Obj.xferStatus] [.mode] (fun u t =>
      t.pathState = 3 ∧ t.mode.handover = some ⟨false, u.clk, false⟩ ∧
        t.get Obj.handoverCount = sat (2 ^ 32 - 1) (u.get Obj.handoverCount + 1))) ∧
  ∀ (dt : Nat) (h : Handover) (s : State), (s.found dt).mode.handover = some h → (s.found dt).faultOn 0x16 = false →
    (s.found dt).get (faultObj Obj.faultSeverity 0x16) ≠ 3 →
    Completes (.handoverVpreTimeout dt) dt s ([Obj.powerPathStatus, Obj.handoverCount, Obj.xferStatus] ++ faultObjects 0x16) faultBlocks
      (fun u t =>
        t.faultOn 0x16 = true ∧
          if h.toXbs = true ∧ (h.failed = true ∨ xbusBarred u = true) then t.mode.handover = some ⟨false, u.clk, false⟩
          else t.pathState = (if h.toXbs then 2 else 0) ∧ t.mode.handover = none)

/-! Safety requests and the watchdog. -/

/-- MIRROR_RELEASE clears the latch, the trips and the self-faults once every integrator is zero, no check fails and no comparator trips at that
tick; otherwise it is refused, and so it is while VMIR is out of its window, and while a check whose self-fault has latched still fails. -/
def Obligations.MirrorReleaseRuns : Prop :=
  (∀ (dt : Nat) (c : Ctx) (n : Nat) (s : State), Instr.wf (.mirrorRelease dt c 0x5A3C ⟨[], 0⟩) = true →
    HeardMaster (s.found dt) c n 2 0x0C09 0 → (s.found dt).on .mir = true → bits ((s.found dt).get Obj.supplyStatus) 2 5 = 31 →
    (∀ r ∈ (s.found dt).test.runs, r.count < 2) →
    Completes (.mirrorRelease dt c 0x5A3C ⟨[], 0⟩) dt s [Obj.mirrorOvTripped, Obj.mirrorUvTripped] [.port, .bal, .flt, .safe] (fun u t =>
      if (∀ i, i < u.safe.cells → u.mirrorInt (i + 1) true = 0 ∧ u.mirrorInt (i + 1) false = 0) ∧ u.safe.tripAt ≠ some u.clk then
        Answered u t c n 2 0x0C09 0 [] ∧ t.safe.latched = false ∧ t.safe.selfFaults = 0 ∧ t.get Obj.mirrorOvTripped = 0 ∧
          t.get Obj.mirrorUvTripped = 0 ∧ t.mirPermit = u.safe.firstDone
      else Refused u t c n 0x0C09 0 0x0A 1 ∧ t.safe.latched = u.safe.latched ∧ t.safe.selfFaults = u.safe.selfFaults)) ∧
  (∀ (dt : Nat) (c : Ctx) (n : Nat) (s : State), Instr.wf (.mirrorRelease dt c 0x5A3C ⟨[], 0⟩) = true →
    HeardMaster (s.found dt) c n 2 0x0C09 0 → bit ((s.found dt).get Obj.supplyStatus) (railBit .vmir) = false →
    Completes (.mirrorRelease dt c 0x5A3C ⟨[], 0⟩) dt s [] [.port, .bal, .flt, .safe] (fun u t =>
      Refused u t c n 0x0C09 0 0x0A 1 ∧ t.safe.latched = u.safe.latched ∧ t.safe.selfFaults = u.safe.selfFaults)) ∧
  ∀ (dt failing : Nat) (c : Ctx) (n : Nat) (s : State), Instr.wf (.mirrorRelease dt c 0x5A3C ⟨[], failing⟩) = true →
    HeardMaster (s.found dt) c n 2 0x0C09 0 → (s.found dt).on .mir = true → bits failing 1 4 ≠ 0 →
    (∀ k ∈ [1, 2, 3, 4], bit failing k = true → bit (s.found dt).safe.selfFaults k = true) →
    Completes (.mirrorRelease dt c 0x5A3C ⟨[], failing⟩) dt s [] [.port, .bal, .flt, .safe] (fun u t =>
      Refused u t c n 0x0C09 0 0x0A 1 ∧ t.safe.latched = u.safe.latched ∧ t.safe.selfFaults = u.safe.selfFaults)

/-- The keys of the watchdog from the selected origin: the first is pending, the second restarts the period; a key from another origin is refused and
counts. WATCHDOG_CONFIG_WRITE is taken once. -/
def Obligations.WatchdogServiceRuns : Prop :=
  (∀ (dt : Nat) (s : State), (s.found dt).on .sup = true → bit ((s.found dt).get Obj.watchdogConfig) 16 = false →
    (s.found dt).wdViolation 0x9E37 = none →
    Completes (.watchdogFirstKey dt (.core true)) dt s [] [.safe] (fun u t => t.safe.wdKey = some u.clk ∧ t.safe.wdStart = u.safe.wdStart)) ∧
  (∀ (dt : Nat) (s : State), (s.found dt).on .sup = true → bit ((s.found dt).get Obj.watchdogConfig) 16 = false →
    (s.found dt).wdViolation 0x61C8 = none →
    Completes (.watchdogSecondKey dt (.core true)) dt s [] [.safe] (fun u t =>
      t.safe.wdKey = none ∧ t.safe.wdFirst = false ∧ t.safe.wdStart = u.clk)) ∧
  (∀ (dt : Nat) (c : Ctx) (n : Nat) (s : State), Instr.wf (.watchdogFirstKey dt (.host c)) = true →
    HeardMaster (s.found dt) c n 2 0x0C40 0 → bit ((s.found dt).get Obj.watchdogConfig) 16 = true →
    (s.found dt).wdViolation 0x9E37 = none →
    Completes (.watchdogFirstKey dt (.host c)) dt s [] [.port, .bal, .flt, .safe] (fun u t =>
      t.safe.wdKey = some u.clk ∧ Answered u t c n 2 0x0C40 0 [])) ∧
  (∀ (dt : Nat) (c : Ctx) (n : Nat) (s : State), Instr.wf (.watchdogSecondKey dt (.host c)) = true →
    HeardMaster (s.found dt) c n 2 0x0C40 0 → bit ((s.found dt).get Obj.watchdogConfig) 16 = true →
    (s.found dt).wdViolation 0x61C8 = none →
    Completes (.watchdogSecondKey dt (.host c)) dt s [] [.port, .bal, .flt, .safe] (fun u t =>
      t.safe.wdKey = none ∧ t.safe.wdFirst = false ∧ t.safe.wdStart = u.clk ∧ Answered u t c n 2 0x0C40 0 [])) ∧
  (∀ (dt : Nat) (s : State), (s.found dt).on .sup = true →
    Completes (.watchdogFirstKey dt (.core false)) dt s [Obj.watchdogRefused] [] (fun u t =>
      t.get Obj.watchdogRefused = sat 65535 (u.get Obj.watchdogRefused + 1))) ∧
  ∀ (dt : Nat) (c : Ctx) (n v : Nat) (s : State), Instr.wf (.watchdogConfigWrite dt c v) = true →
    HeardMaster (s.found dt) c n 2 0x0C41 0 → (s.found dt).modeIn [4, 5] = true → 10 ≤ bits v 0 16 → bits v 0 16 ≤ 1000 →
    Completes (.watchdogConfigWrite dt c v) dt s [Obj.watchdogConfig] [.port, .bal, .flt, .safe] (fun u t =>
      if u.safe.wdWritten then Refused u t c n 0x0C41 0 6 0 ∧ t.get Obj.watchdogConfig = u.get Obj.watchdogConfig
      else Answered u t c n 2 0x0C41 0 [] ∧ t.get Obj.watchdogConfig = bits v 0 17 ∧ t.safe.wdWritten = true)

/-- An expiry, a pending key that has grown old and an early key set 24h with the CAUSE and reset the SUP domain: it restarts from its ROM boot, or is held
once 24h is latched. -/
def Obligations.WatchdogFailsSafe : Prop :=
  (∀ (dt : Nat) (s : State), (s.found dt).wdRuns = true → GoodFirmware (s.found dt) → Calm (s.found dt) →
    Leads (.watchdogExpiry dt) dt s (fun u t =>
      bits (t.get Obj.watchdogStatus) 24 8 = 1 ∧ t.get Obj.watchdogCount = sat 65535 (u.get Obj.watchdogCount + 1) ∧
        t.faultOn 0x24 = true ∧ t.on .sup = false ∧ t.safe.cenOn = false ∧
        t.get Obj.supervisorState = if bit t.flt.latched 0x24 then 2 else 3)) ∧
  (∀ (dt : Nat) (s : State), (s.found dt).wdRuns = true → (s.found dt).safe.wdKey.isSome = true → GoodFirmware (s.found dt) →
    Calm (s.found dt) →
    Leads (.watchdogKeyTimeout dt) dt s (fun u t =>
      bits (t.get Obj.watchdogStatus) 24 8 = 4 ∧ t.get Obj.watchdogCount = sat 65535 (u.get Obj.watchdogCount + 1) ∧
        t.faultOn 0x24 = true ∧ t.on .sup = false ∧ t.get Obj.supervisorState = if bit t.flt.latched 0x24 then 2 else 3)) ∧
  ∀ (dt : Nat) (s : State), (s.found dt).on .sup = true → bit ((s.found dt).get Obj.watchdogConfig) 16 = false →
    (s.found dt).safe.wdHalted = false → (s.found dt).wdClosed = true → GoodFirmware (s.found dt) →
    Calm (s.found dt) →
    Leads (.watchdogSecondKey dt (.core true)) dt s (fun u t =>
      bits (t.get Obj.watchdogStatus) 24 8 = 2 ∧ t.get Obj.watchdogCount = sat 65535 (u.get Obj.watchdogCount + 1) ∧
        t.faultOn 0x24 = true ∧ t.on .sup = false)

/-! The checking engines. -/

/-- CRC_START latches the parameters and loads the register; CRC_DATA feeds it: CrcResult shows the result of all bytes so far. -/
def Obligations.CrcEngineRuns : Prop :=
  (∀ (dt : Nat) (c : Ctx) (n : Nat) (s : State), Instr.wf (.crcStart dt c) = true → HeardMaster (s.found dt) c n 2 0x0D14 0 →
    Completes (.crcStart dt c) dt s [Obj.crcByteCount, Obj.crcResult] [.port, .bal, .flt, .check] (fun u t =>
      let w := bits (u.get Obj.crcConfig) 0 6
      if 2 ^ w ≤ u.get Obj.crcPoly then Refused u t c n 0x0D14 0 0x0A 1 ∧ t.check = u.check
      else Answered u t c n 2 0x0D14 0 [] ∧ t.check.crcStarted = true ∧ t.check.crcReg = u.get Obj.crcInit % 2 ^ w ∧
        t.get Obj.crcByteCount = 0)) ∧
  ∀ (dt : Nat) (c : Ctx) (n : Nat) (data : List Nat) (s : State), Instr.wf (.crcData dt c data) = true → 1 ≤ data.length →
    HeardMaster (s.found dt) c n 5 0x0D15 0 → (s.found dt).port.writeXfer = none →
    Completes (.crcData dt c data) dt s [Obj.crcByteCount, Obj.crcResult] [.port, .bal, .flt, .check] (fun u t =>
      let k := u.check
      let w := bits k.crcConfig 0 6
      let reg := crcFeed w k.crcPoly (bit k.crcConfig 16) k.crcReg data
      if k.crcStarted then
        Answered u t c n 5 0x0D15 0 (leBytes 2 ((data.length - 1) / 1024)) ∧ t.check = { k with crcReg := reg } ∧
          t.get Obj.crcByteCount = (u.get Obj.crcByteCount + data.length) % 2 ^ 32 ∧
          t.get Obj.crcResult = crcOut w (bit k.crcConfig 17) k.crcXorOut reg
      else Refused u t c n 0x0D15 0 0x0A 2 ∧ t.check = k)

/-- ALIVE_CONFIG starts a new baseline; ALIVE_INPUT shows LAST and OUTCOME and counts the outcome. -/
def Obligations.AliveCheckerRuns : Prop :=
  (∀ (dt : Nat) (c : Ctx) (n v : Nat) (s : State), Instr.wf (.aliveConfig dt c v) = true → HeardMaster (s.found dt) c n 2 0x0D20 0 →
    v &&& 0xFFFFFF1F = v → 4 ≤ bits v 0 5 → bits v 0 5 ≤ 16 → 1 ≤ bits v 16 16 →
    Completes (.aliveConfig dt c v) dt s [Obj.aliveConfig, Obj.aliveResult] [.port, .bal, .flt, .check] (fun u t =>
      if 2 ^ bits v 0 5 ≤ bits v 16 16 then Refused u t c n 0x0D20 0 9 0 ∧ t.get Obj.aliveConfig = u.get Obj.aliveConfig
      else Answered u t c n 2 0x0D20 0 [] ∧ t.get Obj.aliveConfig = v ∧ t.check = { u.check with baseline := true } ∧
        bits (t.get Obj.aliveResult) 0 4 = 0)) ∧
  ∀ (dt : Nat) (c : Ctx) (n v : Nat) (s : State), Instr.wf (.aliveInput dt c v) = true → HeardMaster (s.found dt) c n 2 0x0D21 0 →
    Completes (.aliveInput dt c v) dt s [Obj.aliveResult, Obj.aliveCounts + 1, Obj.aliveCounts + 2, Obj.aliveCounts + 3]
      [.port, .bal, .flt, .check] (fun u t =>
      if 2 ^ bits (u.get Obj.aliveConfig) 0 5 ≤ v then Refused u t c n 0x0D21 0 9 0 ∧ t.check = u.check
      else Answered u t c n 2 0x0D21 0 [] ∧ t.check = { u.check with baseline := false } ∧
        bits (t.get Obj.aliveResult) 16 16 = v ∧ bits (t.get Obj.aliveResult) 0 3 = u.aliveOutcome v ∧
        t.get (Obj.aliveCounts + u.aliveOutcome v) = (u.get (Obj.aliveCounts + u.aliveOutcome v) + 1) % 2 ^ 32)

/-! Requests to the ring. -/

/-- ENUM_NEW and ENUM_VERIFY at the head: a DISCOVER waits to be sent, and the enumeration runs; DEPUTY_CONTROL at the deputy: it becomes head with the
next epoch; LEGACY_TRANSMIT at the head of a first-generation ring: the frame with its CRC-16 waits for the next MARK, or leaves. -/
def Obligations.RingRequestsRun : Prop :=
  (∀ (dt : Nat) (c : Ctx) (n : Nat) (s : State), Instr.wf (.enumNew dt c) = true → HeardMaster (s.found dt) c n 2 0x0A05 0 →
    Completes (.enumNew dt c) dt s [Obj.enumStatus] [.port, .bal, .flt, .ring] (fun u t =>
      if u.isHead = false then Refused u t c n 0x0A05 0 0x0A 1
      else if u.ring.enm.running ∨ u.ring.enm.unconfirmed then Refused u t c n 0x0A05 0 0x0A 2
      else Answered u t c n 2 0x0A05 0 [] ∧ t.ring.enm.running = true ∧ t.ring.enm.verify = false ∧
        ∃ f ∈ t.ring.txQ, f.type = 6 ∧ f.dst = 63 ∧ f.body.take 2 = [1, 0])) ∧
  (∀ (dt : Nat) (c : Ctx) (n : Nat) (s : State), Instr.wf (.enumVerify dt c) = true → HeardMaster (s.found dt) c n 2 0x0A05 0 →
    Completes (.enumVerify dt c) dt s [Obj.enumStatus] [.port, .bal, .flt, .ring] (fun u t =>
      if u.isHead = false then Refused u t c n 0x0A05 0 0x0A 1
      else if u.ring.enm.running ∨ u.ring.enm.unconfirmed then Refused u t c n 0x0A05 0 0x0A 2
      else Answered u t c n 2 0x0A05 0 [] ∧ t.ring.enm.running = true ∧ t.ring.enm.verify = true ∧
        ∃ f ∈ t.ring.txQ, f.type = 6 ∧ f.dst = 63 ∧ f.body.take 2 = [1, 1])) ∧
  (∀ (dt : Nat) (c : Ctx) (n : Nat) (s : State), Instr.wf (.deputyControl dt c) = true → HeardMaster (s.found dt) c n 2 0x0A26 0 →
    Completes (.deputyControl dt c) dt s
      [Obj.ringEpoch, Obj.ringRole, Obj.headAddress, Obj.ringTimeStatus, Obj.laneService, Obj.takeoverCount, Obj.eventsLost,
        Obj.ringEventsLost] [.port, .bal, .flt, .ring, .nvm, .time, .safe, .cells] (fun u t =>
      if u.isDeputy then
        Answered u t c n 2 0x0A26 0 [] ∧ t.isHead = true ∧ t.isDeputy = false ∧ t.epoch = (u.epoch + 1) % 256 ∧
          t.get Obj.takeoverCount = sat 65535 (u.get Obj.takeoverCount + 1) ∧ t.timeState = 4
      else Refused u t c n 0x0A26 0 0x0A 1 ∧ t.epoch = u.epoch)) ∧
  ∀ (dt : Nat) (c : Ctx) (n markIn : Nat) (data : List Nat) (s : State), Instr.wf (.legacyTransmit dt c data markIn) = true →
    3 ≤ data.length → data.length ≤ 35 → HeardMaster (s.found dt) c n 5 0x0A30 0 → (s.found dt).port.writeXfer = none →
    (s.found dt).isHead = true → (s.found dt).get Obj.ringGeneration = 1 → (s.found dt).ring.legacyWait = none →
    Completes (.legacyTransmit dt c data markIn) dt s [Obj.txFrames + 2, Obj.txDropped + 2] [.port, .bal, .flt, .ring] (fun u t =>
      Answered u t c n 5 0x0A30 0 [0, 0] ∧
        t.ring.legacyWait = if 6400 ≤ markIn then none else some (data ++ leBytes 2 (crc16 data)))

/-! Update. -/

/-- UpdateControl. ACTIVATE marks the verified slot for a trial and ABANDON drops the update: the SUP domain restarts and READY follows. UPDATE_VERIFY
checks an image received whole. CONFIRM keeps a firmware in trial, ROLLBACK and the expiry of the trial revoke it. FIRMWARE_IMAGE_WRITE of a whole
image leaves it in the target slot as VERIFIED, or REJECTED with the code of the first check that fails. A marker whose program fails twice leaves the
slot as it was and sets 27h: CONFIRM is refused with STORE_FAILED, and the image of UPDATE_VERIFY is REJECTED with the code 08h. -/
def Obligations.UpdateControlRuns : Prop :=
  (∀ (dt : Nat) (c : Ctx) (n : Nat) (s : State), Instr.wf (.activate dt c) = true → HeardMaster (s.found dt) c n 2 0x1011 0 →
    (s.found dt).modeCode = 12 → (s.found dt).updStage = 3 →
    ((s.found dt).fwSlot (s.found dt).target).trialBooted = false → ((s.found dt).fwSlot (s.found dt).target).confirmed = false →
    ((s.found dt).fwSlot (s.found dt).target).revoked = false → c.storeOk = true → imageCrcOk ((s.found dt).fwSlot (s.found dt).target) = true →
    ((s.found dt).fwSlot (!(s.found dt).target)).trial = false → Calm (s.found dt) →
    Leads (.activate dt c) dt s (fun u t =>
      t.nvm.runningB = u.target ∧ (t.fwSlot u.target).trial = true ∧ (t.fwSlot u.target).trialBooted = true ∧ t.updStage = 5 ∧
        t.get Obj.supervisorState = 3 ∧ t.port = Port.empty ∧ t.mode.auto = some ⟨5, 8⟩)) ∧
  (∀ (dt : Nat) (c : Ctx) (n : Nat) (s : State), Instr.wf (.abandon dt c) = true → HeardMaster (s.found dt) c n 2 0x1011 0 →
    (s.found dt).modeCode = 12 → GoodFirmware (s.found dt) → Calm (s.found dt) →
    Leads (.abandon dt c) dt s (fun _ t =>
      t.get Obj.supervisorState = 3 ∧ t.port = Port.empty ∧ t.mode.auto = some ⟨5, 8⟩ ∧ t.nvm.runningB = false)) ∧
  (∀ (dt : Nat) (c : Ctx) (n : Nat) (s : State), Instr.wf (.updateVerify dt c) = true → HeardMaster (s.found dt) c n 2 0x1011 0 →
    c.storeOk = true → (s.found dt).updateBusy = false → (s.found dt).modeCode = 12 → (s.found dt).updStage = 4 →
    (s.found dt).journal.map (·.length) = some ((s.found dt).get Obj.updateProgrammed) →
    Completes (.updateVerify dt c) dt s [Obj.updateStatus, Obj.updateProgrammed] [.port, .bal, .flt, .nvm] (fun u t =>
      let code := u.readBackFault
      if code = 0 then
        Answered u t c n 2 0x1011 0 [] ∧ t.updStage = 3 ∧ (t.fwSlot u.target).writtenM = .zero ∧
          (t.fwSlot u.target).image = (u.fwSlot u.target).image ∧ t.fwSlot u.nvm.runningB = u.fwSlot u.nvm.runningB
      else Refused u t c n 0x1011 0 0x0A 5 ∧ t.updStage = 8 ∧ bits (t.get Obj.updateStatus) 24 8 = code)) ∧
  (∀ (dt : Nat) (c : Ctx) (n : Nat) (s : State), Instr.wf (.updateVerify dt c) = true → HeardMaster (s.found dt) c n 2 0x1011 0 →
    c.storeOk = false → (s.found dt).updateBusy = false → (s.found dt).modeCode = 12 → (s.found dt).updStage = 4 →
    (s.found dt).journal.map (·.length) = some ((s.found dt).get Obj.updateProgrammed) →
    Leads (.updateVerify dt c) dt s (fun u t =>
      Refused u t c n 0x1011 0 0x0A 5 ∧ t.updStage = 8 ∧
        bits (t.get Obj.updateStatus) 24 8 = (if u.readBackFault = 0 then 8 else u.readBackFault) ∧
        (u.readBackFault = 0 → t.faultOn 0x27 = true))) ∧
  (∀ (dt : Nat) (c : Ctx) (n : Nat) (s : State), Instr.wf (.confirm dt c) = true → HeardMaster (s.found dt) c n 2 0x1011 0 →
    c.storeOk = true →
    Completes (.confirm dt c) dt s [Obj.updateStatus, Obj.updateProgrammed, Obj.securityVersionFloor] [.port, .bal, .flt, .nvm] (fun u t =>
      if u.inTrial then
        Answered u t c n 2 0x1011 0 [] ∧ (t.fwSlot u.nvm.runningB).confirmedM = .zero ∧ t.updStage = 6 ∧ t.nvm.trialAt = none
      else Refused u t c n 0x1011 0 0x0A 6 ∧ t.nvm = u.nvm)) ∧
  (∀ (dt : Nat) (c : Ctx) (n : Nat) (s : State), Instr.wf (.confirm dt c) = true → HeardMaster (s.found dt) c n 2 0x1011 0 →
    c.storeOk = false → (s.found dt).inTrial = true →
    Leads (.confirm dt c) dt s (fun u t =>
      Refused u t c n 0x1011 0 0x13 0 ∧ t.faultOn 0x27 = true ∧ t.fwSlot u.nvm.runningB = u.fwSlot u.nvm.runningB)) ∧
  (∀ (dt : Nat) (c : Ctx) (n : Nat) (s : State), Instr.wf (.rollback dt c) = true → HeardMaster (s.found dt) c n 2 0x1011 0 →
    c.storeOk = true → (s.found dt).inTrial = true → Calm (s.found dt) →
    Leads (.rollback dt c) dt s (fun u t =>
      (t.fwSlot u.nvm.runningB).revoked = true ∧ t.port = Port.empty ∧
        (t.get Obj.supervisorState = 3 ∨ t.get Obj.supervisorState = 2))) ∧
  (∀ (dt : Nat) (s : State), (s.found dt).inTrial = true → (s.found dt).nvm.trialAt.isSome = true →
    (s.found dt).get Obj.supervisorState ≠ 2 → Calm (s.found dt) →
    Leads (.updateTrialExpiry dt) dt s (fun u t =>
      (t.fwSlot u.nvm.runningB).revoked = true ∧ t.port = Port.empty ∧
        (t.get Obj.supervisorState = 3 ∨ t.get Obj.supervisorState = 2))) ∧
  (∀ (dt : Nat) (s : State), (s.found dt).get Obj.supervisorState = 2 →
    Completes (.updateTrialExpiry dt) dt s [] [] (fun _ t => t.get Obj.supervisorState = 2)) ∧
  ∀ (dt : Nat) (c : Ctx) (n : Nat) (data : List Nat) (s : State), Instr.wf (.firmwareImageWrite dt c data) = true → c.storeOk = true →
    HeardMaster (s.found dt) c n 5 0x1010 0 → (s.found dt).modeCode = 12 → (s.found dt).inTrial = false →
    (s.found dt).get Obj.firmwareWriteOffset = 0 → (s.found dt).get Obj.updateProgrammed = 0 → 256 ≤ data.length → data.length ≤ 98048 →
    data.length % 8 = 0 → (s.found dt).port.writeXfer = none → (s.found dt).updateBusy = false →
    Leads (.firmwareImageWrite dt c data) dt s (fun u t =>
      let code := imageFault data data.length (u.get Obj.securityVersionFloor)
      if code = 0 then
        Answered u t c n 5 0x1010 0 (leBytes 2 ((data.length - 1) / 1024)) ∧ t.updStage = 3 ∧ (t.fwSlot u.target).image = data ∧
          (t.fwSlot u.target).writtenM = .zero ∧ t.nvm.runningB = u.nvm.runningB
      else Refused u t c n 0x1010 0 0x0A 5 ∧ t.updStage = 8 ∧ bits (t.get Obj.updateStatus) 24 8 = code)

/-! Fault sources. -/

/-- FAULT_CLEAR by MASTER: without effect on a clear source, refused while the source may not clear; a setting in the same window wins and counts as
a collision; otherwise the status clears. A value other than 0 is refused with VALUE_RANGE, and a number that names no object as unknown. -/
def Obligations.FaultClearRuns : Prop :=
  (∀ (dt : Nat) (c : Ctx) (n k : Nat) (s : State), Instr.wf (.faultClear dt c k 0) = true → k < 48 →
    HeardMaster (s.found dt) c n 2 (0x0E10 + k) 1 →
    Completes (.faultClear dt c k 0) dt s
      [Obj.faultLogCount, faultObj Obj.faultRecoveryCount k, faultObj Obj.faultCollisionCount k, Obj.balStatus, Obj.eventsLost,
        Obj.ringEventsLost] [.port, .bal, .flt, .ring] (fun u t =>
      if u.faultOn k = false then Answered u t c n 2 (0x0E10 + k) 1 [] ∧ t.faultOn k = false
      else if (received n u).clearRefusal k ≠ 0 then
        Refused u t c n (0x0E10 + k) 1 0x0A ((received n u).clearRefusal k) ∧ t.faultOn k = true
      else if bit u.flt.setIn k then
        Answered u t c n 2 (0x0E10 + k) 1 [] ∧ t.faultOn k = true ∧
          t.get (faultObj Obj.faultCollisionCount k) = sat 65535 (u.get (faultObj Obj.faultCollisionCount k) + 1)
      else Answered u t c n 2 (0x0E10 + k) 1 [] ∧ t.faultOn k = false ∧ bit t.flt.latched k = false ∧ bit t.flt.clearedIn k = true)) ∧
  (∀ (dt : Nat) (c : Ctx) (n k v : Nat) (s : State), Instr.wf (.faultClear dt c k v) = true → k < 48 → v ≠ 0 →
    HeardMaster (s.found dt) c n 2 (0x0E10 + k) 1 →
    Completes (.faultClear dt c k v) dt s [] [.port, .bal, .flt] (fun u t =>
      Refused u t c n (0x0E10 + k) 1 9 0 ∧ t.flt.status = u.flt.status)) ∧
  ∀ (dt : Nat) (c : Ctx) (n k v e : Nat) (s : State), Instr.wf (.faultClear dt c k v) = true → lookup (0x0E10 + k) 1 = .inl e →
    HeardMaster (s.found dt) c n 2 (0x0E10 + k) 1 →
    Completes (.faultClear dt c k v) dt s [] [.port, .bal, .flt] (fun u t => Refused u t c n (0x0E10 + k) 1 e 0)

/-- A read of the status of a transfer source answers it and clears it, once its condition has ended; a read of another source's status leaves it,
and one of a number that names no object is refused. At the end of the quiet period a source clears and its recovery counts; at the end of the
recovery window the count of a clear source falls. A source that occurs while its status is set does not set again: its quiet period starts anew;
24h counts the occurrence as a recovery and a setting. Nothing ends a quiet period before its time. -/
def Obligations.FaultRecoveryRuns : Prop :=
  (∀ (dt : Nat) (c : Ctx) (n k : Nat) (s : State), Instr.wf (.faultStatusReadClear dt c k) = true → k < 48 →
    Heard (s.found dt) c n 1 (0x0E10 + k) 1 → (s.found dt).role (.host n) ≠ 0 → (s.found dt).supReady = true →
    Completes (.faultStatusReadClear dt c k) dt s
      [Obj.faultLogCount, faultObj Obj.faultRecoveryCount k, faultObj Obj.faultCollisionCount k, Obj.eventsLost, Obj.ringEventsLost]
      [.port, .bal, .flt, .ring] (fun u t =>
      Answered u t c n 1 (0x0E10 + k) 1 [num (u.faultOn k)] ∧
        t.faultOn k = (u.faultOn k && !(decide (0x12 ≤ k ∧ k ≤ 0x15) && !bit u.flt.cond k && !bit u.flt.setIn k)))) ∧
  (∀ (dt k : Nat) (s : State), Instr.wf (.quietPeriodEnd dt k) = true → (s.found dt).faultOn k = true →
    (s.found dt).quietOver k = true → bit (s.found dt).flt.latched k = false →
    Completes (.quietPeriodEnd dt k) dt s
      [Obj.faultLogCount, faultObj Obj.faultRecoveryCount k, Obj.balStatus, Obj.eventsLost, Obj.ringEventsLost] [.port, .ring, .flt]
      (fun u t => t.faultOn k = false ∧
        t.get (faultObj Obj.faultRecoveryCount k) = sat 255 (u.get (faultObj Obj.faultRecoveryCount k) + 1))) ∧
  (∀ (dt k : Nat) (s : State), Instr.wf (.quietPeriodEnd dt k) = true → (s.found dt).quietOver k = false →
    Completes (.quietPeriodEnd dt k) dt s [] [] (fun u t => t.faultOn k = u.faultOn k)) ∧
  (∀ (dt k : Nat) (s : State), Instr.wf (.recoveryWindowEnd dt k) = true →
    Completes (.recoveryWindowEnd dt k) dt s [faultObj Obj.faultRecoveryCount k] [] (fun u t =>
      t.get (faultObj Obj.faultRecoveryCount k) =
        if u.faultOn k then u.get (faultObj Obj.faultRecoveryCount k) else u.get (faultObj Obj.faultRecoveryCount k) - 1)) ∧
  (∀ (c : Nat) (s : State), s.faultOn c = false → (faultOccur c s).faultOn c = true) ∧
  (∀ (c : Nat) (s : State), s.faultOn c = true → c ≠ 0x24 → bit s.flt.clearedIn c = false →
    (faultOccur c s).flt.status = s.flt.status ∧ (faultOccur c s).flt.log = s.flt.log ∧ (faultOccur c s).objs = s.objs ∧
      bit (faultOccur c s).flt.quiet c = false) ∧
  (∀ s : State, s.faultOn 0x24 = true → bit s.flt.clearedIn 0x24 = false → s.get (faultObj Obj.faultSeverity 0x24) ≠ 3 →
    (faultOccur 0x24 s).faultOn 0x24 = true ∧
      (faultOccur 0x24 s).get (faultObj Obj.faultRecoveryCount 0x24) =
        sat 255 (s.get (faultObj Obj.faultRecoveryCount 0x24) + 1) ∧
      ∃ a b l, (faultOccur 0x24 s).flt.log = a :: b :: l ∧ bit a 8 = true ∧ bit b 12 = true) ∧
  ∀ (dt : Nat) (c : Ctx) (n k e : Nat) (s : State), Instr.wf (.faultStatusReadClear dt c k) = true →
    lookup (0x0E10 + k) 1 = .inl e → Heard (s.found dt) c n 1 (0x0E10 + k) 1 →
    Completes (.faultStatusReadClear dt c k) dt s [] [.port, .bal, .flt] (fun u t => Refused u t c n (0x0E10 + k) 1 e 0)

/-! The entries of the sampling plan. -/

/-- CONVERT opens an aperture and latches the counter at its start; SNAP_CURRENT shows the counter at that start, and its time. The counter runs on
through the time between commands, and however that time is cut it comes to the same value; it follows the shunt voltage 1.75 us later, and adds 0 for
the 2 ms of a loop-back of the current converter. The shunt voltage that both bring is the model's form of the input (log entry 111). -/
def Obligations.ConvertRuns : Prop :=
  (∀ (dt cells osr : Nat) (through : Bool) (volts : Int) (s : State), Instr.wf (.convert dt cells osr through volts) = true →
    (s.found dt).planRuns = true → (s.found dt).cur.latched = none →
    Completes (.convert dt cells osr through volts) dt s [Obj.counterGapCount] [.cells, .cur] (fun u t =>
      t.cur.counter = u.cur.counter ∧ t.cur.next = u.cur.next ++ [(u.clk + 28, volts)] ∧
        t.get Obj.counterGapCount = (if u.loopInput = 1 then sat 65535 (u.get Obj.counterGapCount + 1) else u.get Obj.counterGapCount) ∧
        t.cells.apertures.length = u.cells.apertures.length + 1 ∧
        ∃ x ∈ t.cells.apertures, x.a = u.apertureA.1 ∧ x.mask = cells ∧ x.osr = osr ∧ x.through = through ∧ x.cycle = u.cycle ∧
          x.calib = u.loopInput ∧ x.latch = (u.counterAfter (u.apertureA.2 - u.clk)).1)) ∧
  (∀ (dt cells osr : Nat) (through : Bool) (volts : Int) (p : Nat × Nat) (s : State),
    Instr.wf (.convert dt cells osr through volts) = true → (s.found dt).planRuns = true → (s.found dt).cur.latched = some p →
    Completes (.convert dt cells osr through volts) dt s [Obj.counterGapCount] [.cells, .cur] (fun u t =>
      ∃ x ∈ t.cells.apertures, x.a = u.apertureA.1 ∧ x.mask = cells ∧
        x.latch = if p.1 = u.apertureA.2 then p.2 else (u.counterAfter (u.apertureA.2 - u.clk)).1)) ∧
  (∀ (dt : Nat) (volts : Int) (s : State), (s.found dt).planRuns = true →
    Completes (.snapCurrent dt volts) dt s [Obj.coulombSnapshot + 1, Obj.coulombSnapshot + 2, Obj.coulombSnapshot + 3] [.cur]
      (fun u t =>
        t.get (Obj.coulombSnapshot + 1) = (latchCounter volts u).1 ∧ t.get (Obj.coulombSnapshot + 2) = u.apertureA.1 ∧
          t.get (Obj.coulombSnapshot + 3) = (u.get (Obj.coulombSnapshot + 3) + 1) % 2 ^ 32)) ∧
  (∀ (m n : Nat) (s : State), (integrate m { integrate n s with clk := s.clk + n }).cur = (integrate (n + m) s).cur) ∧
  (∀ (n : Nat) (s : State), s.on .icx = true → s.cur.mutedAt = none → s.cur.next = [] →
    (integrate n s).cur.counter =
      ofInt 48 ((s.cur.counter : Int) + (s.modulator s.cur.volts * n + s.cur.residue) / 16000000)) ∧
  (∀ (n : Nat) (w : Int) (s : State), s.on .icx = true → s.cur.mutedAt = none → s.cur.next = [(s.clk + 28, w)] →
    (integrate (28 + n) s).cur.counter =
      ofInt 48 ((s.cur.counter : Int) + (s.modulator s.cur.volts * 28 + s.modulator w * n + s.cur.residue) / 16000000)) ∧
  ∀ (n : Nat) (s : State), s.on .icx = true → s.cur.mutedAt = some s.clk → n ≤ 2 * ms →
    (integrate n s).cur.counter = ofInt 48 ((s.cur.counter : Int) + s.cur.residue / 16000000)

/-- BAL_HOLD and BAL_RELEASE change the hold states of the named switches while a plan runs; a switch whose budget is spent is off for the frame. -/
def Obligations.BalanceEntriesRun : Prop :=
  (∀ (dt switches : Nat) (s : State), Instr.wf (.balHold dt switches) = true →
    Completes (.balHold dt switches) dt s [] [.plan] (fun u t =>
      ∀ i, i < 24 → bit t.plan.held i = (bit u.plan.held i || (u.planRuns && bit switches i)))) ∧
  (∀ (dt switches : Nat) (s : State), Instr.wf (.balRelease dt switches) = true →
    Completes (.balRelease dt switches) dt s [] [.plan] (fun u t =>
      ∀ i, i < 24 → bit t.plan.held i = (bit u.plan.held i && !(u.planRuns && bit switches i)))) ∧
  ∀ (dt n : Nat) (s : State), Instr.wf (.switchBudgetSpent dt n) = true →
    Completes (.switchBudgetSpent dt n) dt s [] [.bal] (fun u t =>
      bit t.bal.spent (n - 1) = true ∧ bit t.cells.conducting (n - 1) = (t.conducts n && bit t.mayConduct (n - 1)) ∧
        ∀ m, m ≠ n - 1 → bit t.bal.spent m = bit u.bal.spent m)

/-- AUX and an ADHOC slot with a request start a conversion, a request of that very tick waiting for the next slot; its end gives the channel's result
and stamp. OPENWIRE switches the open-wire currents. -/
def Obligations.AuxEntriesRun : Prop :=
  (∀ (dt select : Nat) (s : State), Instr.wf (.aux dt select) = true → (s.found dt).planRuns = true → (s.found dt).on .icx = true →
    (s.found dt).aux.busy = none →
    Completes (.aux dt select) dt s [] [.aux] (fun u t =>
      ∃ b, t.aux = { u.aux with busy := some b } ∧ b.channel = u.auxEntry select % 256 ∧ b.avg = bits (u.auxEntry select) 8 3 ∧
        b.e = u.ringTime ∧ b.cycle = u.cycle)) ∧
  (∀ (dt channel at_ : Nat) (s : State), (s.found dt).planRuns = true → (s.found dt).on .icx = true → (s.found dt).aux.busy = none →
    (s.found dt).aux.request = some (channel, at_) →
    Completes (.adhocSlot dt) dt s [] [.aux] (fun u t =>
      if at_ < u.clk then
        t.aux.request = none ∧ ∃ b, t.aux.busy = some b ∧ b.channel = channel ∧ b.avg = 0 ∧ b.e = u.ringTime ∧ b.adhoc = true
      else t.aux = u.aux)) ∧
  (∀ (dt : Nat) (volts : List Int) (b : AuxConv) (s : State), (s.found dt).aux.busy = some b → b.channel ≤ 0x1D → b.diag = false →
    Calm (s.found dt) →
    Leads (.auxConversionComplete dt volts) dt s (fun _ t =>
      t.aux.busy = none ∧ t.get (Obj.auxResult + (b.channel + 1)) / 65536 = meanCode (auxCodes (2 ^ b.avg) volts) ∧
        t.get (Obj.auxStamp + (b.channel + 1)) = (b.e + 130) % 2 ^ 48)) ∧
  ∀ (dt param : Nat) (s : State), Instr.wf (.openwire dt param) = true → (s.found dt).planRuns = true →
    Completes (.openwire dt param) dt s [] [.plan, .cells, .aux, .test] (fun u t =>
      t.plan.cellCurrents = (if bit param 1 then bit param 0 else u.plan.cellCurrents) ∧ t.plan.held = u.plan.held ∧
        ∀ i, i < 16 → bit t.plan.axPulls i =
          if bit param (16 + i) && (bits (u.get (Obj.auxInputConfig + (i + 1))) 0 2 == 1 || bits (u.get (Obj.auxInputConfig + (i + 1))) 0 2 == 2)
          then bit param 0 else bit u.plan.axPulls i)

/-- REPORT: in a cycle that it does not pick nothing happens; otherwise the latest aperture's set is frozen as LatestResultSet and waits in the queue
of a node with an address, or waits for its aperture. A set for the head's own host passes its checks first: one that fails again is discarded and
counts. -/
def Obligations.ReportRuns : Prop :=
  (∀ (dt param : Nat) (host : SetCheck) (s : State), Instr.wf (.report dt ⟨param, host⟩) = true → (s.found dt).planRuns = true →
    (s.found dt).reports param = false → Completes (.report dt ⟨param, host⟩) dt s [] [] (fun _ _ => True)) ∧
  (∀ (dt param : Nat) (host : SetCheck) (s : State), Instr.wf (.report dt ⟨param, host⟩) = true → (s.found dt).planRuns = true →
    (s.found dt).reports param = true → host.bad = [] → host.setOk = true → (s.found dt).cells.badConv = 0 →
    (s.found dt).cells.tableBad = [] →
    Completes (.report dt ⟨param, host⟩) dt s [Obj.streamLost, Obj.queueOverflow, Obj.currentStatus]
      [.ring, .cur, .latest, .cells, .port, .free, .flt] (fun u t =>
      t.ring.reportCount = u.ring.reportCount + 1 ∧
      match u.chosen with
      | some (_, a, none) => t.latest = u.latest ∧ ∃ r ∈ t.cells.reports, r.a = a ∧ r.param = param
      | some (_, a, some w) =>
        t.latest.take 12 = [u.address + bits param 30 2 * 64, w.planId] ++ leBytes 4 w.cycle ++ leBytes 6 a ∧
          (t.latest.drop 16).take (4 * w.cells.length) = (w.cells.map (leBytes 4)).flatten ∧
          (u.address ≠ 0 → ∃ x ∈ t.ring.slots, x.bytes = t.latest ∧ x.waiting = true)
      | none =>
        t.latest.take 12 = [u.address + bits param 30 2 * 64, u.runningId, 0, 0, 0, 0, 0, 0, 0, 0, 0, 0] ∧
          (u.address ≠ 0 → ∃ x ∈ t.ring.slots, x.bytes = t.latest ∧ x.waiting = true))) ∧
  ∀ (dt param : Nat) (host : SetCheck) (s : State), Instr.wf (.report dt ⟨param, host⟩) = true → (s.found dt).planRuns = true →
    (s.found dt).reports param = true → (s.found dt).streamSelects = true → (s.found dt).isHead = true → host.bad = [] →
    host.setOk = false → host.rereadOk = false → (∀ x, (s.found dt).chosen = some x → x.2.2.isSome = true) →
    Leads (.report dt ⟨param, host⟩) dt s (fun u t =>
      t.ring.reportCount = u.ring.reportCount + 1 ∧ t.ring.slots = u.ring.slots ∧
        t.get Obj.integrityDiscards = sat (2 ^ 32 - 1) (u.get Obj.integrityDiscards + 1))

/-- SLICE of each kind: a slice long enough whose block is free starts, with its target, its tick and its length, and is NOT_RUN where its kind may
not run; a shorter one is NOT_RUN, and only counts; one of a channel whose retirement was decided at that tick is INCOMPLETE. At E + LENGTH
SLICE_END evaluates the slice with its token, which counts; without the token it is INCOMPLETE, with its block not run in full NOT_RUN, and with a
wrong signature FAIL. A converter slice may bring its token before that (log entry 66), and its end then counts nothing more. For the North port
(kind 07h) the frame too. -/
def Obligations.SlicesRun : Prop :=
  (∀ (dt length : Nat) (s : State), Instr.wf (.slice dt 0 (7 * 2 ^ 24 + length)) = true → sliceLength (7 * 2 ^ 24 + length) = length →
    (s.found dt).modeIn [6, 7, 8, 9, 11] = true → (s.found dt).planRuns = true → (s.found dt).supReady = true →
    (s.found dt).serving .north = true → (s.found dt).test.slices.any (fun x => x.kind = 7) = false → 200 ≤ length →
    Completes (.slice dt 0 (7 * 2 ^ 24 + length)) dt s [] [.test] (fun u t =>
      ∃ x, t.test.slices = u.test.slices ++ [x] ∧ x.kind = 7 ∧ x.e = u.clk ∧ x.length = length ∧ x.target = 0)) ∧
  (∀ (dt length : Nat) (s : State), Instr.wf (.slice dt 0 (7 * 2 ^ 24 + length)) = true → sliceLength (7 * 2 ^ 24 + length) = length →
    (s.found dt).modeIn [6, 7, 8, 9, 11] = true → (s.found dt).planRuns = true → (s.found dt).supReady = true → length < 200 →
    Completes (.slice dt 0 (7 * 2 ^ 24 + length)) dt s
      [Obj.sliceLast + 7, Obj.sliceNotRun, Obj.planRequestStatus, Obj.eventsLost, Obj.ringEventsLost] [.test, .port, .ring] (fun u t =>
      t.get (Obj.sliceLast + 7) / 2 ^ 28 = 3 ∧ t.test.slices = u.test.slices ∧
        t.get Obj.sliceNotRun = sat (2 ^ 32 - 1) (u.get Obj.sliceNotRun + 1))) ∧
  (∀ (dt : Nat) (token : Bool) (x : Slice) (s : State), (s.found dt).test.slices = [x] → x.kind = 7 → x.target = 0 → x.told = false →
    (s.found dt).sliceOver x = true → (s.found dt).test.set = [] →
    (s.found dt).test.runs = [] → bits (s.found dt).safe.selfFaults 2 3 = 0 → (s.found dt).spare 1 = 0 → MarginsStand (s.found dt) →
    (s.found dt).port.waiting = [] →
    Completes (.sliceEnd dt 7 0 token ⟨true, .phy false none, []⟩) dt s [Obj.sliceLast + 7, Obj.sliceIncomplete] [.test, .flt] (fun u t =>
      t.test.slices = [] ∧ t.get (Obj.sliceLast + 7) / 2 ^ 28 = (if token then 1 else 4) ∧
        t.get (Obj.sliceLast + 7) % 2 ^ 16 = (u.get (Obj.sliceLast + 7) + num token) % 2 ^ 16 ∧
        t.get Obj.sliceIncomplete = if token then u.get Obj.sliceIncomplete else sat (2 ^ 32 - 1) (u.get Obj.sliceIncomplete + 1))) ∧
  (∀ (dt channels param : Nat) (s : State), Instr.wf (.slice dt channels param) = true → 1 ≤ param / 2 ^ 24 → param / 2 ^ 24 ≤ 10 →
    (s.found dt).modeIn [6, 7, 8, 9, 11] = true → (s.found dt).planRuns = true → (s.found dt).supReady = true →
    sliceLength param < minLength (param / 2 ^ 24) →
    Leads (.slice dt channels param) dt s (fun u t =>
      t.get (Obj.sliceLast + param / 2 ^ 24) / 2 ^ 28 = 3 ∧ t.test.slices = u.test.slices ∧
        t.get Obj.sliceNotRun = sat (2 ^ 32 - 1) (u.get Obj.sliceNotRun + 1))) ∧
  (∀ (dt channels param : Nat) (s : State), Instr.wf (.slice dt channels param) = true → 1 ≤ param / 2 ^ 24 → param / 2 ^ 24 ≤ 10 →
    (s.found dt).modeIn [6, 7, 8, 9, 11] = true → (s.found dt).planRuns = true → (s.found dt).supReady = true →
    minLength (param / 2 ^ 24) ≤ sliceLength param →
    Leads (.slice dt channels param) dt s (fun u t =>
      let kind := param / 2 ^ 24
      let n := ((bitList channels 24).head?.map (· + 1)).getD 0
      let may := u.sliceMay kind n && !u.sliceBars kind (sliceTarget kind n) &&
        (kind != 1 || u.channel n == 2 || (u.pickSpare (bits channels 24 2) n).isSome)
      if kind = 1 ∧ u.faultOn 6 = false ∧ (u.justRetired n).isSome = true then
        t.test.slices = u.test.slices ∧ t.get (Obj.sliceLast + 1) / 2 ^ 28 = 4
      else if may then
        ∃ x ∈ t.test.slices, x.kind = kind ∧ x.target = sliceTarget kind n ∧ x.e = u.clk ∧ x.length = sliceLength param ∧ x.told = false
      else t.test.slices = u.test.slices ∧ t.get (Obj.sliceLast + kind) / 2 ^ 28 = 3)) ∧
  (∀ (dt kind n : Nat) (token : Bool) (o : SliceOut) (x : Slice) (s : State),
    Instr.wf (.sliceEnd dt kind n token o) = true →
    (s.found dt).test.slices = [x] → x.kind = kind → x.target = sliceTarget kind n → (s.found dt).sliceOver x = true →
    Leads (.sliceEnd dt kind n token o) dt s (fun u t =>
      t.test.slices = [] ∧
      if x.told then t.get (Obj.sliceLast + kind) = u.get (Obj.sliceLast + kind)
      else
        t.get (Obj.sliceLast + kind) % 2 ^ 16 = (u.get (Obj.sliceLast + kind) + num token) % 2 ^ 16 ∧
        (token = false → t.get (Obj.sliceLast + kind) / 2 ^ 28 = 4) ∧
        (token = true → x.ran = false → o.signature = true → t.get (Obj.sliceLast + kind) / 2 ^ 28 = 3) ∧
        (token = true → o.signature = false → t.get (Obj.sliceLast + kind) / 2 ^ 28 = 2))) ∧
  (∀ (dt kind n : Nat) (token : Bool) (o : SliceOut) (x : Slice) (s : State),
    Instr.wf (.sliceEnd dt kind n token o) = true →
    (s.found dt).test.slices = [x] → x.kind = kind → x.target = sliceTarget kind n → (s.found dt).sliceOver x = false →
    (token && (s.found dt).tokenEarly x) = false → (s.found dt).port.waiting = [] →
    Completes (.sliceEnd dt kind n token o) dt s [] [] (fun u t => t.test.slices = u.test.slices)) ∧
  ∀ (dt kind n : Nat) (o : SliceOut) (x : Slice) (s : State),
    Instr.wf (.sliceEnd dt kind n true o) = true →
    (s.found dt).test.slices = [x] → x.kind = kind → x.target = sliceTarget kind n → (s.found dt).sliceOver x = false →
    (s.found dt).tokenEarly x = true →
    Leads (.sliceEnd dt kind n true o) dt s (fun u t =>
      (∀ y ∈ t.test.slices, y.told = true) ∧
        t.get (Obj.sliceLast + kind) % 2 ^ 16 = (u.get (Obj.sliceLast + kind) + 1) % 2 ^ 16)

/-- The foreground set of SELFTEST: SELFTEST_COMPLETE ends its memory step, which fails only when its repetition fails too, and once nothing is left
of it the set, with PASS when no check is confirmed as failed, FAIL otherwise; the device is to return to READY. A SLICE in SELFTEST is the start
of the next check (the model's choice, log entry 156); a check that fails is repeated at once, and its second failure is confirmed in FAILED_STEP.
A failure whose source is of severity SAFE takes the device to SAFE at once, and the set is INCOMPLETE. -/
def Obligations.SelftestRuns : Prop :=
  (∀ (dt : Nat) (mem again : List MacroMeas) (words : List TableWord) (s : State),
    Instr.wf (.selftestComplete dt mem again words) = true → (s.found dt).modeCode = 10 → (s.found dt).supReady = true →
    bits ((s.found dt).get Obj.selftestStatus) 0 4 = 1 → (s.found dt).mode.auto = none → (s.found dt).test.set = [] →
    Completes (.selftestComplete dt mem again words) dt s [Obj.selftestStatus] [.mode] (fun u t =>
      t.modeCode = 10 ∧ t.mode.auto = some ⟨5, 6⟩ ∧
        bits (t.get Obj.selftestStatus) 0 4 = if bits (u.get Obj.selftestStatus) 24 8 = 0 then 2 else 3)) ∧
  (∀ (dt k j : Nat) (l : List (Nat × Nat × Nat)) (mem again : List MacroMeas) (s : State),
    Instr.wf (.selftestComplete dt mem again []) = true → (s.found dt).modeCode = 10 → (s.found dt).supReady = true →
    bits ((s.found dt).get Obj.selftestStatus) 0 4 = 1 → (s.found dt).test.set = (0, 0, k) :: (j, 0, 0) :: l → j ≠ 0 →
    (∀ x ∈ l, x.1 ≠ 0) → (∀ x ∈ mem, x.words = []) → bit (s.found dt).flt.cond 0x29 = false →
    Completes (.selftestComplete dt mem again []) dt s [Obj.selftestStatus, Obj.memBistResult] [.test] (fun u t =>
      t.test.set = (j, 0, 0) :: l ∧ t.get Obj.memBistResult = 1 ∧ bits (t.get Obj.selftestStatus) 0 4 = 1 ∧
        bits (t.get Obj.selftestStatus) 8 8 = stepOf j - 1 ∧
        bits (t.get Obj.selftestStatus) 24 8 = bits (u.get Obj.selftestStatus) 24 8)) ∧
  (∀ (dt k j : Nat) (l : List (Nat × Nat × Nat)) (mem again : List MacroMeas) (words : List TableWord) (s : State),
    Instr.wf (.selftestComplete dt mem again words) = true → (s.found dt).modeCode = 10 → (s.found dt).supReady = true →
    bits ((s.found dt).get Obj.selftestStatus) 0 4 = 1 → (s.found dt).test.set = (0, 0, k) :: (j, 0, 0) :: l → j ≠ 0 →
    (∀ x ∈ l, x.1 ≠ 0) → (∀ c ∈ [8, 0x27, 0x29], (s.found dt).get (faultObj Obj.faultSeverity c) ≠ 3) →
    Leads (.selftestComplete dt mem again words) dt s (fun u t =>
      t.test.set = (j, 0, 0) :: l ∧ bits (t.get Obj.selftestStatus) 8 8 = stepOf j - 1 ∧
        (bits (t.get Obj.memBistResult) 0 4 = 3 → bits (t.get Obj.selftestStatus) 24 8 = 1 ∧ t.faultOn 0x29 = true) ∧
        (bits (t.get Obj.memBistResult) 0 4 ≠ 3 →
          bits (t.get Obj.selftestStatus) 24 8 = bits (u.get Obj.selftestStatus) 24 8))) ∧
  (∀ (dt length k : Nat) (l : List (Nat × Nat × Nat)) (s : State),
    Instr.wf (.slice dt 0 (7 * 2 ^ 24 + length)) = true → sliceLength (7 * 2 ^ 24 + length) = length → (s.found dt).modeCode = 10 →
    (s.found dt).planRuns = true → (s.found dt).supReady = true → (s.found dt).serving .north = true → (s.found dt).test.slices = [] →
    (s.found dt).test.set = (7, 0, k) :: l → 200 ≤ length →
    Completes (.slice dt 0 (7 * 2 ^ 24 + length)) dt s [] [.test] (fun u t =>
      t.test.set = u.test.set ∧ ∃ x, t.test.slices = [x] ∧ x.kind = 7 ∧ x.e = u.clk ∧ x.length = length ∧ x.target = 0)) ∧
  (∀ (dt length j m k : Nat) (l : List (Nat × Nat × Nat)) (s : State),
    Instr.wf (.slice dt 0 (7 * 2 ^ 24 + length)) = true → (s.found dt).modeCode = 10 → (s.found dt).test.set = (j, m, k) :: l → j ≠ 7 →
    Completes (.slice dt 0 (7 * 2 ^ 24 + length)) dt s [] [] (fun u t => t.test.slices = u.test.slices)) ∧
  (∀ (dt k : Nat) (l : List (Nat × Nat × Nat)) (x : Slice) (s : State),
    (s.found dt).test.slices = [x] → x.kind = 7 → x.target = 0 → x.told = false → (s.found dt).sliceOver x = true →
    (s.found dt).modeCode = 10 → (s.found dt).test.set = (7, 0, k) :: l → (∀ y ∈ l, y.1 ≠ 7) →
    (∀ c, 2 ≤ c → c < 48 → (s.found dt).get (faultObj Obj.faultSeverity c) ≠ 3) →
    Leads (.sliceEnd dt 7 0 true ⟨false, .phy false none, []⟩) dt s (fun u t =>
      t.test.slices = [] ∧ t.test.set = (if k = 0 then (7, 0, 1) :: l else l) ∧
        bits (t.get Obj.selftestStatus) 24 8 =
          (let f := bits (u.get Obj.selftestStatus) 24 8
           if k = 0 then f else if f = 0 then 7 else min f 7))) ∧
  ∀ (dt : Nat) (x : Slice) (s : State), (s.found dt).test.slices = [x] → x.kind = 7 → x.target = 0 → x.told = false →
    (s.found dt).sliceOver x = true → (s.found dt).loupe.point = none →
    (s.found dt).modeCode = 10 → bits ((s.found dt).get Obj.selftestStatus) 0 4 = 1 → (s.found dt).faultOn 0x2A = false →
    (s.found dt).get (faultObj Obj.faultSeverity 0x2A) = 3 →
    Leads (.sliceEnd dt 7 0 true ⟨false, .phy false none, []⟩) dt s (fun _ t =>
      t.modeCode = 11 ∧ bits (t.get Obj.selftestStatus) 0 4 = 4 ∧ bits (t.get Obj.modeStatus) 24 8 = 3 ∧ t.test.set = [])

/-- XFER_ON and XFER_OFF open and close the on-phases of a transfer session; the ramp ends when it has reached XferAllowed, which it does not while a
hand-over runs. -/
def Obligations.TransferEntriesRun : Prop :=
  (∀ (dt : Nat) (s : State), (s.found dt).modeCode = 8 → (s.found dt).planRuns = true → (s.found dt).xferState = 1 →
    Completes (.xferOn dt) dt s [Obj.xferStatus] [.plan, .xfer] (fun u t =>
      t.plan.gateEnable = true ∧ t.xferState = (if u.get Obj.xferAllowed = 0 then 3 else 2) ∧ t.xfer.lastOn = some u.clk)) ∧
  (∀ (dt : Nat) (s : State), (s.found dt).modeCode = 8 → (s.found dt).planRuns = true →
    ((s.found dt).xferState = 2 ∨ (s.found dt).xferState = 3) →
    Completes (.xferOff dt) dt s [Obj.xferStatus] [.plan, .xfer] (fun u t =>
      t.plan.gateEnable = false ∧ t.xferState = 1 ∧ t.xfer.lastOff = some u.clk)) ∧
  ∀ (dt : Nat) (s : State), (s.found dt).xferState = 2 →
    Completes (.xferRampComplete dt) dt s [Obj.xferStatus] [] (fun u t =>
      t.xferState = 2 ∧ bit (t.get Obj.xferStatus) 5 = (u.mode.handover.isSome && bit (u.get Obj.xferStatus) 5))

/-- LOUPE_START starts a point with its period and, under SWITCH, its chopping; LOUPE_STOP ends it INCOMPLETE; at the end of its window the excitation
stops and the point waits for its result, whose code the rules of the correlation give; samples without a reference are dropped in time. -/
def Obligations.LoupeEntriesRun : Prop :=
  (∀ (dt point switches : Nat) (s : State), Instr.wf (.loupeStart dt point switches) = true → (s.found dt).modeCode = 9 →
    (s.found dt).planRuns = true → bit ((s.found dt).get Obj.loupePointMask) point = true → (s.found dt).loupe.point = none →
    (s.found dt).excitation = 0 → (s.found dt).faultOn 0x11 = false →
    (s.found dt).chopTooHot (switches - (switches &&& (s.found dt).get Obj.balLockout)) = false →
    Completes (.loupeStart dt point switches) dt s [Obj.loupeActualPeriod + point + 1] [.loupe, .plan] (fun u t =>
      t.get (Obj.loupeActualPeriod + point + 1) = roundNat 16000000000 (u.get (Obj.loupeFrequency + point + 1)) ∧
        t.plan.loupeOn = true ∧ ∃ p, t.loupe.point = some p ∧ p.point = point ∧ p.t0 = (u.ringTime + 2) % 2 ^ 48 ∧ p.exciting = true ∧
          p.samples = [] ∧ p.chopped = switches - (switches &&& u.get Obj.balLockout))) ∧
  (∀ (dt : Nat) (p : LoupePoint) (s : State), (s.found dt).modeCode = 9 → (s.found dt).planRuns = true →
    (s.found dt).loupe.point = some p → p.point < 16 →
    Completes (.loupeStop dt) dt s
      ([Obj.loupePointStatus + p.point + 1, Obj.loupeSessionStatus, Obj.xferStatus] ++
        (List.range 24).map (fun i => Obj.loupeZReal + p.point * 256 + i + 1) ++
        (List.range 24).map (fun i => Obj.loupeZImag + p.point * 256 + i + 1)) [.loupe, .plan] (fun _ t =>
      t.loupe.point = none ∧ t.plan.loupeOn = false ∧ t.get (Obj.loupePointStatus + p.point + 1) / 2 ^ 28 = 2 ∧
        bit (t.get Obj.loupeSessionStatus) p.point = true)) ∧
  (∀ (dt : Nat) (p : LoupePoint) (s : State), (s.found dt).loupe.point = some p →
    Completes (.loupeWindowEnd dt) dt s [Obj.xferStatus] [.loupe, .plan] (fun u t =>
      t.loupe.point = none ∧ t.plan.loupeOn = false ∧ t.loupe.pend = u.loupe.pend ++ [{ p with exciting := false }])) ∧
  (∀ (dt : Nat) (p : LoupePoint) (l : List LoupePoint) (s : State), (s.found dt).loupe.pend = p :: l → p.point < 16 →
    Leads (.loupePointResult dt) dt s (fun u t =>
      t.loupe.pend = l ∧ bit (t.get Obj.loupeSessionStatus) p.point = true ∧
        t.get (Obj.loupePointStatus + p.point + 1) / 2 ^ 28 = u.loupeCode (p.drop (fun x => x.refs.isNone)))) ∧
  ∀ (dt a : Nat) (s : State), Instr.wf (.loupeReferenceTimeout dt a) = true →
    Completes (.loupeReferenceTimeout dt a) dt s [] [.loupe] (fun _ t =>
      (∀ p ∈ t.loupe.pend, ∀ x ∈ p.samples, x.a = a → x.refs ≠ none) ∧
        ∀ p, t.loupe.point = some p → ∀ x ∈ p.samples, x.a = a → x.refs ≠ none)

/-! The course of the plan. -/

/-- A plan-cycle boundary of a bank in MEASURE: the next cycle starts, staged writes take effect, and the skipped entries count, whatever table words
fail their check there. -/
def Obligations.CycleBoundaryRuns : Prop :=
  (∀ (dt : Nat) (words : List TableWord) (s : State), Instr.wf (.planCycleBoundary dt words) = true → (s.found dt).on .rng = true →
    (s.found dt).modeCode = 6 → (s.found dt).mode.auto = none → (s.found dt).plan.running = RunningPlan.bank →
    (s.found dt).plan.withdraw = none → (s.found dt).staged = [] → Calm (s.found dt) →
    Leads (.planCycleBoundary dt words) dt s (fun u t =>
      t.cycle = u.nextCycle.1 ∧ t.time.cycleLen = u.nextCycle.2 ∧ t.get Obj.cycleStart = u.ringTime ∧
        t.plan.running = RunningPlan.bank ∧ t.get Obj.planSkipCount =
          if u.time.counted then u.get Obj.planSkipCount
          else sat (2 ^ 32 - 1) (u.get Obj.planSkipCount + u.entriesAfter (since48 u.ringTime (u.get Obj.cycleStart) - 1)))) ∧
  ∀ (dt v : Nat) (words : List TableWord) (s : State), Instr.wf (.planCycleBoundary dt words) = true → (s.found dt).on .rng = true →
    (s.found dt).planRuns = true → (s.found dt).staged = [(Obj.cellOvThreshold, v)] → Calm (s.found dt) →
    Leads (.planCycleBoundary dt words) dt s (fun _ t => t.get Obj.cellOvThreshold = v ∧ t.staged = [])

/-- An entry that fails its checks is read again from its slot; a good copy in time cures and counts, a bad one sets 25h and withdraws the bank at the
next boundary; a late entry closes the outputs of the plan, counts, and sets 26h; a pass of the scrubber counts. -/
def Obligations.PlanIntegrityRuns : Prop :=
  (∀ (dt entry : Nat) (ok : Bool) (s : State), Instr.wf (.planEntryFetch dt entry ok) = true → (s.found dt).hasEntry entry = true →
    (s.found dt).plan.refetch.contains entry = false →
    Completes (.planEntryFetch dt entry ok) dt s [] [.plan] (fun u t =>
      t.plan = if ok then u.plan else { u.plan with refetch := u.plan.refetch ++ [entry] })) ∧
  (∀ (dt entry : Nat) (inTime : Bool) (s : State), Instr.wf (.entryRefetchComplete dt entry true inTime) = true →
    (s.found dt).plan.refetch.contains entry = true →
    Completes (.entryRefetchComplete dt entry true inTime) dt s [Obj.planRefetchCount] [.plan] (fun u t =>
      t.plan.refetch.contains entry = false ∧ t.plan.withdraw = u.plan.withdraw ∧
        t.get Obj.planRefetchCount =
          if inTime then sat (2 ^ 32 - 1) (u.get Obj.planRefetchCount + 1) else u.get Obj.planRefetchCount)) ∧
  (∀ (dt entry : Nat) (inTime : Bool) (s : State), Instr.wf (.entryRefetchComplete dt entry false inTime) = true →
    (s.found dt).plan.refetch.contains entry = true → (s.found dt).faultOn 0x25 = false →
    (s.found dt).get (faultObj Obj.faultSeverity 0x25) ≠ 3 →
    Completes (.entryRefetchComplete dt entry false inTime) dt s (faultObjects 0x25) (.plan :: faultBlocks) (fun u t =>
      t.faultOn 0x25 = true ∧ t.plan.withdraw = (u.plan.withdraw <|> some entry))) ∧
  (∀ (dt entry : Nat) (s : State), Instr.wf (.lateEntry dt entry) = true → (s.found dt).hasEntry entry = true →
    (s.found dt).faultOn 0x26 = false → (s.found dt).get (faultObj Obj.faultSeverity 0x26) ≠ 3 →
    Completes (.lateEntry dt entry) dt s ([Obj.planLateCount, Obj.planSkipCount, Obj.xferStatus] ++ faultObjects 0x26)
      ([.plan, .cells, .aux, .loupe, .xfer] ++ faultBlocks) (fun u t =>
        t.faultOn 0x26 = true ∧ t.plan.held = 0xFFFFFF ∧ t.plan.gateEnable = false ∧ t.plan.loupeOn = false ∧
          t.get Obj.planLateCount = sat (2 ^ 32 - 1) (u.get Obj.planLateCount + 1))) ∧
  (∀ (dt : Nat) (s : State), (s.found dt).on .rng = true →
    Completes (.planScrubPass dt [] []) dt s [Obj.scrubPassCount] [] (fun u t =>
      t.get Obj.scrubPassCount = (u.get Obj.scrubPassCount + 1) % 2 ^ 32)) ∧
  (∀ (dt e : Nat) (s : State), Instr.wf (.planScrubPass dt [(e, false)] []) = true → (s.found dt).on .rng = true →
    (s.found dt).faultOn 0x25 = false → (s.found dt).active.image ≠ [] → (s.found dt).get (faultObj Obj.faultSeverity 0x25) ≠ 3 →
    Completes (.planScrubPass dt [(e, false)] []) dt s (Obj.scrubPassCount :: faultObjects 0x25) (.plan :: faultBlocks)
      (fun u t => t.faultOn 0x25 = true ∧ t.plan.withdraw = (u.plan.withdraw <|> some e))) ∧
  (∀ (dt e : Nat) (s : State), Instr.wf (.planScrubPass dt [] [(e, false)]) = true → (s.found dt).on .rng = true →
    (s.found dt).faultOn 0x25 = false → (s.found dt).inactive.image ≠ [] → (s.found dt).get (faultObj Obj.faultSeverity 0x25) ≠ 3 →
    Completes (.planScrubPass dt [] [(e, false)]) dt s
      ([Obj.scrubPassCount, Obj.planStatus, Obj.planRejectDetail] ++ faultObjects 0x25) (.plan :: faultBlocks)
      (fun u t => t.faultOn 0x25 = true ∧ t.inactive = Bank.empty ∧ t.active = u.active ∧ t.get Obj.planRejectDetail = e)) ∧
  (∀ (dt e : Nat) (s : State), Instr.wf (.planScrubPass dt [(e, true)] []) = true → (s.found dt).on .rng = true →
    (s.found dt).active.image ≠ [] →
    Completes (.planScrubPass dt [(e, true)] []) dt s [Obj.scrubPassCount, Obj.planRefetchCount] [] (fun u t =>
      t.get Obj.planRefetchCount = sat (2 ^ 32 - 1) (u.get Obj.planRefetchCount + 1))) ∧
  ∀ (dt : Nat) (words : List TableWord) (s : State), Instr.wf (.calScrubPass dt words) = true → (s.found dt).on .rng = true →
    Calm (s.found dt) →
    Leads (.calScrubPass dt words) dt s (fun u t =>
      t.get Obj.calScrubPassCount = (u.get Obj.calScrubPassCount + 1) % 2 ^ 32)

/-! Apertures, channels and spares. -/

/-- The end of an aperture writes the records of a regular unit as one, unless a converter's record waits for its recomputation, whose end counts,
and after which no record of that converter waits; a recomputation with no unit waiting is the further attempt of H2 for a record the result memory
holds, counts there and writes that record with its outcome, and with no such record nothing happens. -/
def Obligations.AperturesEnd : Prop :=
  (∀ (dt a : Nat) (cells : List CellRaw) (s1 s2 : CellRaw) (cur : CurRaw) (sense : List Int) (vanaOk : Bool) (words : List TableWord) (x : Aperture)
    (s : State),
    Instr.wf (.apertureComplete dt a cells s1 s2 cur sense ⟨vanaOk, words⟩) = true →
    (s.found dt).cells.apertures.find? (fun y => y.a = a) = some x → Calm (s.found dt) →
    Leads (.apertureComplete dt a cells s1 s2 cur sense ⟨vanaOk, words⟩) dt s (fun u t =>
      (∀ y ∈ t.cells.apertures, y.a ≠ a) ∧
      let v := scrubWords words u
      let w := unitOf { x with spoilt := x.spoilt || !vanaOk || v.faultOn 0x17 } cells s1 s2 cur sense v
      u.planRuns = true → w.waits = [] → w.ovl = [] → w.diag = false →
        ∀ n, 1 ≤ n → n ≤ 24 → t.get (Obj.cellResult + n) = w.cells.getD (n - 1) absentCell)) ∧
  (∀ (dt a k : Nat) (ok : Bool) (w : CellUnit) (s : State), Instr.wf (.recomputationComplete dt a k ok) = true →
    (s.found dt).cells.unit.find? (fun y => y.a = a && y.waits.contains k) = some w → Calm (s.found dt) →
    (s.found dt).cells.reports = [] →
    Leads (.recomputationComplete dt a k ok) dt s (fun u t =>
      (∀ y ∈ t.cells.unit, y.a = a → y.part = w.part → y.waits.contains k = false) ∧
        t.get (Obj.integrityTransients + 1) =
          (if ok then sat (2 ^ 32 - 1) (u.get (Obj.integrityTransients + 1) + 1) else u.get (Obj.integrityTransients + 1)) ∧
        t.get Obj.integrityLasting = if ok then u.get Obj.integrityLasting else sat (2 ^ 32 - 1) (u.get Obj.integrityLasting + 1))) ∧
  (∀ (dt a k : Nat) (ok : Bool) (w : CellUnit) (s : State), Instr.wf (.recomputationComplete dt a k ok) = true →
    (s.found dt).cells.unit.find? (fun y => y.a = a && y.waits.contains k) = some w → Calm (s.found dt) →
    Leads (.recomputationComplete dt a k ok) dt s (fun _ t =>
      ∀ y ∈ t.cells.unit, y.a = a → y.part = w.part → y.waits.contains k = false)) ∧
  (∀ (dt a k : Nat) (ok : Bool) (w : CellUnit) (s : State), Instr.wf (.recomputationComplete dt a k ok) = true →
    (s.found dt).cells.unit.find? (fun y => y.a = a && y.waits.contains k) = none →
    (s.found dt).cells.recent.find? (fun y => y.a = a && y.holds k) = some w → Calm (s.found dt) →
    Leads (.recomputationComplete dt a k ok) dt s (fun u t =>
      t.get (Obj.integrityTransients + 2) =
        (if ok then sat (2 ^ 32 - 1) (u.get (Obj.integrityTransients + 2) + 1) else u.get (Obj.integrityTransients + 2)) ∧
      t.get Obj.integrityLasting = (if ok then u.get Obj.integrityLasting else sat (2 ^ 32 - 1) (u.get Obj.integrityLasting + 1)) ∧
      (u.get (faultObj Obj.faultSeverity 8) ≠ 3 → u.cells.recent.head? = some w → k ≤ u.cellCount → k ≤ 24 →
        w.shadow.any (fun p => p.1 = k) = false → w.cells.length = 24 →
        t.get (Obj.cellResult + k) = u.attempted ok a k (w.cells.getD (k - 1) absentCell)))) ∧
  ∀ (dt a k : Nat) (ok : Bool) (s : State), (s.found dt).cells.unit.find? (fun y => y.a = a && y.waits.contains k) = none →
    (s.found dt).cells.recent.find? (fun y => y.a = a && y.holds k) = none → (s.found dt).snapshotOf a = none →
    Completes (.recomputationComplete dt a k ok) dt s [] [] (fun _ _ => True)

/-- A spare that has armed serves its cell, unless it is on its way back; at a hand-back the channel is ACTIVE again and the spare converts its
overlap aperture; without a CONVERT of the cell in time it is FREE. -/
def Obligations.SparesRun : Prop :=
  (∀ (dt k : Nat) (s : State), Instr.wf (.spareArmingComplete dt k) = true → (s.found dt).spare k = 1 →
    ((s.found dt).sp k).returning = false → (s.found dt).get (faultObj Obj.faultSeverity 6) ≠ 3 →
    (s.found dt).get (faultObj Obj.faultSeverity 5) ≠ 3 → (s.found dt).get (faultObj Obj.faultSeverity 0x2B) ≠ 3 →
    Leads (.spareArmingComplete dt k) dt s (fun u t => t.spare k = (if (u.sp k).cover then 3 else 2) ∧ t.spareCell k = u.spareCell k)) ∧
  (∀ (dt k : Nat) (s : State), Instr.wf (.handBackTimeout dt k) = true → (s.found dt).spare k = 4 →
    ((s.found dt).sp k).overlapDue = true → (s.found dt).get (faultObj Obj.faultSeverity 0x2B) ≠ 3 →
    Completes (.handBackTimeout dt k) dt s ((Obj.spareState + k) :: marginObjects) (.cells :: faultBlocks) (fun _ t => t.spare k = 0 ∧ t.spareCell k = 0)) ∧
  (∀ (dt k : Nat) (s : State), Instr.wf (.handBackChannelActive dt k) = true → ((s.found dt).sp k).back = 0 →
    ((s.found dt).sp k).returning = true → (s.found dt).spare k ≤ 5 → 1 ≤ (s.found dt).spareCell k → (s.found dt).spareCell k ≤ 24 →
    ((s.found dt).channel ((s.found dt).spareCell k) = 2 → (s.found dt).spare k = 3) →
    (s.found dt).get (faultObj Obj.faultSeverity 0x2B) ≠ 3 →
    Completes (.handBackChannelActive dt k) dt s
      ([Obj.channelState + (s.found dt).spareCell k, Obj.shadowResult + (s.found dt).spareCell k, Obj.retiredMask, Obj.spareState + k] ++
        marginObjects) ([.cells, .nvm] ++ faultBlocks) (fun u t =>
        t.get (Obj.channelState + u.spareCell k) = 0 ∧ t.spare k = 4 ∧ bit (t.get Obj.retiredMask) (u.spareCell k - 1) = false)) ∧
  ∀ (dt k : Nat) (s : State), Instr.wf (.spareArmingComplete dt k) = true → ((s.found dt).spare k ≠ 1 ∨ ((s.found dt).sp k).returning = true) →
    Completes (.spareArmingComplete dt k) dt s [] [] (fun _ _ => True)

/-! Ring time. -/

/-- MARK at the head leaves both ports with the time of its departure, the cycle and the start of the cycle after the next; on every other node the
entry is a NOP, and SYNC is ignored. The first copy at a FREE node sets its counter to the head's time; a copy that a LOCKED node accepts steers,
within 25 ppm, and does not step it. A copy on the selected lane that is accepted, on either lane and in each state, shows its phase error; the head
notes its own copy as it returns, and its time stays. A copy leaves with the residence time added to CORR. -/
def Obligations.MarksRun : Prop :=
  (∀ (dt offset : Nat) (last : Bool) (s : State), Instr.wf (.mark dt offset last) = true → (s.found dt).on .rng = true →
    (s.found dt).marks = true → (s.found dt).planRuns = true →
    Completes (.mark dt offset last) dt s [Obj.txFrames + 1, Obj.txFrames + 2, Obj.txDropped + 1, Obj.txDropped + 2, Obj.syncPhase]
      [.ring, .time] (fun u t =>
      let v := trackAdjustment last u
      let body := leBytes 6 (wrap48 (u.ringTime + 2)) ++ [0, 0, 0, 0] ++ leBytes 4 u.cycle ++ leBytes 6 (markStart2 v) ++
        [u.runningId, 0, 0, 0]
      let bs := frameBytes (u.set Obj.ringEpoch u.markEpochNow) ⟨3, 0, 63, u.nextSeq 3, body, true, true⟩
      (∀ p, u.serving p = true → t.sends p (bs ++ [256])) ∧ t.nextSeq 3 = (u.nextSeq 3 + 1) % 256 ∧ t.time = v.time)) ∧
  (∀ (dt offset : Nat) (last : Bool) (s : State), Instr.wf (.mark dt offset last) = true → (s.found dt).marks = false →
    Completes (.mark dt offset last) dt s [] [] (fun _ _ => True)) ∧
  (∀ (dt : Nat) (rising : Bool) (s : State), (s.found dt).isHead = false →
    Completes (.syncEdge dt rising) dt s [] [] (fun _ _ => True) ∧ Completes (.syncEdgeMissing dt) dt s [] [] (fun _ _ => True)) ∧
  (∀ (dt residence sub : Nat) (f : RingFrame) (s : State), Instr.wf (.markCopy dt f residence sub) = true → GoodFrame (s.found dt) f 3 →
    f.side = .north → (s.found dt).isHead = false → frameLen f.bytes = 24 → (s.found dt).timeState = 0 →
    (s.found dt).time.laneSet = false → (s.found dt).time.hopsCw = none → (s.found dt).time.hopsCcw = none →
    Completes (.markCopy dt f residence sub) dt s (frameObjects .north ++ [Obj.ringTimeStatus, Obj.laneSkew, Obj.phaseError])
      (frameBlocks ++ [.time, .ringTime, .cells]) (fun u t =>
        t.timeState = 1 ∧ t.ringTime = markTime u .north (framePayload f.bytes) / 125)) ∧
  (∀ (dt residence sub : Nat) (f : RingFrame) (s : State), Instr.wf (.markCopy dt f residence sub) = true → GoodFrame (s.found dt) f 3 →
    f.side = .north → (s.found dt).isHead = false → frameLen f.bytes = 24 → 24 ≤ (framePayload f.bytes).length → PassesOn (s.found dt) →
    Leads (.markCopy dt f residence sub) dt s (fun u t =>
      t.sends .south (regenerate (onwardMark u .north residence f.bytes) ++ [256]) ∧
        leAt (onwardMark u .north residence f.bytes) 14 4 = (markCorr u .north (framePayload f.bytes) + residence) % 2 ^ 32)) ∧
  (∀ (dt residence sub : Nat) (f : RingFrame) (s : State), Instr.wf (.markCopy dt f residence sub) = true → GoodFrame (s.found dt) f 3 →
    f.side = .north → (s.found dt).isHead = false → frameLen f.bytes = 24 → (s.found dt).timeState = 2 →
    (s.found dt).time.laneSet = true → (s.found dt).laneCcw = false →
    markAccepted (s.found dt) (leAt (framePayload f.bytes) 0 6) (phaseError (s.found dt) .north (framePayload f.bytes) sub) = true →
    Completes (.markCopy dt f residence sub) dt s
      (frameObjects .north ++ [Obj.ringTimeStatus, Obj.laneSkew, Obj.phaseError, Obj.frequencySteer])
      (frameBlocks ++ [.time, .free]) (fun u t =>
        t.timeState = 2 ∧ t.get Obj.phaseError = ofInt 32 (clampInt 32 (phaseError u .north (framePayload f.bytes) sub)) ∧
          -25000 ≤ t.getInt Obj.frequencySteer 32 ∧ t.getInt Obj.frequencySteer 32 ≤ 25000)) ∧
  (∀ (dt residence sub : Nat) (f : RingFrame) (s : State), Instr.wf (.markCopy dt f residence sub) = true → GoodFrame (s.found dt) f 3 →
    (s.found dt).isHead = false → frameLen f.bytes = 24 → (s.found dt).time.laneSet = true →
    (s.found dt).laneCcw = (f.side == .south) →
    markAccepted (s.found dt) (leAt (framePayload f.bytes) 0 6) (phaseError (s.found dt) f.side (framePayload f.bytes) sub) = true →
    Leads (.markCopy dt f residence sub) dt s (fun u t =>
      t.get Obj.phaseError = ofInt 32 (clampInt 32 (phaseError u f.side (framePayload f.bytes) sub)) ∧
        (u.timeState = 0 → t.timeState = 1 ∧ t.ringTime = markTime u f.side (framePayload f.bytes) / 125) ∧
        (u.timeState = 1 → t.timeState = 1 ∨ t.timeState = 2) ∧ (u.timeState = 2 → t.timeState = 2) ∧
        (u.timeState = 3 → t.timeState = 2 ∨ t.timeState = 3) ∧
        (f.side = .north → t.ring.markCw = true) ∧ (f.side = .south → t.ring.markCcw = true))) ∧
  ∀ (dt residence sub : Nat) (f : RingFrame) (s : State), Instr.wf (.markCopy dt f residence sub) = true →
    (s.found dt).receives f.side = true → frameEnd (s.found dt) f = .circled → f.ended = true → frameChecks f.bytes = true →
    frameType f.bytes = 3 → (s.found dt).isHead = true → newerEpoch (f.bytes.getD 1 0) (s.found dt).epoch = false →
    Completes (.markCopy dt f residence sub) dt s (frameObjects f.side) frameBlocks (fun u t =>
      t.ringTime = u.ringTime ∧ (f.side = .north → t.ring.markCw = true) ∧ (f.side = .south → t.ring.markCcw = true))

/-- Without a copy for its time a LOCKED node enters HOLDOVER, and 1Bh sets when that lasts too long; at V a node takes the lane state that its
copies give; the head's SYNC edges move SyncStatus by their intervals; an edge of the other polarity, or without a plan that anchors to SYNC, does
nothing. -/
def Obligations.RingTimeEventsRun : Prop :=
  (∀ (dt : Nat) (s : State), (s.found dt).timeState = 2 →
    Completes (.markSilence dt) dt s [Obj.ringTimeStatus] [.time, .cells] (fun u t =>
      t.timeState = 3 ∧ t.time.holdStart = some u.clk ∧ (u.isHead = false → ∀ x ∈ t.cells.apertures, x.holdover = true))) ∧
  (∀ (dt : Nat) (s : State), (s.found dt).timeState = 3 → (s.found dt).time.holdStart.isSome = true → (s.found dt).faultOn 0x1B = false →
    (s.found dt).get (faultObj Obj.faultSeverity 0x1B) ≠ 3 →
    Completes (.holdoverLimit dt) dt s (faultObjects 0x1B) faultBlocks (fun _ t => t.faultOn 0x1B = true)) ∧
  (∀ (dt : Nat) (s : State), (s.found dt).on .rng = true → (s.found dt).address ≠ 0 →
    Completes (.laneServiceEvaluation dt) dt s [Obj.laneService, Obj.singleLaneCount, Obj.requeuedSets, Obj.ringTimeStatus]
      [.ring, .safe, .time, .cells] (fun u t =>
        let cw := u.ring.markCw
        let ccw := u.ring.markCcw
        t.laneState = (if u.isHead then (if cw && ccw && u.ring.prevCw && u.ring.prevCcw then 0 else 1) else laneAtV u cw ccw) ∧
          bit (t.get Obj.laneService) 2 = cw ∧ bit (t.get Obj.laneService) 3 = ccw ∧ t.ring.prevCw = cw ∧ t.ring.prevCcw = ccw ∧
          t.ring.markCw = false ∧ t.ring.markCcw = false)) ∧
  (∀ (dt : Nat) (rising : Bool) (s : State), syncOn (s.found dt) = true → (bits ((s.found dt).get Obj.syncConfig) 0 1 == 0) = rising →
    (s.found dt).time.edgeAt = none →
    Completes (.syncEdge dt rising) dt s [Obj.syncStatus] [.time] (fun u t =>
      t.time.edgeAt = some u.ringTime ∧ t.syncState = if u.syncState = 0 then 1 else u.syncState)) ∧
  (∀ (dt e : Nat) (rising : Bool) (s : State), syncOn (s.found dt) = true → (bits ((s.found dt).get Obj.syncConfig) 0 1 == 0) = rising →
    (s.found dt).time.edgeAt = some e →
    Completes (.syncEdge dt rising) dt s [Obj.syncStatus, Obj.syncPeriod] [.time] (fun u t =>
      let d := since48 u.ringTime e
      let l := (d :: u.time.edges).take 16
      if edgeFits u d then
        t.time.edges = l ∧ t.time.edgeAt = some u.ringTime ∧ t.get Obj.syncPeriod = roundNat (l.sum * 16) l.length % 2 ^ 32 ∧
          (7 ≤ u.time.edgeRun → t.syncState = 2)
      else t.time.edgeRun = 0 ∧ (u.syncState = 2 → 2 ≤ u.time.missRun → t.syncState = 3))) ∧
  (∀ (dt : Nat) (s : State), syncOn (s.found dt) = true →
    Completes (.syncEdgeMissing dt) dt s [Obj.syncStatus] [.time] (fun u t =>
      t.time.edgeRun = 0 ∧ t.time.missRun = min 3 (u.time.missRun + 1) ∧
        t.syncState = if 2 ≤ u.time.missRun ∧ (u.syncState = 1 ∨ u.syncState = 2) then 3 else u.syncState)) ∧
  ∀ (dt : Nat) (rising : Bool) (s : State), syncOn (s.found dt) = false ∨ (bits ((s.found dt).get Obj.syncConfig) 0 1 == 0) ≠ rising →
    Completes (.syncEdge dt rising) dt s [] [] (fun _ _ => True)

/-! Ports and links. -/

/-- A port that finds lock is UP at its generation; one that loses it goes DOWN and stops serving, which sets its source on a node with an address, as
remote-fault idle does; a port not UP alternates between generations; a port UP at the ring's generation serves, and any other does not start to. The
delay of a link is the mean of the last four accepted measurements, which a late or slow answer is not. -/
def Obligations.LinksRun : Prop :=
  (∀ (dt : Nat) (p : Side) (s : State), (s.found dt).on .rng = true → (s.found dt).linkState p ≠ 2 →
    (s.found dt).ring.enm.unconfirmed = false →
    Completes (.linkLock dt p) dt s [Obj.linkStatus + sideSub p] [.ring] (fun u t =>
      t.linkState p = 2 ∧ t.linkGen p = if u.linkGen p = 0 then 1 else u.linkGen p)) ∧
  (∀ (dt v : Nat) (p : Side) (s : State), (s.found dt).on .rng = true → (s.found dt).linkState p = 2 →
    (s.found dt).faultOn (linkFault p) = false → (s.found dt).get (faultObj Obj.faultSeverity (linkFault p)) ≠ 3 →
    (s.found dt).get (faultObj Obj.faultSeverity 0x2B) ≠ 3 →
    Completes (.linkLoss dt p v) dt s
      ([Obj.codeViolations + sideSub p, Obj.linkStatus + sideSub p, Obj.laneService, Obj.singleLaneCount, Obj.requeuedSets,
        Obj.txDropped + sideSub p] ++ marginObjects ++ faultObjects (linkFault p)) (.safe :: faultBlocks) (fun u t =>
        t.linkState p = 0 ∧ t.linkGen p = u.linkGen p ∧ t.serving p = false ∧
          t.faultOn (linkFault p) = (u.serving p && u.address != 0) ∧
          t.get (Obj.codeViolations + sideSub p) = sat (2 ^ 32 - 1) (u.get (Obj.codeViolations + sideSub p) + v))) ∧
  (∀ (dt : Nat) (p : Side) (s : State), (s.found dt).on .rng = true → (s.found dt).linkState p ≠ 2 →
    Completes (.trainingGenerationSwitch dt p) dt s [Obj.linkStatus + sideSub p] [] (fun u t =>
      t.linkState p = 1 ∧ t.linkGen p = (if u.linkGen p = 1 then (u.ringPort p).lastGen else 1) % 16)) ∧
  (∀ (dt : Nat) (p : Side) (s : State), (s.found dt).on .rng = true → (s.found dt).faultOn (linkFault p) = false →
    (s.found dt).get (faultObj Obj.faultSeverity (linkFault p)) ≠ 3 → (s.found dt).get (faultObj Obj.faultSeverity 0x2B) ≠ 3 →
    Completes (.remoteFaultIdle dt p) dt s
      ([Obj.laneService, Obj.singleLaneCount, Obj.requeuedSets, Obj.txDropped + sideSub p] ++ marginObjects ++
        faultObjects (linkFault p))
      (.safe :: faultBlocks) (fun u t =>
        bit (t.get Obj.laneService) (laneBits p).2 = true ∧ t.serving p = false ∧
          t.faultOn (linkFault p) = (u.serving p && u.address != 0))) ∧
  (∀ (dt : Nat) (p : Side) (s : State), (s.found dt).on .rng = true → (s.found dt).linkState p = 2 →
    (s.found dt).get Obj.ringGeneration = (s.found dt).linkGen p → (s.found dt).get (faultObj Obj.faultSeverity 0x2B) ≠ 3 →
    Completes (.portServing dt p) dt s (Obj.laneService :: marginObjects) faultBlocks (fun _ t =>
      t.serving p = true ∧ bit (t.get Obj.laneService) (laneBits p).2 = false ∧ bit t.flt.cond (linkFault p) = false ∧
        (t.ringPort p).faulted = false)) ∧
  (∀ (dt : Nat) (p : Side) (s : State), (s.found dt).on .rng = false ∨ (s.found dt).linkState p ≠ 2 ∨
      (s.found dt).get Obj.ringGeneration ≠ (s.found dt).linkGen p →
    Completes (.portServing dt p) dt s [] [] (fun _ _ => True)) ∧
  (∀ (dt : Nat) (p : Side) (s : State), (s.found dt).receives p = true → (s.found dt).address ≠ 0 →
    Completes (.delayMeasurement dt p) dt s [] [.ring] (fun u t =>
      (t.ringPort p).waitId = some ((u.ringPort p).measures % 256) ∧
        ∃ x ∈ t.ring.txQ, x.type = 6 ∧ x.flags = 1 ∧ x.body = [0x11, (u.ringPort p).measures % 256, 0, 0] ∧
          x.cw = decide (p = .south) ∧ x.ccw = decide (p = .north))) ∧
  (∀ (dt turnaround : Nat) (f : RingFrame) (s : State), Instr.wf (.delayReq dt f turnaround) = true → (s.found dt).receives f.side = true →
    frameEnd (s.found dt) f = .consumed → newerEpoch (f.bytes.getD 1 0) (s.found dt).epoch = false →
    f.ended = true → frameChecks f.bytes = true → (framePayload f.bytes).getD 0 0 = 0x11 →
    Completes (.delayReq dt f turnaround) dt s (frameObjects f.side) frameBlocks (fun _ t =>
      ∃ x ∈ t.ring.txQ, x.type = 6 ∧ x.flags = 1 ∧
        x.body = [0x12, (framePayload f.bytes).getD 1 0, 0, 0] ++ leBytes 4 turnaround ∧
        x.cw = decide (f.side = .south) ∧ x.ccw = decide (f.side = .north))) ∧
  (∀ (dt roundTrip : Nat) (f : RingFrame) (s : State), Instr.wf (.delayResp dt f roundTrip) = true →
    (s.found dt).receives f.side = true → frameEnd (s.found dt) f = .consumed → newerEpoch (f.bytes.getD 1 0) (s.found dt).epoch = false →
    f.ended = true → frameChecks f.bytes = true →
    (framePayload f.bytes).getD 0 0 = 0x12 → ((s.found dt).ringPort f.side).waitId = some ((framePayload f.bytes).getD 1 0) →
    leAt (framePayload f.bytes) 4 4 ≤ 20000 → leAt (framePayload f.bytes) 4 4 ≤ roundTrip →
    ((s.found dt).ringPort f.side).delays = [] →
    Completes (.delayResp dt f roundTrip) dt s ((Obj.linkDelay + sideSub f.side) :: frameObjects f.side) frameBlocks (fun _ t =>
      let d := roundTrip - leAt (framePayload f.bytes) 4 4
      (t.ringPort f.side).delays = [d] ∧ (t.ringPort f.side).waitId = none ∧
        t.get (Obj.linkDelay + sideSub f.side) = roundNat d 2 % 2 ^ 32)) ∧
  (∀ (dt roundTrip : Nat) (f : RingFrame) (s : State), Instr.wf (.delayResp dt f roundTrip) = true →
    (s.found dt).receives f.side = true → frameEnd (s.found dt) f = .consumed → newerEpoch (f.bytes.getD 1 0) (s.found dt).epoch = false →
    f.ended = true → frameChecks f.bytes = true →
    (framePayload f.bytes).getD 0 0 = 0x12 → ((s.found dt).ringPort f.side).waitId = some ((framePayload f.bytes).getD 1 0) →
    20000 < leAt (framePayload f.bytes) 4 4 →
    Completes (.delayResp dt f roundTrip) dt s ((Obj.delayRejects + sideSub f.side) :: frameObjects f.side) frameBlocks (fun u t =>
      t.get (Obj.delayRejects + sideSub f.side) = sat 65535 (u.get (Obj.delayRejects + sideSub f.side) + 1))) ∧
  ∀ (dt : Nat) (p : Side) (s : State), ((s.found dt).ringPort p).waitId.isSome = true →
    Completes (.delayRespTimeout dt p) dt s [Obj.delayRejects + sideSub p] [.ring] (fun u t =>
      (t.ringPort p).waitId = none ∧ t.get (Obj.delayRejects + sideSub p) = sat 65535 (u.get (Obj.delayRejects + sideSub p) + 1))

/-! Packets on the ring. -/

/-- A COMMAND frame for the node is executed on its first copy (here a PING) and answered by a RESPONSE; a RESPONSE answers the client whose command
waits for it, unless it has LOCAL set, which counts; BULK fragments gather to the packet, or are dropped in time; a command without an answer in
time is refused with NODE_UNREACHABLE. -/
def Obligations.RingPacketFramesRun : Prop :=
  (∀ (dt tag addr : Nat) (f : RingFrame) (storeOk : Bool) (s : State), Instr.wf (.commandFrame dt f storeOk) = true →
    GoodFrame (s.found dt) f 0 → f.bytes.getD 4 0 % 64 = (s.found dt).address → framePayload f.bytes = [7, tag, addr, 0, 0, 0, 0, 0] →
    bit addr 6 = false →
    HeardRing (s.found dt) ⟨.ring (frameSrc f.bytes) (frameFlags f.bytes % 8), tag, addr % 64, storeOk⟩ (frameSrc f.bytes)
      (frameFlags f.bytes % 8) 7 0 0 →
    ((s.found dt).hasSeen (frameSrc f.bytes) 0 (f.bytes.getD 5 0) = false →
      Completes (.commandFrame dt f storeOk) dt s (Obj.notifyLost :: frameObjects f.side) ([.port, .notes] ++ frameBlocks) (fun u t =>
        AnsweredRing u t ⟨.ring (frameSrc f.bytes) (frameFlags f.bytes % 8), tag, addr % 64, storeOk⟩ (frameSrc f.bytes)
          (frameFlags f.bytes % 8) 7 0 0 [])) ∧
    ((s.found dt).hasSeen (frameSrc f.bytes) 0 (f.bytes.getD 5 0) = true →
      Completes (.commandFrame dt f storeOk) dt s (frameObjects f.side) frameBlocks (fun u t => t.ring.seen = u.ring.seen))) ∧
  (∀ (dt : Nat) (f : RingFrame) (r : RingCmd) (s : State), Instr.wf (.responseFrame dt f) = true → GoodFrame (s.found dt) f 1 →
    f.bytes.getD 4 0 % 64 = (s.found dt).address → (s.found dt).hasSeen (frameSrc f.bytes) 1 (f.bytes.getD 5 0) = false →
    (s.found dt).portUp = true → bit ((framePayload f.bytes).getD 2 0) 6 = false →
    (s.found dt).ring.cmds.find? (fun x => x.session == frameFlags f.bytes % 8 && x.tag == (framePayload f.bytes).getD 1 0 &&
      x.addr % 64 == frameSrc f.bytes) = some r →
    Completes (.responseFrame dt f) dt s (frameObjects f.side) (.port :: frameBlocks) (fun u t =>
      ⟨.response (u.client r.client), framePayload f.bytes⟩ ∈ t.port.outQ ∧ r ∉ t.ring.cmds)) ∧
  (∀ (dt : Nat) (f : RingFrame) (storeOk : Bool) (s : State), Instr.wf (.bulkFrame dt f storeOk) = true → GoodFrame (s.found dt) f 5 →
    forUs (s.found dt) f.bytes = true → 5 ≤ (framePayload f.bytes).length →
    (s.found dt).hasSeen (frameSrc f.bytes) 5 (f.bytes.getD 5 0) = false → bit ((framePayload f.bytes).getD 2 0) 0 = false →
    (s.found dt).ring.bulk.find? (fun b => b.src = frameSrc f.bytes && b.xid = (framePayload f.bytes).getD 0 0) = none →
    Completes (.bulkFrame dt f storeOk) dt s (frameObjects f.side) frameBlocks (fun _ t =>
      (⟨frameSrc f.bytes, (framePayload f.bytes).getD 0 0, bit (frameFlags f.bytes) 0, frameFlags f.bytes / 2,
        [((framePayload f.bytes).getD 1 0, (framePayload f.bytes).drop 4)], none⟩ : BulkRx) ∈ t.ring.bulk)) ∧
  (∀ (dt : Nat) (f : RingFrame) (storeOk : Bool) (a : List Nat) (b : BulkRx) (r : RingCmd) (s : State),
    Instr.wf (.bulkFrame dt f storeOk) = true → GoodFrame (s.found dt) f 5 →
    forUs (s.found dt) f.bytes = true → 5 ≤ (framePayload f.bytes).length →
    (s.found dt).hasSeen (frameSrc f.bytes) 5 (f.bytes.getD 5 0) = false → bit ((framePayload f.bytes).getD 2 0) 0 = true →
    (framePayload f.bytes).getD 1 0 = 1 → b.frags = [(0, a)] → b.last = none → b.response = true →
    bit ((a ++ (framePayload f.bytes).drop 4).getD 2 0) 6 = false →
    (s.found dt).ring.bulk.find? (fun x => x.src = frameSrc f.bytes && x.xid = (framePayload f.bytes).getD 0 0) = some b →
    (s.found dt).ring.cmds.find? (fun x => x.session == b.session && x.tag == (a ++ (framePayload f.bytes).drop 4).getD 1 0 &&
      x.addr % 64 == frameSrc f.bytes) = some r → (s.found dt).portUp = true →
    Completes (.bulkFrame dt f storeOk) dt s (frameObjects f.side) (.port :: frameBlocks) (fun u t =>
      ⟨.response (u.client r.client), a ++ (framePayload f.bytes).drop 4⟩ ∈ t.port.outQ ∧ r ∉ t.ring.cmds ∧
        ∀ x ∈ t.ring.bulk, x.src ≠ frameSrc f.bytes)) ∧
  (∀ (dt src : Nat) (s : State), Instr.wf (.bulkReassemblyTimeout dt src) = true →
    Completes (.bulkReassemblyTimeout dt src) dt s [] [.ring] (fun _ t => ∀ x ∈ t.ring.bulk, x.src ≠ src)) ∧
  (∀ (dt client tag : Nat) (r : RingCmd) (s : State), Instr.wf (.ringCommandTimeout dt client tag) = true → (s.found dt).portUp = true →
    (s.found dt).ring.cmds.find? (fun x => x.client == (s.found dt).client client && x.tag == tag) = some r →
    Completes (.ringCommandTimeout dt client tag) dt s [] [.port, .ring] (fun u t =>
      ⟨.response (u.client client), packetBytes 255 tag (bits r.addr 6 1 * 64 + u.address) r.index r.sub (abortData 0x0F 0)⟩ ∈
          t.port.outQ ∧ r ∉ t.ring.cmds)) ∧
  ∀ (dt : Nat) (f : RingFrame) (s : State), Instr.wf (.responseFrame dt f) = true → GoodFrame (s.found dt) f 1 →
    f.bytes.getD 4 0 % 64 = (s.found dt).address → (s.found dt).hasSeen (frameSrc f.bytes) 1 (f.bytes.getD 5 0) = false →
    bit ((framePayload f.bytes).getD 2 0) 6 = true →
    Completes (.responseFrame dt f) dt s ((Obj.rxDiscarded + sideSub f.side) :: frameObjects f.side) frameBlocks (fun u t =>
      t.ring.cmds = u.ring.cmds ∧
        t.get (Obj.rxDiscarded + sideSub f.side) = sat (2 ^ 32 - 1) (u.get (Obj.rxDiscarded + sideSub f.side) + 1))

/-- RESULT, SAFETY and EVENT frames pass on with one more hop; the head delivers a flagged set to its host once, a node keeps what a safety record says
of its sender, the head passes events on to its host, and captures family frames at its North port, which another node forwards unchanged. -/
def Obligations.RingDataFramesRun : Prop :=
  (∀ (dt : Nat) (f : RingFrame) (s : State), Instr.wf (.resultFrame dt f) = true → GoodFrame (s.found dt) f 2 → f.side = .north →
    (s.found dt).isHead = false → PassesOn (s.found dt) →
    Completes (.resultFrame dt f) dt s (frameObjects .north) (.loupe :: frameBlocks) (fun _ t =>
      t.sends .south (regenerate f.bytes ++ [256]))) ∧
  (∀ (dt : Nat) (f : RingFrame) (s : State), Instr.wf (.resultFrame dt f) = true → GoodFrame (s.found dt) f 2 →
    (s.found dt).isHead = true → bit (frameFlags f.bytes) 3 = true → (s.found dt).portUp = true →
    countKind OutKind.isResult (s.found dt).port.outQ < 8 →
    ((f.bytes.drop 4).take 12 ∉ (s.found dt).ring.delivered →
      Completes (.resultFrame dt f) dt s (frameObjects f.side) ([.loupe, .port, .free] ++ frameBlocks) (fun u t =>
        (f.bytes.drop 4).take 12 ∈ t.ring.delivered ∧
          ∃ tag, t.port.outQ = u.port.outQ ++ [⟨.result, packetBytes 0x8A tag (f.bytes.getD 4 0 % 64) 8 0 (f.bytes.drop 4)⟩])) ∧
    ((f.bytes.drop 4).take 12 ∈ (s.found dt).ring.delivered →
      Completes (.resultFrame dt f) dt s (frameObjects f.side) (.loupe :: frameBlocks) (fun _ _ => True))) ∧
  (∀ (dt : Nat) (f : RingFrame) (s : State), Instr.wf (.safetyFrame dt f) = true → GoodFrame (s.found dt) f 4 →
    Completes (.safetyFrame dt f) dt s (frameObjects f.side) (.safe :: frameBlocks) (fun u t =>
      let r := f.bytes.drop 4
      let n := r.getD 0 0 % 64
      (t.safeNode n).packTrip = bit (leAt r 8 2) 11 ∧ (t.safeNode n).accepted = (u.safeNode n).accepted ∧
        (bit (leAt r 8 2) 15 = false → u.compares = true → u.safe.copies = [] →
          t.safe.copies = [⟨n, decide (f.side = .north), r.take 12⟩]))) ∧
  (∀ (dt : Nat) (f : RingFrame) (s : State), Instr.wf (.eventFrame dt f) = true → GoodFrame (s.found dt) f 8 →
    (s.found dt).isHead = true → (s.found dt).hasSeen (frameSrc f.bytes) 8 (f.bytes.getD 5 0) = false → (s.found dt).portUp = true →
    bit ((s.found dt).get Obj.eventMask) ((framePayload f.bytes).getD 0 0) = true →
    countKind OutKind.isEvent (s.found dt).port.outQ < 12 →
    Completes (.eventFrame dt f) dt s (frameObjects f.side) (.port :: frameBlocks) (fun u t =>
      let r := framePayload f.bytes
      let src := r.getD 1 0 % 64
      t.port.outQ = u.port.outQ ++ [⟨.event (r.getD 0 0), packetBytes 0x88 (u.port.evSeq % 256) src 0 0
        (eventRecord (r.getD 0 0) src (r.getD 2 0) (leAt r 4 6) u.port.evSeq)⟩])) ∧
  (∀ (dt : Nat) (f : RingFrame) (s : State), Instr.wf (.legacyFrame dt f) = true → (s.found dt).receives .north = true → f.side = .north →
    frameEnd (s.found dt) f = .captured → f.ended = true → familyCheck f.bytes = true →
    Completes (.legacyFrame dt f) dt s (Obj.legacyReceiveCount :: frameObjects .north) [.ring] (fun u t =>
      t.ring.legacyRx = f.bytes ∧ t.get Obj.legacyReceiveCount = (u.get Obj.legacyReceiveCount + 1) % 2 ^ 16)) ∧
  ∀ (dt : Nat) (f : RingFrame) (s : State), Instr.wf (.legacyFrame dt f) = true → (s.found dt).receives .north = true → f.side = .north →
    frameEnd (s.found dt) f = .good → frameType f.bytes = 9 → (s.found dt).isHead = false → PassesOn (s.found dt) →
    Completes (.legacyFrame dt f) dt s (frameObjects .north) [.ring] (fun _ t => t.sends .south (f.bytes ++ [256]))

/-- FRAME_TRANSMIT sends the first own frame, or the oldest waiting set when its H3 check passes; a set that fails once leaves rebuilt or read again
and counts, one that fails again is discarded, sets 08h and its charge is carried over; a frame or set for a port that does not serve is dropped and
counts, and with nothing to send nothing happens. At the end of an interval RING_CRC_INTERVAL sets 1Eh by the growth of a port's check errors. -/
def Obligations.RingServiceRuns : Prop :=
  (∀ (dt : Nat) (p : Side) (bad : List (Nat × Bool)) (crc : SetCrc) (y : TxFrame) (s : State), Instr.wf (.frameTransmit dt p bad crc) = true →
    (s.found dt).on .rng = true → (s.found dt).serving p = true → nextFrame (s.found dt) p = some y → (s.found dt).ring.slots.find? (setDue (s.found dt) p) = none →
    y.type ≠ 4 → (s.found dt).ring.eventsWait = 0 →
    Completes (.frameTransmit dt p bad crc) dt s [Obj.txFrames + sideSub p] [.ring] (fun u t =>
      t.sends p (frameBytes u y ++ [256]) ∧
        ∃ l : List TxFrame, t.ring.txQ = takeFrame p y u.ring.txQ ++ l ∧ ∀ f ∈ l, f.type = 4)) ∧
  (∀ (dt : Nat) (p : Side) (bad : List (Nat × Bool)) (crc : SetCrc) (x : SetSlot) (s : State), (s.found dt).on .rng = true →
    (s.found dt).serving p = true → nextFrame (s.found dt) p = none → (s.found dt).ring.slots.find? (setDue (s.found dt) p) = some x →
    bits (s.found dt).cells.badConv 1 26 = 0 → (s.found dt).cells.tableBad = [] → bad = [] → crc.setOk = true →
    Completes (.frameTransmit dt p bad crc) dt s [Obj.txFrames + sideSub p] [.ring, .flt] (fun u t =>
      let h := [2 * 16 + num x.hd * 8, u.epoch, 0]
      t.sends p (h ++ [crc8 h] ++ x.bytes ++ [256]) ∧ t.ring.setBad = false ∧
        t.ring.slots = changeFirst (setDue u p) (fun y => some { sentSlot u p y with bytes := x.bytes }) u.ring.slots)) ∧
  (∀ (dt : Nat) (p : Side) (bad : List (Nat × Bool)) (crc : SetCrc) (x : SetSlot) (s : State), (s.found dt).on .rng = true →
    (s.found dt).serving p = true → nextFrame (s.found dt) p = none → (s.found dt).ring.slots.find? (setDue (s.found dt) p) = some x →
    bits (s.found dt).cells.badConv 1 26 = 0 → (s.found dt).cells.tableBad = [] → bad = [] → crc.setOk = false →
    crc.rereadOk = true →
    Completes (.frameTransmit dt p bad crc) dt s [Obj.txFrames + sideSub p, Obj.integrityTransients + 3] [.ring, .flt] (fun u t =>
      let h := [2 * 16 + num x.hd * 8, u.epoch, 0]
      let bytes := if (u.snapshotOf (leAt x.bytes 6 6)).isSome then sealSet x.bytes else x.bytes
      t.sends p (h ++ [crc8 h] ++ bytes ++ [256]) ∧
        t.get (Obj.integrityTransients + 3) = sat (2 ^ 32 - 1) (u.get (Obj.integrityTransients + 3) + 1))) ∧
  (∀ (dt : Nat) (p : Side) (bad : List (Nat × Bool)) (crc : SetCrc) (x : SetSlot) (s : State), (s.found dt).on .rng = true →
    (s.found dt).serving p = true → nextFrame (s.found dt) p = none → (s.found dt).ring.slots.find? (setDue (s.found dt) p) = some x →
    bad = [] → crc.setOk = false → crc.rereadOk = false → (s.found dt).faultOn 8 = false →
    (s.found dt).get (faultObj Obj.faultSeverity 8) ≠ 3 →
    Completes (.frameTransmit dt p bad crc) dt s
      ([Obj.integrityDiscards, Obj.integrityLasting, Obj.integrityLast] ++ faultObjects 8) (.cur :: faultBlocks) (fun u t =>
        t.ring.slots = changeFirst (setDue u p) (fun _ => none) u.ring.slots ∧ t.faultOn 8 = true ∧
          t.get Obj.integrityDiscards = sat (2 ^ 32 - 1) (u.get Obj.integrityDiscards + 1) ∧
          t.cur.carryNum = u.cur.carryNum + toInt 32 (leAt x.bytes 116 4) * u.cur.carryDen)) ∧
  (∀ (dt : Nat) (s : State),
    (∀ k ∈ [1, 2], (s.found dt).get (Obj.rxCheckErrors + k) -
      (((s.found dt).ring.rxBase.find? (fun p => p.1 = k)).map (·.2)).getD 0 < (s.found dt).get Obj.ringCrcLimit) →
    Completes (.ringCrcInterval dt) dt s [] [.ring, .flt] (fun u t =>
      bit t.flt.cond 0x1E = false ∧ t.flt.status = u.flt.status ∧
        t.ring.rxBase = [(1, u.get (Obj.rxCheckErrors + 1)), (2, u.get (Obj.rxCheckErrors + 2))])) ∧
  (∀ (dt : Nat) (s : State),
    (s.found dt).get Obj.ringCrcLimit ≤ (s.found dt).get (Obj.rxCheckErrors + 1) -
      (((s.found dt).ring.rxBase.find? (fun p => p.1 = 1)).map (·.2)).getD 0 →
    (s.found dt).faultOn 0x1E = false → (s.found dt).get (faultObj Obj.faultSeverity 0x1E) ≠ 3 →
    Completes (.ringCrcInterval dt) dt s (Obj.ringCrcPort :: faultObjects 0x1E) faultBlocks (fun _ t =>
      t.faultOn 0x1E = true ∧ t.get Obj.ringCrcPort = 1)) ∧
  (∀ (dt : Nat) (p : Side) (bad : List (Nat × Bool)) (crc : SetCrc) (s : State), nextFrame (s.found dt) p = none →
    (s.found dt).ring.slots.find? (setDue (s.found dt) p) = none →
    Completes (.frameTransmit dt p bad crc) dt s [] [] (fun _ _ => True)) ∧
  (∀ (dt : Nat) (p : Side) (bad : List (Nat × Bool)) (crc : SetCrc) (y : TxFrame) (s : State), Instr.wf (.frameTransmit dt p bad crc) = true →
    (s.found dt).on .rng = true → nextFrame (s.found dt) p = some y → (s.found dt).ring.slots.find? (setDue (s.found dt) p) = none → y.type ≠ 4 → y.type ≠ 6 →
    (s.found dt).serving p = false → (s.found dt).ring.eventsWait = 0 →
    Completes (.frameTransmit dt p bad crc) dt s [Obj.txDropped + sideSub p] [.ring] (fun u t =>
      t.get (Obj.txDropped + sideSub p) = sat (2 ^ 32 - 1) (u.get (Obj.txDropped + sideSub p) + 1) ∧
        ∃ l : List TxFrame, t.ring.txQ = takeFrame p y u.ring.txQ ++ l ∧ ∀ f ∈ l, f.type = 4)) ∧
  (∀ (dt : Nat) (p : Side) (bad : List (Nat × Bool)) (crc : SetCrc) (x : SetSlot) (s : State), Instr.wf (.frameTransmit dt p bad crc) = true →
    (s.found dt).on .rng = true → (s.found dt).serving p = false → nextFrame (s.found dt) p = none → (s.found dt).ring.slots.find? (setDue (s.found dt) p) = some x →
    Completes (.frameTransmit dt p bad crc) dt s [Obj.txDropped + sideSub p] [.ring] (fun u t =>
      t.get (Obj.txDropped + sideSub p) = sat (2 ^ 32 - 1) (u.get (Obj.txDropped + sideSub p) + 1) ∧
        t.ring.slots = changeFirst (setDue u p) (fun y => some (droppedSlot u p y)) u.ring.slots)) ∧
  ∀ (dt : Nat) (p : Side) (bad : List (Nat × Bool)) (crc : SetCrc) (y : TxFrame) (s : State), Instr.wf (.frameTransmit dt p bad crc) = true →
    (s.found dt).on .rng = true → (s.found dt).serving p = true → nextFrame (s.found dt) p = some y → typeRank y.type ≤ 3 → y.type ≠ 3 →
    Leads (.frameTransmit dt p bad crc) dt s (fun u t => t.sends p (frameBytes u y ++ [256]))

/-! Enumeration. -/

/-- A configured head takes the role and starts NEW; a head starts the enumeration that is due; at the end of the collection it writes RESULT and sends
CONFIRM. A node without an address answers the CW copy of DISCOVER, or in time the CCW copy alone, with its REPORT, and adopts its address at
CONFIRM; the head collects each REPORT once. GEN_SWITCH sets the switch that PORT_GENERATION_SWITCH makes, and a switch that fails goes back to G1. A
deputy with a session takes over when the head is silent. -/
def Obligations.EnumerationRuns : Prop :=
  (∀ (dt : Nat) (v : Bool) (s : State), (s.found dt).on .rng = true → (s.found dt).ring.enm.running = false → (s.found dt).isHead = true →
    (s.found dt).ring.enm.due = some v →
    Completes (.enumerationStart dt) dt s [Obj.enumStatus] [.ring] (fun _ t =>
      t.ring.enm.running = true ∧ t.ring.enm.verify = v ∧ bits (t.get Obj.enumStatus) 0 4 = (if v then 5 else 1) ∧
        ∃ x ∈ t.ring.txQ, x.type = 6 ∧ x.dst = 63 ∧ x.body.take 2 = [1, num v])) ∧
  (∀ (dt : Nat) (s : State), (s.found dt).on .rng = true → (s.found dt).ring.enm.running = false → (s.found dt).mayHead = true →
    ((s.found dt).linkState .north = 2 ∨ (s.found dt).linkState .south = 2) →
    Completes (.enumerationStart dt) dt s
      [Obj.nodeAddress, Obj.headAddress, Obj.ringRole, Obj.ringTimeStatus, Obj.enumStatus, Obj.eventsLost, Obj.ringEventsLost]
      [.port, .ring, .time, .flt, .cells] (fun _ t =>
        t.isHead = true ∧ t.address = 1 ∧ t.timeState = 4 ∧ t.ring.enm.running = true ∧
          ∃ x ∈ t.ring.txQ, x.type = 6 ∧ x.dst = 63 ∧ x.body.take 2 = [1, 0])) ∧
  (∀ (dt : Nat) (f : RingFrame) (s : State), Instr.wf (.discover dt f) = true → (s.found dt).receives .north = true → f.side = .north →
    frameEnd (s.found dt) f = .good → frameType f.bytes = 6 → (framePayload f.bytes).getD 0 0 = 1 → (s.found dt).address = 0 →
    (s.found dt).isHead = false → (s.found dt).get Obj.ringRoleConfig ≠ 1 →
    (s.found dt).hasSeen (frameSrc f.bytes) 6 (f.bytes.getD 5 0) = false →
    Completes (.discover dt f) dt s (frameObjects .north) [.ring] (fun _ t =>
      t.ring.enm.discCw = some (frameHops f.bytes + 1) ∧ t.ring.enm.reported = true ∧
        ∃ x ∈ t.ring.txQ, x.type = 6 ∧ x.dst = frameSrc f.bytes ∧ x.body.take 2 = [2, (frameHops f.bytes + 2) % 64])) ∧
  (∀ (dt : Nat) (s : State), (s.found dt).ring.enm.discCw = none → (s.found dt).ring.enm.discCcw.isSome = true →
    (s.found dt).ring.enm.reported = false → (s.found dt).address = 0 →
    Completes (.discoverCcwOnlyTimeout dt) dt s [] [.ring] (fun u t =>
      ∃ x ∈ t.ring.txQ, x.type = 6 ∧ x.body.take 2 = [2, takenAddress u])) ∧
  (∀ (dt : Nat) (f : RingFrame) (s : State), Instr.wf (.enumReport dt f) = true → GoodFrame (s.found dt) f 6 →
    (s.found dt).isHead = true → (s.found dt).ring.enm.running = true → (framePayload f.bytes).getD 0 0 = 2 →
    Completes (.enumReport dt f) dt s (frameObjects f.side) frameBlocks (fun u t =>
      let pl := framePayload f.bytes
      let r : EnumReport := ⟨pl.getD 1 0 % 64, pl.getD 2 0, pl.getD 3 0, leAt pl 8 8⟩
      t.ring.enm.reports = if u.ring.enm.reports.contains r then u.ring.enm.reports else u.ring.enm.reports ++ [r])) ∧
  (∀ (dt : Nat) (s : State), (s.found dt).isHead = true → (s.found dt).ring.enm.running = true → collectionResult (s.found dt) ≠ 1 →
    Completes (.collectionEnd dt) dt s [Obj.enumStatus, Obj.nodeMap] [.ring, .nvm] (fun u t =>
      bits (t.get Obj.enumStatus) 24 8 = collectionResult u ∧ t.ring.deputy = chosenDeputy u.ring.enm.reports ∧
        bits (t.get Obj.enumStatus) 0 4 = 3 ∧ t.ring.enm.confirmDue = true ∧ t.ring.enm.running = true ∧
        ∃ x ∈ t.ring.txQ, x.type = 6 ∧ x.dst = 63 ∧
          x.body.take 4 = [3, ((foundNodes u).map (·.1)).dedup.length, targetGeneration u, chosenDeputy u.ring.enm.reports])) ∧
  (∀ (dt : Nat) (s : State), (s.found dt).isHead = true → (s.found dt).ring.enm.running = true → collectionResult (s.found dt) = 1 →
    Calm (s.found dt) →
    Leads (.collectionEnd dt) dt s (fun u t =>
      bits (t.get Obj.enumStatus) 24 8 = 1 ∧ t.ring.deputy = chosenDeputy u.ring.enm.reports ∧
        bits (t.get Obj.enumStatus) 0 4 = 6 ∧ t.ring.enm.running = false ∧
        t.get Obj.ringGeneration = max (u.linkGen .north) (u.linkGen .south) ∧
        (∀ p, u.serving p = true → u.linkGen p < t.get Obj.ringGeneration → t.serving p = false) ∧
        ∃ x ∈ t.ring.txQ, x.type = 6 ∧ x.dst = 63 ∧
          x.body.take 4 = [3, ((foundNodes u).map (·.1)).dedup.length, targetGeneration u, chosenDeputy u.ring.enm.reports])) ∧
  (∀ (dt : Nat) (f : RingFrame) (s : State), Instr.wf (.enumConfirm dt f) = true → (s.found dt).receives f.side = true →
    frameEnd (s.found dt) f = .good → frameType f.bytes = 6 → (framePayload f.bytes).getD 0 0 = 3 → (s.found dt).address = 0 →
    (s.found dt).isHead = false → (s.found dt).get Obj.ringRoleConfig ≠ 1 → takenAddress (s.found dt) ≠ 0 →
    bit (leAt (framePayload f.bytes) 8 8) (takenAddress (s.found dt)) = true →
    (s.found dt).hasSeen (frameSrc f.bytes) 6 (f.bytes.getD 5 0) = false → (s.found dt).get (faultObj Obj.faultSeverity 0x2B) ≠ 3 →
    Completes (.enumConfirm dt f) dt s
      ([Obj.enumStatus, Obj.nodeMap, Obj.ringGeneration, Obj.ringEpoch, Obj.headAddress, Obj.nodeAddress, Obj.ringRole, Obj.eventsLost,
        Obj.ringEventsLost, Obj.laneService, Obj.txDropped + 1, Obj.txDropped + 2] ++ frameObjects f.side ++ marginObjects)
      ([.time, .nvm, .safe] ++ frameBlocks ++ faultBlocks) (fun u t =>
        t.address = takenAddress u ∧ t.epoch = f.bytes.getD 1 0 ∧ t.get Obj.headAddress = frameSrc f.bytes ∧
          t.get Obj.nodeMap = leAt (framePayload f.bytes) 8 8 ∧ t.get Obj.ringGeneration = u.linkGen f.side ∧
          t.isDeputy = decide ((framePayload f.bytes).getD 3 0 = takenAddress u) ∧
          ∀ p, u.linkGen p ≠ u.linkGen f.side → t.serving p = false)) ∧
  (∀ (dt : Nat) (f : RingFrame) (s : State), Instr.wf (.enumConfirm dt f) = true → (s.found dt).receives f.side = true →
    frameEnd (s.found dt) f = .good → frameType f.bytes = 6 → (framePayload f.bytes).getD 0 0 = 3 → (s.found dt).address = 0 →
    (s.found dt).isHead = false → (s.found dt).get Obj.ringRoleConfig ≠ 1 →
    (s.found dt).hasSeen (frameSrc f.bytes) 6 (f.bytes.getD 5 0) = true →
    Completes (.enumConfirm dt f) dt s (frameObjects f.side) frameBlocks (fun _ t => t.address = 0)) ∧
  (∀ (dt : Nat) (f : RingFrame) (s : State), Instr.wf (.genSwitch dt f) = true → GoodFrame (s.found dt) f 6 →
    (framePayload f.bytes).getD 0 0 = 4 → 1 ≤ (framePayload f.bytes).getD 1 0 → (framePayload f.bytes).getD 1 0 ≤ 3 →
    Completes (.genSwitch dt f) dt s (frameObjects f.side) frameBlocks (fun u t =>
      t.ring.enm.switchTo =
        if u.hasSeen (frameSrc f.bytes) 6 (f.bytes.getD 5 0) then u.ring.enm.switchTo
        else some ((framePayload f.bytes).getD 1 0))) ∧
  (∀ (dt g : Nat) (s : State), (s.found dt).ring.enm.switchTo = some g → Calm (s.found dt) →
    Leads (.portGenerationSwitch dt) dt s (fun _ t =>
      t.ring.enm.switchTo = none ∧ t.ring.enm.unconfirmed = true ∧ ∀ p, t.linkState p = 1 ∧ t.linkGen p = g % 16 ∧ t.serving p = false)) ∧
  (∀ (dt : Nat) (s : State), (s.found dt).ring.enm.unconfirmed = true → Calm (s.found dt) →
    Leads (.genSwitchFailure dt) dt s (fun u t =>
      t.get Obj.ringGeneration = 1 ∧ t.ring.enm.unconfirmed = false ∧ (∀ p, t.linkState p = 1 ∧ t.linkGen p = 1 ∧ t.serving p = false) ∧
        (u.isHead = true → bits (t.get Obj.enumStatus) 24 8 = 5 ∧ t.ring.enm.due = some false ∧
          t.ring.enm.cap = max 1 (u.ring.enm.target - 1)))) ∧
  ∀ (dt : Nat) (s : State), (s.found dt).on .rng = true → (s.found dt).isDeputy = true →
    Completes (.deputyTimeout dt) dt s
      [Obj.ringEpoch, Obj.ringRole, Obj.headAddress, Obj.ringTimeStatus, Obj.laneService, Obj.takeoverCount, Obj.eventsLost,
        Obj.ringEventsLost] [.port, .flt, .ring, .nvm, .time, .safe, .cells] (fun u t =>
      if u.port.sessions = [] ∨ u.markSilent = false then t.isDeputy = true ∧ t.epoch = u.epoch
      else t.isHead = true ∧ t.isDeputy = false ∧ t.epoch = (u.epoch + 1) % 256 ∧ t.timeState = 4 ∧ t.ringTime = u.ringTime)

/-! Safety inputs. -/

/-- SRQ_TICK: the request is active while a channel requests; 22h sets, and the supervisor permit drops at that tick; it ends when neither requests, and
22h then has its quiet period; the discrepancy counts. CEN closes when both permits have stood for 10 ms and its checks allow; a static check that
fails twice, a test without its transition and a CFB that disagrees set 23h with its cause and open CEN. -/
def Obligations.SafetyInputsRun : Prop :=
  (∀ (dt : Nat) (a b other cfb : Bool) (s : State), (s.found dt).on .rng = true → Calm (s.found dt) →
    Leads (.srqTick dt ⟨a, b⟩ ⟨other, cfb⟩) dt s (fun u t =>
      let r := srqChannels u.srqMode a b
      t.srqRequest = (r.1 || r.2) ∧ ((r.1 || r.2) = true → t.faultOn 0x22 = true ∧ t.supPermit = false) ∧
        ((r.1 || r.2) = false → bit t.flt.cond 0x22 = false ∧
          (bit u.flt.cond 0x22 = true → u.faultOn 0x22 = true → bit u.flt.latched 0x22 = false → bit t.flt.quiet 0x22 = true)) ∧
        t.get Obj.srqStatus / 65536 = if r.1 = r.2 then 0 else sat 65535 (u.get Obj.srqStatus / 65536 + 1))) ∧
  (∀ (dt : Nat) (a b other cfb : Bool) (s : State), (s.found dt).on .rng = true →
    srqChannels (s.found dt).srqMode a b = (false, false) →
    Completes (.srqTick dt ⟨a, b⟩ ⟨other, cfb⟩) dt s [Obj.srqStatus] [.flt, .safe] (fun u t =>
      t.srqRequest = false ∧ t.flt.status = u.flt.status ∧ t.safe.nFaultOther = other ∧ t.safe.cfb = cfb)) ∧
  (∀ (dt : Nat) (s : State), (s.found dt).supPermit = true → (s.found dt).mirPermit = true → (s.found dt).safe.cenOn = false →
    Completes (.cenClose dt) dt s [] [.safe] (fun u t =>
      t.safe.cenOn = (u.safe.permitSup && u.safe.permitMir && decide (u.safe.permitSince + 10 * ms ≤ u.clk) && u.safe.staticOk) ∧
        t.safe.cenSince = if t.safe.cenOn then u.clk else u.safe.cenSince)) ∧
  (∀ (dt : Nat) (s : State), (s.found dt).safe.cenOn = false → (s.found dt).on .rng = true →
    Completes (.cenStaticCheck dt false false) dt s [] [.safe] (fun _ t =>
      t.safe.staticOk = true ∧ t.safe.staticH = 0 ∧ t.safe.staticL = 0 ∧ t.safe.cenOn = false)) ∧
  (∀ (dt : Nat) (low : Bool) (s : State), (s.found dt).safe.cenOn = false → (s.found dt).on .rng = true →
    (s.found dt).safe.staticH = 1 → (s.found dt).faultOn 0x23 = false → (s.found dt).get (faultObj Obj.faultSeverity 0x23) ≠ 3 →
    Completes (.cenStaticCheck dt true low) dt s (Obj.cenFailCause :: faultObjects 0x23) (.safe :: faultBlocks) (fun _ t =>
      t.faultOn 0x23 = true ∧ t.get Obj.cenFailCause = 4 ∧ t.safe.staticOk = false ∧ t.safe.cenOn = false)) ∧
  (∀ (dt : Nat) (s : State), (s.found dt).supPermit = true → (s.found dt).mirPermit = true → (s.found dt).safe.cenOn = true →
    (s.found dt).safe.testing = none → (s.found dt).safe.cenSince + 10 * ms ≤ (s.found dt).clk →
    Completes (.cenTestStart dt) dt s [] [.safe] (fun u t =>
      t.safe.testing = some u.safe.nextTest ∧ t.safe.nextTest = !u.safe.nextTest ∧ t.safe.cenOn = true)) ∧
  (∀ (dt : Nat) (p : Bool) (s : State), (s.found dt).safe.testing = some p →
    Completes (.cenTestTransition dt) dt s [Obj.cenTestCount] [.safe] (fun u t =>
      t.safe.testing = none ∧ t.safe.lastTested = p ∧ t.get Obj.cenTestCount = (u.get Obj.cenTestCount + 1) % 2 ^ 32)) ∧
  (∀ (dt : Nat) (p : Bool) (s : State), (s.found dt).safe.testing = some p → (s.found dt).faultOn 0x23 = false →
    (s.found dt).get (faultObj Obj.faultSeverity 0x23) ≠ 3 →
    Completes (.cenTestTimeout dt) dt s (Obj.cenFailCause :: faultObjects 0x23) (.safe :: faultBlocks) (fun _ t =>
      t.faultOn 0x23 = true ∧ t.get Obj.cenFailCause = (if p then 2 else 1) ∧ t.safe.cenOn = false ∧ t.safe.testing = none)) ∧
  (∀ (dt : Nat) (level : Bool) (s : State),
    (bits ((s.found dt).get Obj.cenConfig) 0 2 = 0 ∨
      ((bits ((s.found dt).get Obj.cenConfig) 0 2 == 1) == level) = (s.found dt).safe.cenOn) →
    Completes (.cfbMismatch dt level) dt s [] [.safe] (fun _ t => t.safe.cfb = level)) ∧
  ∀ (dt : Nat) (level : Bool) (s : State), bits ((s.found dt).get Obj.cenConfig) 0 2 ≠ 0 →
    ((bits ((s.found dt).get Obj.cenConfig) 0 2 == 1) == level) ≠ (s.found dt).safe.cenOn → (s.found dt).faultOn 0x23 = false →
    (s.found dt).get (faultObj Obj.faultSeverity 0x23) ≠ 3 →
    Completes (.cfbMismatch dt level) dt s (Obj.cenFailCause :: faultObjects 0x23) (.safe :: faultBlocks) (fun _ t =>
      t.faultOn 0x23 = true ∧ t.get Obj.cenFailCause = 3 ∧ t.safe.cenOn = false ∧ t.safe.cfb = level)

/-- A Mirror comparator that trips latches: the Mirror permit drops, CEN opens, nFAULT goes low, and the source leads to SAFE; a self-fault of the
channel does the same with its own source; the first comparison gives the permit. -/
def Obligations.MirrorEventsRun : Prop :=
  (∀ (dt cell : Nat) (isOv : Bool) (samples : List (MirrorSample × Nat)) (s : State),
    Instr.wf (.mirrorTrip dt cell ⟨isOv, samples⟩) = true → Calm (s.found dt) →
    (s.found dt).on .mir = true → cell ≤ (s.found dt).safe.cells →
    (mirrorCount (s.found dt).mirrorLimit samples ((s.found dt).mirrorInt cell isOv)).2 = true →
    Leads (.mirrorTrip dt cell ⟨isOv, samples⟩) dt s (fun u t =>
      bit (t.get (if isOv then Obj.mirrorOvTripped else Obj.mirrorUvTripped)) (cell - 1) = true ∧ t.safe.latched = true ∧
        t.mirPermit = false ∧ t.safe.cenOn = false ∧ t.nFault = true ∧ t.faultOn (if isOv then 0 else 1) = true ∧
        (u.faultOn (if isOv then 0 else 1) = false → u.modeIn safeFrom = true → t.modeCode = 11 ∧ t.get Obj.cenRequest = 0))) ∧
  (∀ (dt cell : Nat) (isOv : Bool) (samples : List (MirrorSample × Nat)) (s : State),
    Instr.wf (.mirrorTrip dt cell ⟨isOv, samples⟩) = true → (s.found dt).on .mir = true → cell ≤ (s.found dt).safe.cells →
    cell ≤ (if isOv then (s.found dt).safe.ovCount else (s.found dt).safe.uvCount).length →
    (mirrorCount (s.found dt).mirrorLimit samples ((s.found dt).mirrorInt cell isOv)).2 = false →
    Completes (.mirrorTrip dt cell ⟨isOv, samples⟩) dt s [] [.safe] (fun u t =>
      t.mirrorInt cell isOv = (mirrorCount u.mirrorLimit samples (u.mirrorInt cell isOv)).1 ∧ t.safe.latched = u.safe.latched)) ∧
  (∀ (dt cause : Nat) (s : State), Instr.wf (.mirrorSelfFault dt cause) = true → Calm (s.found dt) → (s.found dt).on .mir = true →
    Leads (.mirrorSelfFault dt cause) dt s (fun _ t =>
      t.get Obj.mirrorFaultCause = cause ∧ bit t.safe.selfFaults cause = true ∧ t.mirPermit = false ∧ t.safe.cenOn = false ∧
        t.nFault = true ∧ t.faultOn (selfFaultSource cause) = true)) ∧
  ∀ (dt : Nat) (s : State), (s.found dt).on .mir = true →
    Completes (.mirrorFirstComparisonEnd dt) dt s [] [.safe] (fun u t =>
      t.safe.firstDone = true ∧ t.mirPermit = (!u.safe.latched && u.safe.selfFaults == 0))

/-! Starts and pins. -/

/-- SUPERVISOR_READY ends a start of the core, whatever its memory test has found (that the outcome takes effect here is the model's reading, log
entry 17); POWER_ON_RESET powers every domain and starts the core from its ROM boot, on the source that R85 gives, whatever firmware there is (all at
once, log entry 23); CONFIGURATION_CHECK enters the first mode by its result, which after a wake (CAUSE 05h) is STANDBY, with the mode left kept and no
plan started; BROWN_OUT and AO_RESET start the device up from the AO domain. -/
def Obligations.StartsRun : Prop :=
  (∀ (dt : Nat) (mem : List MacroMeas) (cal : List CalRead) (s : State), Instr.wf (.supervisorReady dt ⟨mem, cal⟩) = true →
    (s.found dt).get Obj.supervisorState = 1 → (s.found dt).on .sup = true → (s.found dt).mode.noImage = false →
    (∀ x ∈ mem, x.words = []) → (∀ x ∈ cal, x.copy0 = true) → (∀ ok ∈ (s.found dt).nvm.cal0.tables, ok = true) →
    (s.found dt).get Obj.retiredMask = 0 → (s.found dt).get (faultObj Obj.faultSeverity 0x28) ≠ 3 →
    (s.found dt).get (faultObj Obj.faultSeverity 0x2B) ≠ 3 →
    Completes (.supervisorReady dt ⟨mem, cal⟩) dt s
      ([Obj.supervisorState, Obj.nvmStatus, Obj.nvmTornRecords, Obj.memBistResult] ++ faultObjects 0x28 ++ marginObjects)
      (.nvm :: faultBlocks)
      (fun _ t => t.supReady = true ∧ t.get Obj.memBistResult = 1)) ∧
  (∀ (dt : Nat) (p : StrapPins) (stkOk xbsOk fromShip : Bool) (s : State), Instr.wf (.powerOnReset dt p stkOk xbsOk fromShip) = true →
    GoodFirmware (s.found dt) →
    Leads (.powerOnReset dt p stkOk xbsOk fromShip) dt s (fun _ t =>
      t.modeCode = 0 ∧ t.get Obj.domainStatus = 0x2FF ∧ t.get Obj.supervisorState = 1 ∧ t.planRuns = true ∧ t.ringTime = 0 ∧
        t.isHead = false ∧ t.port.sessions = [] ∧ t.safe.cenOn = false ∧ t.pathState = (if !stkOk && xbsOk then 2 else 0) ∧
        t.faultOn 0x16 = (!stkOk && xbsOk))) ∧
  (∀ (dt : Nat) (s : State), (s.found dt).supReady = true → (s.found dt).modeCode = 0 → Calm (s.found dt) →
    (s.found dt).get (faultObj Obj.faultSeverity 0x2B) ≠ 3 →
    Leads (.configurationCheck dt) dt s (fun u t =>
      let x := checkConfig (restoreCovers (judgeStraps (bootPlan u)))
      if bits (x.get Obj.configCheck) 0 8 ≠ 0 then t.modeCode = 4
      else t.modeCode = if x.safeFault then 11 else if bits (x.get Obj.modeStatus) 24 8 = 5 then 3 else 5)) ∧
  (∀ (dt : Nat) (s : State), (s.found dt).supReady = true → (s.found dt).modeCode = 0 → Calm (s.found dt) →
    bits ((s.found dt).get Obj.modeStatus) 24 8 = 5 → (s.found dt).get (faultObj Obj.faultSeverity 0x2B) ≠ 3 →
    Leads (.configurationCheck dt) dt s (fun u t =>
      let x := checkConfig (restoreCovers (bootPlan u))
      bits (x.get Obj.configCheck) 0 8 = 0 → x.safeFault = false → t.modeCode = 3 ∧ bits (t.get Obj.modeStatus) 24 8 = 5 ∧
        bits (t.get Obj.modeStatus) 8 8 = bits (u.get Obj.modeStatus) 8 8 ∧ t.planRuns = false)) ∧
  (∀ (dt : Nat) (cut : NvmCut) (s : State), Instr.wf (.brownOut ⟨dt, cut⟩) = true → Calm (s.found dt) →
    Leads (.brownOut ⟨dt, cut⟩) dt s (fun u t =>
      t.get Obj.domainStatus = 1 ∧ t.modeCode = 0 ∧ t.get Obj.supervisorState = 1 ∧ t.planRuns = false ∧ t.port = Port.empty ∧
        t.flt.status = 0 ∧ t.safe.cenOn = false ∧ bit (t.get Obj.resetCause) 1 = true ∧ t.cur = u.cur)) ∧
  (∀ (dt : Nat) (s : State), Calm (s.found dt) →
    Leads (.aoReset dt) dt s (fun _ t =>
      t.get Obj.domainStatus = 1 ∧ t.modeCode = 0 ∧ t.planRuns = false ∧ t.port = Port.empty ∧ t.flt.status = 0 ∧
        t.safe.cenOn = false ∧ t.get Obj.resetCause = 1 ∧ t.cur = { CurEng.reset with volts := t.cur.volts, next := t.cur.next })) ∧
  (∀ (dt : Nat) (p : StrapPins) (stkOk xbsOk fromShip : Bool) (s : State), Instr.wf (.powerOnReset dt p stkOk xbsOk fromShip) = true →
    Leads (.powerOnReset dt p stkOk xbsOk fromShip) dt s (fun _ t =>
      t.modeCode = 0 ∧ t.planRuns = true ∧ t.ringTime = 0 ∧ t.isHead = false ∧ t.port.sessions = [] ∧ t.safe.cenOn = false ∧
        (t.get Obj.supervisorState = 1 ∨ t.get Obj.supervisorState = 3))) ∧
  ∀ (dt : Nat) (mem : List MacroMeas) (cal : List CalRead) (s : State), Instr.wf (.supervisorReady dt ⟨mem, cal⟩) = true →
    (s.found dt).get Obj.supervisorState = 1 → (s.found dt).on .sup = true → (s.found dt).mode.noImage = false → Calm (s.found dt) →
    Leads (.supervisorReady dt ⟨mem, cal⟩) dt s (fun _ t => t.supReady = true ∧ t.get Obj.memBistResult % 16 ≠ 0)

/-- Comparators of the supply: STK_UV and STK_OV with 17h and 18h, whatever the severity of 18h (at SAFE it also stops balancing, the transfer and CEN),
XBS_VALID and XBS_OV with the power path (a bus that fails during the hand-over to it, before and after its switch closes, and during a forward session),
and the rails with 19h; a supply fault spoils the apertures that are open. -/
def Obligations.SupplyRuns : Prop :=
  (∀ (dt : Nat) (s : State), (s.found dt).faultOn 0x17 = false → (s.found dt).get (faultObj Obj.faultSeverity 0x17) ≠ 3 →
    Completes (.supplyUndervoltage dt) dt s (Obj.supplyStatus :: faultObjects 0x17) (.cells :: faultBlocks) (fun _ t =>
      t.faultOn 0x17 = true ∧ t.stkUv = true ∧ ∀ x ∈ t.cells.apertures, x.spoilt = true)) ∧
  (∀ (dt : Nat) (s : State),
    Completes (.supplyUvClears dt) dt s [Obj.supplyStatus] [.flt] (fun u t =>
      t.stkUv = false ∧ bit t.flt.cond 0x17 = false ∧ t.flt.status = u.flt.status)) ∧
  (∀ (dt : Nat) (s : State), (s.found dt).faultOn 0x18 = false → (s.found dt).get (faultObj Obj.faultSeverity 0x18) ≠ 3 →
    Completes (.supplyOvervoltage dt) dt s (Obj.supplyStatus :: faultObjects 0x18) faultBlocks (fun _ t =>
      t.faultOn 0x18 = true ∧ bit (t.get Obj.supplyStatus) 1 = true)) ∧
  (∀ (dt : Nat) (s : State), (s.found dt).faultOn 0x18 = false → (s.found dt).get (faultObj Obj.faultSeverity 0x18) = 3 →
    Calm (s.found dt) →
    Leads (.supplyOvervoltage dt) dt s (fun u t =>
      t.faultOn 0x18 = true ∧ bit (t.get Obj.supplyStatus) 1 = true ∧
        (u.modeIn safeFrom = true → t.modeCode = 11 ∧ bits (t.get Obj.modeStatus) 24 8 = 3 ∧ t.get Obj.balEnable = 0 ∧
          t.get Obj.cenRequest = 0 ∧ t.xferRuns = false))) ∧
  (∀ (dt : Nat) (s : State),
    Completes (.supplyOvClears dt) dt s [Obj.supplyStatus] [.flt] (fun u t =>
      bit (t.get Obj.supplyStatus) 1 = false ∧ bit t.flt.cond 0x18 = false ∧ t.flt.status = u.flt.status)) ∧
  (∀ (dt : Nat) (s : State),
    Completes (.exchangeBusValid dt) dt s [Obj.powerPathStatus] [.mode] (fun u t =>
      t.xbsValid = true ∧ t.pathState = u.pathState ∧ t.mode.dwell = t.dwellHolds)) ∧
  (∀ (dt : Nat) (s : State), (s.found dt).forwardRuns = false →
    Completes (.exchangeBusInvalid dt) dt s [Obj.powerPathStatus, Obj.xferStatus] [.mode] (fun u t =>
      t.xbsValid = false ∧ t.mode.dwell = false ∧ (u.mode.handover = none → u.pathState = 2 → t.pathState = 3))) ∧
  (∀ (dt : Nat) (h : Handover) (s : State), (s.found dt).mode.handover = some h → h.toXbs = true → (s.found dt).forwardRuns = false →
    Completes (.exchangeBusInvalid dt) dt s [Obj.powerPathStatus] [.mode] (fun u t =>
      t.xbsValid = false ∧
        if u.clk < h.startAt + 64 then t.pathState = 3 ∧ t.mode.handover = some ⟨false, h.startAt, false⟩
        else t.pathState = u.pathState ∧ t.mode.handover = some { h with failed := true })) ∧
  (∀ (dt : Nat) (s : State), SessionRuns (s.found dt) 0x15 → (s.found dt).forward = true → (s.found dt).xbsValid = true →
    StopsSession (.exchangeBusInvalid dt) dt 0x15 2 s) ∧
  (∀ (dt : Nat) (s : State), Calm (s.found dt) →
    Leads (.exchangeBusOvervoltage dt) dt s (fun _ t =>
      t.xbsOv = true ∧ t.xbsValid = false ∧ t.faultOn 0x15 = true ∧ t.xferRuns = false)) ∧
  (∀ (dt : Nat) (s : State),
    Completes (.exchangeBusOvClears dt) dt s [Obj.powerPathStatus] [.mode, .flt] (fun u t =>
      t.xbsOv = false ∧ t.flt.status = u.flt.status)) ∧
  (∀ (dt : Nat) (r : Rail) (s : State), (s.found dt).faultOn 0x19 = false → (s.found dt).get (faultObj Obj.faultSeverity 0x19) ≠ 3 →
    Completes (.railOutOfWindow dt r) dt s (Obj.supplyStatus :: faultObjects 0x19) (.cells :: faultBlocks) (fun _ t =>
      t.faultOn 0x19 = true ∧ bit (t.get Obj.supplyStatus) (railBit r) = false)) ∧
  ∀ (dt : Nat) (r : Rail) (s : State), (∀ q, q ≠ r → bit ((s.found dt).get Obj.supplyStatus) (railBit q) = true) →
    bit (s.found dt).safe.selfFaults 5 = false →
    Completes (.railBackInWindow dt r) dt s [Obj.supplyStatus] [.flt] (fun u t =>
      bit (t.get Obj.supplyStatus) (railBit r) = true ∧ bit t.flt.cond 0x19 = false ∧ t.flt.status = u.flt.status)

/-- nRST resets the device while it is low, unless it is stuck, and also during a power-down sequence; in SLEEP it wakes the device where WakeEnable has it
and is else only noted, and from SHIP it wakes it always (the sequence, and SLEEP without the bit, are the model's reading, log entry 29). WAKE_IN and the
wake tone wake it from SLEEP where WakeEnable has them, and from SHIP always; a tone that does not wake is passed on, and one within the guard or on a
port that is UP is nothing (which ports send is the model's reading, log entry 30). A SLEEP check wakes it on a crossing that repeats, and counts one that does not. -/
def Obligations.PinsRun : Prop :=
  (∀ (dt : Nat) (s : State), (s.found dt).mode.nrstStuck = false →
    ((s.found dt).mode.shutdown.isSome = true ∨ (s.found dt).modeIn [1, 2] = false) → GoodFirmware (s.found dt) → Calm (s.found dt) →
    Leads (.nrstLow dt) dt s (fun _ t =>
      t.mode.nrstLow = true ∧ t.mode.resetting = true ∧ t.modeCode = 0 ∧ t.address = 0 ∧ t.get Obj.supervisorState = 3 ∧
        bit (t.get Obj.resetCause) 3 = true ∧ t.safe.cenOn = false)) ∧
  (∀ (dt : Nat) (s : State), (s.found dt).mode.nrstStuck = true → Completes (.nrstLow dt) dt s [] [] (fun _ _ => True)) ∧
  (∀ (dt : Nat) (s : State), (s.found dt).mode.nrstStuck = false → (s.found dt).mode.shutdown = none → (s.found dt).modeCode = 2 →
    (bit ((s.found dt).get Obj.wakeEnable) 3 = true → GoodFirmware (s.found dt) → Calm (s.found dt) →
      Leads (.nrstLow dt) dt s (fun _ t =>
        t.mode.nrstLow = true ∧ t.mode.wakeOut = true ∧ bit (t.get Obj.wakeCause) 3 = true ∧ t.modeCode = 0 ∧
          t.get Obj.domainStatus = 0x2E3 ∧ t.get Obj.supervisorState = 1)) ∧
    (bit ((s.found dt).get Obj.wakeEnable) 3 = false →
      Completes (.nrstLow dt) dt s [] [.mode] (fun u t => t.mode = { u.mode with nrstLow := true }))) ∧
  (∀ (dt : Nat) (s : State), (s.found dt).mode.nrstStuck = false → (s.found dt).mode.shutdown = none → (s.found dt).modeCode = 1 →
    Completes (.nrstLow dt) dt s [Obj.wakeCause] [.mode] (fun _ t =>
      t.mode.nrstLow = true ∧ t.mode.wakeOut = true ∧ t.modeCode = 1 ∧ bit (t.get Obj.wakeCause) 3 = true ∧
        bit (t.get Obj.wakeCause) 6 = true)) ∧
  (∀ (dt : Nat) (s : State), (s.found dt).mode.resetting = true →
    Completes (.nrstRelease dt) dt s [] [.mode, .safe] (fun u t =>
      t.mode.nrstLow = false ∧ t.mode.resetting = false ∧ t.mode.supResetAt = u.clk ∧ t.safe.wdStart = u.clk)) ∧
  (∀ (dt : Nat) (s : State), (s.found dt).mode.nrstLow = true → (s.found dt).mode.nrstStuck = false → (s.found dt).faultOn 0x2C = false →
    (s.found dt).get (faultObj Obj.faultSeverity 0x2C) ≠ 3 →
    Completes (.nrstStuck dt) dt s (Obj.resetCause :: faultObjects 0x2C) (.safe :: faultBlocks) (fun _ t =>
      t.mode.nrstStuck = true ∧ t.mode.resetting = false ∧ t.faultOn 0x2C = true ∧ bit (t.get Obj.resetCause) 5 = true)) ∧
  (∀ (dt : Nat) (s : State),
    Completes (.nrstHigh10Ms dt) dt s [] [.mode, .flt] (fun u t =>
      t.mode.nrstStuck = false ∧ t.mode.nrstLow = false ∧ bit t.flt.cond 0x2C = false ∧ t.flt.status = u.flt.status)) ∧
  (∀ (dt : Nat) (s : State), (s.found dt).mode.shutdown = none → (s.found dt).modeCode = 2 →
    (bit ((s.found dt).get Obj.wakeEnable) 2 = true → GoodFirmware (s.found dt) → Calm (s.found dt) →
      Leads (.wakeIn dt) dt s (fun u t =>
        t.mode.wakeOut = true ∧ t.mode.tones = u.mode.tones + 1 ∧ t.modeCode = 0 ∧ t.get Obj.domainStatus = 0x2E3 ∧
          t.get Obj.supervisorState = 1)) ∧
    (bit ((s.found dt).get Obj.wakeEnable) 2 = false → Completes (.wakeIn dt) dt s [] [] (fun _ _ => True))) ∧
  (∀ (dt : Nat) (s : State), (s.found dt).mode.shutdown = none → (s.found dt).modeCode = 1 →
    Completes (.wakeIn dt) dt s [Obj.wakeCause] [.mode] (fun u t =>
      bit (t.get Obj.wakeCause) 2 = true ∧ bit (t.get Obj.wakeCause) 6 = true ∧ t.mode.wakeOut = true ∧
        t.mode.tones = u.mode.tones + 1)) ∧
  (∀ (dt : Nat) (p : Side) (s : State), (s.found dt).mode.shutdown = none → (s.found dt).modeCode = 1 → (s.found dt).on .rng = false →
    (s.found dt).toneGuard = false →
    Completes (.wakeTone dt p) dt s [Obj.wakeCause] [.mode] (fun u t =>
      bit (t.get Obj.wakeCause) (match p with | .north => 0 | .south => 1) = true ∧ t.mode.wakeOut = true ∧
        t.mode.tones = u.mode.tones + 1)) ∧
  (∀ (dt : Nat) (p : Side) (s : State), (s.found dt).mode.shutdown = none → (s.found dt).modeCode = 2 → (s.found dt).on .rng = false →
    (s.found dt).toneGuard = false →
    (bit ((s.found dt).get Obj.wakeEnable) (match p with | .north => 0 | .south => 1) = true → GoodFirmware (s.found dt) →
      Calm (s.found dt) →
      Leads (.wakeTone dt p) dt s (fun u t =>
        bit (t.get Obj.wakeCause) (match p with | .north => 0 | .south => 1) = true ∧ t.mode.wakeOut = true ∧
          t.mode.tones = u.mode.tones + 1 ∧ t.modeCode = 0 ∧ t.get Obj.domainStatus = 0x2E3 ∧ t.get Obj.supervisorState = 1)) ∧
    (bit ((s.found dt).get Obj.wakeEnable) (match p with | .north => 0 | .south => 1) = false →
      Completes (.wakeTone dt p) dt s [] [.mode] (fun u t =>
        t.mode = { u.mode with toneSentAt := some u.clk, tones := u.mode.tones + 1 }))) ∧
  (∀ (dt : Nat) (p : Side) (s : State), (s.found dt).toneGuard = true ∨ ((s.found dt).on .rng = true ∧ (s.found dt).linkState p = 2) →
    Completes (.wakeTone dt p) dt s [] [] (fun _ _ => True)) ∧
  (∀ (dt : Nat) (s : State), Completes (.wakeOutRelease dt) dt s [] [.mode] (fun u t =>
    t.mode.wakeOut = (u.mode.wakeOut && !u.wakeOutDone))) ∧
  (∀ (dt : Nat) (m : SleepMeas) (s : State), Instr.wf (.sleepCheck dt m) = true → (s.found dt).modeCode = 2 →
    (s.found dt).sleepCount = 0 → Completes (.sleepCheck dt m) dt s [] [] (fun _ _ => True)) ∧
  (∀ (dt : Nat) (m : SleepMeas) (s : State), Instr.wf (.sleepCheck dt m) = true → (s.found dt).modeCode = 2 →
    (s.found dt).sleepCount ≠ 0 → (∀ i, i < (s.found dt).sleepCount → (s.found dt).sleepCrossing i (sleepReading m.first i) = false) →
    Completes (.sleepCheck dt m) dt s [Obj.counterGapCount] [.cur] (fun u t =>
      t.get Obj.counterGapCount = sat 65535 (u.get Obj.counterGapCount + 1) ∧ t.cur.retained = t.cur.counter)) ∧
  (∀ (dt : Nat) (m : SleepMeas) (s : State), Instr.wf (.sleepCheck dt m) = true → (s.found dt).modeCode = 2 →
    (s.found dt).sleepCount = 1 → (s.found dt).sleepCrossing 0 (sleepReading m.first 0) = true →
    (s.found dt).sleepCrossing 0 (sleepReading m.again 0) = false →
    Completes (.sleepCheck dt m) dt s [Obj.counterGapCount, Obj.sleepTransients] [.cur] (fun u t =>
      t.get Obj.sleepTransients = sat 65535 (u.get Obj.sleepTransients + 1))) ∧
  ∀ (dt : Nat) (m : SleepMeas) (s : State), Instr.wf (.sleepCheck dt m) = true → (s.found dt).mode.shutdown = none →
    (s.found dt).modeCode = 2 → (s.found dt).sleepCount ≠ 0 → (s.found dt).sleepCrossing 0 (sleepReading m.first 0) = true →
    (s.found dt).sleepCrossing 0 (sleepReading m.again 0) = true →
    bit ((s.found dt).get Obj.wakeEnable) 4 = true → GoodFirmware (s.found dt) → Calm (s.found dt) →
    Leads (.sleepCheck dt m) dt s (fun u t =>
      t.mode.wakeOut = true ∧ t.mode.tones = u.mode.tones + 1 ∧ t.modeCode = 0 ∧ t.get Obj.supervisorState = 1 ∧
        bit (t.get Obj.wakeCause) 4 = true)

/-! Frames, limits and sensors. -/

/-- A balancing frame starts with its duty, budgets and estimate; without ring activity in time balancing ends and 11h sets; a switch that is stuck on is
locked out. -/
def Obligations.BalanceTimeRuns : Prop :=
  (∀ (dt : Nat) (x : FrameMeas) (s : State), Instr.wf (.balancingFrameStart dt x) = true → (s.found dt).on .rng = true →
    (s.found dt).xferState = 0 → (s.found dt).stageNow = false → (s.found dt).loupe.point = none →
    Completes (.balancingFrameStart dt x) dt s
      [Obj.balConducting, Obj.tableDuty, Obj.capFactor, Obj.balDissipation, Obj.balStatus, Obj.stkVoltage, Obj.xbsVoltage,
        Obj.xferMeasCurrent, Obj.xferPeakMeas, Obj.xferCharge, Obj.xferFoldback, Obj.xferAllowed, Obj.xferStatus] [.bal, .xfer]
      (fun u t =>
        t.bal.frame = u.ringTime / ms ∧ t.bal.enabled = u.get Obj.balEnable ∧ t.get Obj.balConducting = u.bal.conducted ∧
          t.get Obj.tableDuty = u.tableDutyNow ∧ t.get Obj.capFactor = capFactor (t.frameHeat (t.get Obj.tableDuty)) ∧
          t.bal.budget = (List.range 24).map (fun i => budgetOf (t.dutyOf (t.get Obj.tableDuty) (t.get Obj.capFactor) (i + 1))) ∧
          t.get Obj.stkVoltage = x.stk ∧ t.get Obj.xbsVoltage = x.xbs ∧ t.get Obj.xferMeasCurrent = ofInt 16 x.mean)) ∧
  (∀ (dt : Nat) (s : State), (s.found dt).on .rng = true → (s.found dt).modeCode = 7 → (s.found dt).faultOn 0x11 = false →
    (s.found dt).get (faultObj Obj.faultSeverity 0x11) ≠ 3 → (s.found dt).mode.auto = none →
    Completes (.communicationTimeout dt) dt s ([Obj.balEnable, Obj.balStatus, Obj.xferStatus, Obj.xferElapsed] ++ faultObjects 0x11)
      ([.bal, .xfer, .plan] ++ faultBlocks) (fun _ t =>
        t.get Obj.balEnable = 0 ∧ t.bal.enabled = 0 ∧ t.cells.conducting = 0 ∧ t.faultOn 0x11 = true ∧
          bit (t.get Obj.balStatus) 4 = true ∧ t.mode.auto = some ⟨6, 7⟩)) ∧
  ∀ (dt n : Nat) (s : State), Instr.wf (.stuckOnDetected dt n) = true → (s.found dt).on .bal = true → (s.found dt).faultOn 0x10 = false →
    (s.found dt).get (faultObj Obj.faultSeverity 0x10) ≠ 3 →
    Completes (.stuckOnDetected dt n) dt s ([Obj.balSwitchResult + n, Obj.balSwitchSuspect, Obj.balLockout] ++ faultObjects 0x10)
      ([.bal, .nvm, .loupe] ++ faultBlocks) (fun _ t =>
        bits (t.get (Obj.balSwitchResult + n)) 0 4 = 4 ∧ bit (t.get Obj.balSwitchSuspect) (n - 1) = true ∧
          bit (t.get Obj.balLockout) (n - 1) = true ∧ t.faultOn 0x10 = true)

/-- The triggers of a stop while a transfer session runs: each sets its source and ends the session with its END code; END is written once both gates are
low. -/
def Obligations.TransferStopsRun : Prop :=
  (∀ (dt : Nat) (s : State), SessionRuns (s.found dt) 0x12 → (s.found dt).on .bal = true →
    StopsSession (.xferOvercurrent dt) dt 0x12 1 s) ∧
  (∀ (dt : Nat) (s : State), SessionRuns (s.found dt) 0x13 → (s.found dt).xfer.start.isSome = true →
    StopsSession (.safetyTimerExpiry dt) dt 0x13 4 s) ∧
  (∀ (dt : Nat) (s : State), SessionRuns (s.found dt) 0x14 → (s.found dt).xfer.thermalRun = true →
    StopsSession (.thermalHoldExpiry dt) dt 0x14 3 s) ∧
  (∀ (dt : Nat) (s : State), SessionRuns (s.found dt) 0x15 → (s.found dt).forward = false → (s.found dt).xfer.firstOn.isSome = true →
    (s.found dt).xbsValid = false → StopsSession (.busRiseTimeout dt) dt 0x15 2 s) ∧
  (∀ (dt : Nat) (s : State), SessionRuns (s.found dt) 0x15 → (s.found dt).on .bal = true → (s.found dt).plan.gateEnable = true →
    StopsSession (.nxfltLow dt) dt 0x15 2 s) ∧
  ∀ (dt code at_ : Nat) (s : State), (s.found dt).xfer.stop = some (code, at_) →
    Completes (.stopSequenceComplete dt) dt s [Obj.xferStatus] [.xfer, .flt] (fun u t =>
      t.xferState = 0 ∧ bits (t.get Obj.xferStatus) 24 8 = code % 256 ∧ t.xfer.stop = none ∧ t.flt.status = u.flt.status)

/-- The Facet bus starts with a search; a window whose slots read as a clean word takes it (an EMPTY one becomes CANDIDATE) and shows its TYPE, VALUE and
stamp; one with no answered slot makes a PRESENT window LOSING; one that is neither counts a bad word; a line fault stops the frame and sets
0Dh. -/
def Obligations.FacetBusRuns : Prop :=
  (∀ (dt : Nat) (s : State), (s.found dt).on .icx = true → (s.found dt).get Obj.facetEnable = 1 → (s.found dt).facet.powered = false →
    Completes (.facetPowerPhaseEnd dt) dt s
      ([Obj.facetStatus, Obj.facetLimitStatus] ++ (List.range 8).map (fun k => Obj.facetValue + (k + 1))) [.facet, .flt] (fun _ t =>
      t.facetRuns = true ∧ t.facet.searchFrames = some 0 ∧ bit (t.get Obj.facetStatus) 0 = true ∧ bit (t.get Obj.facetStatus) 2 = true ∧
        ∀ k, k < 8 → t.facetState k = 0)) ∧
  (∀ (dt k w : Nat) (l : FacetLine) (s : State), Instr.wf (.facetWindowEnd dt k l) = true → k ≤ 6 → (s.found dt).facetRuns = true →
    (s.found dt).facet.stopped = false → twoFaults ((s.found dt).facet.lastFault :: slotFaults k l) = false → (s.found dt).facetState k = 0 →
    lineWord l = .bits w → facetClean w = true →
    Completes (.facetWindowEnd dt k l) dt s
      [Obj.facetValue + (k + 1), Obj.facetStamp + (k + 1), Obj.facetLimitStatus, Obj.facetStatus] [.facet, .flt] (fun u t =>
        t.facetState k = 1 ∧ bits (t.get (Obj.facetValue + (k + 1))) 28 4 = w / 2 ^ 20 ∧
          bits (t.get (Obj.facetValue + (k + 1))) 12 16 = bits w 4 16 ∧ t.get (Obj.facetStamp + (k + 1)) = u.ringTime)) ∧
  (∀ (dt k : Nat) (l : FacetLine) (s : State), Instr.wf (.facetWindowEnd dt k l) = true → k ≤ 6 → (s.found dt).facetRuns = true →
    (s.found dt).facet.stopped = false → twoFaults ((s.found dt).facet.lastFault :: slotFaults k l) = false → (s.found dt).facetState k < 2 →
    lineWord l = .timing →
    Completes (.facetWindowEnd dt k l) dt s
      [Obj.facetValue + (k + 1), Obj.facetErrorCount + (k + 1), Obj.facetLimitStatus, Obj.facetStatus] [.facet, .flt] (fun u t =>
        t.facetState k = 0 ∧ bit (t.get (Obj.facetValue + (k + 1))) 0 = true ∧
          t.get (Obj.facetErrorCount + (k + 1)) = sat 65535 (u.get (Obj.facetErrorCount + (k + 1)) + 1))) ∧
  (∀ (dt k : Nat) (l : FacetLine) (s : State), Instr.wf (.facetWindowEnd dt k l) = true → k ≤ 6 → (s.found dt).facetRuns = true →
    (s.found dt).facet.stopped = false → twoFaults ((s.found dt).facet.lastFault :: slotFaults k l) = false → (s.found dt).facetState k = 2 →
    lineWord l = .missing →
    Completes (.facetWindowEnd dt k l) dt s [Obj.facetValue + (k + 1), Obj.facetStatus] [.facet] (fun u t =>
      t.facetState k = 3 ∧
        bits (t.get (Obj.facetValue + (k + 1))) 4 8 = min 255 (bits (u.get (Obj.facetValue + (k + 1))) 4 8 + 1) ∧
        bits (t.get (Obj.facetValue + (k + 1))) 12 20 = bits (u.get (Obj.facetValue + (k + 1))) 12 20)) ∧
  (∀ (dt : Nat) (s : State), (s.found dt).facetRuns = true → (s.found dt).facet.stopped = true →
    (s.found dt).clk ≤ (s.found dt).facet.frameAt + 4 * ms → Completes (.facetLineFault dt) dt s [] [] (fun _ _ => True)) ∧
  ∀ (dt : Nat) (s : State), (s.found dt).facetRuns = true → (s.found dt).facet.stopped = false → (s.found dt).faultOn 0x0D = false →
    (s.found dt).get (faultObj Obj.faultSeverity 0x0D) ≠ 3 →
    Completes (.facetLineFault dt) dt s ([Obj.facetStatus, Obj.facetTimingCause] ++ faultObjects 0x0D) (.facet :: faultBlocks) (fun _ t =>
      t.facet.stopped = true ∧ bit (t.get Obj.facetStatus) 1 = true ∧ t.get Obj.facetTimingCause = 3 ∧ t.faultOn 0x0D = true)

/-! Ageing, NVM and the counter's copies. -/

/-- The hourly check of the reference, the daily record of the ledger and the repeated request for a plan; the margin scrub; the end of an NVM
operation: of a read that fails, once and lastingly, of a log record, a collection and a marker program, of one that fails with its copy, and of an
update's erase; the store of a device-written object; and a copy of the coulomb counter that disagrees. -/
def Obligations.UpkeepRuns : Prop :=
  (∀ (dt : Nat) (s : State), (s.found dt).supReady = true → (s.found dt).on .icx = true →
    Completes (.hourlyReferenceCheck dt) dt s [] [.test] (fun _ t => t.test.refOn = true ∧ t.test.refWarm = false ∧ t.test.refTaken = 0)) ∧
  (∀ (dt : Nat) (s : State), (s.found dt).test.refOn = true →
    Completes (.refDormantWarmUpEnd dt) dt s [] [.test] (fun _ t => t.test.refOn = true ∧ t.test.refWarm = true) ∧
    Completes (.refDormantTimeLimit dt) dt s [Obj.auxResult + 0x12] [.test] (fun u t =>
      t.test.refOn = false ∧ t.test.refTaken = 0 ∧ t.test.hours = u.test.hours)) ∧
  (∀ (dt : Nat) (s : State), (s.found dt).supReady = true → Calm (s.found dt) →
    ((s.found dt).nvm.op.isSome = true ∨ hasRoom 48 (s.found dt).nvm.log = true) →
    Leads (.dailyLedgerRecord dt) dt s (fun u t =>
      t.get Obj.ledgerCount = (u.get Obj.ledgerCount + 1) % 2 ^ 32 ∧ t.test.hours = 0 ∧
        ∃ r : List Nat, r.length = 32 ∧ leAt r 30 2 = crc16 (r.take 30) ∧
          LogRec.of 3 (u.get Obj.ledgerCount % 2 ^ 16) 0 r ∈ t.requestedRecs)) ∧
  (∀ (dt n : Nat) (d : Int) (s : State), (s.found dt).plan.running = RunningPlan.bank → (s.found dt).settleWorst = some (n, d) →
    Completes (.planRequestRepeat dt) dt s [Obj.planRequestStatus, Obj.eventsLost, Obj.ringEventsLost] [.port, .ring] (fun _ t =>
      t.get Obj.planRequestStatus / 2 ^ 16 = 256 + n)) ∧
  (∀ (dt : Nat) (margins sectors : List Nat) (lasting : Bool) (s : State), Instr.wf (.marginScrub dt margins sectors lasting) = true →
    (s.found dt).on .nvm = true → (s.found dt).supReady = true → Calm (s.found dt) →
    Leads (.marginScrub dt margins sectors lasting) dt s (fun u t =>
      t.get Obj.nvmScrubPassCount = (u.get Obj.nvmScrubPassCount + 1) % 2 ^ 32 ∧ (lasting = true → t.faultOn 0x27 = true) ∧
        ∀ r, 1 ≤ r → r ≤ 8 → u.regionUsed r = true → t.get (Obj.nvmRegionMargin + r) = margins.getD (r - 1) 100)) ∧
  (∀ (dt : Nat) (s : State), (s.found dt).on .nvm = true → (s.found dt).nvm.op = none →
    Completes (.nvmOperationComplete dt true false) dt s [] [] (fun _ _ => True) ∧
    Completes (.nvmOperationComplete dt false true) dt s [Obj.nvmRereads] [.free] (fun u t =>
      t.get Obj.nvmRereads =
        if u.wordErased (u.free 18) then u.get Obj.nvmRereads else sat (2 ^ 32 - 1) (u.get Obj.nvmRereads + 1)) ∧
    (Calm (s.found dt) → Leads (.nvmOperationComplete dt false false) dt s (fun u t =>
      u.wordErased (u.free 18) = false → t.faultOn 0x27 = true ∧ t.get Obj.nvmLastFault / 2 ^ 24 = 1))) ∧
  (∀ (dt index sub : Nat) (s : State), Instr.wf (.coalescedStateStore dt index sub true) = true → deviceP (index * 256 + sub) = true →
    (s.found dt).on .nvm = true → (s.found dt).supReady = true → Calm (s.found dt) →
    (s.found dt).logTakes (index * 256 + sub) ((s.found dt).get (index * 256 + sub) == Dict.default (index * 256 + sub)) = true →
    Leads (.coalescedStateStore dt index sub true) dt s (fun u t =>
      let k := index * 256 + sub
      let dft := u.get k == Dict.default k
      let r := objectRecord 2 k (u.get k) dft
      let l := (drainLog u).nvm.log
      t.nvm.log = logAppend (u.get Obj.nvmRefreshMargin) r l ∧
        (logRecs (logAppend (u.get Obj.nvmRefreshMargin) r l) = logRecs l ++ [r] → u.get k < 256 ^ objectSize k → objectSize k ≠ 0 →
          if dft then ∀ v, (k, v) ∉ t.stored else (k, u.get k) ∈ t.stored))) ∧
  (∀ (dt k : Nat) (s : State), k < 3 → (s.found dt).on .icx = true →
    (∀ p, (s.found dt).cur.repairAt = some p → p.1 + 4 < (s.found dt).clk ∨ p.2 ≠ k) →
    Completes (.counterCopyDisagreement dt k) dt s [Obj.currentRepairCount] [.cur] (fun u t =>
      t.cur.counter = u.cur.counter ∧ t.cur.copyBad = u.cur.copyBad ∧
        t.get Obj.currentRepairCount = sat 65535 (u.get Obj.currentRepairCount + 1))) ∧
  (∀ (dt k at_ : Nat) (s : State), k ≤ 3 → (s.found dt).on .icx = true →
    (k = 3 ∨ (s.found dt).cur.repairAt = some (at_, k) ∧ (s.found dt).clk ≤ at_ + 4) → (s.found dt).faultOn 0x0A = false →
    (s.found dt).get (faultObj Obj.faultSeverity 0x0A) ≠ 3 →
    Completes (.counterCopyDisagreement dt k) dt s (Obj.currentRepairCount :: faultObjects 0x0A) ([.cur, .free] ++ faultBlocks)
      (fun _ t => t.faultOn 0x0A = true ∧ t.cur.copyBad = true)) ∧
  (∀ (dt : Nat) (s : State),
    Completes (.counterSuspectClears dt) dt s [] [.cur, .flt] (fun u t => t.cur.copyBad = false ∧ t.flt.status = u.flt.status)) ∧
  (∀ (dt : Nat) (ok copyOk : Bool) (o : NvmOp) (s : State), (s.found dt).on .nvm = true → (s.found dt).nvm.op = some o →
    (s.found dt).nvm.queue = [] → (s.found dt).updStage ≠ 1 → (s.found dt).updStage ≠ 2 → (∀ i, o.work ≠ .copy i) → o.code ≠ 1 →
    Calm (s.found dt) → ok = true ∨ copyOk = true →
    Leads (.nvmOperationComplete dt ok copyOk) dt s (fun u t =>
      t.nvm.op = none ∧ (∀ r, o.work = .record r → t.nvm.log = logAppend (u.get Obj.nvmRefreshMargin) r u.nvm.log) ∧
        (∀ i, o.work = .reclaim i → t.nvm.log = eraseSector i u.nvm.log) ∧
        (∀ b w, o.work = .marker b w → t.fwSlot b = (setMarker b w u).fwSlot b))) ∧
  (∀ (dt : Nat) (o : NvmOp) (r : LogRec) (s : State), (s.found dt).on .nvm = true → (s.found dt).nvm.op = some o → o.work = .record r →
    o.code ≠ 1 → (s.found dt).openSector < (s.found dt).nvm.log.length →
    (s.found dt).nvm.log.any (fun x => x.state = 1) = true → Calm (s.found dt) → (s.found dt).updStage ≠ 1 →
    Leads (.nvmOperationComplete dt false false) dt s (fun u t =>
      (t.nvm.log[u.openSector]?).map (·.state) = some 3 ∧ t.faultOn 0x28 = true)) ∧
  ∀ (dt : Nat) (ok copyOk : Bool) (o : NvmOp) (row : List Nat) (s : State), (s.found dt).on .nvm = true → (s.found dt).nvm.op = some o →
    o.code = 4 → o.work = .update row → o.addr = fwBase (s.found dt).target + (s.found dt).nvm.erased * 4096 →
    (s.found dt).updStage = 1 → ok = true ∨ copyOk = true →
    Leads (.nvmOperationComplete dt ok copyOk) dt s (fun u t => t.nvm.erased = u.nvm.erased + 1)
end

