-- ==== Sys2Proof/Laws/Store.lean ====
section
/-! SUPPORT. The object store: what a read gives after a write, and that every write keeps the canonical form. -/

namespace Sys2Proof.Machine

theorem storeGet_storeErase_ne {l : List (Nat × Nat)} {k j : Nat} (h : j ≠ k) :
    storeGet (storeErase l k) j = storeGet l j := by
  induction l with
  | nil => rfl
  | cons p rest ih =>
    obtain ⟨a, v⟩ := p
    by_cases hk : a = k <;> by_cases hj : a = j <;> simp_all [storeErase, storeGet]

theorem storeGet_storeErase_self (l : List (Nat × Nat)) (k : Nat) :
    storeGet (storeErase l k) k = Dict.default k := by
  induction l with
  | nil => rfl
  | cons p rest ih =>
    obtain ⟨a, v⟩ := p
    by_cases hk : a = k <;> simp_all [storeErase, storeGet]

theorem storeGet_storeInsert_ne {l : List (Nat × Nat)} {k j v : Nat} (h : j ≠ k) :
    storeGet (storeInsert l k v) j = storeGet l j := by
  induction l with
  | nil => simp [storeInsert, storeGet, Ne.symm h]
  | cons p rest ih =>
    obtain ⟨a, w⟩ := p
    have hkj : ¬k = j := Ne.symm h
    by_cases hk : k < a
    · simp [storeInsert, storeGet, hk, hkj]
    · rw [storeInsert, if_neg hk]
      by_cases hj : a = j <;> simp [storeGet, hj, ih]

theorem storeGet_storeInsert_self {l : List (Nat × Nat)} {k : Nat} (v : Nat) (h : ∀ p ∈ l, p.1 ≠ k) :
    storeGet (storeInsert l k v) k = v := by
  induction l with
  | nil => simp [storeInsert, storeGet]
  | cons p rest ih =>
    obtain ⟨a, w⟩ := p
    have ha : ¬a = k := h (a, w) (by simp)
    by_cases hk : k < a
    · simp [storeInsert, storeGet, hk]
    · simp [storeInsert, storeGet, hk, ha, ih (fun p hp => h p (by simp [hp]))]

theorem not_mem_storeErase (l : List (Nat × Nat)) (k : Nat) : ∀ p ∈ storeErase l k, p.1 ≠ k := by
  induction l with
  | nil => simp [storeErase]
  | cons p rest ih =>
    obtain ⟨a, v⟩ := p
    by_cases hk : a = k
    · simpa only [storeErase, hk, ↓reduceIte] using ih
    · simp only [storeErase, hk, ↓reduceIte, List.mem_cons]
      rintro p (rfl | hp)
      · exact hk
      · exact ih p hp

/-- A read after a write of the same object gives the value written. -/
theorem storeGet_storeSet_self (l : List (Nat × Nat)) (k v : Nat) : storeGet (storeSet l k v) k = v := by
  by_cases hv : v = Dict.default k
  · simp [storeSet, hv, storeGet_storeErase_self]
  · simp [storeSet, hv, storeGet_storeInsert_self v (not_mem_storeErase l k)]

/-- A write leaves every other object alone. -/
theorem storeGet_storeSet_ne {l : List (Nat × Nat)} {k j : Nat} (v : Nat) (h : j ≠ k) :
    storeGet (storeSet l k v) j = storeGet l j := by
  by_cases hv : v = Dict.default k
  · simp [storeSet, hv, storeGet_storeErase_ne h]
  · simp [storeSet, hv, storeGet_storeInsert_ne h, storeGet_storeErase_ne h]

theorem mem_storeErase {l : List (Nat × Nat)} {k : Nat} {p : Nat × Nat} (h : p ∈ storeErase l k) : p ∈ l := by
  induction l with
  | nil => simp [storeErase] at h
  | cons q rest ih =>
    obtain ⟨a, v⟩ := q
    by_cases hk : a = k
    · simp only [storeErase, hk, ↓reduceIte] at h
      exact List.mem_cons_of_mem _ (ih h)
    · simp only [storeErase, hk, ↓reduceIte, List.mem_cons] at h
      rcases h with h | h
      · simp [h]
      · exact List.mem_cons_of_mem _ (ih h)

theorem storeErase_wf {l : List (Nat × Nat)} (k : Nat) (h : storeWf l) : storeWf (storeErase l k) := by
  refine ⟨?_, fun p hp => h.2 p (mem_storeErase hp)⟩
  obtain ⟨hs, -⟩ := h
  induction l with
  | nil => simp [storeErase]
  | cons q rest ih =>
    obtain ⟨a, v⟩ := q
    rw [List.pairwise_cons] at hs
    by_cases hk : a = k
    · simpa [storeErase, hk] using ih hs.2
    · simp only [storeErase, hk, ↓reduceIte, List.pairwise_cons]
      exact ⟨fun p hp => hs.1 p (mem_storeErase hp), ih hs.2⟩

theorem mem_storeInsert {l : List (Nat × Nat)} {k v : Nat} {p : Nat × Nat} (h : p ∈ storeInsert l k v) :
    p = (k, v) ∨ p ∈ l := by
  induction l with
  | nil => simpa [storeInsert] using h
  | cons q rest ih =>
    obtain ⟨a, w⟩ := q
    by_cases hk : k < a
    · simpa [storeInsert, hk] using h
    · simp only [storeInsert, hk, ↓reduceIte, List.mem_cons] at h
      rcases h with h | h
      · simp [h]
      · rcases ih h with h | h <;> simp [h]

theorem storeInsert_wf {l : List (Nat × Nat)} {k v : Nat} (h : storeWf l) (hk : ∀ p ∈ l, p.1 ≠ k)
    (hv : v ≠ Dict.default k) : storeWf (storeInsert l k v) := by
  refine ⟨?_, fun p hp => ?_⟩
  · obtain ⟨hs, -⟩ := h
    induction l with
    | nil => simp [storeInsert]
    | cons q rest ih =>
      obtain ⟨a, w⟩ := q
      rw [List.pairwise_cons] at hs
      have ha : a ≠ k := hk (a, w) (by simp)
      by_cases hlt : k < a
      · rw [storeInsert, if_pos hlt, List.pairwise_cons, List.pairwise_cons]
        refine ⟨fun p hp => ?_, hs.1, hs.2⟩
        rcases List.mem_cons.mp hp with rfl | hp
        · exact hlt
        · exact lt_trans hlt (hs.1 p hp)
      · rw [storeInsert, if_neg hlt, List.pairwise_cons]
        refine ⟨fun p hp => ?_, ih (fun p hp => hk p (by simp [hp])) hs.2⟩
        rcases mem_storeInsert hp with rfl | hp
        · show a < k
          omega
        · exact hs.1 p hp
  · rcases mem_storeInsert hp with rfl | hp
    · exact hv
    · exact h.2 p hp

/-- Every write of the store keeps its canonical form. -/
theorem storeSet_wf {l : List (Nat × Nat)} (k v : Nat) (h : storeWf l) : storeWf (storeSet l k v) := by
  by_cases hv : v = Dict.default k
  · simpa only [storeSet, hv, ↓reduceIte] using storeErase_wf k h
  · simpa only [storeSet, hv, ↓reduceIte] using storeInsert_wf (storeErase_wf k h) (not_mem_storeErase l k) hv

@[simp] theorem State.get_set_self (s : State) (k v : Nat) : (s.set k v).get k = v := storeGet_storeSet_self _ _ _

theorem State.get_set_ne (s : State) {k j : Nat} (v : Nat) (h : j ≠ k) : (s.set k v).get j = s.get j :=
  storeGet_storeSet_ne v h

theorem State.get_set (s : State) (k v j : Nat) : (s.set k v).get j = if j = k then v else s.get j := by
  by_cases h : j = k
  · simp [h]
  · simp [h, State.get_set_ne s v h]

theorem State.set_objs_wf {s : State} (k v : Nat) (h : storeWf s.objs) : storeWf (s.set k v).objs := storeSet_wf k v h

end Sys2Proof.Machine
end

