-- ==== Sys2Proof/Laws/State.lean ====
section
/-! SUPPORT. One lemma per field of State per small update, each true by definition, so that no later proof unfolds a record
update. -/

namespace Sys2Proof.Machine

/-! The update set. -/

@[simp] theorem State.set_pending (s : State) (k v : Nat) : (s.set k v).pending = s.pending := rfl
@[simp] theorem State.set_clk (s : State) (k v : Nat) : (s.set k v).clk = s.clk := rfl
@[simp] theorem State.set_ringTime (s : State) (k v : Nat) : (s.set k v).ringTime = s.ringTime := rfl
@[simp] theorem State.set_freeCtr (s : State) (k v : Nat) : (s.set k v).freeCtr = s.freeCtr := rfl
@[simp] theorem State.set_latest (s : State) (k v : Nat) : (s.set k v).latest = s.latest := rfl
@[simp] theorem State.set_staged (s : State) (k v : Nat) : (s.set k v).staged = s.staged := rfl
@[simp] theorem State.set_notifyQ (s : State) (k v : Nat) : (s.set k v).notifyQ = s.notifyQ := rfl
@[simp] theorem State.set_port (s : State) (k v : Nat) : (s.set k v).port = s.port := rfl
@[simp] theorem State.set_mode (s : State) (k v : Nat) : (s.set k v).mode = s.mode := rfl
@[simp] theorem State.set_time (s : State) (k v : Nat) : (s.set k v).time = s.time := rfl
@[simp] theorem State.set_cells (s : State) (k v : Nat) : (s.set k v).cells = s.cells := rfl
@[simp] theorem State.set_cur (s : State) (k v : Nat) : (s.set k v).cur = s.cur := rfl
@[simp] theorem State.set_aux (s : State) (k v : Nat) : (s.set k v).aux = s.aux := rfl
@[simp] theorem State.set_facet (s : State) (k v : Nat) : (s.set k v).facet = s.facet := rfl
@[simp] theorem State.set_plan (s : State) (k v : Nat) : (s.set k v).plan = s.plan := rfl
@[simp] theorem State.set_bal (s : State) (k v : Nat) : (s.set k v).bal = s.bal := rfl
@[simp] theorem State.set_loupe (s : State) (k v : Nat) : (s.set k v).loupe = s.loupe := rfl
@[simp] theorem State.set_xfer (s : State) (k v : Nat) : (s.set k v).xfer = s.xfer := rfl
@[simp] theorem State.set_ring (s : State) (k v : Nat) : (s.set k v).ring = s.ring := rfl
@[simp] theorem State.set_safe (s : State) (k v : Nat) : (s.set k v).safe = s.safe := rfl
@[simp] theorem State.set_flt (s : State) (k v : Nat) : (s.set k v).flt = s.flt := rfl
@[simp] theorem State.set_check (s : State) (k v : Nat) : (s.set k v).check = s.check := rfl
@[simp] theorem State.set_test (s : State) (k v : Nat) : (s.set k v).test = s.test := rfl
@[simp] theorem State.set_nvm (s : State) (k v : Nat) : (s.set k v).nvm = s.nvm := rfl

/-! The update setField. -/

@[simp] theorem State.setField_pending (s : State) (k lo w x : Nat) : (s.setField k lo w x).pending = s.pending := rfl
@[simp] theorem State.setField_clk (s : State) (k lo w x : Nat) : (s.setField k lo w x).clk = s.clk := rfl
@[simp] theorem State.setField_ringTime (s : State) (k lo w x : Nat) : (s.setField k lo w x).ringTime = s.ringTime := rfl
@[simp] theorem State.setField_freeCtr (s : State) (k lo w x : Nat) : (s.setField k lo w x).freeCtr = s.freeCtr := rfl
@[simp] theorem State.setField_latest (s : State) (k lo w x : Nat) : (s.setField k lo w x).latest = s.latest := rfl
@[simp] theorem State.setField_staged (s : State) (k lo w x : Nat) : (s.setField k lo w x).staged = s.staged := rfl
@[simp] theorem State.setField_notifyQ (s : State) (k lo w x : Nat) : (s.setField k lo w x).notifyQ = s.notifyQ := rfl
@[simp] theorem State.setField_port (s : State) (k lo w x : Nat) : (s.setField k lo w x).port = s.port := rfl
@[simp] theorem State.setField_mode (s : State) (k lo w x : Nat) : (s.setField k lo w x).mode = s.mode := rfl
@[simp] theorem State.setField_time (s : State) (k lo w x : Nat) : (s.setField k lo w x).time = s.time := rfl
@[simp] theorem State.setField_cells (s : State) (k lo w x : Nat) : (s.setField k lo w x).cells = s.cells := rfl
@[simp] theorem State.setField_cur (s : State) (k lo w x : Nat) : (s.setField k lo w x).cur = s.cur := rfl
@[simp] theorem State.setField_aux (s : State) (k lo w x : Nat) : (s.setField k lo w x).aux = s.aux := rfl
@[simp] theorem State.setField_facet (s : State) (k lo w x : Nat) : (s.setField k lo w x).facet = s.facet := rfl
@[simp] theorem State.setField_plan (s : State) (k lo w x : Nat) : (s.setField k lo w x).plan = s.plan := rfl
@[simp] theorem State.setField_bal (s : State) (k lo w x : Nat) : (s.setField k lo w x).bal = s.bal := rfl
@[simp] theorem State.setField_loupe (s : State) (k lo w x : Nat) : (s.setField k lo w x).loupe = s.loupe := rfl
@[simp] theorem State.setField_xfer (s : State) (k lo w x : Nat) : (s.setField k lo w x).xfer = s.xfer := rfl
@[simp] theorem State.setField_ring (s : State) (k lo w x : Nat) : (s.setField k lo w x).ring = s.ring := rfl
@[simp] theorem State.setField_safe (s : State) (k lo w x : Nat) : (s.setField k lo w x).safe = s.safe := rfl
@[simp] theorem State.setField_flt (s : State) (k lo w x : Nat) : (s.setField k lo w x).flt = s.flt := rfl
@[simp] theorem State.setField_check (s : State) (k lo w x : Nat) : (s.setField k lo w x).check = s.check := rfl
@[simp] theorem State.setField_test (s : State) (k lo w x : Nat) : (s.setField k lo w x).test = s.test := rfl
@[simp] theorem State.setField_nvm (s : State) (k lo w x : Nat) : (s.setField k lo w x).nvm = s.nvm := rfl

/-! The update setBitOf. -/

@[simp] theorem State.setBitOf_pending (s : State) (k n : Nat) (b : Bool) : (s.setBitOf k n b).pending = s.pending := rfl
@[simp] theorem State.setBitOf_clk (s : State) (k n : Nat) (b : Bool) : (s.setBitOf k n b).clk = s.clk := rfl
@[simp] theorem State.setBitOf_ringTime (s : State) (k n : Nat) (b : Bool) : (s.setBitOf k n b).ringTime = s.ringTime := rfl
@[simp] theorem State.setBitOf_freeCtr (s : State) (k n : Nat) (b : Bool) : (s.setBitOf k n b).freeCtr = s.freeCtr := rfl
@[simp] theorem State.setBitOf_latest (s : State) (k n : Nat) (b : Bool) : (s.setBitOf k n b).latest = s.latest := rfl
@[simp] theorem State.setBitOf_staged (s : State) (k n : Nat) (b : Bool) : (s.setBitOf k n b).staged = s.staged := rfl
@[simp] theorem State.setBitOf_notifyQ (s : State) (k n : Nat) (b : Bool) : (s.setBitOf k n b).notifyQ = s.notifyQ := rfl
@[simp] theorem State.setBitOf_port (s : State) (k n : Nat) (b : Bool) : (s.setBitOf k n b).port = s.port := rfl
@[simp] theorem State.setBitOf_mode (s : State) (k n : Nat) (b : Bool) : (s.setBitOf k n b).mode = s.mode := rfl
@[simp] theorem State.setBitOf_time (s : State) (k n : Nat) (b : Bool) : (s.setBitOf k n b).time = s.time := rfl
@[simp] theorem State.setBitOf_cells (s : State) (k n : Nat) (b : Bool) : (s.setBitOf k n b).cells = s.cells := rfl
@[simp] theorem State.setBitOf_cur (s : State) (k n : Nat) (b : Bool) : (s.setBitOf k n b).cur = s.cur := rfl
@[simp] theorem State.setBitOf_aux (s : State) (k n : Nat) (b : Bool) : (s.setBitOf k n b).aux = s.aux := rfl
@[simp] theorem State.setBitOf_facet (s : State) (k n : Nat) (b : Bool) : (s.setBitOf k n b).facet = s.facet := rfl
@[simp] theorem State.setBitOf_plan (s : State) (k n : Nat) (b : Bool) : (s.setBitOf k n b).plan = s.plan := rfl
@[simp] theorem State.setBitOf_bal (s : State) (k n : Nat) (b : Bool) : (s.setBitOf k n b).bal = s.bal := rfl
@[simp] theorem State.setBitOf_loupe (s : State) (k n : Nat) (b : Bool) : (s.setBitOf k n b).loupe = s.loupe := rfl
@[simp] theorem State.setBitOf_xfer (s : State) (k n : Nat) (b : Bool) : (s.setBitOf k n b).xfer = s.xfer := rfl
@[simp] theorem State.setBitOf_ring (s : State) (k n : Nat) (b : Bool) : (s.setBitOf k n b).ring = s.ring := rfl
@[simp] theorem State.setBitOf_safe (s : State) (k n : Nat) (b : Bool) : (s.setBitOf k n b).safe = s.safe := rfl
@[simp] theorem State.setBitOf_flt (s : State) (k n : Nat) (b : Bool) : (s.setBitOf k n b).flt = s.flt := rfl
@[simp] theorem State.setBitOf_check (s : State) (k n : Nat) (b : Bool) : (s.setBitOf k n b).check = s.check := rfl
@[simp] theorem State.setBitOf_test (s : State) (k n : Nat) (b : Bool) : (s.setBitOf k n b).test = s.test := rfl
@[simp] theorem State.setBitOf_nvm (s : State) (k n : Nat) (b : Bool) : (s.setBitOf k n b).nvm = s.nvm := rfl

/-! The update count. -/

@[simp] theorem State.count_pending (s : State) (k w : Nat) : (s.count k w).pending = s.pending := rfl
@[simp] theorem State.count_clk (s : State) (k w : Nat) : (s.count k w).clk = s.clk := rfl
@[simp] theorem State.count_ringTime (s : State) (k w : Nat) : (s.count k w).ringTime = s.ringTime := rfl
@[simp] theorem State.count_freeCtr (s : State) (k w : Nat) : (s.count k w).freeCtr = s.freeCtr := rfl
@[simp] theorem State.count_latest (s : State) (k w : Nat) : (s.count k w).latest = s.latest := rfl
@[simp] theorem State.count_staged (s : State) (k w : Nat) : (s.count k w).staged = s.staged := rfl
@[simp] theorem State.count_notifyQ (s : State) (k w : Nat) : (s.count k w).notifyQ = s.notifyQ := rfl
@[simp] theorem State.count_port (s : State) (k w : Nat) : (s.count k w).port = s.port := rfl
@[simp] theorem State.count_mode (s : State) (k w : Nat) : (s.count k w).mode = s.mode := rfl
@[simp] theorem State.count_time (s : State) (k w : Nat) : (s.count k w).time = s.time := rfl
@[simp] theorem State.count_cells (s : State) (k w : Nat) : (s.count k w).cells = s.cells := rfl
@[simp] theorem State.count_cur (s : State) (k w : Nat) : (s.count k w).cur = s.cur := rfl
@[simp] theorem State.count_aux (s : State) (k w : Nat) : (s.count k w).aux = s.aux := rfl
@[simp] theorem State.count_facet (s : State) (k w : Nat) : (s.count k w).facet = s.facet := rfl
@[simp] theorem State.count_plan (s : State) (k w : Nat) : (s.count k w).plan = s.plan := rfl
@[simp] theorem State.count_bal (s : State) (k w : Nat) : (s.count k w).bal = s.bal := rfl
@[simp] theorem State.count_loupe (s : State) (k w : Nat) : (s.count k w).loupe = s.loupe := rfl
@[simp] theorem State.count_xfer (s : State) (k w : Nat) : (s.count k w).xfer = s.xfer := rfl
@[simp] theorem State.count_ring (s : State) (k w : Nat) : (s.count k w).ring = s.ring := rfl
@[simp] theorem State.count_safe (s : State) (k w : Nat) : (s.count k w).safe = s.safe := rfl
@[simp] theorem State.count_flt (s : State) (k w : Nat) : (s.count k w).flt = s.flt := rfl
@[simp] theorem State.count_check (s : State) (k w : Nat) : (s.count k w).check = s.check := rfl
@[simp] theorem State.count_test (s : State) (k w : Nat) : (s.count k w).test = s.test := rfl
@[simp] theorem State.count_nvm (s : State) (k w : Nat) : (s.count k w).nvm = s.nvm := rfl

/-! The update wrap. -/

@[simp] theorem State.wrap_pending (s : State) (k w : Nat) : (s.wrap k w).pending = s.pending := rfl
@[simp] theorem State.wrap_clk (s : State) (k w : Nat) : (s.wrap k w).clk = s.clk := rfl
@[simp] theorem State.wrap_ringTime (s : State) (k w : Nat) : (s.wrap k w).ringTime = s.ringTime := rfl
@[simp] theorem State.wrap_freeCtr (s : State) (k w : Nat) : (s.wrap k w).freeCtr = s.freeCtr := rfl
@[simp] theorem State.wrap_latest (s : State) (k w : Nat) : (s.wrap k w).latest = s.latest := rfl
@[simp] theorem State.wrap_staged (s : State) (k w : Nat) : (s.wrap k w).staged = s.staged := rfl
@[simp] theorem State.wrap_notifyQ (s : State) (k w : Nat) : (s.wrap k w).notifyQ = s.notifyQ := rfl
@[simp] theorem State.wrap_port (s : State) (k w : Nat) : (s.wrap k w).port = s.port := rfl
@[simp] theorem State.wrap_mode (s : State) (k w : Nat) : (s.wrap k w).mode = s.mode := rfl
@[simp] theorem State.wrap_time (s : State) (k w : Nat) : (s.wrap k w).time = s.time := rfl
@[simp] theorem State.wrap_cells (s : State) (k w : Nat) : (s.wrap k w).cells = s.cells := rfl
@[simp] theorem State.wrap_cur (s : State) (k w : Nat) : (s.wrap k w).cur = s.cur := rfl
@[simp] theorem State.wrap_aux (s : State) (k w : Nat) : (s.wrap k w).aux = s.aux := rfl
@[simp] theorem State.wrap_facet (s : State) (k w : Nat) : (s.wrap k w).facet = s.facet := rfl
@[simp] theorem State.wrap_plan (s : State) (k w : Nat) : (s.wrap k w).plan = s.plan := rfl
@[simp] theorem State.wrap_bal (s : State) (k w : Nat) : (s.wrap k w).bal = s.bal := rfl
@[simp] theorem State.wrap_loupe (s : State) (k w : Nat) : (s.wrap k w).loupe = s.loupe := rfl
@[simp] theorem State.wrap_xfer (s : State) (k w : Nat) : (s.wrap k w).xfer = s.xfer := rfl
@[simp] theorem State.wrap_ring (s : State) (k w : Nat) : (s.wrap k w).ring = s.ring := rfl
@[simp] theorem State.wrap_safe (s : State) (k w : Nat) : (s.wrap k w).safe = s.safe := rfl
@[simp] theorem State.wrap_flt (s : State) (k w : Nat) : (s.wrap k w).flt = s.flt := rfl
@[simp] theorem State.wrap_check (s : State) (k w : Nat) : (s.wrap k w).check = s.check := rfl
@[simp] theorem State.wrap_test (s : State) (k w : Nat) : (s.wrap k w).test = s.test := rfl
@[simp] theorem State.wrap_nvm (s : State) (k w : Nat) : (s.wrap k w).nvm = s.nvm := rfl

/-! The update clear. -/

@[simp] theorem State.clear_pending (s : State) (k : Nat) : (s.clear k).pending = s.pending := rfl
@[simp] theorem State.clear_clk (s : State) (k : Nat) : (s.clear k).clk = s.clk := rfl
@[simp] theorem State.clear_ringTime (s : State) (k : Nat) : (s.clear k).ringTime = s.ringTime := rfl
@[simp] theorem State.clear_freeCtr (s : State) (k : Nat) : (s.clear k).freeCtr = s.freeCtr := rfl
@[simp] theorem State.clear_latest (s : State) (k : Nat) : (s.clear k).latest = s.latest := rfl
@[simp] theorem State.clear_staged (s : State) (k : Nat) : (s.clear k).staged = s.staged := rfl
@[simp] theorem State.clear_notifyQ (s : State) (k : Nat) : (s.clear k).notifyQ = s.notifyQ := rfl
@[simp] theorem State.clear_port (s : State) (k : Nat) : (s.clear k).port = s.port := rfl
@[simp] theorem State.clear_mode (s : State) (k : Nat) : (s.clear k).mode = s.mode := rfl
@[simp] theorem State.clear_time (s : State) (k : Nat) : (s.clear k).time = s.time := rfl
@[simp] theorem State.clear_cells (s : State) (k : Nat) : (s.clear k).cells = s.cells := rfl
@[simp] theorem State.clear_cur (s : State) (k : Nat) : (s.clear k).cur = s.cur := rfl
@[simp] theorem State.clear_aux (s : State) (k : Nat) : (s.clear k).aux = s.aux := rfl
@[simp] theorem State.clear_facet (s : State) (k : Nat) : (s.clear k).facet = s.facet := rfl
@[simp] theorem State.clear_plan (s : State) (k : Nat) : (s.clear k).plan = s.plan := rfl
@[simp] theorem State.clear_bal (s : State) (k : Nat) : (s.clear k).bal = s.bal := rfl
@[simp] theorem State.clear_loupe (s : State) (k : Nat) : (s.clear k).loupe = s.loupe := rfl
@[simp] theorem State.clear_xfer (s : State) (k : Nat) : (s.clear k).xfer = s.xfer := rfl
@[simp] theorem State.clear_ring (s : State) (k : Nat) : (s.clear k).ring = s.ring := rfl
@[simp] theorem State.clear_safe (s : State) (k : Nat) : (s.clear k).safe = s.safe := rfl
@[simp] theorem State.clear_flt (s : State) (k : Nat) : (s.clear k).flt = s.flt := rfl
@[simp] theorem State.clear_check (s : State) (k : Nat) : (s.clear k).check = s.check := rfl
@[simp] theorem State.clear_test (s : State) (k : Nat) : (s.clear k).test = s.test := rfl
@[simp] theorem State.clear_nvm (s : State) (k : Nat) : (s.clear k).nvm = s.nvm := rfl

/-! The update freeUsed. -/

@[simp] theorem State.freeUsed_pending (s : State) : (s.freeUsed).pending = s.pending := rfl
@[simp] theorem State.freeUsed_clk (s : State) : (s.freeUsed).clk = s.clk := rfl
@[simp] theorem State.freeUsed_ringTime (s : State) : (s.freeUsed).ringTime = s.ringTime := rfl
@[simp] theorem State.freeUsed_objs (s : State) : (s.freeUsed).objs = s.objs := rfl
@[simp] theorem State.freeUsed_latest (s : State) : (s.freeUsed).latest = s.latest := rfl
@[simp] theorem State.freeUsed_staged (s : State) : (s.freeUsed).staged = s.staged := rfl
@[simp] theorem State.freeUsed_notifyQ (s : State) : (s.freeUsed).notifyQ = s.notifyQ := rfl
@[simp] theorem State.freeUsed_port (s : State) : (s.freeUsed).port = s.port := rfl
@[simp] theorem State.freeUsed_mode (s : State) : (s.freeUsed).mode = s.mode := rfl
@[simp] theorem State.freeUsed_time (s : State) : (s.freeUsed).time = s.time := rfl
@[simp] theorem State.freeUsed_cells (s : State) : (s.freeUsed).cells = s.cells := rfl
@[simp] theorem State.freeUsed_cur (s : State) : (s.freeUsed).cur = s.cur := rfl
@[simp] theorem State.freeUsed_aux (s : State) : (s.freeUsed).aux = s.aux := rfl
@[simp] theorem State.freeUsed_facet (s : State) : (s.freeUsed).facet = s.facet := rfl
@[simp] theorem State.freeUsed_plan (s : State) : (s.freeUsed).plan = s.plan := rfl
@[simp] theorem State.freeUsed_bal (s : State) : (s.freeUsed).bal = s.bal := rfl
@[simp] theorem State.freeUsed_loupe (s : State) : (s.freeUsed).loupe = s.loupe := rfl
@[simp] theorem State.freeUsed_xfer (s : State) : (s.freeUsed).xfer = s.xfer := rfl
@[simp] theorem State.freeUsed_ring (s : State) : (s.freeUsed).ring = s.ring := rfl
@[simp] theorem State.freeUsed_safe (s : State) : (s.freeUsed).safe = s.safe := rfl
@[simp] theorem State.freeUsed_flt (s : State) : (s.freeUsed).flt = s.flt := rfl
@[simp] theorem State.freeUsed_check (s : State) : (s.freeUsed).check = s.check := rfl
@[simp] theorem State.freeUsed_test (s : State) : (s.freeUsed).test = s.test := rfl
@[simp] theorem State.freeUsed_nvm (s : State) : (s.freeUsed).nvm = s.nvm := rfl

/-! The update queue. -/

@[simp] theorem State.queue_pending (s : State) (p : OutPkt) : (s.queue p).pending = s.pending := rfl
@[simp] theorem State.queue_clk (s : State) (p : OutPkt) : (s.queue p).clk = s.clk := rfl
@[simp] theorem State.queue_ringTime (s : State) (p : OutPkt) : (s.queue p).ringTime = s.ringTime := rfl
@[simp] theorem State.queue_freeCtr (s : State) (p : OutPkt) : (s.queue p).freeCtr = s.freeCtr := rfl
@[simp] theorem State.queue_objs (s : State) (p : OutPkt) : (s.queue p).objs = s.objs := rfl
@[simp] theorem State.queue_latest (s : State) (p : OutPkt) : (s.queue p).latest = s.latest := rfl
@[simp] theorem State.queue_staged (s : State) (p : OutPkt) : (s.queue p).staged = s.staged := rfl
@[simp] theorem State.queue_notifyQ (s : State) (p : OutPkt) : (s.queue p).notifyQ = s.notifyQ := rfl
@[simp] theorem State.queue_mode (s : State) (p : OutPkt) : (s.queue p).mode = s.mode := rfl
@[simp] theorem State.queue_time (s : State) (p : OutPkt) : (s.queue p).time = s.time := rfl
@[simp] theorem State.queue_cells (s : State) (p : OutPkt) : (s.queue p).cells = s.cells := rfl
@[simp] theorem State.queue_cur (s : State) (p : OutPkt) : (s.queue p).cur = s.cur := rfl
@[simp] theorem State.queue_aux (s : State) (p : OutPkt) : (s.queue p).aux = s.aux := rfl
@[simp] theorem State.queue_facet (s : State) (p : OutPkt) : (s.queue p).facet = s.facet := rfl
@[simp] theorem State.queue_plan (s : State) (p : OutPkt) : (s.queue p).plan = s.plan := rfl
@[simp] theorem State.queue_bal (s : State) (p : OutPkt) : (s.queue p).bal = s.bal := rfl
@[simp] theorem State.queue_loupe (s : State) (p : OutPkt) : (s.queue p).loupe = s.loupe := rfl
@[simp] theorem State.queue_xfer (s : State) (p : OutPkt) : (s.queue p).xfer = s.xfer := rfl
@[simp] theorem State.queue_ring (s : State) (p : OutPkt) : (s.queue p).ring = s.ring := rfl
@[simp] theorem State.queue_safe (s : State) (p : OutPkt) : (s.queue p).safe = s.safe := rfl
@[simp] theorem State.queue_flt (s : State) (p : OutPkt) : (s.queue p).flt = s.flt := rfl
@[simp] theorem State.queue_check (s : State) (p : OutPkt) : (s.queue p).check = s.check := rfl
@[simp] theorem State.queue_test (s : State) (p : OutPkt) : (s.queue p).test = s.test := rfl
@[simp] theorem State.queue_nvm (s : State) (p : OutPkt) : (s.queue p).nvm = s.nvm := rfl

/-! The update setSessions. -/

@[simp] theorem State.setSessions_pending (s : State) (l : List Session) : (s.setSessions l).pending = s.pending := rfl
@[simp] theorem State.setSessions_clk (s : State) (l : List Session) : (s.setSessions l).clk = s.clk := rfl
@[simp] theorem State.setSessions_ringTime (s : State) (l : List Session) : (s.setSessions l).ringTime = s.ringTime := rfl
@[simp] theorem State.setSessions_freeCtr (s : State) (l : List Session) : (s.setSessions l).freeCtr = s.freeCtr := rfl
@[simp] theorem State.setSessions_objs (s : State) (l : List Session) : (s.setSessions l).objs = s.objs := rfl
@[simp] theorem State.setSessions_latest (s : State) (l : List Session) : (s.setSessions l).latest = s.latest := rfl
@[simp] theorem State.setSessions_staged (s : State) (l : List Session) : (s.setSessions l).staged = s.staged := rfl
@[simp] theorem State.setSessions_notifyQ (s : State) (l : List Session) : (s.setSessions l).notifyQ = s.notifyQ := rfl
@[simp] theorem State.setSessions_mode (s : State) (l : List Session) : (s.setSessions l).mode = s.mode := rfl
@[simp] theorem State.setSessions_time (s : State) (l : List Session) : (s.setSessions l).time = s.time := rfl
@[simp] theorem State.setSessions_cells (s : State) (l : List Session) : (s.setSessions l).cells = s.cells := rfl
@[simp] theorem State.setSessions_cur (s : State) (l : List Session) : (s.setSessions l).cur = s.cur := rfl
@[simp] theorem State.setSessions_aux (s : State) (l : List Session) : (s.setSessions l).aux = s.aux := rfl
@[simp] theorem State.setSessions_facet (s : State) (l : List Session) : (s.setSessions l).facet = s.facet := rfl
@[simp] theorem State.setSessions_plan (s : State) (l : List Session) : (s.setSessions l).plan = s.plan := rfl
@[simp] theorem State.setSessions_bal (s : State) (l : List Session) : (s.setSessions l).bal = s.bal := rfl
@[simp] theorem State.setSessions_loupe (s : State) (l : List Session) : (s.setSessions l).loupe = s.loupe := rfl
@[simp] theorem State.setSessions_xfer (s : State) (l : List Session) : (s.setSessions l).xfer = s.xfer := rfl
@[simp] theorem State.setSessions_ring (s : State) (l : List Session) : (s.setSessions l).ring = s.ring := rfl
@[simp] theorem State.setSessions_safe (s : State) (l : List Session) : (s.setSessions l).safe = s.safe := rfl
@[simp] theorem State.setSessions_flt (s : State) (l : List Session) : (s.setSessions l).flt = s.flt := rfl
@[simp] theorem State.setSessions_check (s : State) (l : List Session) : (s.setSessions l).check = s.check := rfl
@[simp] theorem State.setSessions_test (s : State) (l : List Session) : (s.setSessions l).test = s.test := rfl
@[simp] theorem State.setSessions_nvm (s : State) (l : List Session) : (s.setSessions l).nvm = s.nvm := rfl

/-! The update setEnm. -/

@[simp] theorem State.setEnm_pending (s : State) (e : EnumEng) : (s.setEnm e).pending = s.pending := rfl
@[simp] theorem State.setEnm_clk (s : State) (e : EnumEng) : (s.setEnm e).clk = s.clk := rfl
@[simp] theorem State.setEnm_ringTime (s : State) (e : EnumEng) : (s.setEnm e).ringTime = s.ringTime := rfl
@[simp] theorem State.setEnm_freeCtr (s : State) (e : EnumEng) : (s.setEnm e).freeCtr = s.freeCtr := rfl
@[simp] theorem State.setEnm_objs (s : State) (e : EnumEng) : (s.setEnm e).objs = s.objs := rfl
@[simp] theorem State.setEnm_latest (s : State) (e : EnumEng) : (s.setEnm e).latest = s.latest := rfl
@[simp] theorem State.setEnm_staged (s : State) (e : EnumEng) : (s.setEnm e).staged = s.staged := rfl
@[simp] theorem State.setEnm_notifyQ (s : State) (e : EnumEng) : (s.setEnm e).notifyQ = s.notifyQ := rfl
@[simp] theorem State.setEnm_port (s : State) (e : EnumEng) : (s.setEnm e).port = s.port := rfl
@[simp] theorem State.setEnm_mode (s : State) (e : EnumEng) : (s.setEnm e).mode = s.mode := rfl
@[simp] theorem State.setEnm_time (s : State) (e : EnumEng) : (s.setEnm e).time = s.time := rfl
@[simp] theorem State.setEnm_cells (s : State) (e : EnumEng) : (s.setEnm e).cells = s.cells := rfl
@[simp] theorem State.setEnm_cur (s : State) (e : EnumEng) : (s.setEnm e).cur = s.cur := rfl
@[simp] theorem State.setEnm_aux (s : State) (e : EnumEng) : (s.setEnm e).aux = s.aux := rfl
@[simp] theorem State.setEnm_facet (s : State) (e : EnumEng) : (s.setEnm e).facet = s.facet := rfl
@[simp] theorem State.setEnm_plan (s : State) (e : EnumEng) : (s.setEnm e).plan = s.plan := rfl
@[simp] theorem State.setEnm_bal (s : State) (e : EnumEng) : (s.setEnm e).bal = s.bal := rfl
@[simp] theorem State.setEnm_loupe (s : State) (e : EnumEng) : (s.setEnm e).loupe = s.loupe := rfl
@[simp] theorem State.setEnm_xfer (s : State) (e : EnumEng) : (s.setEnm e).xfer = s.xfer := rfl
@[simp] theorem State.setEnm_safe (s : State) (e : EnumEng) : (s.setEnm e).safe = s.safe := rfl
@[simp] theorem State.setEnm_flt (s : State) (e : EnumEng) : (s.setEnm e).flt = s.flt := rfl
@[simp] theorem State.setEnm_check (s : State) (e : EnumEng) : (s.setEnm e).check = s.check := rfl
@[simp] theorem State.setEnm_test (s : State) (e : EnumEng) : (s.setEnm e).test = s.test := rfl
@[simp] theorem State.setEnm_nvm (s : State) (e : EnumEng) : (s.setEnm e).nvm = s.nvm := rfl

/-! The update power. -/

@[simp] theorem State.power_pending (s : State) (d : Domain) (b : Bool) : (s.power d b).pending = s.pending := rfl
@[simp] theorem State.power_clk (s : State) (d : Domain) (b : Bool) : (s.power d b).clk = s.clk := rfl
@[simp] theorem State.power_ringTime (s : State) (d : Domain) (b : Bool) : (s.power d b).ringTime = s.ringTime := rfl
@[simp] theorem State.power_freeCtr (s : State) (d : Domain) (b : Bool) : (s.power d b).freeCtr = s.freeCtr := rfl
@[simp] theorem State.power_latest (s : State) (d : Domain) (b : Bool) : (s.power d b).latest = s.latest := rfl
@[simp] theorem State.power_staged (s : State) (d : Domain) (b : Bool) : (s.power d b).staged = s.staged := rfl
@[simp] theorem State.power_notifyQ (s : State) (d : Domain) (b : Bool) : (s.power d b).notifyQ = s.notifyQ := rfl
@[simp] theorem State.power_port (s : State) (d : Domain) (b : Bool) : (s.power d b).port = s.port := rfl
@[simp] theorem State.power_mode (s : State) (d : Domain) (b : Bool) : (s.power d b).mode = s.mode := rfl
@[simp] theorem State.power_time (s : State) (d : Domain) (b : Bool) : (s.power d b).time = s.time := rfl
@[simp] theorem State.power_cells (s : State) (d : Domain) (b : Bool) : (s.power d b).cells = s.cells := rfl
@[simp] theorem State.power_cur (s : State) (d : Domain) (b : Bool) : (s.power d b).cur = s.cur := rfl
@[simp] theorem State.power_aux (s : State) (d : Domain) (b : Bool) : (s.power d b).aux = s.aux := rfl
@[simp] theorem State.power_facet (s : State) (d : Domain) (b : Bool) : (s.power d b).facet = s.facet := rfl
@[simp] theorem State.power_plan (s : State) (d : Domain) (b : Bool) : (s.power d b).plan = s.plan := rfl
@[simp] theorem State.power_bal (s : State) (d : Domain) (b : Bool) : (s.power d b).bal = s.bal := rfl
@[simp] theorem State.power_loupe (s : State) (d : Domain) (b : Bool) : (s.power d b).loupe = s.loupe := rfl
@[simp] theorem State.power_xfer (s : State) (d : Domain) (b : Bool) : (s.power d b).xfer = s.xfer := rfl
@[simp] theorem State.power_ring (s : State) (d : Domain) (b : Bool) : (s.power d b).ring = s.ring := rfl
@[simp] theorem State.power_safe (s : State) (d : Domain) (b : Bool) : (s.power d b).safe = s.safe := rfl
@[simp] theorem State.power_flt (s : State) (d : Domain) (b : Bool) : (s.power d b).flt = s.flt := rfl
@[simp] theorem State.power_check (s : State) (d : Domain) (b : Bool) : (s.power d b).check = s.check := rfl
@[simp] theorem State.power_test (s : State) (d : Domain) (b : Bool) : (s.power d b).test = s.test := rfl
@[simp] theorem State.power_nvm (s : State) (d : Domain) (b : Bool) : (s.power d b).nvm = s.nvm := rfl

/-! The update portCount. -/

@[simp] theorem State.portCount_pending (s : State) (k : Nat) (p : Side) : (s.portCount k p).pending = s.pending := rfl
@[simp] theorem State.portCount_clk (s : State) (k : Nat) (p : Side) : (s.portCount k p).clk = s.clk := rfl
@[simp] theorem State.portCount_ringTime (s : State) (k : Nat) (p : Side) : (s.portCount k p).ringTime = s.ringTime := rfl
@[simp] theorem State.portCount_freeCtr (s : State) (k : Nat) (p : Side) : (s.portCount k p).freeCtr = s.freeCtr := rfl
@[simp] theorem State.portCount_latest (s : State) (k : Nat) (p : Side) : (s.portCount k p).latest = s.latest := rfl
@[simp] theorem State.portCount_staged (s : State) (k : Nat) (p : Side) : (s.portCount k p).staged = s.staged := rfl
@[simp] theorem State.portCount_notifyQ (s : State) (k : Nat) (p : Side) : (s.portCount k p).notifyQ = s.notifyQ := rfl
@[simp] theorem State.portCount_port (s : State) (k : Nat) (p : Side) : (s.portCount k p).port = s.port := rfl
@[simp] theorem State.portCount_mode (s : State) (k : Nat) (p : Side) : (s.portCount k p).mode = s.mode := rfl
@[simp] theorem State.portCount_time (s : State) (k : Nat) (p : Side) : (s.portCount k p).time = s.time := rfl
@[simp] theorem State.portCount_cells (s : State) (k : Nat) (p : Side) : (s.portCount k p).cells = s.cells := rfl
@[simp] theorem State.portCount_cur (s : State) (k : Nat) (p : Side) : (s.portCount k p).cur = s.cur := rfl
@[simp] theorem State.portCount_aux (s : State) (k : Nat) (p : Side) : (s.portCount k p).aux = s.aux := rfl
@[simp] theorem State.portCount_facet (s : State) (k : Nat) (p : Side) : (s.portCount k p).facet = s.facet := rfl
@[simp] theorem State.portCount_plan (s : State) (k : Nat) (p : Side) : (s.portCount k p).plan = s.plan := rfl
@[simp] theorem State.portCount_bal (s : State) (k : Nat) (p : Side) : (s.portCount k p).bal = s.bal := rfl
@[simp] theorem State.portCount_loupe (s : State) (k : Nat) (p : Side) : (s.portCount k p).loupe = s.loupe := rfl
@[simp] theorem State.portCount_xfer (s : State) (k : Nat) (p : Side) : (s.portCount k p).xfer = s.xfer := rfl
@[simp] theorem State.portCount_ring (s : State) (k : Nat) (p : Side) : (s.portCount k p).ring = s.ring := rfl
@[simp] theorem State.portCount_safe (s : State) (k : Nat) (p : Side) : (s.portCount k p).safe = s.safe := rfl
@[simp] theorem State.portCount_flt (s : State) (k : Nat) (p : Side) : (s.portCount k p).flt = s.flt := rfl
@[simp] theorem State.portCount_check (s : State) (k : Nat) (p : Side) : (s.portCount k p).check = s.check := rfl
@[simp] theorem State.portCount_test (s : State) (k : Nat) (p : Side) : (s.portCount k p).test = s.test := rfl
@[simp] theorem State.portCount_nvm (s : State) (k : Nat) (p : Side) : (s.portCount k p).nvm = s.nvm := rfl

@[simp] theorem State.get_freeUsed (s : State) (k : Nat) : (s.freeUsed).get k = s.get k := rfl
@[simp] theorem State.get_queue (s : State) (p : OutPkt) (k : Nat) : (s.queue p).get k = s.get k := rfl
@[simp] theorem State.get_setSessions (s : State) (l : List Session) (k : Nat) : (s.setSessions l).get k = s.get k := rfl
@[simp] theorem State.get_setEnm (s : State) (e : EnumEng) (k : Nat) : (s.setEnm e).get k = s.get k := rfl

/-! Objects after an update of a field, a bit or a count. -/

@[simp] theorem State.get_setField_self (s : State) (k lo w x : Nat) : (s.setField k lo w x).get k = setBits (s.get k) lo w x :=
  State.get_set_self _ _ _

theorem State.get_setField_ne (s : State) {k j : Nat} (lo w x : Nat) (h : j ≠ k) : (s.setField k lo w x).get j = s.get j :=
  State.get_set_ne _ _ h

@[simp] theorem State.get_setBitOf_self (s : State) (k n : Nat) (b : Bool) :
    (s.setBitOf k n b).get k = setBits (s.get k) n 1 (num b) := State.get_set_self _ _ _

theorem State.get_setBitOf_ne (s : State) {k j : Nat} (n : Nat) (b : Bool) (h : j ≠ k) : (s.setBitOf k n b).get j = s.get j :=
  State.get_set_ne _ _ h

@[simp] theorem State.get_count_self (s : State) (k w : Nat) : (s.count k w).get k = sat (2 ^ w - 1) (s.get k + 1) :=
  State.get_set_self _ _ _

theorem State.get_count_ne (s : State) {k j : Nat} (w : Nat) (h : j ≠ k) : (s.count k w).get j = s.get j :=
  State.get_set_ne _ _ h

@[simp] theorem State.get_wrap_self (s : State) (k w : Nat) : (s.wrap k w).get k = (s.get k + 1) % 2 ^ w :=
  State.get_set_self _ _ _

theorem State.get_wrap_ne (s : State) {k j : Nat} (w : Nat) (h : j ≠ k) : (s.wrap k w).get j = s.get j :=
  State.get_set_ne _ _ h

/-- What a value with a field set is made of. -/
theorem setBits_eq (v lo w x : Nat) :
    setBits v lo w x = v / 2 ^ (lo + w) * 2 ^ (lo + w) + x % 2 ^ w * 2 ^ lo + v % 2 ^ lo := by
  have h1 : v = v / 2 ^ lo * 2 ^ lo + v % 2 ^ lo := (Nat.div_add_mod' v (2 ^ lo)).symm
  have h2 : v / 2 ^ lo = v / 2 ^ lo / 2 ^ w * 2 ^ w + v / 2 ^ lo % 2 ^ w := (Nat.div_add_mod' _ _).symm
  have h3 : v / 2 ^ lo / 2 ^ w = v / 2 ^ (lo + w) := by rw [Nat.div_div_eq_div_mul, pow_add]
  have h4 : v = v / 2 ^ (lo + w) * 2 ^ (lo + w) + v / 2 ^ lo % 2 ^ w * 2 ^ lo + v % 2 ^ lo := by
    calc v = v / 2 ^ lo * 2 ^ lo + v % 2 ^ lo := h1
      _ = (v / 2 ^ (lo + w) * 2 ^ w + v / 2 ^ lo % 2 ^ w) * 2 ^ lo + v % 2 ^ lo := by rw [← h3, ← h2]
      _ = _ := by rw [pow_add]; ring
  unfold setBits bits
  omega

/-- A field that has been set reads as it was set. -/
theorem bits_setBits (v lo w x : Nat) : bits (setBits v lo w x) lo w = x % 2 ^ w := by
  have hl : 0 < 2 ^ lo := by positivity
  have hr : v % 2 ^ lo < 2 ^ lo := Nat.mod_lt _ hl
  have h : setBits v lo w x = (v / 2 ^ (lo + w) * 2 ^ w + x % 2 ^ w) * 2 ^ lo + v % 2 ^ lo := by
    rw [setBits_eq, pow_add]; ring
  unfold bits
  rw [h, Nat.add_comm, Nat.add_mul_div_right _ _ hl, Nat.div_eq_of_lt hr, Nat.zero_add, Nat.add_comm, Nat.add_mul_mod_self_right,
    Nat.mod_mod]

/-- A field above one that has been set reads as before. -/
theorem bits_setBits_above (v lo w x lo' w' : Nat) (h : lo + w ≤ lo') : bits (setBits v lo w x) lo' w' = bits v lo' w' := by
  have hl : 0 < 2 ^ (lo + w) := by positivity
  have hlt : x % 2 ^ w * 2 ^ lo + v % 2 ^ lo < 2 ^ (lo + w) := by
    have h1 : x % 2 ^ w < 2 ^ w := Nat.mod_lt _ (by positivity)
    have h2 : v % 2 ^ lo < 2 ^ lo := Nat.mod_lt _ (by positivity)
    calc x % 2 ^ w * 2 ^ lo + v % 2 ^ lo < x % 2 ^ w * 2 ^ lo + 2 ^ lo := by omega
      _ = (x % 2 ^ w + 1) * 2 ^ lo := by ring
      _ ≤ 2 ^ w * 2 ^ lo := Nat.mul_le_mul_right _ h1
      _ = 2 ^ (lo + w) := by rw [pow_add]; ring
  have hq : setBits v lo w x / 2 ^ (lo + w) = v / 2 ^ (lo + w) := by
    rw [setBits_eq, Nat.add_assoc, Nat.add_comm, Nat.add_mul_div_right _ _ hl, Nat.div_eq_of_lt hlt, Nat.zero_add]
  have hsplit : (2 : Nat) ^ lo' = 2 ^ (lo + w) * 2 ^ (lo' - (lo + w)) := by rw [← pow_add]; congr 1; omega
  unfold bits
  rw [hsplit, ← Nat.div_div_eq_div_mul, hq, Nat.div_div_eq_div_mul]

/-- A field below one that has been set reads as before. -/
theorem bits_setBits_below (v lo w x lo' w' : Nat) (h : lo' + w' ≤ lo) : bits (setBits v lo w x) lo' w' = bits v lo' w' := by
  have key : ∀ y, y / 2 ^ lo' % 2 ^ w' = y % 2 ^ lo / 2 ^ lo' % 2 ^ w' := by
    intro y
    have hs : (2 : Nat) ^ lo = 2 ^ lo' * 2 ^ (lo - lo') := by rw [← pow_add]; congr 1; omega
    rw [hs, Nat.mod_mul_right_div_self]
    exact (Nat.mod_mod_of_dvd _ (pow_dvd_pow 2 (by omega))).symm
  have hm : setBits v lo w x % 2 ^ lo = v % 2 ^ lo := by
    have : setBits v lo w x = v % 2 ^ lo + (v / 2 ^ (lo + w) * 2 ^ w + x % 2 ^ w) * 2 ^ lo := by
      rw [setBits_eq, pow_add]; ring
    rw [this, Nat.add_mul_mod_self_right, Nat.mod_mod]
  unfold bits
  rw [key, hm, ← key]

/-- A bit that has been set reads as it was set. -/
theorem bit_setBits_self (v n : Nat) (b : Bool) : bit (setBits v n 1 (num b)) n = b := by
  have h : setBits v n 1 (num b) / 2 ^ n % 2 ^ 1 = num b % 2 ^ 1 := bits_setBits v n 1 (num b)
  rw [pow_one] at h
  show (setBits v n 1 (num b) / 2 ^ n % 2 == 1) = b
  rw [h]
  cases b <;> rfl

/-- A bit outside one that has been set reads as before. -/
theorem bit_setBits_ne (v n m x : Nat) (h : m ≠ n) : bit (setBits v n 1 x) m = bit v m := by
  have hb : bits (setBits v n 1 x) m 1 = bits v m 1 := by
    rcases Nat.lt_or_gt_of_ne h with h | h
    · exact bits_setBits_below v n 1 x m 1 (by omega)
    · exact bits_setBits_above v n 1 x m 1 (by omega)
  have hb' : setBits v n 1 x / 2 ^ m % 2 = v / 2 ^ m % 2 := by simpa only [bits, pow_one] using hb
  simp only [bit, hb']

end Sys2Proof.Machine
end

