-- ==== Sys2Proof/Laws/Settle.lean ====
section
/-! SUPPORT. What the settling at the end of a command leaves alone, and what it establishes. -/

namespace Sys2Proof.Machine

/-! A safety record changes the frames that wait and their numbers alone. -/

@[simp] theorem sendSafety_pending (u : Bool) (s : State) : (sendSafety u s).pending = s.pending := by
  unfold sendSafety; split <;> rfl
@[simp] theorem sendSafety_clk (u : Bool) (s : State) : (sendSafety u s).clk = s.clk := by
  unfold sendSafety; split <;> rfl
@[simp] theorem sendSafety_ringTime (u : Bool) (s : State) : (sendSafety u s).ringTime = s.ringTime := by
  unfold sendSafety; split <;> rfl
@[simp] theorem sendSafety_freeCtr (u : Bool) (s : State) : (sendSafety u s).freeCtr = s.freeCtr := by
  unfold sendSafety; split <;> rfl
@[simp] theorem sendSafety_objs (u : Bool) (s : State) : (sendSafety u s).objs = s.objs := by
  unfold sendSafety; split <;> rfl
@[simp] theorem sendSafety_latest (u : Bool) (s : State) : (sendSafety u s).latest = s.latest := by
  unfold sendSafety; split <;> rfl
@[simp] theorem sendSafety_staged (u : Bool) (s : State) : (sendSafety u s).staged = s.staged := by
  unfold sendSafety; split <;> rfl
@[simp] theorem sendSafety_notifyQ (u : Bool) (s : State) : (sendSafety u s).notifyQ = s.notifyQ := by
  unfold sendSafety; split <;> rfl
@[simp] theorem sendSafety_port (u : Bool) (s : State) : (sendSafety u s).port = s.port := by
  unfold sendSafety; split <;> rfl
@[simp] theorem sendSafety_mode (u : Bool) (s : State) : (sendSafety u s).mode = s.mode := by
  unfold sendSafety; split <;> rfl
@[simp] theorem sendSafety_time (u : Bool) (s : State) : (sendSafety u s).time = s.time := by
  unfold sendSafety; split <;> rfl
@[simp] theorem sendSafety_cur (u : Bool) (s : State) : (sendSafety u s).cur = s.cur := by
  unfold sendSafety; split <;> rfl
@[simp] theorem sendSafety_aux (u : Bool) (s : State) : (sendSafety u s).aux = s.aux := by
  unfold sendSafety; split <;> rfl
@[simp] theorem sendSafety_facet (u : Bool) (s : State) : (sendSafety u s).facet = s.facet := by
  unfold sendSafety; split <;> rfl
@[simp] theorem sendSafety_plan (u : Bool) (s : State) : (sendSafety u s).plan = s.plan := by
  unfold sendSafety; split <;> rfl
@[simp] theorem sendSafety_bal (u : Bool) (s : State) : (sendSafety u s).bal = s.bal := by
  unfold sendSafety; split <;> rfl
@[simp] theorem sendSafety_loupe (u : Bool) (s : State) : (sendSafety u s).loupe = s.loupe := by
  unfold sendSafety; split <;> rfl
@[simp] theorem sendSafety_xfer (u : Bool) (s : State) : (sendSafety u s).xfer = s.xfer := by
  unfold sendSafety; split <;> rfl
@[simp] theorem sendSafety_flt (u : Bool) (s : State) : (sendSafety u s).flt = s.flt := by
  unfold sendSafety; split <;> rfl
@[simp] theorem sendSafety_check (u : Bool) (s : State) : (sendSafety u s).check = s.check := by
  unfold sendSafety; split <;> rfl
@[simp] theorem sendSafety_test (u : Bool) (s : State) : (sendSafety u s).test = s.test := by
  unfold sendSafety; split <;> rfl
@[simp] theorem sendSafety_nvm (u : Bool) (s : State) : (sendSafety u s).nvm = s.nvm := by
  unfold sendSafety; split <;> rfl
@[simp] theorem sendSafety_cells (u : Bool) (s : State) : (sendSafety u s).cells = s.cells := by
  unfold sendSafety; split <;> rfl
@[simp] theorem sendSafety_safe (u : Bool) (s : State) : (sendSafety u s).safe = s.safe := by
  unfold sendSafety; split <;> rfl
@[simp] theorem sendSafety_ring_north (u : Bool) (s : State) : (sendSafety u s).ring.north = s.ring.north := by
  unfold sendSafety; split <;> rfl
@[simp] theorem sendSafety_ring_south (u : Bool) (s : State) : (sendSafety u s).ring.south = s.ring.south := by
  unfold sendSafety; split <;> rfl
@[simp] theorem sendSafety_ring_lineN (u : Bool) (s : State) : (sendSafety u s).ring.lineN = s.ring.lineN := by
  unfold sendSafety; split <;> rfl
@[simp] theorem sendSafety_ring_lineS (u : Bool) (s : State) : (sendSafety u s).ring.lineS = s.ring.lineS := by
  unfold sendSafety; split <;> rfl
@[simp] theorem sendSafety_ring_seen (u : Bool) (s : State) : (sendSafety u s).ring.seen = s.ring.seen := by
  unfold sendSafety; split <;> rfl
@[simp] theorem sendSafety_ring_bulk (u : Bool) (s : State) : (sendSafety u s).ring.bulk = s.ring.bulk := by
  unfold sendSafety; split <;> rfl
@[simp] theorem sendSafety_ring_xid (u : Bool) (s : State) : (sendSafety u s).ring.xid = s.ring.xid := by
  unfold sendSafety; split <;> rfl
@[simp] theorem sendSafety_ring_cmds (u : Bool) (s : State) : (sendSafety u s).ring.cmds = s.ring.cmds := by
  unfold sendSafety; split <;> rfl
@[simp] theorem sendSafety_ring_slots (u : Bool) (s : State) : (sendSafety u s).ring.slots = s.ring.slots := by
  unfold sendSafety; split <;> rfl
@[simp] theorem sendSafety_ring_legacyWait (u : Bool) (s : State) : (sendSafety u s).ring.legacyWait = s.ring.legacyWait := by
  unfold sendSafety; split <;> rfl
@[simp] theorem sendSafety_ring_legacyRx (u : Bool) (s : State) : (sendSafety u s).ring.legacyRx = s.ring.legacyRx := by
  unfold sendSafety; split <;> rfl
@[simp] theorem sendSafety_ring_enm (u : Bool) (s : State) : (sendSafety u s).ring.enm = s.ring.enm := by
  unfold sendSafety; split <;> rfl
@[simp] theorem sendSafety_ring_deputy (u : Bool) (s : State) : (sendSafety u s).ring.deputy = s.ring.deputy := by
  unfold sendSafety; split <;> rfl
@[simp] theorem sendSafety_ring_markCw (u : Bool) (s : State) : (sendSafety u s).ring.markCw = s.ring.markCw := by
  unfold sendSafety; split <;> rfl
@[simp] theorem sendSafety_ring_markCcw (u : Bool) (s : State) : (sendSafety u s).ring.markCcw = s.ring.markCcw := by
  unfold sendSafety; split <;> rfl
@[simp] theorem sendSafety_ring_prevCw (u : Bool) (s : State) : (sendSafety u s).ring.prevCw = s.ring.prevCw := by
  unfold sendSafety; split <;> rfl
@[simp] theorem sendSafety_ring_prevCcw (u : Bool) (s : State) : (sendSafety u s).ring.prevCcw = s.ring.prevCcw := by
  unfold sendSafety; split <;> rfl
@[simp] theorem sendSafety_ring_stopAt (u : Bool) (s : State) : (sendSafety u s).ring.stopAt = s.ring.stopAt := by
  unfold sendSafety; split <;> rfl
@[simp] theorem sendSafety_ring_lastMarkAt (u : Bool) (s : State) : (sendSafety u s).ring.lastMarkAt = s.ring.lastMarkAt := by
  unfold sendSafety; split <;> rfl
@[simp] theorem sendSafety_ring_delivered (u : Bool) (s : State) : (sendSafety u s).ring.delivered = s.ring.delivered := by
  unfold sendSafety; split <;> rfl
@[simp] theorem sendSafety_ring_eventsWait (u : Bool) (s : State) : (sendSafety u s).ring.eventsWait = s.ring.eventsWait := by
  unfold sendSafety; split <;> rfl
@[simp] theorem sendSafety_ring_rxBase (u : Bool) (s : State) : (sendSafety u s).ring.rxBase = s.ring.rxBase := by
  unfold sendSafety; split <;> rfl
@[simp] theorem sendSafety_ring_reportCount (u : Bool) (s : State) : (sendSafety u s).ring.reportCount = s.ring.reportCount := by
  unfold sendSafety; split <;> rfl
@[simp] theorem sendSafety_ring_setBad (u : Bool) (s : State) : (sendSafety u s).ring.setBad = s.ring.setBad := by
  unfold sendSafety; split <;> rfl

/-! Settling. -/

@[simp] theorem settle_pending (s : State) : (settle s).pending = s.pending := by
  unfold settle settlePermits settleRecord regularRecord recordAt settleGates openCen; dsimp only; split_ifs <;> simp
@[simp] theorem settle_clk (s : State) : (settle s).clk = s.clk := by
  unfold settle settlePermits settleRecord regularRecord recordAt settleGates openCen; dsimp only; split_ifs <;> simp
@[simp] theorem settle_ringTime (s : State) : (settle s).ringTime = s.ringTime := by
  unfold settle settlePermits settleRecord regularRecord recordAt settleGates openCen; dsimp only; split_ifs <;> simp
@[simp] theorem settle_freeCtr (s : State) : (settle s).freeCtr = s.freeCtr := by
  unfold settle settlePermits settleRecord regularRecord recordAt settleGates openCen; dsimp only; split_ifs <;> simp
@[simp] theorem settle_objs (s : State) : (settle s).objs = s.objs := by
  unfold settle settlePermits settleRecord regularRecord recordAt settleGates openCen; dsimp only; split_ifs <;> simp
@[simp] theorem settle_latest (s : State) : (settle s).latest = s.latest := by
  unfold settle settlePermits settleRecord regularRecord recordAt settleGates openCen; dsimp only; split_ifs <;> simp
@[simp] theorem settle_staged (s : State) : (settle s).staged = s.staged := by
  unfold settle settlePermits settleRecord regularRecord recordAt settleGates openCen; dsimp only; split_ifs <;> simp
@[simp] theorem settle_notifyQ (s : State) : (settle s).notifyQ = s.notifyQ := by
  unfold settle settlePermits settleRecord regularRecord recordAt settleGates openCen; dsimp only; split_ifs <;> simp
@[simp] theorem settle_port (s : State) : (settle s).port = s.port := by
  unfold settle settlePermits settleRecord regularRecord recordAt settleGates openCen; dsimp only; split_ifs <;> simp
@[simp] theorem settle_mode (s : State) : (settle s).mode = s.mode := by
  unfold settle settlePermits settleRecord regularRecord recordAt settleGates openCen; dsimp only; split_ifs <;> simp
@[simp] theorem settle_time (s : State) : (settle s).time = s.time := by
  unfold settle settlePermits settleRecord regularRecord recordAt settleGates openCen; dsimp only; split_ifs <;> simp
@[simp] theorem settle_cur (s : State) : (settle s).cur = s.cur := by
  unfold settle settlePermits settleRecord regularRecord recordAt settleGates openCen; dsimp only; split_ifs <;> simp
@[simp] theorem settle_aux (s : State) : (settle s).aux = s.aux := by
  unfold settle settlePermits settleRecord regularRecord recordAt settleGates openCen; dsimp only; split_ifs <;> simp
@[simp] theorem settle_facet (s : State) : (settle s).facet = s.facet := by
  unfold settle settlePermits settleRecord regularRecord recordAt settleGates openCen; dsimp only; split_ifs <;> simp
@[simp] theorem settle_plan (s : State) : (settle s).plan = s.plan := by
  unfold settle settlePermits settleRecord regularRecord recordAt settleGates openCen; dsimp only; split_ifs <;> simp
@[simp] theorem settle_bal (s : State) : (settle s).bal = s.bal := by
  unfold settle settlePermits settleRecord regularRecord recordAt settleGates openCen; dsimp only; split_ifs <;> simp
@[simp] theorem settle_loupe (s : State) : (settle s).loupe = s.loupe := by
  unfold settle settlePermits settleRecord regularRecord recordAt settleGates openCen; dsimp only; split_ifs <;> simp
@[simp] theorem settle_xfer (s : State) : (settle s).xfer = s.xfer := by
  unfold settle settlePermits settleRecord regularRecord recordAt settleGates openCen; dsimp only; split_ifs <;> simp
@[simp] theorem settle_flt (s : State) : (settle s).flt = s.flt := by
  unfold settle settlePermits settleRecord regularRecord recordAt settleGates openCen; dsimp only; split_ifs <;> simp
@[simp] theorem settle_check (s : State) : (settle s).check = s.check := by
  unfold settle settlePermits settleRecord regularRecord recordAt settleGates openCen; dsimp only; split_ifs <;> simp
@[simp] theorem settle_test (s : State) : (settle s).test = s.test := by
  unfold settle settlePermits settleRecord regularRecord recordAt settleGates openCen; dsimp only; split_ifs <;> simp
@[simp] theorem settle_nvm (s : State) : (settle s).nvm = s.nvm := by
  unfold settle settlePermits settleRecord regularRecord recordAt settleGates openCen; dsimp only; split_ifs <;> simp
@[simp] theorem settle_cells_count (s : State) : (settle s).cells.count = s.cells.count := by
  unfold settle settlePermits settleRecord regularRecord recordAt settleGates openCen; dsimp only; split_ifs <;> simp
@[simp] theorem settle_cells_sp1 (s : State) : (settle s).cells.sp1 = s.cells.sp1 := by
  unfold settle settlePermits settleRecord regularRecord recordAt settleGates openCen; dsimp only; split_ifs <;> simp
@[simp] theorem settle_cells_sp2 (s : State) : (settle s).cells.sp2 = s.cells.sp2 := by
  unfold settle settlePermits settleRecord regularRecord recordAt settleGates openCen; dsimp only; split_ifs <;> simp
@[simp] theorem settle_cells_releasing (s : State) : (settle s).cells.releasing = s.cells.releasing := by
  unfold settle settlePermits settleRecord regularRecord recordAt settleGates openCen; dsimp only; split_ifs <;> simp
@[simp] theorem settle_cells_retiring (s : State) : (settle s).cells.retiring = s.cells.retiring := by
  unfold settle settlePermits settleRecord regularRecord recordAt settleGates openCen; dsimp only; split_ifs <;> simp
@[simp] theorem settle_cells_reinstate (s : State) : (settle s).cells.reinstate = s.cells.reinstate := by
  unfold settle settlePermits settleRecord regularRecord recordAt settleGates openCen; dsimp only; split_ifs <;> simp
@[simp] theorem settle_cells_wireOff (s : State) : (settle s).cells.wireOff = s.cells.wireOff := by
  unfold settle settlePermits settleRecord regularRecord recordAt settleGates openCen; dsimp only; split_ifs <;> simp
@[simp] theorem settle_cells_counts (s : State) : (settle s).cells.counts = s.cells.counts := by
  unfold settle settlePermits settleRecord regularRecord recordAt settleGates openCen; dsimp only; split_ifs <;> simp
@[simp] theorem settle_cells_convFail (s : State) : (settle s).cells.convFail = s.cells.convFail := by
  unfold settle settlePermits settleRecord regularRecord recordAt settleGates openCen; dsimp only; split_ifs <;> simp
@[simp] theorem settle_cells_openRef (s : State) : (settle s).cells.openRef = s.cells.openRef := by
  unfold settle settlePermits settleRecord regularRecord recordAt settleGates openCen; dsimp only; split_ifs <;> simp
@[simp] theorem settle_cells_tests (s : State) : (settle s).cells.tests = s.cells.tests := by
  unfold settle settlePermits settleRecord regularRecord recordAt settleGates openCen; dsimp only; split_ifs <;> simp
@[simp] theorem settle_cells_sumRow (s : State) : (settle s).cells.sumRow = s.cells.sumRow := by
  unfold settle settlePermits settleRecord regularRecord recordAt settleGates openCen; dsimp only; split_ifs <;> simp
@[simp] theorem settle_cells_stk (s : State) : (settle s).cells.stk = s.cells.stk := by
  unfold settle settlePermits settleRecord regularRecord recordAt settleGates openCen; dsimp only; split_ifs <;> simp
@[simp] theorem settle_cells_sumCycle (s : State) : (settle s).cells.sumCycle = s.cells.sumCycle := by
  unfold settle settlePermits settleRecord regularRecord recordAt settleGates openCen; dsimp only; split_ifs <;> simp
@[simp] theorem settle_cells_recent (s : State) : (settle s).cells.recent = s.cells.recent := by
  unfold settle settlePermits settleRecord regularRecord recordAt settleGates openCen; dsimp only; split_ifs <;> simp
@[simp] theorem settle_cells_terms (s : State) : (settle s).cells.terms = s.cells.terms := by
  unfold settle settlePermits settleRecord regularRecord recordAt settleGates openCen; dsimp only; split_ifs <;> simp
@[simp] theorem settle_cells_cycleVals (s : State) : (settle s).cells.cycleVals = s.cells.cycleVals := by
  unfold settle settlePermits settleRecord regularRecord recordAt settleGates openCen; dsimp only; split_ifs <;> simp
@[simp] theorem settle_cells_prevSetA (s : State) : (settle s).cells.prevSetA = s.cells.prevSetA := by
  unfold settle settlePermits settleRecord regularRecord recordAt settleGates openCen; dsimp only; split_ifs <;> simp
@[simp] theorem settle_cells_unit (s : State) : (settle s).cells.unit = s.cells.unit := by
  unfold settle settlePermits settleRecord regularRecord recordAt settleGates openCen; dsimp only; split_ifs <;> simp
@[simp] theorem settle_cells_reports (s : State) : (settle s).cells.reports = s.cells.reports := by
  unfold settle settlePermits settleRecord regularRecord recordAt settleGates openCen; dsimp only; split_ifs <;> simp
@[simp] theorem settle_cells_confirmed (s : State) : (settle s).cells.confirmed = s.cells.confirmed := by
  unfold settle settlePermits settleRecord regularRecord recordAt settleGates openCen; dsimp only; split_ifs <;> simp
@[simp] theorem settle_cells_ovlFail (s : State) : (settle s).cells.ovlFail = s.cells.ovlFail := by
  unfold settle settlePermits settleRecord regularRecord recordAt settleGates openCen; dsimp only; split_ifs <;> simp
@[simp] theorem settle_cells_lbFail (s : State) : (settle s).cells.lbFail = s.cells.lbFail := by
  unfold settle settlePermits settleRecord regularRecord recordAt settleGates openCen; dsimp only; split_ifs <;> simp
@[simp] theorem settle_cells_badConv (s : State) : (settle s).cells.badConv = s.cells.badConv := by
  unfold settle settlePermits settleRecord regularRecord recordAt settleGates openCen; dsimp only; split_ifs <;> simp
@[simp] theorem settle_cells_tableBad (s : State) : (settle s).cells.tableBad = s.cells.tableBad := by
  unfold settle settlePermits settleRecord regularRecord recordAt settleGates openCen; dsimp only; split_ifs <;> simp
@[simp] theorem settle_ring_north (s : State) : (settle s).ring.north = s.ring.north := by
  unfold settle settlePermits settleRecord regularRecord recordAt settleGates openCen; dsimp only; split_ifs <;> simp
@[simp] theorem settle_ring_south (s : State) : (settle s).ring.south = s.ring.south := by
  unfold settle settlePermits settleRecord regularRecord recordAt settleGates openCen; dsimp only; split_ifs <;> simp
@[simp] theorem settle_ring_lineN (s : State) : (settle s).ring.lineN = s.ring.lineN := by
  unfold settle settlePermits settleRecord regularRecord recordAt settleGates openCen; dsimp only; split_ifs <;> simp
@[simp] theorem settle_ring_lineS (s : State) : (settle s).ring.lineS = s.ring.lineS := by
  unfold settle settlePermits settleRecord regularRecord recordAt settleGates openCen; dsimp only; split_ifs <;> simp
@[simp] theorem settle_ring_seen (s : State) : (settle s).ring.seen = s.ring.seen := by
  unfold settle settlePermits settleRecord regularRecord recordAt settleGates openCen; dsimp only; split_ifs <;> simp
@[simp] theorem settle_ring_bulk (s : State) : (settle s).ring.bulk = s.ring.bulk := by
  unfold settle settlePermits settleRecord regularRecord recordAt settleGates openCen; dsimp only; split_ifs <;> simp
@[simp] theorem settle_ring_xid (s : State) : (settle s).ring.xid = s.ring.xid := by
  unfold settle settlePermits settleRecord regularRecord recordAt settleGates openCen; dsimp only; split_ifs <;> simp
@[simp] theorem settle_ring_cmds (s : State) : (settle s).ring.cmds = s.ring.cmds := by
  unfold settle settlePermits settleRecord regularRecord recordAt settleGates openCen; dsimp only; split_ifs <;> simp
@[simp] theorem settle_ring_slots (s : State) : (settle s).ring.slots = s.ring.slots := by
  unfold settle settlePermits settleRecord regularRecord recordAt settleGates openCen; dsimp only; split_ifs <;> simp
@[simp] theorem settle_ring_legacyWait (s : State) : (settle s).ring.legacyWait = s.ring.legacyWait := by
  unfold settle settlePermits settleRecord regularRecord recordAt settleGates openCen; dsimp only; split_ifs <;> simp
@[simp] theorem settle_ring_legacyRx (s : State) : (settle s).ring.legacyRx = s.ring.legacyRx := by
  unfold settle settlePermits settleRecord regularRecord recordAt settleGates openCen; dsimp only; split_ifs <;> simp
@[simp] theorem settle_ring_enm (s : State) : (settle s).ring.enm = s.ring.enm := by
  unfold settle settlePermits settleRecord regularRecord recordAt settleGates openCen; dsimp only; split_ifs <;> simp
@[simp] theorem settle_ring_deputy (s : State) : (settle s).ring.deputy = s.ring.deputy := by
  unfold settle settlePermits settleRecord regularRecord recordAt settleGates openCen; dsimp only; split_ifs <;> simp
@[simp] theorem settle_ring_markCw (s : State) : (settle s).ring.markCw = s.ring.markCw := by
  unfold settle settlePermits settleRecord regularRecord recordAt settleGates openCen; dsimp only; split_ifs <;> simp
@[simp] theorem settle_ring_markCcw (s : State) : (settle s).ring.markCcw = s.ring.markCcw := by
  unfold settle settlePermits settleRecord regularRecord recordAt settleGates openCen; dsimp only; split_ifs <;> simp
@[simp] theorem settle_ring_prevCw (s : State) : (settle s).ring.prevCw = s.ring.prevCw := by
  unfold settle settlePermits settleRecord regularRecord recordAt settleGates openCen; dsimp only; split_ifs <;> simp
@[simp] theorem settle_ring_prevCcw (s : State) : (settle s).ring.prevCcw = s.ring.prevCcw := by
  unfold settle settlePermits settleRecord regularRecord recordAt settleGates openCen; dsimp only; split_ifs <;> simp
@[simp] theorem settle_ring_stopAt (s : State) : (settle s).ring.stopAt = s.ring.stopAt := by
  unfold settle settlePermits settleRecord regularRecord recordAt settleGates openCen; dsimp only; split_ifs <;> simp
@[simp] theorem settle_ring_lastMarkAt (s : State) : (settle s).ring.lastMarkAt = s.ring.lastMarkAt := by
  unfold settle settlePermits settleRecord regularRecord recordAt settleGates openCen; dsimp only; split_ifs <;> simp
@[simp] theorem settle_ring_delivered (s : State) : (settle s).ring.delivered = s.ring.delivered := by
  unfold settle settlePermits settleRecord regularRecord recordAt settleGates openCen; dsimp only; split_ifs <;> simp
@[simp] theorem settle_ring_eventsWait (s : State) : (settle s).ring.eventsWait = s.ring.eventsWait := by
  unfold settle settlePermits settleRecord regularRecord recordAt settleGates openCen; dsimp only; split_ifs <;> simp
@[simp] theorem settle_ring_rxBase (s : State) : (settle s).ring.rxBase = s.ring.rxBase := by
  unfold settle settlePermits settleRecord regularRecord recordAt settleGates openCen; dsimp only; split_ifs <;> simp
@[simp] theorem settle_ring_reportCount (s : State) : (settle s).ring.reportCount = s.ring.reportCount := by
  unfold settle settlePermits settleRecord regularRecord recordAt settleGates openCen; dsimp only; split_ifs <;> simp
@[simp] theorem settle_ring_setBad (s : State) : (settle s).ring.setBad = s.ring.setBad := by
  unfold settle settlePermits settleRecord regularRecord recordAt settleGates openCen; dsimp only; split_ifs <;> simp
@[simp] theorem settle_safe_firstDone (s : State) : (settle s).safe.firstDone = s.safe.firstDone := by
  unfold settle settlePermits settleRecord regularRecord recordAt settleGates openCen; dsimp only; split_ifs <;> simp
@[simp] theorem settle_safe_latched (s : State) : (settle s).safe.latched = s.safe.latched := by
  unfold settle settlePermits settleRecord regularRecord recordAt settleGates openCen; dsimp only; split_ifs <;> simp
@[simp] theorem settle_safe_selfFaults (s : State) : (settle s).safe.selfFaults = s.safe.selfFaults := by
  unfold settle settlePermits settleRecord regularRecord recordAt settleGates openCen; dsimp only; split_ifs <;> simp
@[simp] theorem settle_safe_cells (s : State) : (settle s).safe.cells = s.safe.cells := by
  unfold settle settlePermits settleRecord regularRecord recordAt settleGates openCen; dsimp only; split_ifs <;> simp
@[simp] theorem settle_safe_sweep (s : State) : (settle s).safe.sweep = s.safe.sweep := by
  unfold settle settlePermits settleRecord regularRecord recordAt settleGates openCen; dsimp only; split_ifs <;> simp
@[simp] theorem settle_safe_defaults (s : State) : (settle s).safe.defaults = s.safe.defaults := by
  unfold settle settlePermits settleRecord regularRecord recordAt settleGates openCen; dsimp only; split_ifs <;> simp
@[simp] theorem settle_safe_lastTested (s : State) : (settle s).safe.lastTested = s.safe.lastTested := by
  unfold settle settlePermits settleRecord regularRecord recordAt settleGates openCen; dsimp only; split_ifs <;> simp
@[simp] theorem settle_safe_nextTest (s : State) : (settle s).safe.nextTest = s.safe.nextTest := by
  unfold settle settlePermits settleRecord regularRecord recordAt settleGates openCen; dsimp only; split_ifs <;> simp
@[simp] theorem settle_safe_cenSince (s : State) : (settle s).safe.cenSince = s.safe.cenSince := by
  unfold settle settlePermits settleRecord regularRecord recordAt settleGates openCen; dsimp only; split_ifs <;> simp
@[simp] theorem settle_safe_staticOk (s : State) : (settle s).safe.staticOk = s.safe.staticOk := by
  unfold settle settlePermits settleRecord regularRecord recordAt settleGates openCen; dsimp only; split_ifs <;> simp
@[simp] theorem settle_safe_staticH (s : State) : (settle s).safe.staticH = s.safe.staticH := by
  unfold settle settlePermits settleRecord regularRecord recordAt settleGates openCen; dsimp only; split_ifs <;> simp
@[simp] theorem settle_safe_staticL (s : State) : (settle s).safe.staticL = s.safe.staticL := by
  unfold settle settlePermits settleRecord regularRecord recordAt settleGates openCen; dsimp only; split_ifs <;> simp
@[simp] theorem settle_safe_cfb (s : State) : (settle s).safe.cfb = s.safe.cfb := by
  unfold settle settlePermits settleRecord regularRecord recordAt settleGates openCen; dsimp only; split_ifs <;> simp
@[simp] theorem settle_safe_copies (s : State) : (settle s).safe.copies = s.safe.copies := by
  unfold settle settlePermits settleRecord regularRecord recordAt settleGates openCen; dsimp only; split_ifs <;> simp
@[simp] theorem settle_safe_nodes (s : State) : (settle s).safe.nodes = s.safe.nodes := by
  unfold settle settlePermits settleRecord regularRecord recordAt settleGates openCen; dsimp only; split_ifs <;> simp
@[simp] theorem settle_safe_leftDual (s : State) : (settle s).safe.leftDual = s.safe.leftDual := by
  unfold settle settlePermits settleRecord regularRecord recordAt settleGates openCen; dsimp only; split_ifs <;> simp
@[simp] theorem settle_safe_wdStart (s : State) : (settle s).safe.wdStart = s.safe.wdStart := by
  unfold settle settlePermits settleRecord regularRecord recordAt settleGates openCen; dsimp only; split_ifs <;> simp
@[simp] theorem settle_safe_wdFirst (s : State) : (settle s).safe.wdFirst = s.safe.wdFirst := by
  unfold settle settlePermits settleRecord regularRecord recordAt settleGates openCen; dsimp only; split_ifs <;> simp
@[simp] theorem settle_safe_wdKey (s : State) : (settle s).safe.wdKey = s.safe.wdKey := by
  unfold settle settlePermits settleRecord regularRecord recordAt settleGates openCen; dsimp only; split_ifs <;> simp
@[simp] theorem settle_safe_wdHalted (s : State) : (settle s).safe.wdHalted = s.safe.wdHalted := by
  unfold settle settlePermits settleRecord regularRecord recordAt settleGates openCen; dsimp only; split_ifs <;> simp
@[simp] theorem settle_safe_wdWritten (s : State) : (settle s).safe.wdWritten = s.safe.wdWritten := by
  unfold settle settlePermits settleRecord regularRecord recordAt settleGates openCen; dsimp only; split_ifs <;> simp

@[simp] theorem settle_get (s : State) (k : Nat) : (settle s).get k = s.get k := by simp [State.get]

end Sys2Proof.Machine
end

