-- ==== Sys2Proof/Laws/Frame.lean ====
section
/-! SUPPORT. Frames: what the settling leaves, block by block, and the guards that it establishes. -/

namespace Sys2Proof.Machine

theorem Block.same_refl (b : Block) (s : State) : b.same s s := by
  cases b <;> simp [Block.same]

theorem sendSafety_txQ (u : Bool) (s : State) :
    ∃ l : List TxFrame, (sendSafety u s).ring.txQ = s.ring.txQ ++ l ∧ ∀ f ∈ l, f.type = 4 := by
  unfold sendSafety txFrame
  split
  · exact ⟨[], by simp⟩
  · exact ⟨[_], rfl, by simp⟩

theorem sendSafety_ring (u : Bool) (s : State) :
    (sendSafety u s).ring = { s.ring with txQ := (sendSafety u s).ring.txQ, seqs := (sendSafety u s).ring.seqs } := by
  unfold sendSafety txFrame
  split <;> rfl

theorem Block.same_trans {b : Block} {s t u : State} (h : b.same s t) (h' : b.same t u) : b.same s u := by
  cases b
  case cells =>
    obtain ⟨a, b⟩ := h
    obtain ⟨c, d⟩ := h'
    exact ⟨by rw [c, a], d.trans b⟩
  case ring =>
    obtain ⟨a, l, b, c⟩ := h
    obtain ⟨d, m, e, f⟩ := h'
    refine ⟨by rw [d, a], l ++ m, by rw [e, b, List.append_assoc], ?_⟩
    intro x hx
    rcases List.mem_append.mp hx with h | h
    · exact c x h
    · exact f x h
  case safe => simp only [Block.same] at *; rw [h', h]
  all_goals simp_all [Block.same]

theorem sendSafety_same (b : Block) (u : Bool) (s : State) : b.same s (sendSafety u s) := by
  cases b
  case ring => exact ⟨sendSafety_ring u s, sendSafety_txQ u s⟩
  all_goals simp [Block.same]

theorem settleGates_same (b : Block) (s : State) : b.same s (settleGates s) := by
  cases b
  case cells =>
    refine ⟨rfl, ?_⟩
    simp only [settleGates, List.map_map]
    congr 1
    funext a
    simp only [Function.comp]
    split <;> rfl
  all_goals simp [Block.same, settleGates]

theorem settleRecord_same (b : Block) (s : State) : b.same s (settleRecord s) := by
  unfold settleRecord regularRecord recordAt
  split_ifs
  · exact Block.same_refl b s
  · refine Block.same_trans (t := { s with safe := { s.safe with alive := (s.safe.alive + 1) % 256, record := 0 } }) ?_
      (sendSafety_same b _ _)
    cases b <;> simp [Block.same]
  · cases b <;> simp [Block.same]

theorem openCen_same (b : Block) (s : State) : b.same s (openCen s) := by
  cases b <;> simp [Block.same, openCen]

theorem permits_same (b : Block) (s : State) (sp mp pt : Bool) (n : Nat) :
    b.same s { s with safe := { s.safe with permitSup := sp, permitMir := mp, packTrip := pt, permitSince := n } } := by
  cases b <;> simp [Block.same]

theorem settlePermits_same (b : Block) (s : State) : b.same s (settlePermits s) := by
  unfold settlePermits
  refine Block.same_trans ?_ (permits_same b _ _ _ _ _)
  have h : b.same s (if s.supPermit && s.mirPermit then s else openCen s) := by
    split_ifs
    · exact Block.same_refl b s
    · exact openCen_same b s
  split_ifs at h ⊢
  all_goals first
    | exact h
    | exact Block.same_trans h (sendSafety_same b _ _)

/-- The settling leaves every block the same. -/
theorem settle_same (b : Block) (s : State) : b.same s (settle s) :=
  Block.same_trans (settleGates_same b s) (Block.same_trans (settleRecord_same b _) (settlePermits_same b _))

theorem Keeps.settle {ks : List Nat} {bs : List Block} {s u : State} (h : Keeps ks bs s u) : Keeps ks bs s (settle u) :=
  ⟨fun k hk => by rw [settle_get, h.1 k hk], fun b hb => Block.same_trans (h.2 b hb) (settle_same b u)⟩

theorem Keeps.refl (ks : List Nat) (bs : List Block) (s : State) : Keeps ks bs s s :=
  ⟨fun _ _ => rfl, fun b _ => Block.same_refl b s⟩

theorem Keeps.trans {ks : List Nat} {bs : List Block} {s t u : State} (h : Keeps ks bs s t) (h' : Keeps ks bs t u) : Keeps ks bs s u :=
  ⟨fun k hk => (h'.1 k hk).trans (h.1 k hk), fun b hb => Block.same_trans (h.2 b hb) (h'.2 b hb)⟩

end Sys2Proof.Machine
end

