-- ==== Sys2Proof/Laws/Guard.lean ====
section
/-! SUPPORT. The guards of Safety.lean hold after every settling: the permits and the gates read nothing that it writes afterwards. -/

namespace Sys2Proof.Machine

theorem settle_on (s : State) (d : Domain) : (settle s).on d = s.on d := by simp [State.on]
theorem settle_mirPermit (s : State) : (settle s).mirPermit = s.mirPermit := by simp [State.mirPermit, State.on]

/-- What the supervisor permit reads is not what the settling writes. -/
theorem supPermit_congr {s t : State} (ho : t.objs = s.objs) (hf : t.flt = s.flt) (hn : t.safe.nodes = s.safe.nodes) :
    t.supPermit = s.supPermit := by
  have g : ∀ k, t.get k = s.get k := fun k => by simp [State.get, ho]
  simp [State.supPermit, State.ringSafe, State.tripMap, State.holdsUnsafe, State.safeNode, State.compares, State.isHead,
    State.srqRequest, State.srqMode, State.safeFault, State.faultOn, State.on, State.supReady, State.modeIn, State.modeCode, g, hf, hn]

theorem packTrip_congr {s t : State} (ho : t.objs = s.objs) (hp : t.mirPermit = s.mirPermit) :
    t.packTripNow = s.packTripNow := by
  have g : ∀ k, t.get k = s.get k := fun k => by simp [State.get, ho]
  simp [State.packTripNow, hp, State.modeCode, State.srqRequest, State.srqMode, g]

theorem mirPermit_congr {s t : State} (ho : t.objs = s.objs) (h1 : t.safe.firstDone = s.safe.firstDone)
    (h2 : t.safe.latched = s.safe.latched) (h3 : t.safe.selfFaults = s.safe.selfFaults) : t.mirPermit = s.mirPermit := by
  have g : ∀ k, t.get k = s.get k := fun k => by simp [State.get, ho]
  simp [State.mirPermit, State.on, g, h1, h2, h3]

theorem settlePermits_safe (s : State) :
    (settlePermits s).safe.permitSup = s.supPermit ∧ (settlePermits s).safe.permitMir = s.mirPermit ∧
    (settlePermits s).safe.packTrip = s.packTripNow ∧
    ((s.supPermit && s.mirPermit) = false → (settlePermits s).safe.cenOn = false ∧ (settlePermits s).safe.testing = none) := by
  unfold settlePermits
  dsimp only
  refine ⟨rfl, rfl, rfl, ?_⟩
  intro h
  simp only [h]
  split_ifs <;> simp_all [openCen]

/-- What settling the permits leaves, of all that the permits read (R399, R400, R409). -/
theorem settlePermits_leaves (s : State) :
    ((settlePermits s).objs = s.objs ∧ (settlePermits s).flt = s.flt ∧ (settlePermits s).safe.nodes = s.safe.nodes) ∧
    (settlePermits s).safe.firstDone = s.safe.firstDone ∧ (settlePermits s).safe.latched = s.safe.latched ∧
    (settlePermits s).safe.selfFaults = s.safe.selfFaults := by
  unfold settlePermits openCen
  dsimp only
  split_ifs <;> simp

theorem settlePermits_supPermit (s : State) : (settlePermits s).supPermit = s.supPermit :=
  let ⟨ho, hf, hn⟩ := (settlePermits_leaves s).1
  supPermit_congr ho hf hn

theorem settlePermits_mirPermit (s : State) : (settlePermits s).mirPermit = s.mirPermit :=
  let ⟨⟨ho, _⟩, h1, h2, h3⟩ := settlePermits_leaves s
  mirPermit_congr ho h1 h2 h3

theorem settlePermits_packTripNow (s : State) : (settlePermits s).packTripNow = s.packTripNow :=
  packTrip_congr (settlePermits_leaves s).1.1 (settlePermits_mirPermit s)

theorem gates_congr {s t : State} (ho : t.objs = s.objs) (hb : t.bal = s.bal) (hf : t.flt = s.flt) (hp : t.plan = s.plan)
    (hl : t.loupe = s.loupe) (hr : t.ringTime = s.ringTime) (hc : t.cells.count = s.cells.count) :
    t.conductMask = s.conductMask ∧ t.mayConduct = s.mayConduct := by
  have g : ∀ k, t.get k = s.get k := fun k => by simp [State.get, ho]
  simp [State.conductMask, State.mayConduct, State.conducts, State.chopped, State.balPermitted, State.balParity, State.balWanted,
    State.chopConducts, State.cellCount, State.faultOn, State.on, State.modeIn, State.modeCode, g, hb, hf, hp, hl, hr, hc]

theorem settle_conducting (s : State) : (settle s).cells.conducting = s.conductMask &&& s.mayConduct := by
  unfold settle settlePermits settleRecord regularRecord recordAt openCen
  dsimp only
  split_ifs <;> simp [settleGates]

/-- Whatever the effect, the settling leaves the guards true (R293, R416, R419, R425). -/
theorem settle_guarded (s : State) : Guarded (settle s) := by
  have hs := settlePermits_supPermit
  have hm := settlePermits_mirPermit
  have ht := settlePermits_packTripNow
  have key := settlePermits_safe (settleRecord (settleGates s))
  obtain ⟨k1, k2, k3, k4⟩ := key
  refine ⟨?_, ?_, ⟨?_, ?_, ?_⟩, ?_⟩
  · intro h
    by_contra hc
    have := (k4 (by simpa [settle, hs, hm] using hc)).1
    simp [settle, this] at h
  · intro h
    by_contra hc
    have := (k4 (by simpa [settle, hs, hm] using hc)).2
    simp [settle, this] at h
  · rw [settle, k1, hs]
  · rw [settle, k2, hm]
  · rw [settle, k3, ht]
  · unfold GatesGuarded
    have := gates_congr (s := s) (t := settle s) (by simp) (by simp) (by simp) (by simp) (by simp) (by simp) (by simp)
    rw [settle_conducting, this.1, this.2]

end Sys2Proof.Machine
end

