-- ==== Sys2Proof/Laws/Exec.lean ====
section
/-! SUPPORT. Every meaning has one form: time passes, its effect follows where its operands are well formed, and the state settles. -/

namespace Sys2Proof.Machine

/-- The form of every meaning. -/
theorem exec_form (i : Instr) (s : State) : ∃ dt eff, exec i s = run (Instr.wf i) dt eff s := by
  cases i <;> exact ⟨_, _, rfl⟩

/-- Every command of the block answers a next state, from every state. -/
theorem exec_total (i : Instr) (s : State) : ∃ t, exec i s = .next t := by
  obtain ⟨dt, eff, h⟩ := exec_form i s
  exact ⟨_, h⟩

/-- A next state is a settled one. -/
theorem exec_settled {i : Instr} {s t : State} (h : exec i s = .next t) : ∃ u, t = settle u := by
  obtain ⟨dt, eff, hu⟩ := exec_form i s
  rw [hu, run, Host.Outcome.next.injEq] at h
  exact ⟨_, h.symm⟩

/-- Of a command whose operands do not exist only the time passes. -/
theorem exec_malformed {i : Instr} (s : State) (h : Instr.wf i = false) : ∃ dt, exec i s = .next (effect dt id s) := by
  obtain ⟨dt, eff, hu⟩ := exec_form i s
  exact ⟨dt, by rw [hu, h]; rfl⟩

/-- A step leads to a settled state. -/
theorem step_settled {s t : State} (h : step s = .next t) : ∃ u, t = settle u := by
  unfold step at h
  split at h
  · exact ⟨_, by simpa [tick, effect] using h.symm⟩
  · exact exec_settled h

end Sys2Proof.Machine
end

