-- ==== Sys2Proof/Laws/Host.lean ====
section
/-! SUPPORT. The way of a command packet from the host port to the meaning of its object (R553). -/

namespace Sys2Proof.Machine

theorem client_client (s : State) (n : Nat) : s.client (s.client n) = s.client n := by
  unfold State.client
  split <;> rfl

theorem received_objs (n : Nat) (s : State) : (received n s).objs = s.objs := by
  unfold received touchSession ringActivity faultEnd
  dsimp only
  split_ifs <;> rfl

theorem received_get (n k : Nat) (s : State) : (received n s).get k = s.get k := by simp [State.get, received_objs]

theorem received_same (n : Nat) (s : State) {b : Block} (h : b ∉ [Block.port, .bal, .flt]) : b.same s (received n s) := by
  unfold received touchSession ringActivity faultEnd
  dsimp only
  split_ifs <;> cases b <;> simp_all [Block.same]

theorem received_keeps (n : Nat) (s : State) : Keeps [] [.port, .bal, .flt] s (received n s) :=
  ⟨fun k _ => received_get n k s, fun _ h => received_same n s h⟩

theorem received_port (n : Nat) (s : State) :
    (received n s).port =
      { s.port with sessions := s.port.sessions.map (fun y => if y.client = s.client n then { y with lastAt := s.clk } else y) } := by
  have hu : ∀ u : State, u.objs = s.objs → u.port = s.port →
      (touchSession (.host (s.client n)) u).port = { s.port with
        sessions := s.port.sessions.map (fun y => if y.client = s.client n then { y with lastAt := u.clk } else y) } := by
    intro u ho hp
    have hc : u.client (s.client n) = s.client n := by
      rw [show u.client (s.client n) = s.client (s.client n) by simp [State.client, State.onSpi, State.get, ho]]
      exact client_client s n
    simp only [touchSession, State.setSessions, hc, hp]
  unfold received
  split_ifs
  · have h1 : (ringActivity s).objs = s.objs := by unfold ringActivity faultEnd; dsimp only; split_ifs <;> rfl
    have h2 : (ringActivity s).port = s.port := by unfold ringActivity faultEnd; dsimp only; split_ifs <;> rfl
    have h3 : (ringActivity s).clk = s.clk := by unfold ringActivity faultEnd; dsimp only; split_ifs <;> rfl
    rw [hu _ h1 h2, h3]
  · exact hu s rfl rfl

theorem received_client (n m : Nat) (s : State) : (received n s).client m = s.client m := by
  simp [State.client, State.onSpi, received_get]

theorem find_touched (l : List Session) (a m clk : Nat) :
    ((l.map (fun y => if y.client = a then { y with lastAt := clk } else y)).find? (fun x => x.client = m)).map (·.role) =
      (l.find? (fun x => x.client = m)).map (·.role) := by
  induction l with
  | nil => rfl
  | cons y l ih =>
    simp only [List.map_cons, List.find?_cons]
    by_cases h : y.client = a <;> by_cases h2 : y.client = m <;> simp_all

theorem role_eq (s : State) (m : Nat) :
    s.role (.host m) = ((s.port.sessions.find? (fun x => x.client = s.client m)).map (·.role)).getD 0 := by
  simp only [State.role, State.session]
  cases s.port.sessions.find? (fun x => x.client = s.client m) <;> rfl

theorem received_role (n m : Nat) (s : State) : (received n s).role (.host m) = s.role (.host m) := by
  rw [role_eq, role_eq, received_port, received_client]
  simp only
  rw [find_touched]

/-- The packet of `Heard` is executed on the state as it was received. -/
theorem arrive_heard {s : State} {c : Ctx} {n op index sub : Nat} (h : Heard s c n op index sub)
    (data : List Nat) (aux : Nat) {wop : Nat} (hw : (if wop = wholeOp then 5 else wop) = op) (hk : (knownOp wop || wop == wholeOp) = true) :
    arrive ⟨c, wop, index, sub, data, aux⟩ s =
      settleUpdate (execCmd ⟨{ c with src := .host (s.client n) }, wop, index, sub, data, aux⟩ (received n s)) := by
  have hp := received_port n s
  have hs : (received n s).test.slices = [] := by
    have := received_same n s (b := .test) (by decide)
    simp only [Block.same] at this
    rw [this, h.slices]
  have hn : (received n s).nvm.owed = none := by
    have := received_same n s (b := .nvm) (by decide)
    simp only [Block.same] at this
    rw [this, h.owed]
  have hwt : (received n s).port.waiting = [] := by rw [hp]; exact h.waiting
  have hkp : (received n s).keptAnswer { c with src := .host (s.client n) } op index sub = none := by
    have := h.fresh
    unfold State.keptAnswer at this ⊢
    rw [hp]
    exact this
  have ho : (received n s).ownCommand ⟨{ c with src := .host (s.client n) }, wop, index, sub, data, aux⟩ = true := by
    have ha : (received n s).address = s.address := by simp [State.address, received_get]
    unfold State.ownCommand
    rcases h.own with h1 | ⟨h1, h2⟩
    · simp only [h1, Bool.true_or]
    · simp [ha, h1, h2]
  have hk' : (knownOp wop || decide (wop = wholeOp)) = true := by
    revert hk
    cases knownOp wop <;> simp
  unfold arrive
  simp only [h.src]
  unfold hostArrive
  simp only [h.up, Bool.not_true, Bool.false_eq_true, if_false]
  have hr : touchSession (Source.host (s.client n)) (if s.isHead = true then ringActivity s else s) = received n s := rfl
  rw [hr, ho]
  simp only [Bool.true_and, hk', if_true]
  unfold command runWaiting
  rw [hwt]
  simp only [List.length_nil, drain]
  have hwo : (Cmd.mk { c with src := .host (s.client n) } wop index sub data aux).wireOp = op := hw
  rw [hwo]
  simp only [hkp]
  rw [hwt]
  simp [State.holdsBack, hs, hn]

/-- Nothing happens to an update that receives nothing. -/
theorem settleUpdate_id {s : State} (h : s.updStage ≠ 1) : settleUpdate s = s := by
  unfold settleUpdate
  simp [h]

theorem updateRestart_id {s : State} (h : s.port.resetReq = none) : updateRestart s = s := by
  unfold updateRestart
  rw [h]

/-- The answer of a command that its client hears. -/
theorem reply_host {c : Ctx} {m op index sub : Nat} {s : State} (data : List Nat) (aux : Nat) (hs : isBroadcast c = false) (hu : s.portUp = true)
    (hm : s.client m = m) (d : List Nat) :
    reply ⟨{ c with src := .host m }, op, index, sub, data, aux⟩ d s =
      keepAnswer { c with src := .host m } op index sub (packetBytes (op + 128) c.tag (s.answerAddr c) index sub d)
        (s.queue ⟨.response m, packetBytes (op + 128) c.tag (s.answerAddr c) index sub d⟩) := by
  have hb : isBroadcast { c with src := Source.host m } = false := hs
  simp only [reply, answer, deliver, sendAnswer, hostResponse, hu, hm, hb, State.answerAddr, if_true,
    Bool.false_eq_true, if_false]

theorem keepAnswer_outQ (c : Ctx) (op index sub : Nat) (p : List Nat) (s : State) :
    (keepAnswer c op index sub p s).port.outQ = s.port.outQ := by
  unfold keepAnswer
  dsimp only
  split_ifs <;> rfl

theorem keepAnswer_resetReq (c : Ctx) (op index sub : Nat) (p : List Nat) (s : State) :
    (keepAnswer c op index sub p s).port.resetReq = s.port.resetReq := by
  unfold keepAnswer
  dsimp only
  split_ifs <;> rfl

theorem keepAnswer_keeps (c : Ctx) (op index sub : Nat) (p : List Nat) (s : State) :
    Keeps [] [.port] s (keepAnswer c op index sub p s) := by
  unfold keepAnswer
  dsimp only
  split_ifs
  · exact Keeps.refl _ _ _
  · exact ⟨fun k _ => rfl, fun b hb => by cases b <;> simp_all [Block.same]⟩

/-- A write that its destination accepts is answered, and nothing else follows. -/
theorem conclude_done {c : Ctx} {s u : State} {n op index sub : Nat} (h : Heard s c n op index sub) (data d : List Nat) (aux : Nat)
    (h1 : u.portUp = true) (h2 : u.port.resetReq = none) (h3 : u.updStage ≠ 1) (h4 : u.address = s.address)
    (h5 : u.onSpi = s.onSpi) :
    ∃ t, settleUpdate (conclude ⟨{ c with src := .host (s.client n) }, op, index, sub, data, aux⟩ d (.done u)) = t ∧
      Keeps [] [.port] u t ∧ Answered s t c n op index sub d := by
  have hm : u.client (s.client n) = s.client n := by
    simp only [State.client, h5]
    split <;> rfl
  have ha : u.answerAddr c = s.answerAddr c := by simp [State.answerAddr, h4]
  simp only [conclude]
  rw [reply_host data aux h.single h1 hm]
  set w := keepAnswer { c with src := Source.host (s.client n) } op index sub
    (packetBytes (op + 128) c.tag (u.answerAddr c) index sub d)
    (u.queue ⟨.response (s.client n), packetBytes (op + 128) c.tag (u.answerAddr c) index sub d⟩) with hwdef
  have hk : Keeps [] [.port] u w := by
    refine Keeps.trans ?_ (keepAnswer_keeps _ _ _ _ _ _)
    exact ⟨fun k _ => by simp, fun b hb => by cases b <;> simp_all [Block.same, State.queue]⟩
  have hr : w.port.resetReq = none := by rw [hwdef, keepAnswer_resetReq]; exact h2
  rw [updateRestart_id hr, settleUpdate_id (by
    have := hk.1 Obj.updateStatus (by simp)
    simpa [State.updStage, this] using h3)]
  refine ⟨w, rfl, hk, ?_⟩
  unfold Answered
  rw [hwdef, keepAnswer_outQ, ha]
  simp [State.queue]

/-- A write of a value, in a row that is no P object, that its destination accepts. -/
theorem host_write {s u : State} {c : Ctx} {n index sub : Nat} {r : ObjRow} (h : HeardMaster s c n 2 index sub) (data : List Nat) (aux : Nat)
    (hl : lookup index sub = .inr r)
    (ha : (received n s).writeAccess { c with src := .host (s.client n) } (objKey index sub) r = 0)
    (hk : r.kind ≠ .domain) (hn : data.length = r.size) (hi : r.inRange (ofLe data &&& r.mask) = true) (hp : r.p = false)
    (hv : writeValue { c with src := .host (s.client n) } (objKey index sub) (ofLe data &&& r.mask) (received n s) = .done u)
    (h1 : u.portUp = true) (h2 : u.port.resetReq = none) (h3 : u.updStage ≠ 1) (h4 : u.address = s.address) (h5 : u.onSpi = s.onSpi) :
    ∃ t, arrive ⟨c, 2, index, sub, data, aux⟩ s = t ∧ Keeps [] [.port] u t ∧ Answered s t c n 2 index sub [] := by
  rw [arrive_heard h.toHeard data aux (wop := 2) rfl rfl]
  have hc : (received n s).coreAbsent r = false := by
    have := h.ready
    simp_all [State.coreAbsent, State.supReady, received_get]
  have hw : writeObject { c with src := .host (s.client n) } (objKey index sub) r (ofLe data) (received n s) = .done u := by
    unfold writeObject
    simp [hi, hv, hp]
  have : execCmd ⟨{ c with src := .host (s.client n) }, 2, index, sub, data, aux⟩ (received n s) =
      conclude ⟨{ c with src := .host (s.client n) }, 2, index, sub, data, aux⟩ [] (.done u) := by
    show cmdWrite _ _ = _
    unfold cmdWrite
    simp only [hl, hc, ha, hn, hw]
    simp [hk]
  rw [this]
  exact conclude_done h.toHeard data [] aux h1 h2 h3 h4 h5

theorem received_mayWrite {s : State} {c : Ctx} {n k : Nat} {r : ObjRow} (hm : s.role (.host n) = 2) (hk : k ≠ Obj.watchdogService) :
    (received n s).mayWrite { c with src := .host (s.client n) } k r = true := by
  have hr : (received n s).role (.host (s.client n)) = 2 := by
    rw [received_role]
    rw [role_eq] at hm ⊢
    rw [client_client]
    exact hm
  simp [State.mayWrite, hk, hr]

/-- MASTER writes an RW object in every mode. -/
theorem received_writeAccess {s : State} {c : Ctx} {n k : Nat} {r : ObjRow} (hm : s.role (.host n) = 2) (hk : k ≠ Obj.watchdogService)
    (hr : r.acc = .rw ∨ r.acc = .wo) : (received n s).writeAccess { c with src := .host (s.client n) } k r = 0 := by
  unfold State.writeAccess
  rw [received_mayWrite hm hk]
  rcases hr with h | h <;> simp [h]

theorem keeps_mono {ks js : List Nat} {bs cs : List Block} {s t : State} (h : Keeps ks bs s t) (hk : ∀ k ∈ ks, k ∈ js)
    (hb : ∀ b ∈ bs, b ∈ cs) : Keeps js cs s t :=
  ⟨fun k n => h.1 k (fun x => n (hk k x)), fun b n => h.2 b (fun x => n (hb b x))⟩

/-- How a meaning completes: what its effect gives, and what it keeps. -/
theorem completes_of {i : Instr} {dt : Nat} {s : State} {ks bs} {post : State → State → Prop} {eff : State → State} (hw : Instr.wf i = true)
   (he : exec i s = run (Instr.wf i) dt eff s) (hp : post (s.found dt) (settle (eff (s.found dt))))
   (hk : Keeps ks bs (s.found dt) (eff (s.found dt))) : Completes i dt s ks bs post :=
  ⟨settle (eff (s.found dt)), by rw [he, hw]; rfl, hp, hk.settle⟩

/-- An answer to a command that is heard. -/
theorem reply_heard {s : State} {c : Ctx} {n op index sub : Nat} (h : Heard s c n op index sub) (data d : List Nat) (aux : Nat) (u : State)
  (hk : Keeps [] [.port, .bal, .flt] s u) :
   Keeps [] [.port,.bal,.flt] s (reply ⟨{ c with src := .host (s.client n) }, op, index, sub, data, aux⟩ d u) ∧
   Answered s (reply ⟨{ c with src := .host (s.client n) }, op, index, sub, data, aux⟩ d u) c n op index sub d
   := by
  have h1 : u.portUp = true := by
    have := h.up
    simp only [State.portUp, State.on] at this ⊢
    rw [hk.1 _ (by simp), hk.1 _ (by simp)]; exact this
  have hm : u.client (s.client n) = s.client n := by
    have := hk.1 Obj.hostPortActive (by simp)
    have e : u.onSpi = s.onSpi := by simp only [State.onSpi, this]
    unfold State.client
    rw [e]
    split <;> rfl
  have ha : u.answerAddr c = s.answerAddr c := by simp [State.answerAddr, State.address, hk.1 _ (by simp)]
  rw [reply_host data aux h.single h1 hm]
  refine ⟨hk.trans (keeps_mono (Keeps.trans (t := u.queue _) ?_ (keepAnswer_keeps _ _ _ _ _ _)) (by simp) (by simp)), ?_⟩
  · exact ⟨fun k _ => by simp, fun b hb => by cases b <;> simp_all [Block.same, State.queue]⟩
  · unfold Answered
    rw [keepAnswer_outQ, ha]
    simp [State.queue]

/-- Nothing follows an answer. -/
theorem settled_reply {s : State} {c : Ctx} {n op index sub : Nat} (h : Heard s c n op index sub) (data d : List Nat) (aux : Nat) (u : State)
  (hk : Keeps [] [.port, .bal, .flt] s u) :
  settleUpdate (reply ⟨{ c with src := .host (s.client n) }, op, index, sub, data, aux⟩ d u) = reply ⟨{ c with src := .host (s.client n) }, op, index, sub, data, aux⟩ d u := by
  refine settleUpdate_id ?_
  have := (reply_heard h data d aux u hk).1.1 Obj.updateStatus (by simp)
  have h2 := h.update
  simpa [State.updStage, this] using h2


end Sys2Proof.Machine
end

