-- ==== Sys2Proof/Laws/Actions.lean ====
section
/-! SUPPORT. What the shared actions leave: the start of a plan, a change of mode, the entry into SAFE and the setting of a fault source,
for a state in which no slice runs and no Loupe point is in progress. -/

namespace Sys2Proof.Machine

/-- What the actions of a plan change or a mode change leave: the objects outside a list, the fault sources but for the collision window, the
Mirror latches, and the state stays calm. -/
structure Stays (ks : List Nat) (s t : State) : Prop where
  objs : ∀ k, k ∉ ks → t.get k = s.get k
  flt : t.flt.base = s.flt.base
  first : t.safe.firstDone = s.safe.firstDone
  latched : t.safe.latched = s.safe.latched
  self : t.safe.selfFaults = s.safe.selfFaults
  clk : t.clk = s.clk
  ringTime : t.ringTime = s.ringTime
  pending : t.pending = s.pending
  calm : Calm s → Calm t

theorem Stays.refl (ks : List Nat) (s : State) : Stays ks s s :=
  ⟨fun _ _ => rfl, rfl, rfl, rfl, rfl, rfl, rfl, rfl, id⟩

theorem Stays.trans {ks : List Nat} {s t u : State} (h : Stays ks s t) (g : Stays ks t u) : Stays ks s u :=
  ⟨fun k hk => (g.objs k hk).trans (h.objs k hk), g.flt.trans h.flt, g.first.trans h.first, g.latched.trans h.latched,
    g.self.trans h.self, g.clk.trans h.clk, g.ringTime.trans h.ringTime, g.pending.trans h.pending, fun x => g.calm (h.calm x)⟩

theorem Stays.mono {ks js : List Nat} {s t : State} (h : Stays ks s t) (hj : ∀ k ∈ ks, k ∈ js) : Stays js s t :=
  { h with objs := fun k hk => h.objs k (fun x => hk (hj k x)) }

theorem Stays.set {ks : List Nat} (s : State) {k : Nat} (v : Nat) (h : k ∈ ks) : Stays ks s (s.set k v) :=
  { Stays.refl ks s with objs := fun _ hj => State.get_set_ne s v (fun e => hj (e ▸ h)) }

theorem Stays.setField {ks : List Nat} (s : State) {k : Nat} (a b v : Nat) (h : k ∈ ks) : Stays ks s (s.setField k a b v) :=
  Stays.set s _ h

theorem Stays.setBitOf {ks : List Nat} (s : State) {k : Nat} (n : Nat) (b : Bool) (h : k ∈ ks) : Stays ks s (s.setBitOf k n b) :=
  Stays.set s _ h

theorem Stays.count {ks : List Nat} (s : State) {k : Nat} (w : Nat) (h : k ∈ ks) : Stays ks s (s.count k w) := Stays.set s _ h

theorem Stays.wrap {ks : List Nat} (s : State) {k : Nat} (w : Nat) (h : k ∈ ks) : Stays ks s (s.wrap k w) := Stays.set s _ h

theorem Stays.clear {ks : List Nat} (s : State) {k : Nat} (h : k ∈ ks) : Stays ks s (s.clear k) := Stays.set s _ h

theorem Stays.foldl {α : Type} {ks : List Nat} (f : State → α → State) (h : ∀ s x, Calm s → Stays ks s (f s x)) (l : List α) :
    ∀ s, Calm s → Stays ks s (l.foldl f s) := by
  induction l with
  | nil => exact fun s _ => Stays.refl ks s
  | cons x l ih => exact fun s c => (h s x c).trans (ih _ ((h s x c).calm c))

/-- Closes a goal on what a record update leaves. -/
theorem Stays.mk' {ks : List Nat} {s t : State} (ho : t.objs = s.objs) (hf : t.flt = s.flt) (h1 : t.safe.firstDone = s.safe.firstDone)
    (h2 : t.safe.latched = s.safe.latched) (h3 : t.safe.selfFaults = s.safe.selfFaults) (h4 : t.clk = s.clk) (h5 : t.ringTime = s.ringTime)
    (h6 : t.pending = s.pending) (h7 : Calm s → Calm t) : Stays ks s t :=
  ⟨fun k _ => by simp [State.get, ho], by rw [hf], h1, h2, h3, h4, h5, h6, h7⟩

/-- A collision window begins. -/
theorem newWindow_stays (ks : List Nat) (s : State) : Stays ks s (newWindow s) :=
  ⟨fun _ _ => rfl, rfl, rfl, rfl, rfl, rfl, rfl, rfl, id⟩

/-- A source is on as long as its status stays. -/
theorem Stays.faultOn {ks : List Nat} {s t : State} (h : Stays ks s t) (c : Nat) : t.faultOn c = s.faultOn c :=
  congrArg (fun f : FaultEng => bit f.status c) (a₁ := t.flt.base) (a₂ := s.flt.base) h.flt

theorem stopChop_stays (ks : List Nat) (s : State) : Stays ks s (stopChop s) :=
  Stays.mk' rfl rfl rfl rfl rfl rfl rfl rfl (fun h => h)

theorem leaveExcite_stays (s : State) : Stays planObjects s (leaveExcite s) := by
  unfold leaveExcite
  split_ifs
  · exact Stays.setField _ _ _ _ (by decide)
  · exact Stays.refl _ _

theorem stopExcitation_stays (s : State) : Stays planObjects s (stopExcitation s) := by
  unfold stopExcitation
  refine Stays.trans ?_ (leaveExcite_stays _)
  refine Stays.trans ?_ (stopChop_stays _ _)
  exact Stays.mk' rfl rfl rfl rfl rfl rfl rfl rfl (fun h => ⟨h.1, by simp [h.2]⟩)

theorem restStage_stays (s : State) : Stays planObjects s (restStage s) := by
  unfold restStage
  split_ifs
  · refine Stays.trans (Stays.setField s 0 4 1 (k := Obj.xferStatus) (by decide)) ?_
    refine Stays.trans (Stays.setBitOf _ 4 false (k := Obj.xferStatus) (by decide)) ?_
    refine Stays.trans (Stays.setBitOf _ 5 false (k := Obj.xferStatus) (by decide)) ?_
    exact Stays.mk' rfl rfl rfl rfl rfl rfl rfl rfl (fun h => h)
  · exact Stays.refl _ _

theorem closeOutputs_stays (s : State) : Stays planObjects s (closeOutputs s) := by
  unfold closeOutputs
  refine Stays.trans (stopExcitation_stays s) (Stays.trans (restStage_stays _) ?_)
  exact Stays.mk' rfl rfl rfl rfl rfl rfl rfl rfl (fun h => h)

theorem channel_mem {n : Nat} (h : n ≤ 24) : Obj.channelState + n ∈ planObjects := by
  have : ∀ n : Fin 25, Obj.channelState + n.val ∈ planObjects := by decide
  exact this ⟨n, by omega⟩

theorem shadow_mem {n : Nat} (h : n ≤ 24) : Obj.shadowResult + n ∈ planObjects := by
  have : ∀ n : Fin 25, Obj.shadowResult + n.val ∈ planObjects := by decide
  exact this ⟨n, by omega⟩

theorem result_mem {n : Nat} (h : n ≤ 24) : Obj.cellResult + n ∈ planObjects := by
  have : ∀ n : Fin 25, Obj.cellResult + n.val ∈ planObjects := by decide
  exact this ⟨n, by omega⟩

theorem spare_mem {n : Nat} (h : n ≤ 2) : Obj.spareState + n ∈ planObjects := by
  have : ∀ n : Fin 3, Obj.spareState + n.val ∈ planObjects := by decide
  exact this ⟨n, by omega⟩

theorem setChannel_stays {n : Nat} (h : n ≤ 24) (c : Nat) (s : State) : Stays planObjects s (setChannel n c s) := by
  unfold setChannel
  dsimp only
  split_ifs
  · exact Stays.set s _ (channel_mem h)
  · exact Stays.trans (Stays.set s _ (channel_mem h)) (Stays.clear _ (shadow_mem h))

theorem setSp_stays (ks : List Nat) (k : Nat) (e : SpareEng) (s : State) : Stays ks s (s.setSp k e) := by
  unfold State.setSp
  split_ifs <;> exact Stays.mk' rfl rfl rfl rfl rfl rfl rfl rfl (fun h => h)

theorem freeSpare_stays {k : Nat} (h : k ≤ 2) (s : State) : Stays planObjects s (freeSpare k s) := by
  unfold freeSpare
  exact Stays.trans (Stays.set s _ (spare_mem h)) (setSp_stays _ _ _ _)

theorem armSpare_stays {k : Nat} (h : k ≤ 2) (n : Nat) (c : Bool) (s : State) : Stays planObjects s (armSpare k n c s) := by
  unfold armSpare
  exact Stays.trans (Stays.set s _ (spare_mem h)) (setSp_stays _ _ _ _)

theorem abortSlices_calm (p : Slice → Bool) {s : State} (h : Calm s) : abortSlices p s = s := by
  unfold abortSlices
  simp only [h.1, List.filter_nil, List.foldl_nil]
  cases s with
  | mk =>
    rename_i t n
    cases t
    simp_all [Calm]

theorem retiring_stays (ks : List Nat) (m : Nat) (s : State) : Stays ks s { s with cells := { s.cells with retiring := m } } :=
  Stays.mk' rfl rfl rfl rfl rfl rfl rfl rfl (fun h => h)

theorem retireChannel_stays {n : Nat} (h : n ≤ 24) {s : State} (c : Calm s) : Stays planObjects s (retireChannel n s) := by
  unfold retireChannel
  dsimp only
  split
  · simp only [c.1, List.filter_nil, List.foldl_nil]
    refine Stays.trans (t := { s with test := { s.test with slices := [] } }) ?_ ?_
    · exact Stays.mk' rfl rfl rfl rfl rfl rfl rfl rfl (fun h => ⟨rfl, h.2⟩)
    · exact Stays.trans (setSp_stays _ _ _ _) (retiring_stays _ _ _)
  · split
    · rename_i k hk
      have : k ≤ 2 := by
        unfold State.coverFor at hk
        dsimp only at hk
        split at hk
        · rename_i j hj
          have := List.mem_of_find?_eq_some hj
          split_ifs at this <;> simp_all <;> omega
        · simp only [Option.map_eq_some_iff, Prod.mk.injEq] at hk
          obtain ⟨j, hj, -, hf⟩ := hk
          cases hf
      rw [abortSlices_calm _ c]
      exact Stays.trans (armSpare_stays this _ _ _) (retiring_stays _ _ _)
    · exact Stays.trans (setSp_stays _ _ _ _) (retiring_stays _ _ _)
    · exact (retiring_stays _ _ s).trans (setChannel_stays h _ _)

theorem coverAgain_stays (xs : List Nat) {s : State} (c : Calm s) : Stays planObjects s (coverAgain xs s) := by
  unfold coverAgain
  have key : ∀ (l : List Nat), (∀ i ∈ l, i < 24) → ∀ s, Calm s → Stays planObjects s (l.foldl (fun t i =>
      if i + 1 ≤ t.cellCount && xs.contains (t.get (Obj.channelState + (i + 1))) && !bit t.cells.retiring i then retireChannel (i + 1) t else t) s) := by
    intro l
    induction l with
    | nil => exact fun _ s _ => Stays.refl _ s
    | cons x l ih =>
      intro hl s c
      have h1 : Stays planObjects s (if x + 1 ≤ s.cellCount && xs.contains (s.get (Obj.channelState + (x + 1))) && !bit s.cells.retiring x
          then retireChannel (x + 1) s else s) := by
        split_ifs
        · exact retireChannel_stays (by have := hl x (by simp); omega) c
        · exact Stays.refl _ _
      exact h1.trans (ih (fun i hi => hl i (by simp [hi])) _ (h1.calm c))
  split_ifs
  · exact Stays.refl _ _
  · exact key _ (fun i hi => by simp [bitList] at hi; omega) s c

theorem restoreCovers_stays {s : State} (c : Calm s) : Stays planObjects s (restoreCovers s) := coverAgain_stays [0] c

theorem releaseSpare_stays {k : Nat} (h : k ≤ 2) (n : Nat) (s : State) : Stays planObjects s (releaseSpare k n s) := by
  unfold releaseSpare
  dsimp only
  split_ifs
  · exact armSpare_stays h _ _ _
  · exact (freeSpare_stays h s).trans (setSp_stays _ _ _ _)

theorem applyCellCount_stays {s : State} (c : Calm s) : Stays planObjects s (applyCellCount s) := by
  unfold applyCellCount
  dsimp only
  set t : State := { s with cells := { s.cells with count := s.get Obj.cellCount }, safe := { s.safe with cells := s.get Obj.cellCount } } with ht
  have h0 : Stays planObjects s t := Stays.mk' rfl rfl rfl rfl rfl rfl rfl rfl (fun h => h)
  set u := [1, 2].foldl (fun u k => if s.get Obj.cellCount < u.spareCell k then releaseSpare k (s.get Obj.cellCount) u else u) t with hu
  have h1 : Stays planObjects t u := by
    rw [hu]
    simp only [List.foldl_cons, List.foldl_nil]
    have g : ∀ (k : Nat) (x : State), k ≤ 2 →
        Stays planObjects x (if s.get Obj.cellCount < x.spareCell k then releaseSpare k (s.get Obj.cellCount) x else x) := by
      intro k x hk
      split_ifs
      · exact releaseSpare_stays hk _ x
      · exact Stays.refl _ _
    exact (g 1 t (by decide)).trans (g 2 _ (by decide))
  set v := ((List.range 24).filter (fun i => s.get Obj.cellCount ≤ i)).foldl
    (fun w i => (setChannel (i + 1) 0 w).clear (Obj.cellResult + (i + 1))) u with hv
  have h2 : Stays planObjects u v := by
    have key : ∀ (l : List Nat), (∀ i ∈ l, i < 24) → ∀ x, Stays planObjects x (l.foldl
        (fun w i => (setChannel (i + 1) 0 w).clear (Obj.cellResult + (i + 1))) x) := by
      intro l
      induction l with
      | nil => exact fun _ x => Stays.refl _ x
      | cons y l ih =>
        intro hl x
        have hy : y < 24 := hl y (by simp)
        exact ((setChannel_stays (by omega) 0 x).trans (Stays.clear _ (result_mem (by omega)))).trans (ih (fun i hi => hl i (by simp [hi])) _)
    exact key _ (fun i hi => by simp at hi; exact hi.1) u
  have h3 := h0.trans (h1.trans h2)
  refine h3.trans (Stays.trans (t := { v with cells := { v.cells with
    retiring := v.cells.retiring % 2 ^ s.get Obj.cellCount, releasing := v.cells.releasing % 2 ^ s.get Obj.cellCount,
    reinstate := v.cells.reinstate % 2 ^ s.get Obj.cellCount } }) ?_ ?_)
  · exact Stays.mk' rfl rfl rfl rfl rfl rfl rfl rfl (fun h => h)
  · exact restoreCovers_stays ⟨(h3.calm c).1, (h3.calm c).2⟩

theorem set2_stays {ks : List Nat} (s : State) {k j : Nat} (a b : Nat) (hk : k ∈ ks) (hj : j ∈ ks) : Stays ks s ((s.set k a).set j b) :=
  (Stays.set s a hk).trans (Stays.set _ b hj)

theorem mirrorCodes_stays (s : State) : Stays planObjects s (mirrorCodes s) := by
  have h := fun a b => set2_stays (ks := planObjects) s (k := Obj.mirrorCodes) (j := Obj.mirrorGuardBand) a b (by decide) (by decide)
  exact (h _ _).trans (Stays.mk' rfl rfl rfl rfl rfl rfl rfl rfl (fun h => h))

/-- The tail of the start of the ROM plan. -/
theorem romTail_stays (ks : List Nat) (a : Nat) (p : PlanEng) (c : CellEng) (m : TimeEng) (t : State) :
    Stays ks t { recordAt a t with plan := p, cells := c, time := m } :=
  Stays.mk' rfl rfl rfl rfl rfl rfl rfl rfl (fun h => h)

/-- The state of the ROM plan as its start sets it up. -/
theorem romStart_stays (t : State) : Stays planObjects t (((t.set Obj.cycleStart t.ringTime).set Obj.cycleCount 0).set Obj.adhocMaxGap 16000) :=
  (set2_stays t _ _ (by decide) (by decide)).trans (Stays.set _ _ (by decide))

theorem recordPlan_stays (ks : List Nat) (a : Nat) (p : PlanEng) (t : State) : Stays ks t { recordAt a t with plan := p } :=
  Stays.mk' rfl rfl rfl rfl rfl rfl rfl rfl (fun h => h)

theorem startRom_stays {s : State} (c : Calm s) : Stays planObjects s (startRom s) := by
  have h0 := newWindow_stays planObjects s
  have h1 := h0.trans (closeOutputs_stays _)
  have h2 := h1.trans (applyCellCount_stays (h1.calm c))
  have h3 := h2.trans (mirrorCodes_stays _)
  unfold startRom
  rw [abortSlices_calm _ (h0.calm c)]
  exact (h3.trans (romStart_stays _)).trans (romTail_stays _ _ _ _ _ _)

theorem haltPlan_stays {s : State} (c : Calm s) : Stays planObjects s (haltPlan s) := by
  have h0 := newWindow_stays planObjects s
  unfold haltPlan
  rw [abortSlices_calm _ (h0.calm c)]
  exact (h0.trans (closeOutputs_stays _)).trans (recordPlan_stays _ _ _ _)

theorem planForMode_stays (m : Nat) {s : State} (c : Calm s) : Stays planObjects s (planForMode m s) := by
  have hs : ∀ (t : State) (o : Option Nat), Stays planObjects t { t with plan := { t.plan with startAt := o } } :=
    fun t o => Stays.mk' rfl rfl rfl rfl rfl rfl rfl rfl (fun h => h)
  have hr := startRom_stays c
  have hh := haltPlan_stays c
  unfold planForMode
  dsimp only
  generalize startRom s = r at hr ⊢
  generalize haltPlan s = q at hh ⊢
  split_ifs
  all_goals first
    | exact Stays.refl _ _
    | exact hs _ _
    | exact hr
    | exact hh
    | exact hr.trans (hs _ _)

theorem plan_mode {k : Nat} (h : k ∈ planObjects) : k ∈ modeObjects := List.mem_append_left _ h

theorem queue_stays (ks : List Nat) (p : OutPkt) (s : State) : Stays ks s (s.queue p) :=
  Stays.mk' rfl rfl rfl rfl rfl rfl rfl rfl (fun h => h)

theorem portEvent_stays (a b c d : Nat) (s : State) : Stays modeObjects s (portEvent a b c d s) := by
  unfold portEvent
  split_ifs
  · exact Stays.refl _ _
  · exact Stays.mk' rfl rfl rfl rfl rfl rfl rfl rfl (fun h => h)
  · refine Stays.trans (Stays.count s 16 (k := Obj.eventsLost) (by decide)) ?_
    exact Stays.mk' rfl rfl rfl rfl rfl rfl rfl rfl (fun h => h)

theorem txFrame_stays (ks : List Nat) (a b c : Nat) (d : List Nat) (e f : Bool) (s : State) : Stays ks s (txFrame a b c d e f s) :=
  Stays.mk' rfl rfl rfl rfl rfl rfl rfl rfl (fun h => h)

theorem ringEvent_stays (a b : Nat) (s : State) : Stays modeObjects s (ringEvent a b s) := by
  unfold ringEvent
  split_ifs
  · exact Stays.refl _ _
  · exact txFrame_stays _ _ _ _ _ _ _ _
  · refine Stays.trans (Stays.count s 16 (k := Obj.ringEventsLost) (by decide)) ?_
    exact Stays.mk' rfl rfl rfl rfl rfl rfl rfl rfl (fun h => h)

theorem event_stays (a b : Nat) (s : State) : Stays modeObjects s (event a b s) :=
  (portEvent_stays _ _ _ _ s).trans (ringEvent_stays _ _ _)

/-- An event changes no object but the two counts of lost events. -/
theorem event_get (a b : Nat) (s : State) {k : Nat} (h : k ∉ [Obj.eventsLost, Obj.ringEventsLost]) : (event a b s).get k = s.get k := by
  simp only [List.mem_cons, List.not_mem_nil, or_false, not_or] at h
  have h1 : ∀ (a b c d : Nat) (x : State), (portEvent a b c d x).get k = x.get k := by
    intro a b c d x
    unfold portEvent
    split_ifs
    · rfl
    · rfl
    · exact State.get_set_ne x _ h.1
  have h2 : ∀ (a b : Nat) (x : State), (ringEvent a b x).get k = x.get k := by
    intro a b x
    unfold ringEvent
    split_ifs
    · rfl
    · rfl
    · exact State.get_set_ne x _ h.2
  unfold event
  rw [h2, h1]

theorem notify_stays (s : State) : Stays modeObjects s (notify s) := by
  unfold notify
  split_ifs
  · exact Stays.mk' rfl rfl rfl rfl rfl rfl rfl rfl (fun h => h)
  · exact Stays.mk' rfl rfl rfl rfl rfl rfl rfl rfl (fun h => h)
  · exact Stays.count s 16 (by decide)

theorem selftestEnds_stays {s : State} (c : Calm s) : Stays modeObjects s (selftestEnds s) := by
  unfold selftestEnds
  split_ifs
  · rw [abortSlices_calm _ c]
    exact (Stays.setField _ _ _ _ (by decide)).trans (Stays.mk' rfl rfl rfl rfl rfl rfl rfl rfl (fun h => h))
  · exact Stays.refl _ _

/-- ModeStatus as a change of mode writes it. -/
def modeWrite (m cause : Nat) (s : State) : State :=
  ((s.setField Obj.modeStatus 8 8 s.modeCode).setField Obj.modeStatus 0 8 m).setField Obj.modeStatus 24 8 cause

theorem modeWrite_stays (m cause : Nat) (s : State) : Stays modeObjects s (modeWrite m cause s) :=
  have h : Obj.modeStatus ∈ modeObjects := by decide
  (Stays.setField s 8 8 _ h).trans ((Stays.setField _ 0 8 m h).trans (Stays.setField _ 24 8 cause h))

theorem modeWrite_code (cause : Nat) {m : Nat} (s : State) (h : m < 256) : bits ((modeWrite m cause s).get Obj.modeStatus) 0 8 = m := by
  unfold modeWrite
  rw [State.get_setField_self, bits_setBits_below _ _ _ _ _ _ (by decide), State.get_setField_self, bits_setBits]
  exact Nat.mod_eq_of_lt h

theorem icxUp_stays (s : State) : Stays modeObjects s (icxUp s) :=
  (Stays.count s 16 (k := Obj.counterGapCount) (by decide)).trans (Stays.mk' rfl rfl rfl rfl rfl rfl rfl rfl (fun h => h))

theorem icxUp_get (s : State) {k : Nat} (h : k ≠ Obj.counterGapCount) : (icxUp s).get k = s.get k := State.get_set_ne s _ h

theorem closeSafe_stays (s : State) : Stays modeObjects s ((disableBalancing s).set Obj.cenRequest 0) := by
  refine Stays.trans (Stays.set s 0 (k := Obj.balEnable) (by decide)) ?_
  exact Stays.trans (t := { s.set Obj.balEnable 0 with bal := { s.bal with enabled := 0 } })
    (Stays.mk' rfl rfl rfl rfl rfl rfl rfl rfl (fun h => h)) (Stays.set _ 0 (k := Obj.cenRequest) (by decide))

theorem closeSafe_get (s : State) {k : Nat} (h : k ≠ Obj.balEnable) (g : k ≠ Obj.cenRequest) :
    ((disableBalancing s).set Obj.cenRequest 0).get k = s.get k :=
  (State.get_set_ne _ 0 g).trans (State.get_set_ne s 0 h)

/-- The plan and the event of a change of mode. -/
theorem modeTail (m : Nat) {s : State} (c : Calm s) :
    Stays modeObjects s (event 3 m (planForMode m { s with mode := { s.mode with auto := none } })) ∧
      (event 3 m (planForMode m { s with mode := { s.mode with auto := none } })).get Obj.modeStatus = s.get Obj.modeStatus := by
  have h0 : Stays modeObjects s { s with mode := { s.mode with auto := none } } :=
    Stays.mk' rfl rfl rfl rfl rfl rfl rfl rfl (fun h => h)
  have h1 := planForMode_stays m (s := { s with mode := { s.mode with auto := none } }) ⟨c.1, c.2⟩
  refine ⟨h0.trans ((h1.mono (fun _ => plan_mode)).trans (event_stays 3 m _)), ?_⟩
  rw [event_get 3 m _ (by decide)]
  exact h1.objs _ (by decide)

/-- A condition chooses between two states that both leave what the lists say. -/
theorem Stays.ite {ks : List Nat} {s t u : State} (b : Bool) (h : Stays ks s t) (g : Stays ks s u) :
    Stays ks s (if b = true then t else u) := by
  split_ifs
  · exact h
  · exact g

/-- What follows the write of ModeStatus. -/
theorem changeRest (m : Nat) {a : State} (h : Calm a) (p b c : State) (hp : p = a.set Obj.domainStatus (domainsFor m a))
    (hb : b = if (!a.on .icx && p.on .icx) = true then icxUp p else p)
    (hc : c = if (decide (m = Mode.safeMode) || decide (m = Mode.configHold)) = true then (disableBalancing b).set Obj.cenRequest 0 else b)
    (f : Slice → Bool) :
    Stays modeObjects a (event 3 m (planForMode m { abortSlices f c with mode := { (abortSlices f c).mode with auto := none } })) ∧
      (event 3 m (planForMode m { abortSlices f c with mode := { (abortSlices f c).mode with auto := none } })).get Obj.modeStatus =
        a.get Obj.modeStatus := by
  have h3 : Stays modeObjects a p := hp ▸ Stays.set _ _ (by decide)
  have m3 : p.get Obj.modeStatus = a.get Obj.modeStatus :=
    hp ▸ State.get_set_ne a _ (k := Obj.domainStatus) (j := Obj.modeStatus) (by decide)
  have h4 : Stays modeObjects p b := hb ▸ Stays.ite _ (icxUp_stays p) (Stays.refl _ _)
  have m4 : b.get Obj.modeStatus = p.get Obj.modeStatus := by
    rw [hb]
    split_ifs
    · exact icxUp_get p (by decide)
    · rfl
  have h5 : Stays modeObjects b c := hc ▸ Stays.ite _ (closeSafe_stays b) (Stays.refl _ _)
  have m5 : c.get Obj.modeStatus = b.get Obj.modeStatus := by
    rw [hc]
    split_ifs
    · exact closeSafe_get b (by decide) (by decide)
    · rfl
  have hall := h3.trans (h4.trans h5)
  rw [abortSlices_calm f (hall.calm h)]
  have ht := modeTail m (hall.calm h)
  exact ⟨hall.trans ht.1, ht.2.trans (m5.trans (m4.trans m3))⟩

/-- The mode after a change of mode, on which nothing else in it acts. -/
theorem changeMode_eq (m cause : Nat) {s : State} (c : Calm s) :
    Stays modeObjects s (changeMode m cause s) ∧ (m < 256 → (changeMode m cause s).modeCode = m) := by
  have h1 := selftestEnds_stays c
  have h2 := modeWrite_stays m cause (selftestEnds s)
  have h := changeRest m (h2.calm (h1.calm c)) _ _ _ rfl rfl rfl
    (modeCuts m)
  refine ⟨h1.trans (h2.trans h.1), fun hm => ?_⟩
  exact (congrArg (fun v => bits v 0 8) h.2).trans (modeWrite_code cause _ hm)

/-! Fault sources that do not lead to SAFE. -/

theorem keeps_mk {ks : List Nat} {bs : List Block} {s t : State} (h : ∀ k, k ∉ ks → t.get k = s.get k)
    (g : ∀ b, b ∉ bs → Block.same b s t) : Keeps ks bs s t := ⟨h, g⟩

theorem keeps_set {ks : List Nat} (bs : List Block) (s : State) {k : Nat} (v : Nat) (h : k ∈ ks) : Keeps ks bs s (s.set k v) :=
  ⟨fun j hj => State.get_set_ne s v (fun e => hj (e ▸ h)), fun b _ => by cases b <;> simp [Block.same, State.set]⟩

theorem keeps_ite {ks : List Nat} {bs : List Block} {s t u : State} (p : Prop) [Decidable p] (h : Keeps ks bs s t) (g : Keeps ks bs s u) :
    Keeps ks bs s (if p then t else u) := by
  split_ifs
  · exact h
  · exact g

theorem event_keeps (a b : Nat) (s : State) : Keeps [Obj.eventsLost, Obj.ringEventsLost] [.port, .ring] s (event a b s) := by
  refine ⟨fun k h => event_get a b s h, fun x hx => ?_⟩
  have h1 : ∀ (a b c d : Nat) (u : State), x.same u (portEvent a b c d u) := by
    intro a b c d u
    unfold portEvent
    split_ifs <;> cases x <;> simp_all [Block.same, State.queue, State.count, State.set]
  have h2 : ∀ (a b : Nat) (u : State), x.same u (ringEvent a b u) := by
    intro a b u
    unfold ringEvent
    split_ifs <;> cases x <;> simp_all [Block.same, txFrame, State.count, State.set]
  exact Block.same_trans (h1 _ _ _ _ s) (h2 _ _ _)

theorem notify_keeps (s : State) : Keeps [Obj.notifyLost] [.notes] s (notify s) := by
  unfold notify
  refine keeps_ite _ ?_ (keeps_ite _ ?_ (keeps_set _ s _ (by simp)))
  all_goals exact ⟨fun k _ => rfl, fun b hb => by cases b <;> simp_all [Block.same]⟩

theorem stageAuto_keeps (a b : Nat) (s : State) : Keeps [] [.mode] s (stageAuto a b s) := by
  unfold stageAuto
  split
  · exact keeps_ite _ (Keeps.refl _ _ _) ⟨fun k _ => rfl, fun b hb => by cases b <;> simp_all [Block.same]⟩
  · exact ⟨fun k _ => rfl, fun b hb => by cases b <;> simp_all [Block.same]⟩

theorem flt_keeps (ks : List Nat) (s : State) (f : FaultEng) : Keeps ks faultBlocks s { s with flt := f } :=
  ⟨fun k _ => rfl, fun b hb => by cases b <;> simp_all [Block.same, faultBlocks]⟩

theorem faultLog_keeps (c n : Nat) (s : State) : Keeps (faultObjects c) faultBlocks s (faultLog c n s) := by
  unfold faultLog
  exact (keeps_set faultBlocks s _ (by simp [faultObjects])).trans (flt_keeps _ _ _)

theorem bit_setBit_self (v n : Nat) (b : Bool) : bit (setBit v n b) n = b := by
  have h := bits_setBits v n 1 (if b then 1 else 0)
  unfold bits at h
  unfold bit setBit
  cases b <;> simp_all

/-- A source that is not set sets: its status and its registers first, then what its severity acts on. -/
theorem faultOccur_form {c : Nat} {s : State} (h1 : s.faultOn c = false) (h4 : faultObj Obj.faultSeverity c ∉ faultObjects c) :
    ∃ f, Keeps (faultObjects c) faultBlocks s f ∧ f.faultOn c = true ∧
      faultOccur c s =
        (if (if c ≤ 1 then 3 else s.get (faultObj Obj.faultSeverity c)) = 3 then
            { enterSafe f with flt := { (enterSafe f).flt with setIn := setBit (enterSafe f).flt.setIn c true } }
          else if ((if c ≤ 1 then 3 else s.get (faultObj Obj.faultSeverity c)) == 2 && f.modeIn outputModes) = true then stageAuto Mode.measure 9 f
          else f) := by
  unfold faultOccur
  dsimp only
  set a : State := { s with flt := { s.flt with
    cond := setBit s.flt.cond c true
    quiet := setBit s.flt.quiet c false
    setIn := setBit s.flt.setIn c true
    clearedIn := setBit s.flt.clearedIn c false } } with ha
  have ka : Keeps (faultObjects c) faultBlocks s a := flt_keeps _ _ _
  set b := if bit s.flt.clearedIn c = true then faultCollision c a else a with hb
  have kb : Keeps (faultObjects c) faultBlocks s b := by
    rw [hb]
    refine keeps_ite _ (ka.trans ?_) ka
    clear_value a
    unfold faultCollision
    exact (keeps_set faultBlocks a (k := faultObj Obj.faultCollisionCount c) _ (by simp [faultObjects])).trans (faultLog_keeps _ _ _)
  simp only [h1, Bool.false_and, Bool.false_eq_true, if_false]
  have hs : b.get (faultObj Obj.faultSeverity c) = s.get (faultObj Obj.faultSeverity c) := kb.1 _ h4
  rw [hs]
  set sev := if c ≤ 1 then 3 else s.get (faultObj Obj.faultSeverity c) with hsev
  set e := faultLog c _ _ with he
  have ke : Keeps (faultObjects c) faultBlocks s e := by
    rw [he]
    exact kb.trans ((flt_keeps _ _ _).trans (faultLog_keeps _ _ _))
  have fe : e.faultOn c = true := by
    rw [he]
    simp [State.faultOn, faultLog, bit_setBit_self]
  have kf : Keeps (faultObjects c) faultBlocks e (if 1 ≤ sev then event 1 c e else e) :=
    keeps_ite _ (keeps_mono (event_keeps _ _ _) (by simp [faultObjects]) (by simp [faultBlocks])) (Keeps.refl _ _ _)
  have ff : (if 1 ≤ sev then event 1 c e else e).faultOn c = true := by
    split_ifs
    · rw [(event_stays 1 c e).faultOn]; exact fe
    · exact fe
  set f := if 1 ≤ sev then event 1 c e else e
  have kn : Keeps (faultObjects c) faultBlocks f (notify f) :=
    keeps_mono (notify_keeps f) (by simp [faultObjects]) (by simp [faultBlocks])
  have fn : (notify f).faultOn c = true := by
    rw [(notify_stays f).faultOn]; exact ff
  exact ⟨notify f, ke.trans (kf.trans kn), fn, rfl⟩

/-- A source whose severity is not SAFE: its status sets, and nothing but the fault's own registers, the counts of what was lost, the events
and a transition that waits changes. -/
theorem faultOccur_mild {c : Nat} {s : State} (h1 : s.faultOn c = false) (h2 : 2 ≤ c) (h3 : s.get (faultObj Obj.faultSeverity c) ≠ 3)
    (h4 : faultObj Obj.faultSeverity c ∉ faultObjects c) :
    Keeps (faultObjects c) faultBlocks s (faultOccur c s) ∧ (faultOccur c s).faultOn c = true := by
  obtain ⟨f, kf, ff, e⟩ := faultOccur_form h1 h4
  rw [e, if_neg (by omega : ¬ c ≤ 1), if_neg h3]
  split_ifs
  · refine ⟨kf.trans (keeps_mono (stageAuto_keeps _ _ _) (by simp) (by simp [faultBlocks])), ?_⟩
    have : (stageAuto Mode.measure 9 f).flt = f.flt := by
      unfold stageAuto
      split
      · split_ifs <;> rfl
      · rfl
    unfold State.faultOn
    rw [this]
    exact ff
  · exact ⟨kf, ff⟩

/-! Entry into SAFE. -/

theorem mode_safe {k : Nat} (h : k ∈ modeObjects) : k ∈ safeObjects := List.mem_append_left _ h

theorem alsoEnds_stays (ks : List Nat) (n : Nat) (s : State) : Stays ks s (alsoEnds n s) := by
  unfold alsoEnds
  split
  · split_ifs
    · exact Stays.mk' rfl rfl rfl rfl rfl rfl rfl rfl (fun h => h)
    · exact Stays.refl _ _
  · exact Stays.refl _ _

theorem dwellFollow_stays (s : State) : Stays safeObjects s (dwellFollow s) :=
  (Stays.setBitOf s 5 s.dwellHolds (k := Obj.powerPathStatus) (by decide)).trans (Stays.mk' rfl rfl rfl rfl rfl rfl rfl rfl (fun h => h))

theorem endTransfer_stays (n : Nat) (s : State) : Stays safeObjects s (endTransfer n s) := by
  have h := (by decide : Obj.xferStatus ∈ safeObjects)
  unfold endTransfer
  dsimp only
  split_ifs
  · exact alsoEnds_stays _ _ _
  · refine Stays.trans ?_ (dwellFollow_stays _)
    refine (Stays.setField s 0 4 4 h).trans ((Stays.setBitOf _ 4 false h).trans ((Stays.setBitOf _ 5 false h).trans
      ((Stays.set _ s.xferElapsedMs (k := Obj.xferElapsed) (by decide)).trans ?_)))
    exact Stays.mk' rfl rfl rfl rfl rfl rfl rfl rfl (fun h => h)

theorem stageEnds_stays (s : State) : Stays safeObjects s (stageEnds s) := by
  unfold stageEnds
  dsimp only
  split_ifs
  · exact (Stays.set s s.xferElapsedMs (k := Obj.xferElapsed) (by decide)).trans (Stays.mk' rfl rfl rfl rfl rfl rfl rfl rfl (fun h => h))
  · exact Stays.refl _ _

theorem endLoupe_stays {s : State} (c : Calm s) : Stays safeObjects s (endLoupe s) := by
  unfold endLoupe loupeEndPoint
  simp only [c.2]
  split_ifs
  · exact Stays.refl _ _
  · refine (Stays.setBitOf s 16 false (k := Obj.loupeSessionStatus) (by decide)).trans ((stageEnds_stays _).trans ?_)
    exact Stays.mk' rfl rfl rfl rfl rfl rfl rfl rfl (fun h => h)

theorem overtake_stays (s : State) : Stays safeObjects s (overtake s) ∧ (overtake s).modeCode = s.modeCode := by
  unfold overtake
  split
  · exact ⟨Stays.refl _ _, rfl⟩
  · refine ⟨Stays.trans (t := { s with mode := { s.mode with staged := none, reverseWait := false } })
      (Stays.mk' rfl rfl rfl rfl rfl rfl rfl rfl (fun h => h)) (Stays.setField _ 16 8 _ (k := Obj.modeStatus) (by decide)), ?_⟩
    unfold State.modeCode
    rw [State.get_setField_self, bits_setBits_below _ _ _ _ _ _ (by decide)]
    rfl

theorem taken_stays {ks : List Nat} {s t : State} (h : Stays ks s t) (m : Nat) (g : t.modeCode = m) :
    Stays ks s { t with mode := { t.mode with autoTaken := true } } ∧
      State.modeCode { t with mode := { t.mode with autoTaken := true } } = m :=
  ⟨h.trans (Stays.mk' rfl rfl rfl rfl rfl rfl rfl rfl (fun h => h)), g⟩

theorem endSessions_stays {s : State} (c : Calm s) : Stays safeObjects s (endLoupe (endTransfer 5 s)) :=
  have h := endTransfer_stays 5 s
  h.trans (endLoupe_stays (h.calm c))

theorem toSafe_stays {s : State} (c : Calm s) :
    Stays safeObjects s (overtake (changeMode Mode.safeMode 3 s)) ∧
      (overtake (changeMode Mode.safeMode 3 s)).modeCode = Mode.safeMode := by
  have h3 := changeMode_eq Mode.safeMode 3 c
  have h4 := overtake_stays (changeMode Mode.safeMode 3 s)
  exact ⟨(h3.1.mono (fun _ => mode_safe)).trans h4.1, h4.2.trans (h3.2 (by decide))⟩

/-- Entry into SAFE, from a mode that leads there. -/
theorem enterSafe_eq {s : State} (c : Calm s) (h : s.modeIn safeFrom = true) :
    Stays safeObjects s (enterSafe s) ∧ (enterSafe s).modeCode = Mode.safeMode := by
  have h1 := endSessions_stays c
  have h2 := toSafe_stays (h1.calm c)
  have e : enterSafe s = { overtake (changeMode Mode.safeMode 3 (endLoupe (endTransfer 5 s))) with
      mode := { (overtake (changeMode Mode.safeMode 3 (endLoupe (endTransfer 5 s)))).mode with autoTaken := true } } := if_pos h
  rw [e]
  exact taken_stays (h1.trans h2.1) _ h2.2

/-- A source of the severity SAFE leads to SAFE. -/
theorem faultOccur_safe {c : Nat} {s : State} (h1 : s.faultOn c = false) (h3 : c ≤ 1 ∨ s.get (faultObj Obj.faultSeverity c) = 3)
    (h4 : faultObj Obj.faultSeverity c ∉ faultObjects c) (h5 : Obj.modeStatus ∉ faultObjects c) (hc : Calm s)
    (hm : s.modeIn safeFrom = true) : (faultOccur c s).modeCode = Mode.safeMode ∧ (faultOccur c s).faultOn c = true := by
  obtain ⟨f, kf, ff, e⟩ := faultOccur_form h1 h4
  have hs : (if c ≤ 1 then 3 else s.get (faultObj Obj.faultSeverity c)) = 3 := by
    split_ifs with g
    · rfl
    · exact h3.resolve_left g
  rw [e, if_pos hs]
  have ht : f.test = s.test := kf.2 .test (by decide)
  have hl : f.loupe = s.loupe := kf.2 .loupe (by decide)
  have cf : Calm f := ⟨by rw [ht]; exact hc.1, by rw [hl]; exact hc.2⟩
  have mf : f.modeIn safeFrom = true := by
    unfold State.modeIn State.modeCode at hm ⊢
    rw [kf.1 _ h5]
    exact hm
  have g := enterSafe_eq cf mf
  refine ⟨g.2, ?_⟩
  exact (g.1.faultOn c).trans ff

end Sys2Proof.Machine
end

