-- ==== Sys2Proof/Tests/Slice0.lean ====
section
/-! SUPPORT. The model's own tests: small states, the terms that WellFormed refuses, the word of a command, one witness for every clause of a
statement that has hypotheses (a concrete state and concrete operands that meet them together), and single steps against the spec. -/

namespace Sys2Proof.Tests
open Sys2Proof Sys2Proof.Machine
set_option Elab.async false

/-! Small states. -/

/-- A device in mode m, its core ready, with client 0 as MASTER at the SPI port. -/
def up (m : Nat) : State :=
  let s := State.reset.setAll
    [(Obj.supervisorState, 0), (Obj.modeStatus, m), (Obj.domainStatus, modeDomains m), (Obj.hostPortActive, 1)]
  { s with port := { s.port with sessions := [⟨0, 2, 1, 0⟩] } }

/-- A packet of client 0 with TAG 7, LOCAL. -/
def host0 : Ctx := ⟨.host 0, 7, 64, true⟩

/-- A packet of client 2, LOCAL. -/
def host2 : Ctx := ⟨.host 2, 7, 64, true⟩

/-- A packet by the ring from session 3 of node 1, for node 2. -/
def fromRing : Ctx := ⟨.ring 1 3, 7, 2, true⟩

/-- The row of an object that exists. -/
def rowOf (index sub : Nat) : ObjRow :=
  match lookup index sub with
  | .inr r => r
  | .inl _ => ⟨0, 0, 0, 0, .uint, 0, .ro, false, false, false, false, 0, 0, .any⟩

/-- The core is in its ROM boot. -/
def booting : State := (up 6).set Obj.supervisorState 1

/-- The same as `up 6`, its port SPI. -/
def onSpi : State := up 6

/-- The port is CAN. -/
def onCan : State := (up 6).set Obj.hostPortActive 2

/-- The head of a ring in epoch 5. -/
def head (m : Nat) : State :=
  (up m).setAll [(Obj.nodeAddress, 1), (Obj.ringRole, 2), (Obj.ringEpoch, 5), (Obj.headAddress, 1)]

/-- Node 2 of the same ring. -/
def node (m : Nat) : State :=
  (up m).setAll [(Obj.nodeAddress, 2), (Obj.ringRole, 0), (Obj.ringEpoch, 5), (Obj.headAddress, 1)]

/-- An entry of a plan image (R248). -/
def planEntry (off act ch p fl : Nat) : List Nat :=
  let b := leBytes 3 off ++ [act] ++ leBytes 4 ch ++ leBytes 4 p ++ leBytes 2 fl
  b ++ leBytes 2 (crc16 b)

/-- A plan image (R242 to R247) with a duty table of zeros and no sleep plan. -/
def planImage (id lc : Nat) (es : List (List Nat)) : List Nat :=
  let n := es.length
  let h := leBytes 4 0x52415548 ++ [1, id] ++ leBytes 2 n ++ leBytes 4 lc ++ [0, 1] ++ leBytes 2 320 ++ leBytes 2 (356 + 16 * n) ++
    List.replicate 138 0 ++ (List.range 16).flatMap (fun p => leBytes 2 (p * 100) ++ leBytes 2 0) ++ List.replicate 132 0
  let b := h ++ es.flatten
  b ++ leBytes 4 (crc32c b)

/-- A plan with a MARK and the three die readings. -/
def planA : List Nat :=
  planImage 7 159936 [planEntry 0 8 0 0 0, planEntry 1000 5 0 1 0, planEntry 2000 5 0 2 0, planEntry 3000 5 0 3 0,
    planEntry 100000 15 0 0 0]

/-- A plan that also converts all cells, starts and stops a Loupe point, and switches the transfer stage. -/
def planB : List Nat :=
  planImage 8 800000 [planEntry 0 8 0 0 0, planEntry 1000 5 0 1 0, planEntry 2000 5 0 2 0, planEntry 3000 5 0 3 0,
    planEntry 4000 1 0xFFFFFF 1 0, planEntry 5000 12 0 0x10 0, planEntry 100000 11 0 0 0, planEntry 130000 8 0 0 0,
    planEntry 260000 8 0 0 0, planEntry 390000 8 0 0 0, planEntry 520000 8 0 0 0, planEntry 650000 8 0 0 0,
    planEntry 660000 12 0 0x20 0, planEntry 700000 10 0 0 0, planEntry 799000 15 0 0 0]

/-- A plan with one settle window, of switches 1 to 3. -/
def planC : List Nat :=
  planImage 9 159936 [planEntry 0 8 0 0 0, planEntry 10 4 7 0 0, planEntry 500 3 7 0 0, planEntry 1000 5 0 1 0,
    planEntry 2000 5 0 2 0, planEntry 3000 5 0 3 0, planEntry 4000 1 7 1 0, planEntry 100000 15 0 0 0]

/-- AuxSelect entries 1 to 3 name the die sensors. -/
def dieEntries (s : State) : State :=
  s.setAll [(Obj.auxSelect + 1, 0x13), (Obj.auxSelect + 2, 0x14), (Obj.auxSelect + 3, 0x15)]

/-- Plan B runs. -/
def running (m : Nat) : State :=
  dieEntries { up m with plan := { (up m).plan with bankA := ⟨planB, 0, true⟩, slots := [planB, planA, [], []], running := .bank } }

/-- Plan B runs in MEASURE. -/
def running6 : State := running 6

/-- Plan A waits for its switch. -/
def switching (m : Nat) : State :=
  { running m with plan := { (running m).plan with bankB := ⟨planA, 1, true⟩, switchAt := some 5 } }

/-- A bank whose image nothing reads. -/
def anyBank (m : Nat) : State :=
  { up m with plan := { (up m).plan with bankA := ⟨List.replicate 500 0, 0, true⟩, running := .bank } }

/-- A firmware image of the least size, its checks and its digest right (R504). -/
def firmware : List Nat :=
  let body := List.replicate 128 7
  let h := [0x53, 0x46, 0x57, 0x31] ++ leBytes 4 256 ++ List.replicate 16 0 ++ leBytes 4 (crc32c body) ++ leBytes 4 0
  h ++ sha256 (h ++ body) ++ List.replicate 64 0 ++ body

/-- The journal of an update stands in the log. -/
def withJournal (j : Journal) (s : State) : State :=
  let x : LogSector := { LogSector.fresh with state := 1, seq := 1, recs := [journalRecord (some j) 0] }
  { s with nvm := { s.nvm with log := x :: List.replicate 5 LogSector.fresh } }

/-- No source leads to SAFE. -/
def mild (s : State) : State :=
  s.setAll (((List.range 48).filter fun c => State.reset.get (faultObj Obj.faultSeverity c) = 3).map fun c =>
    (faultObj Obj.faultSeverity c, 2))

def reading : State := { up 6 with port := { (up 6).port with readXfers := [⟨.host 0, 0x0610, 0, List.replicate 3000 1, 0⟩] } }
def writing : State := { up 6 with port := { (up 6).port with writeXfer := some ⟨.host 0, 0x0610, 0, 3000, 0, []⟩ } }
def slotFull : State := { up 6 with plan := { (up 6).plan with slots := [List.replicate 1500 1, [], [], []] } }
def slotFullWriting : State :=
  { slotFull with port := { slotFull.port with writeXfer := some ⟨.host 0, 0x0610, 0, 3000, 0, []⟩ } }
def anAnswer : OutPkt := ⟨.response 0, [0x87, 1, 64, 0, 0, 0, 0, 0]⟩
def spiQueued : State := { onSpi with port := { onSpi.port with outQ := [anAnswer] } }
def spiBadSeven : State := { onSpi with port := { onSpi.port with spiBadRow := 7 } }
def pingCrc : Nat := crc16 ([1, 8, 0, 5] ++ [7, 9, 64, 0, 0, 0, 0, 0])
def canIdent (src client : Nat) : Nat := (up 6).get Obj.canPortId * 2 ^ 22 + src * 2 ^ 16 + client * 2 ^ 8
def onCan1 : State := { onCan with port := { onCan.port with sessions := [⟨1, 2, 1, 0⟩] } }
def onCanRx : State := { onCan1 with port := { onCan1.port with canRx := [⟨1, 1, [2, 9, 64], [0], false⟩] } }
def canLast : State := { onCan1 with port := { onCan1.port with canRx := [⟨1, 2, [7, 9, 3, 0, 0], [3], false⟩] } }
def canDiscarded : State := { onCan1 with port := { onCan1.port with canRx := [⟨1, 0, [], [], true⟩] } }
/-- A transfer of client 0, of a write or a read, that has timed out. -/
def endedBy (w : Bool) : State := { up 6 with port := { (up 6).port with ended := [⟨.host 0, 0x0610, 0, w⟩] } }
def transferEnded : State := endedBy false
def noSession (s : State) : State := { s with port := { s.port with sessions := [] } }
def asked (m : Nat) (s : State) : State := { s with mode := { s.mode with staged := some m } }
def returning (m : Nat) : State := { up m with mode := { (up m).mode with auto := some ⟨5, 6⟩, staged := some 6 } }
def shuttingDown (m : Nat) (s : State) : State := { s with mode := { s.mode with shutdown := some m } }
def loupeAsked (m : Nat) : State :=
  (running m).setAll [(Obj.loupePointMask, 1), (Obj.loupeFrequency + 1, 1000), (Obj.loupePeriods + 1, 0x10000),
    (Obj.powerPathStatus, 8), (Obj.xbsVoltage, 65535)]
def dwelling : State :=
  { (up 6).setAll [(Obj.powerPathPolicy, 1), (Obj.powerPathStatus, 8)] with mode := { (up 6).mode with dwell := true } }
def handing (b : Bool) (s : State) : State := { s with mode := { s.mode with handover := some ⟨b, 0, false⟩ } }
def mirrorLatched : State := { (up 6).set Obj.supplyStatus 0x7C with safe := { (up 6).safe with latched := true } }
def keyPending (s : State) : State := { s with safe := { s.safe with wdKey := some 0 } }
def imageVerified : State :=
  { (up 12).set Obj.updateStatus 0x302 with nvm := { (up 12).nvm with slotB := { FwSlot.factory with confirmedM := .erased } } }
def imageReceived : State :=
  let s := withJournal ⟨1, 256, 1⟩ ((up 12).setAll [(Obj.updateStatus, 0x402), (Obj.updateProgrammed, 256)])
  { s with
    nvm := { s.nvm with
      received := firmware, length := 256, erased := 1, programmed := 256, final := true,
      slotB := { FwSlot.erased with image := firmware } } }
def trialOfB : State :=
  { (up 6).set Obj.updateStatus 0x501 with
    nvm := { (up 6).nvm with
      slotB := { FwSlot.factory with confirmedM := .erased, trialM := .zero, bootedM := .zero }, runningB := true, trialAt := some 0 } }
/-- A firmware image arrives, and its journal stands. -/
def imageArrives : State :=
  let s := withJournal ⟨1, 3000, 0⟩
    ({ up 12 with port := { (up 12).port with writeXfer := some ⟨.host 0, 0x1010, 0, 3000, 0, []⟩ } }.set Obj.updateStatus 0x102)
  { s with nvm := { s.nvm with length := 3000, erased := 1 } }
def withFault (c : Nat) (s : State) : State := { s with flt := { s.flt with status := 2 ^ c } }
def balancing : State :=
  { (up 7).set Obj.balEnable 0xFFFFFF with
    plan := { (up 7).plan with held := 0 }
    bal := { (up 7).bal with enabled := 0xFFFFFF, budget := List.replicate 24 1000 } }
def converting (c : Nat) : State := { running 6 with aux := { (running 6).aux with busy := some ⟨c, 0, 100, false, 0, false⟩ } }
def anAperture : Aperture :=
  { a := 100, clkA := 100, osr := 1, mask := 3, through := false, planId := 8, cycle := 0, diag := false, spoilt := false, latch := 0,
    loupe := false, holdover := false, s1 := 0, s2 := 0, s1ov := false, s2ov := false, conduct := 0, noShadow := 0,
    ref := [], age := 0, calib := 0 }
def aUnit : CellUnit :=
  { a := 100, clkEnd := 3000, osr := 1, mask := 3, planId := 8, cycle := 0, diag := false, latch := 0, loupe := false,
    holdover := false, conduct := 0, cells := List.replicate 24 5, cur := 7, curSat := false, shadow := [], terms := [], waits := [],
    clkA := 100, s1 := 0, s2 := 0, ovl := [], sense := [], ref := [], part := 0 }
/-- A unit that waits for the recomputation of converter 1. -/
def waitingUnit : CellUnit := { aUnit with waits := [1] }
def bothServe (s : State) : State := (s.setBitOf Obj.laneService 4 true).setBitOf Obj.laneService 5 true
def northSlice : Slice := ⟨7, 0, 500, 0, 0, none, 0, 0, false⟩
def switchSlice : Slice := ⟨4, 0, 500, 3, 0, none, 0, 0, false⟩
def loopSlice : Slice := ⟨1, 0, 500, 3, 1, some 2, 0, 0, false⟩
def mirrorSlice : Slice := ⟨6, 0, 500, 3, 0, none, 0, 0, false⟩
def sourceSlice : Slice := ⟨9, 0, 500, 0, 0, none, 0, 0, false⟩
/-- The margins of MarginStatus are those of the state. -/
def withMargins (s : State) : State := s.setField Obj.marginStatus 0 40 (ofLe s.marginList)
def inSlice (x : Slice) (s : State) : State := withMargins { s with test := { s.test with slices := [x] }, clk := 20000 }
def selftesting : State :=
  { mild ((running 10).set Obj.selftestStatus 1) with plan := { (running 10).plan with running := .none } }
/-- The foreground set has these checks done. -/
def testing (l : List (Nat × Nat × Nat)) : State := { selftesting with test := { selftesting.test with set := l } }
def testingServed (l : List (Nat × Nat × Nat)) : State :=
  { bothServe (testing l) with plan := { (bothServe (testing l)).plan with running := .rom } }
def goodMemory : List MacroMeas := List.replicate 4 ⟨[], true⟩
def xferIn (m st : Nat) : State := (loupeAsked m).set Obj.xferStatus st
def aPoint : LoupePoint := ⟨0, 100, 16000, 0, 4, 6, true, [⟨10, 5, [], none, false⟩], 0⟩
def pointRuns : State := { loupeAsked 9 with loupe := { (loupeAsked 9).loupe with point := some aPoint } }
def refetching : State := { running 6 with plan := { (running 6).plan with refetch := [2] } }
def rawValue (v : Int) : CellRaw := ⟨v, false, 0, false⟩
def apertureOpen : State := { running 6 with cells := { (running 6).cells with apertures := [anAperture] } }
def unitWaits : State := { running 6 with cells := { (running 6).cells with unit := [{ aUnit with waits := [1] }] } }
def linked (s : State) : State :=
  bothServe (s.setAll [(Obj.linkStatus + 1, 0x302), (Obj.linkStatus + 2, 0x302), (Obj.ringGeneration, 3)])
def atHead : State := linked { head 6 with plan := (running 6).plan }
def atNode : State := linked { node 6 with plan := (running 6).plan }
def inTime (st : Nat) (s : State) : State := s.setField Obj.ringTimeStatus 0 3 st
def fromHead (p : Side) (type flags dst seq : Nat) (body : List Nat) : RingFrame :=
  ⟨p, frameBytes atHead ⟨type, flags, dst, seq, body, true, true⟩, true, none⟩
def fromNode (p : Side) (type flags dst seq : Nat) (body : List Nat) : RingFrame :=
  ⟨p, frameBytes atNode ⟨type, flags, dst, seq, body, true, true⟩, true, none⟩
def aMark : RingFrame :=
  fromHead .north 3 0 63 9 (leBytes 6 5000 ++ [0, 0, 0, 0] ++ leBytes 4 1 ++ leBytes 6 900000 ++ [8, 0, 0, 0])
def tracking : State := { atHead with plan := { atHead.plan with bankA := ⟨planB.set 12 1, 0, true⟩ } }
def measuring : State := { atNode with ring := { atNode.ring with north := { atNode.ring.north with waitId := some 4 } } }
def shortFrame (p : Side) (ty fl : Nat) (b : List Nat) : RingFrame :=
  ⟨p, [ty * 16 + fl, 5, 0] ++ [crc8 [ty * 16 + fl, 5, 0]] ++ b ++ leBytes 4 (if ty = 2 then crc32c b else crcSafety b), true, none⟩
def pingPacket : List Nat := [7, 9, 2, 0, 0, 0, 0, 0]
def aRingCmd : RingCmd := ⟨0, 3, 7, 9, 2, 0, 0, 7, [], false⟩
def headAsks : State := { atHead with ring := { atHead.ring with cmds := [aRingCmd] } }
def aBulk : BulkRx := ⟨2, 4, true, 3, [(0, [0x87, 9, 2, 0, 0, 0, 0, 0])], none⟩
def setBody (a : Nat) : List Nat := [a, 8, 0, 0, 0, 0] ++ leBytes 6 5000 ++ List.replicate 112 3
def safetyBody (a st : Nat) : List Nat := [a, 5] ++ leBytes 4 1 ++ [0, 0] ++ leBytes 2 st ++ [0, 0]
def familyFrame : RingFrame := ⟨.north, [0x95, 3, 4, 1, 2, 3, 4] ++ leBytes 2 (crc16 [0x95, 3, 4, 1, 2, 3, 4]), true, none⟩
def anAnswerFrame : TxFrame := ⟨1, 3, 1, 4, [0x87, 9, 2, 0, 0, 0, 0, 0], true, true⟩
def aSet : SetSlot := ⟨setBody 2, true, true, true, true, false, false, false, false⟩
def goodSet : SetCheck := ⟨[], true, true⟩
def withEnum (f : EnumEng → EnumEng) (s : State) : State := { s with ring := { s.ring with enm := f s.ring.enm } }
def reportBody : List Nat := [2, 2, 3, 0, 0, 0, 0, 0] ++ leBytes 8 0x1234
def confirmBody : List Nat := [3, 2, 3, 2, 0, 0, 0, 0] ++ leBytes 8 6
def permitted : State :=
  { (running 6).setAll [(Obj.cenRequest, 1), (Obj.supplyStatus, 0x7C)] with
    safe := { (running 6).safe with firstDone := true, permitSup := true, permitMir := true, staticOk := true, packTrip := false }
    clk := 400000 }
def cenClosed : State := { permitted with safe := { permitted.safe with cenOn := true } }
def cenTesting : State := { cenClosed with safe := { cenClosed.safe with testing := some true } }
def booted : State := State.reset.set Obj.supervisorState 1
def asleepRom : State := { up 2 with plan := { (up 2).plan with sleepPlan := romSleepPlan (up 2) } }
def asleepCells : State := { up 2 with plan := { (up 2).plan with sleepPlan := [1, 0] ++ leBytes 4 3 ++ List.replicate 122 0 } }
/-- A sleep plan with one AUX entry, of AX0, that asks for a voltage between its limits. -/
def asleepAux : State :=
  { up 2 with plan := { (up 2).plan with sleepPlan := [2, 0] ++ leBytes 2 100 ++ leBytes 2 60000 ++ List.replicate 122 0 } }
def aReading (v : Int) : SleepReading := ⟨[v], [v], [v], [v]⟩
/-- What a sleep check would measure: every sample the same, and again at its repetition. -/
def readings (a b : Int) : SleepMeas := ⟨1000, List.replicate 16 (aReading a), List.replicate 16 (aReading b)⟩
def aFrame : FrameMeas := ⟨40000, 30000, 50, 60, true, true, 5⟩
def inSession (m st : Nat) : State :=
  { xferIn m st with
    xfer := { (xferIn m st).xfer with start := some 0, firstOn := some 0, thermalRun := true }
    plan := { (xferIn m st).plan with gateEnable := true } }
def facetOn : State := (running 6).set Obj.facetEnable 1
def facetSearching : State :=
  { facetOn.set Obj.facetStatus 5 with facet := { facetOn.facet with powered := true, searchFrames := some 3 } }
/-- A Facet window with the 24 bits of a word. -/
def facetWord (w : Nat) : FacetLine :=
  ⟨⟨some 500, false⟩, (List.range 24).map fun i => ⟨some (if w.testBit (23 - i) then 12000 else 4000), false⟩⟩
/-- A Facet window whose slots all rise at one time. -/
def facetSame (t : Nat) : FacetLine := ⟨⟨some 500, false⟩, List.replicate 24 ⟨some t, false⟩⟩
def dormantOn : State := { running 6 with test := { (running 6).test with refOn := true, refTaken := 3 } }
def slowCell : State :=
  { (running 6).setAll [(Obj.filterTau + 2, 60000), (Obj.settleStep + 2, 60000)] with
    plan := { (running 6).plan with bankA := ⟨planC, 0, true⟩ } }

/-- A packet whose store fails. -/
def hostBadStore : Ctx := ⟨.host 0, 7, 64, false⟩
/-- The quiet period of 21h runs, and its start is not noted. -/
def quietRuns : State :=
  { withFault 0x21 (up 6) with flt := { (withFault 0x21 (up 6)).flt with quiet := 2 ^ 0x21 }, clk := 10000 * ms }
def aSnapshot : RawSnapshot :=
  ⟨100, 0, List.replicate 24 (rawValue 330000), rawValue 0, rawValue 0, ⟨1000, false, 0, false⟩, [], 0, none, 0⟩
def heldUnit : CellUnit := { aUnit with cells := List.replicate 24 0x50000004, cur := 0 }
/-- The records of the last unit stand, and their raw words. -/
def recentUnit : State :=
  { running 6 with
    cells := { (running 6).cells with recent := [heldUnit], snapshots := [aSnapshot] }, clk := 5000, ringTime := 5000 }
def forwardSession : State := (inSession 8 2).setField Obj.xferConfig 0 2 1

/-! Hypotheses that are structures, from their parts. -/

theorem heardOf {s : State} {c : Ctx} {n op index sub : Nat}
    (h : c.src = .host n ∧ s.portUp = true ∧ (bit c.addr 6 = true ∨ (s.address ≠ 0 ∧ c.addr % 64 = s.address)) ∧
      isBroadcast c = false ∧ s.port.waiting = [] ∧ s.test.slices = [] ∧ s.nvm.owed = none ∧ s.updStage ≠ 1 ∧ s.port.resetReq = none ∧
      s.keptAnswer { c with src := .host (s.client n) } op index sub = none) : Heard s c n op index sub := by
  obtain ⟨a, b, d, e, f, g, i, j, k, l⟩ := h
  exact ⟨a, b, d, e, f, g, i, j, k, l⟩

theorem heardMasterOf {s : State} {c : Ctx} {n op index sub : Nat}
    (h : (c.src = .host n ∧ s.portUp = true ∧ (bit c.addr 6 = true ∨ (s.address ≠ 0 ∧ c.addr % 64 = s.address)) ∧
      isBroadcast c = false ∧ s.port.waiting = [] ∧ s.test.slices = [] ∧ s.nvm.owed = none ∧ s.updStage ≠ 1 ∧ s.port.resetReq = none ∧
      s.keptAnswer { c with src := .host (s.client n) } op index sub = none) ∧ s.role (.host n) = 2 ∧ s.supReady = true) :
    HeardMaster s c n op index sub :=
  ⟨heardOf h.1, h.2.1, h.2.2⟩

theorem heardRingOf {s : State} {c : Ctx} {node session op index sub : Nat}
    (h : c.src = .ring node session ∧ s.on .rng = true ∧ bit c.addr 6 = false ∧ isBroadcast c = false ∧ s.port.waiting = [] ∧
      s.test.slices = [] ∧ s.nvm.owed = none ∧ s.updStage ≠ 1 ∧ s.port.resetReq = none ∧ s.keptAnswer c op index sub = none) :
    HeardRing s c node session op index sub := by
  obtain ⟨a, b, d, e, f, g, i, j, k, l⟩ := h
  exact ⟨a, b, d, e, f, g, i, j, k, l⟩

theorem goodFirmwareOf {s : State}
    (h : s.nvm.slotA.confirmed = true ∧ s.nvm.slotA.revoked = false ∧ imageCrcOk s.nvm.slotA = true ∧ s.nvm.slotB.confirmed = false ∧
      (s.nvm.slotB.trial && !s.nvm.slotB.trialBooted && !s.nvm.slotB.revoked) = false) : GoodFirmware s := by
  obtain ⟨a, b, c, d, e⟩ := h
  exact ⟨a, b, c, d, e⟩

theorem goodFrameOf {s : State} {f : RingFrame} {type : Nat}
    (h : s.receives f.side = true ∧ frameEnd s f = .good ∧ frameType f.bytes = type ∧ s.address ≠ 0 ∧ f.bytes.getD 1 0 = s.epoch) :
    GoodFrame s f type := by
  obtain ⟨a, b, c, d, e⟩ := h
  exact ⟨a, b, c, d, e⟩

theorem sessionRunsOf {s : State} {c : Nat}
    (h : s.xferRuns = true ∧ s.xfer.loupe = false ∧ s.faultOn c = false ∧ s.get (faultObj Obj.faultSeverity c) ≠ 3) :
    SessionRuns s c := by
  obtain ⟨a, b, d, e⟩ := h
  exact ⟨a, b, d, e⟩

theorem marginsStandOf {s : State} (h : bits (s.get Obj.marginStatus) 0 40 = ofLe s.marginList) : MarginsStand s := h

theorem rowIs {index sub : Nat} {p : ObjRow → Prop} (h : p (rowOf index sub)) : ∀ r : ObjRow, lookup index sub = .inr r → p r := by
  intro r hr
  simpa [rowOf, hr] using h

/-! Witnesses. -/

theorem witness_EmptyQueueTicks_1 :
    (running 6).pending = [] ∧ ((running 6).found 1).port.waiting = [] := by decide +kernel

theorem witness_ReadAnswersValue_1 :
    (Instr.read 1 host0 1545 0 []).wf = true ∧ lookup 1545 0 = Sum.inr (rowOf 1545 0) ∧ (rowOf 1545 0).kind ≠ ObjKind.domain ∧ (rowOf
      1545 0).acc ≠ Access.wo ∧ faultIndex 1545 = none ∧ 1545 ≠ 3081 ∧ 1545 ≠ 2608 ∧ ((rowOf 1545 0).hw = true ∨ ((up 6).found 1).role
      (Source.host 0) ≠ 0 ∧ ((up 6).found 1).supReady = true) ∧ Heard ((up 6).found 1) host0 0 1 1545 0 := by
  and_intros <;> first | decide +kernel | exact heardOf (by decide +kernel)

theorem witness_ReadAnswersValue_2_1 :
    lookup 1545 0 = Sum.inr (rowOf 1545 0) ∧ (rowOf 1545 0).hw = false ∧ 1545 ≠ 3081 ∧ 1545 ≠ 2608 ∧ (booting.found 1).supReady = false
      ∧ (Instr.read 1 host0 1545 0 []).wf = true ∧ Heard (booting.found 1) host0 0 1 1545 0 := by
  and_intros <;> first | decide +kernel | exact heardOf (by decide +kernel)

theorem witness_ReadAnswersValue_2_2 :
    lookup 1545 0 = Sum.inr (rowOf 1545 0) ∧ (rowOf 1545 0).hw = false ∧ 1545 ≠ 3081 ∧ 1545 ≠ 2608 ∧ (booting.found 1).supReady = false
      ∧ (Instr.write 1 host0 1545 0 []).wf = true ∧ Heard (booting.found 1) host0 0 2 1545 0 := by
  and_intros <;> first | decide +kernel | exact heardOf (by decide +kernel)

theorem witness_ReadAnswersValue_3_1 :
    lookup 1552 0 = Sum.inr (rowOf 1552 0) ∧ (rowOf 1552 0).hw = false ∧ 1552 ≠ 3081 ∧ 1552 ≠ 2608 ∧ (booting.found 1).supReady = false
      ∧ (Instr.segReadStart 1 host0 1552 0).wf = true ∧ Heard (booting.found 1) host0 0 3 1552 0 := by
  and_intros <;> first | decide +kernel | exact heardOf (by decide +kernel)

theorem witness_ReadAnswersValue_3_2 :
    lookup 1552 0 = Sum.inr (rowOf 1552 0) ∧ (rowOf 1552 0).hw = false ∧ 1552 ≠ 3081 ∧ 1552 ≠ 2608 ∧ (booting.found 1).supReady = false
      ∧ (Instr.segWriteStart 1 host0 1552 0 100).wf = true ∧ Heard (booting.found 1) host0 0 4 1552 0 := by
  and_intros <;> first | decide +kernel | exact heardOf (by decide +kernel)

theorem witness_WriteSetsValue_1 :
    1545 ∈ [1091, 1545, 2048, 2113, 2864, 3104, 3345, 3346, 3347, 4116] ∧ (Instr.write 1 host0 1545 0 []).wf = true ∧ HeardMaster ((up
      6).found 1) host0 0 2 1545 0 ∧ ((up 6).found 1).get Obj.loupeSessionStatus = 0 ∧ (∀ (r : ObjRow), lookup 1545 0 = Sum.inr r → 2 <
      256 ^ r.size ∧ 2 &&& r.mask = 2 ∧ r.inRange 2 = true) := by
  and_intros <;> first | decide +kernel | exact heardMasterOf (by decide +kernel) | exact rowIs (by decide +kernel)

theorem witness_WriteSetsValue_2 :
    (Instr.ping 1 host0).wf = true ∧ Heard ((up 6).found 1) host0 0 7 0 0 :=
  ⟨by decide +kernel, heardOf (by decide +kernel)⟩

theorem witness_SegmentedReadRuns_1 :
    (Instr.segReadStart 1 host0 1552 0).wf = true ∧ lookup 1552 0 = Sum.inr (rowOf 1552 0) ∧ (rowOf 1552 0).kind = ObjKind.domain ∧
      (rowOf 1552 0).acc ≠ Access.wo ∧ 1552 ≠ 2608 ∧ 1552 ≠ 3081 ∧ ((rowOf 1552 0).hw = true ∨ (slotFull.found 1).role (Source.host 0) ≠ 0
      ∧ (slotFull.found 1).supReady = true) ∧ Heard (slotFull.found 1) host0 0 3 1552 0 := by
  and_intros <;> first | decide +kernel | exact heardOf (by decide +kernel)

theorem witness_SegmentedReadRuns_2 :
    (Instr.segData 1 host0 1552 0 0 false []).wf = true ∧ lookup 1552 0 = Sum.inr (rowOf 1552 0) ∧ 1552 ≠ 2608 ∧ 1552 ≠ 3081 ∧ Heard
      (reading.found 1) host0 0 5 1552 0 ∧ List.find? (fun y => decide (y.src = Source.host ((reading.found 1).client 0)) && decide
      (y.index = 1552) && decide (y.sub = 0)) (reading.found 1).port.readXfers = some (ReadXfer.mk (Source.host 0) 1552 0 (List.replicate
      3000 1) 0) ∧ 0 = (ReadXfer.mk (Source.host 0) 1552 0 (List.replicate 3000 1) 0).next := by
  and_intros <;> first | decide +kernel | exact heardOf (by decide +kernel)

theorem witness_SegmentedWriteRuns_1 :
    (Instr.segWriteStart 1 host0 1552 0 1000).wf = true ∧ lookup 1552 0 = Sum.inr (rowOf 1552 0) ∧ (rowOf 1552 0).kind = ObjKind.domain
      ∧ ((rowOf 1552 0).acc = Access.rw ∨ (rowOf 1552 0).acc = Access.wo) ∧ 1552 ≠ 2608 ∧ 1552 ≠ 4112 ∧ 1552 ≠ 3081 ∧ domainLength 1552
      1000 = true ∧ domainStart 1552 1000 (received 0 ((up 6).found 1)) = none ∧ HeardMaster ((up 6).found 1) host0 0 4 1552 0 := by
  and_intros <;> first | decide +kernel | exact heardMasterOf (by decide +kernel)

theorem witness_SegmentedWriteRuns_1b :
    (Instr.segWriteStart 1 host0 1552 0 1000).wf = true ∧ lookup 1552 0 = Sum.inr (rowOf 1552 0) ∧ (rowOf 1552 0).kind = ObjKind.domain
      ∧ ((rowOf 1552 0).acc = Access.rw ∨ (rowOf 1552 0).acc = Access.wo) ∧ 1552 ≠ 2608 ∧ 1552 ≠ 4112 ∧ 1552 ≠ 3081 ∧ domainLength 1552
      1000 = true ∧ domainStart 1552 1000 (received 0 (writing.found 1)) = none ∧ HeardMaster (writing.found 1) host0 0 4 1552 0 := by
  and_intros <;> first | decide +kernel | exact heardMasterOf (by decide +kernel)

theorem witness_SegmentedWriteRuns_2 :
    (Instr.segData 1 host0 1552 0 0 false [1, 2, 3]).wf = true ∧ lookup 1552 0 = Sum.inr (rowOf 1552 0) ∧ 1552 ≠ 2608 ∧ 1552 ≠ 4112 ∧
      1552 ≠ 3081 ∧ 0 < [1, 2, 3].length ∧ Heard (writing.found 1) host0 0 5 1552 0 ∧ (writing.found 1).port.writeXfer = some
      (WriteXfer.mk (Source.host 0) 1552 0 3000 0 []) ∧ (WriteXfer.mk (Source.host 0) 1552 0 3000 0 []).src = Source.host ((writing.found
      1).client 0) ∧ (WriteXfer.mk (Source.host 0) 1552 0 3000 0 []).index = 1552 ∧ (WriteXfer.mk (Source.host 0) 1552 0 3000 0 []).sub =
      0 ∧ (WriteXfer.mk (Source.host 0) 1552 0 3000 0 []).next < 65536 ∧ ((WriteXfer.mk (Source.host 0) 1552 0 3000 0 []).next = 0 ∨ (0 +
      1) % 65536 ≠ (WriteXfer.mk (Source.host 0) 1552 0 3000 0 []).next) := by
  and_intros <;> first | decide +kernel | exact heardOf (by decide +kernel)

theorem witness_SegmentedWriteRuns_2b :
    (Instr.segData 1 host0 1552 0 5 false [1, 2, 3]).wf = true ∧ lookup 1552 0 = Sum.inr (rowOf 1552 0) ∧ 1552 ≠ 2608 ∧ 1552 ≠ 4112 ∧
      1552 ≠ 3081 ∧ 0 < [1, 2, 3].length ∧ Heard (writing.found 1) host0 0 5 1552 0 ∧ (writing.found 1).port.writeXfer = some
      (WriteXfer.mk (Source.host 0) 1552 0 3000 0 []) ∧ (WriteXfer.mk (Source.host 0) 1552 0 3000 0 []).src = Source.host ((writing.found
      1).client 0) ∧ (WriteXfer.mk (Source.host 0) 1552 0 3000 0 []).index = 1552 ∧ (WriteXfer.mk (Source.host 0) 1552 0 3000 0 []).sub =
      0 ∧ (WriteXfer.mk (Source.host 0) 1552 0 3000 0 []).next < 65536 ∧ ((WriteXfer.mk (Source.host 0) 1552 0 3000 0 []).next = 0 ∨ (5 +
      1) % 65536 ≠ (WriteXfer.mk (Source.host 0) 1552 0 3000 0 []).next) := by
  and_intros <;> first | decide +kernel | exact heardOf (by decide +kernel)

theorem witness_SegmentedWriteRuns_3 :
    (Instr.segCancel 1 host0 1552 0).wf = true ∧ lookup 1552 0 = Sum.inr (rowOf 1552 0) ∧ 1552 ≠ 2608 ∧ 1552 ≠ 3081 ∧ Heard
      (writing.found 1) host0 0 6 1552 0 ∧ (writing.found 1).supReady = true ∧ (writing.found 1).port.writeXfer = some (WriteXfer.mk
      (Source.host 0) 1552 0 3000 0 []) ∧ (WriteXfer.mk (Source.host 0) 1552 0 3000 0 []).src = Source.host ((writing.found 1).client 0) ∧
      (WriteXfer.mk (Source.host 0) 1552 0 3000 0 []).index = 1552 ∧ (WriteXfer.mk (Source.host 0) 1552 0 3000 0 []).sub = 0 := by
  and_intros <;> first | decide +kernel | exact heardOf (by decide +kernel)

theorem witness_SegmentedWriteRuns_4 :
    (Instr.segReadStart 1 host0 1552 0).wf = true ∧ lookup 1552 0 = Sum.inr (rowOf 1552 0) ∧ (rowOf 1552 0).kind = ObjKind.domain ∧
      (rowOf 1552 0).acc ≠ Access.wo ∧ 1552 ≠ 2608 ∧ 1552 ≠ 3081 ∧ (slotFullWriting.found 1).role (Source.host 0) ≠ 0 ∧
      (slotFullWriting.found 1).supReady = true ∧ Heard (slotFullWriting.found 1) host0 0 3 1552 0 ∧ (slotFullWriting.found
      1).port.writeXfer = some (WriteXfer.mk (Source.host 0) 1552 0 3000 0 []) ∧ 1024 < ((received 0 (slotFullWriting.found 1)).content
      1552).length := by
  and_intros <;> first | decide +kernel | exact heardOf (by decide +kernel)

theorem witness_SpiReadsRun_1 :
    (Instr.status 1 4).wf = true ∧ (spiQueued.found 1).spiUp = true ∧ bit (spiQueued.found 1).flt.cond 47 = false ∧ (spiQueued.found
      1).port.spiBadRow < 7 := by decide +kernel

theorem witness_SpiReadsRun_2 :
    (Instr.get 1 8 14).wf = true ∧ (spiQueued.found 1).spiUp = true ∧ bit (spiQueued.found 1).flt.cond 47 = false ∧ (spiQueued.found
      1).port.spiBadRow < 7 := by decide +kernel

theorem witness_SpiReadsRun_3 :
    (Instr.status 1 3).wf = true ∧ (spiBadSeven.found 1).spiUp = true ∧ 3 < 4 ∧ (spiBadSeven.found 1).port.spiBadRow = 7 ∧
      (spiBadSeven.found 1).faultOn 47 = false ∧ (spiBadSeven.found 1).get (faultObj Obj.faultSeverity 47) ≠ 3 := by decide +kernel

theorem witness_SpiWritesRun_1 :
    (Instr.put 1 8 5 [7, 9, 64, 0, 0, 0, 0, 0] pingCrc true).wf = true ∧ (onSpi.found 1).spiUp = true ∧ pingCrc = crc16 ([1, 8, 0, 5] ++
      [7, 9, 64, 0, 0, 0, 0, 0]) ∧ bit (onSpi.found 1).flt.cond 47 = false ∧ Heard (onSpi.found 1) (Ctx.mk (Source.host 0) 9 64 true) 0 7
      0 0 := by
  and_intros <;> first | decide +kernel | exact heardOf (by decide +kernel)

def at_SpiWritesRun_1b : State :=
  { onSpi with port := { onSpi.port with spiLastSeq := 5 } }

theorem witness_SpiWritesRun_1b :
    (Instr.put 1 8 5 [7, 9, 64, 0, 0, 0, 0, 0] pingCrc true).wf = true ∧ (at_SpiWritesRun_1b.found 1).spiUp = true ∧ pingCrc = crc16
      ([1, 8, 0, 5] ++ [7, 9, 64, 0, 0, 0, 0, 0]) ∧ bit (at_SpiWritesRun_1b.found 1).flt.cond 47 = false ∧ Heard (at_SpiWritesRun_1b.found
      1) (Ctx.mk (Source.host 0) 9 64 true) 0 7 0 0 := by
  and_intros <;> first | decide +kernel | exact heardOf (by decide +kernel)

theorem witness_SpiWritesRun_2 :
    (Instr.put 1 8 5 [7, 9, 64, 0, 0, 0, 0, 0] 0 true).wf = true ∧ (onSpi.found 1).spiUp = true ∧ (onSpi.found 1).port.spiBadRow < 7 ∧
      ([7, 9, 64, 0, 0, 0, 0, 0].length ≠ 8 ∨ 0 ≠ crc16 ([1] ++ leBytes 2 8 ++ [5] ++ [7, 9, 64, 0, 0, 0, 0, 0])) := by decide +kernel

theorem witness_SpiWritesRun_3 :
    (Instr.pop 1 8 5 (crc16 ([3] ++ leBytes 2 8 ++ [5])) 6).wf = true ∧ (spiQueued.found 1).spiUp = true ∧ crc16 ([3] ++ leBytes 2 8 ++
      [5]) = crc16 ([3] ++ leBytes 2 8 ++ [5]) ∧ bit (spiQueued.found 1).flt.cond 47 = false ∧ (spiQueued.found 1).port.evLost = 0 := by decide +kernel

theorem witness_CanPortRuns_1 :
    (Instr.canCommandFrame 1 (canIdent 0 1) 1 [192, 7, 9, 64, 0, 0, 0, 0, 0, 0, 0, 0] true).wf = true ∧ (onCan1.found 1).canUp = true ∧
      bits (canIdent 0 1) 12 4 = 0 ∧ bits (canIdent 0 1) 22 4 = (onCan1.found 1).get Obj.canPortId ∧ bits (canIdent 0 1) 8 4 ≠ 0 ∧ (bit 64
      6 = true ∨ 64 % 64 = bits (canIdent 0 1) 16 6) ∧ List.find? (fun r => decide (r.client = bits (canIdent 0 1) 8 4)) (onCan1.found
      1).port.canRx = none ∧ Heard (onCan1.found 1) (Ctx.mk (Source.host (bits (canIdent 0 1) 8 4)) 9 64 true) (bits (canIdent 0 1) 8 4) 7
      0 0 := by
  and_intros <;> first | decide +kernel | exact heardOf (by decide +kernel)

theorem witness_CanPortRuns_2 :
    (Instr.canCommandFrame 1 (canIdent 0 1) 1 [1, 1, 2, 3] true).wf = true ∧ (onCanRx.found 1).canUp = true ∧ bits (canIdent 0 1) 12 4 =
      0 ∧ bits (canIdent 0 1) 22 4 = (onCanRx.found 1).get Obj.canPortId ∧ bits (canIdent 0 1) 8 4 ≠ 0 ∧ 1 < 64 ∧ List.find? (fun x =>
      decide (x.client = bits (canIdent 0 1) 8 4)) (onCanRx.found 1).port.canRx = some (CanRx.mk 1 1 [2, 9, 64] [0] false) ∧ (CanRx.mk 1 1
      [2, 9, 64] [0] false).bad = false := by decide +kernel

theorem witness_CanPortRuns_2b :
    (Instr.canCommandFrame 1 (canIdent 0 1) 1 [2, 1, 2, 3] true).wf = true ∧ (onCanRx.found 1).canUp = true ∧ bits (canIdent 0 1) 12 4 =
      0 ∧ bits (canIdent 0 1) 22 4 = (onCanRx.found 1).get Obj.canPortId ∧ bits (canIdent 0 1) 8 4 ≠ 0 ∧ 2 < 64 ∧ List.find? (fun x =>
      decide (x.client = bits (canIdent 0 1) 8 4)) (onCanRx.found 1).port.canRx = some (CanRx.mk 1 1 [2, 9, 64] [0] false) ∧ (CanRx.mk 1 1
      [2, 9, 64] [0] false).bad = false := by decide +kernel

theorem witness_CanPortRuns_3 :
    (Instr.canCommandFrame 1 (canIdent 0 1) 1 [2, 1, 2, 3] true).wf = true ∧ (canDiscarded.found 1).canUp = true ∧ bits (canIdent 0 1)
      12 4 = 0 ∧ bits (canIdent 0 1) 22 4 = (canDiscarded.found 1).get Obj.canPortId ∧ bits (canIdent 0 1) 8 4 ≠ 0 ∧ bit 2 7 = false ∧
      List.find? (fun x => decide (x.client = bits (canIdent 0 1) 8 4)) (canDiscarded.found 1).port.canRx = some (CanRx.mk 1 0 [] [] true)
      ∧ (CanRx.mk 1 0 [] [] true).bad = true := by decide +kernel

theorem witness_CanPortRuns_4 :
    (Instr.canCommandFrame 1 (canIdent 0 1) 1 [128, 2, 9, 64] true).wf = true ∧ (onCan1.found 1).canUp = true ∧ bits (canIdent 0 1) 12 4
      = 0 ∧ bits (canIdent 0 1) 22 4 = (onCan1.found 1).get Obj.canPortId ∧ bits (canIdent 0 1) 8 4 ≠ 0 ∧ List.find? (fun x => decide
      (x.client = bits (canIdent 0 1) 8 4)) (onCan1.found 1).port.canRx = none := by decide +kernel

def at_CanPortRuns_5 : State :=
  canLast.set Obj.nodeAddress 3

theorem witness_CanPortRuns_5 :
    (Instr.canCommandFrame 1 (canIdent 3 1) 1 [64 + (CanRx.mk 1 2 [7, 9, 3, 0, 0] [3] false).next, 0, 0, 0] true).wf = true ∧
      (at_CanPortRuns_5.found 1).canUp = true ∧ bits (canIdent 3 1) 12 4 = 0 ∧ bits (canIdent 3 1) 22 4 = (at_CanPortRuns_5.found 1).get
      Obj.canPortId ∧ bits (canIdent 3 1) 8 4 ≠ 0 ∧ (CanRx.mk 1 2 [7, 9, 3, 0, 0] [3] false).next < 64 ∧ bit 3 6 = false ∧ List.find? (fun
      x => decide (x.client = bits (canIdent 3 1) 8 4)) (at_CanPortRuns_5.found 1).port.canRx = some (CanRx.mk 1 2 [7, 9, 3, 0, 0] [3]
      false) ∧ (CanRx.mk 1 2 [7, 9, 3, 0, 0] [3] false).bad = false ∧ (CanRx.mk 1 2 [7, 9, 3, 0, 0] [3] false).bytes ++ [0, 0, 0] = [7, 9,
      3, 0, 0, 0, 0, 0] ++ [] ∧ Heard (at_CanPortRuns_5.found 1) (Ctx.mk (Source.host (bits (canIdent 3 1) 8 4)) 9 3 true) (bits (canIdent
      3 1) 8 4) 7 0 0 := by
  and_intros <;> first | decide +kernel | exact heardOf (by decide +kernel)

def at_CanPortRuns_5b : State :=
  canLast.set Obj.nodeAddress 3

theorem witness_CanPortRuns_5b :
    (Instr.canCommandFrame 1 (canIdent 4 1) 1 [64 + (CanRx.mk 1 2 [7, 9, 3, 0, 0] [3] false).next, 0, 0, 0] true).wf = true ∧
      (at_CanPortRuns_5b.found 1).canUp = true ∧ bits (canIdent 4 1) 12 4 = 0 ∧ bits (canIdent 4 1) 22 4 = (at_CanPortRuns_5b.found 1).get
      Obj.canPortId ∧ bits (canIdent 4 1) 8 4 ≠ 0 ∧ (CanRx.mk 1 2 [7, 9, 3, 0, 0] [3] false).next < 64 ∧ bit 3 6 = false ∧ List.find? (fun
      x => decide (x.client = bits (canIdent 4 1) 8 4)) (at_CanPortRuns_5b.found 1).port.canRx = some (CanRx.mk 1 2 [7, 9, 3, 0, 0] [3]
      false) ∧ (CanRx.mk 1 2 [7, 9, 3, 0, 0] [3] false).bad = false ∧ (CanRx.mk 1 2 [7, 9, 3, 0, 0] [3] false).bytes ++ [0, 0, 0] = [7, 9,
      3, 0, 0, 0, 0, 0] ++ [] ∧ Heard (at_CanPortRuns_5b.found 1) (Ctx.mk (Source.host (bits (canIdent 4 1) 8 4)) 9 3 true) (bits
      (canIdent 4 1) 8 4) 7 0 0 := by
  and_intros <;> first | decide +kernel | exact heardOf (by decide +kernel)

def at_CanPortRuns_6 : State :=
  { onCan with port := { onCan.port with outQ := [anAnswer] } }

theorem witness_CanPortRuns_6 :
    (at_CanPortRuns_6.found 1).canUp = true ∧ (at_CanPortRuns_6.found 1).port.outQ = [anAnswer] ∧ (at_CanPortRuns_6.found 1).port.evLost
      = 0 := by decide +kernel

theorem witness_CanPortRuns_7 :
    (onCanRx.found 1).canUp = true ∧ (onCanRx.found 1).faultOn 47 = false ∧ (onCanRx.found 1).get (faultObj Obj.faultSeverity 47) ≠ 3 := by decide +kernel

def at_CanPortRuns_8 : State :=
  { onCan with port := { onCan.port with busOff := true } }

theorem witness_CanPortRuns_8 :
    (at_CanPortRuns_8.found 1).port.busOff = true := by decide +kernel

def at_SessionRequestsRun_1 : State :=
  noSession (up 6)

theorem witness_SessionRequestsRun_1 :
    (Instr.sessionOpenObserver 1 host0).wf = true ∧ Heard (at_SessionRequestsRun_1.found 1) host0 0 2 2832 0 ∧
      (at_SessionRequestsRun_1.found 1).supReady = true :=
  ⟨by decide +kernel, heardOf (by decide +kernel), by decide +kernel⟩

def at_SessionRequestsRun_2 : State :=
  noSession (up 6)

theorem witness_SessionRequestsRun_2 :
    (Instr.sessionRequestMaster 1 host0).wf = true ∧ Heard (at_SessionRequestsRun_2.found 1) host0 0 2 2832 0 ∧
      (at_SessionRequestsRun_2.found 1).supReady = true :=
  ⟨by decide +kernel, heardOf (by decide +kernel), by decide +kernel⟩

def at_SessionRequestsRun_2b : State :=
  noSession (head 6)

theorem witness_SessionRequestsRun_2b :
    (Instr.sessionRequestMaster 1 host0).wf = true ∧ Heard (at_SessionRequestsRun_2b.found 1) host0 0 2 2832 0 ∧
      (at_SessionRequestsRun_2b.found 1).supReady = true :=
  ⟨by decide +kernel, heardOf (by decide +kernel), by decide +kernel⟩

def at_SessionRequestsRun_3 : State :=
  (head 6).set Obj.hostPortActive 2

theorem witness_SessionRequestsRun_3 :
    (Instr.sessionMasterTake 1 host2).wf = true ∧ Heard (at_SessionRequestsRun_3.found 1) host2 2 2 2832 0 ∧
      (at_SessionRequestsRun_3.found 1).supReady = true :=
  ⟨by decide +kernel, heardOf (by decide +kernel), by decide +kernel⟩

theorem witness_SessionRequestsRun_4 :
    (Instr.sessionClose 1 host0).wf = true ∧ Heard ((up 6).found 1) host0 0 2 2832 0 ∧ ((up 6).found 1).supReady = true :=
  ⟨by decide +kernel, heardOf (by decide +kernel), by decide +kernel⟩

theorem witness_PortTimeoutsRun_1 :
    (Instr.sessionTimeout 1 0).wf = true ∧ ((up 6).found 1).session (((up 6).found 1).client 0) = some (Session.mk 0 2 1 0) := by decide +kernel

theorem witness_PortTimeoutsRun_2 :
    (Instr.transferTimeout 1 (Source.host 0) true).wf = true ∧ (writing.found 1).port.writeXfer = some (WriteXfer.mk (Source.host 0)
      1552 0 3000 0 []) ∧ (WriteXfer.mk (Source.host 0) 1552 0 3000 0 []).src = (writing.found 1).resolved (Source.host 0) := by decide +kernel

theorem witness_PortTimeoutsRun_3 :
    (Instr.transferTimeout 1 (Source.host 0) false).wf = true ∧ List.find? (fun y => decide (y.src = (reading.found 1).resolved
      (Source.host 0))) (reading.found 1).port.readXfers = some (ReadXfer.mk (Source.host 0) 1552 0 (List.replicate 3000 1) 0) := by decide +kernel

theorem witness_RingCommandsRun_1 :
    (Instr.read 1 fromRing 1545 0 []).wf = true ∧ lookup 1545 0 = Sum.inr (rowOf 1545 0) ∧ (rowOf 1545 0).kind ≠ ObjKind.domain ∧ (rowOf
      1545 0).acc ≠ Access.wo ∧ faultIndex 1545 = none ∧ 1545 ≠ 3081 ∧ 1545 ≠ 2608 ∧ ((rowOf 1545 0).hw = true ∨ ((node 6).found
      1).supReady = true) ∧ HeardRing ((node 6).found 1) fromRing 1 3 1 1545 0 ∧ (rowOf 1545 0).size ≤ 200 := by
  and_intros <;> first | decide +kernel | exact heardRingOf (by decide +kernel)

theorem witness_RingCommandsRun_2 :
    1545 ∈ [1091, 1545, 2048, 2113, 2864, 3104, 3345, 3346, 3347, 4116] ∧ (Instr.write 1 fromRing 1545 0 []).wf = true ∧ HeardRing
      ((node 6).found 1) fromRing 1 3 2 1545 0 ∧ ((node 6).found 1).supReady = true ∧ ((node 6).found 1).get Obj.loupeSessionStatus = 0 ∧
      (∀ (r : ObjRow), lookup 1545 0 = Sum.inr r → 2 < 256 ^ r.size ∧ 2 &&& r.mask = 2 ∧ r.inRange 2 = true) := by
  and_intros <;> first | decide +kernel | exact heardRingOf (by decide +kernel) | exact rowIs (by decide +kernel)

theorem witness_RingCommandsRun_3 :
    (Instr.ping 1 fromRing).wf = true ∧ HeardRing ((node 6).found 1) fromRing 1 3 7 0 0 :=
  ⟨by decide +kernel, heardRingOf (by decide +kernel)⟩

theorem witness_RingCommandsRun_4 :
    (Instr.sessionOpenObserver 1 fromRing).wf = true ∧ HeardRing ((node 6).found 1) fromRing 1 3 2 2832 0 ∧ ((node 6).found 1).supReady
      = true :=
  ⟨by decide +kernel, heardRingOf (by decide +kernel), by decide +kernel⟩

theorem witness_ResetsRun_1 :
    (Instr.resetSupDomain 1 host0).wf = true ∧ HeardMaster ((up 6).found 1) host0 0 2 3 0 :=
  ⟨by decide +kernel, heardMasterOf (by decide +kernel)⟩

theorem witness_ResetsRun_2 :
    (Instr.resetWholeDevice 1 host0).wf = true ∧ HeardMaster ((up 6).found 1) host0 0 2 3 0 :=
  ⟨by decide +kernel, heardMasterOf (by decide +kernel)⟩

def at_ResetsRun_3 : State :=
  { up 6 with port := { (up 6).port with resetReq := some ⟨0x5A01, some 0⟩ } }

theorem witness_ResetsRun_3 :
    (at_ResetsRun_3.found 1).port.resetReq = some (ResetReq.mk 23041 (some 0)) ∧ (ResetReq.mk 23041 (some 0)).code = 23041 ∧
      GoodFirmware (at_ResetsRun_3.found 1) ∧ (at_ResetsRun_3.found 1).test.slices = [] ∧ (at_ResetsRun_3.found 1).get Obj.supervisorState
      ≠ 2 := by
  and_intros <;> first | decide +kernel | exact goodFirmwareOf (by decide +kernel)

def at_ResetsRun_4 : State :=
  { up 6 with port := { (up 6).port with resetReq := some ⟨0x5A02, some 0⟩ } }

theorem witness_ResetsRun_4 :
    (at_ResetsRun_4.found 1).port.resetReq = some (ResetReq.mk 23042 (some 0)) ∧ (ResetReq.mk 23042 (some 0)).code = 23042 ∧
      GoodFirmware (at_ResetsRun_4.found 1) ∧ Calm (at_ResetsRun_4.found 1) := by
  and_intros <;> first | decide +kernel | exact goodFirmwareOf (by decide +kernel)

def at_ResetsRun_5 : State :=
  (node 6).set Obj.supervisorState 2

theorem witness_ResetsRun_5 :
    (Instr.releaseHeldSup 1 fromRing).wf = true ∧ HeardRing (at_ResetsRun_5.found 1) fromRing 1 3 2 3 0 ∧ GoodFirmware
      (at_ResetsRun_5.found 1) ∧ (at_ResetsRun_5.found 1).get Obj.supervisorState = 2 := by
  and_intros <;> first | decide +kernel | exact heardRingOf (by decide +kernel) | exact goodFirmwareOf (by decide +kernel)

theorem witness_ModeRequestRuns_1 :
    (Instr.modeRequest 1 host0 5).wf = true ∧ HeardMaster ((up 6).found 1) host0 0 2 512 0 :=
  ⟨by decide +kernel, heardMasterOf (by decide +kernel)⟩

theorem witness_ModeRequestRuns_1b :
    (Instr.modeRequest 1 host0 8).wf = true ∧ HeardMaster ((up 6).found 1) host0 0 2 512 0 :=
  ⟨by decide +kernel, heardMasterOf (by decide +kernel)⟩

def at_ModeTransitionsRun_1 : State :=
  asked 5 (up 6)

theorem witness_ModeTransitionsRun_1 :
    Calm (at_ModeTransitionsRun_1.found 1) ∧ (at_ModeTransitionsRun_1.found 1).mode.shutdown = none ∧ (at_ModeTransitionsRun_1.found
      1).modeCode ≠ 0 ∧ autoTarget (at_ModeTransitionsRun_1.found 1) = none ∧ (at_ModeTransitionsRun_1.found 1).mode.staged = some 5 ∧ 5 ∈
      [4, 5, 6, 7] ∧ requestWaits 5 (at_ModeTransitionsRun_1.found 1) = false ∧ ((at_ModeTransitionsRun_1.found 1).plan.running =
      RunningPlan.rom → runsBank 5 = true → (at_ModeTransitionsRun_1.found 1).plan.switchAt = none) ∧ refusal 5 false
      (at_ModeTransitionsRun_1.found 1) = none ∧ (at_ModeTransitionsRun_1.found 1).get (faultObj Obj.faultSeverity 43) ≠ 3 := by
  and_intros <;> decide +kernel

def at_ModeTransitionsRun_1b : State :=
  asked 4 (up 5)

theorem witness_ModeTransitionsRun_1b :
    Calm (at_ModeTransitionsRun_1b.found 1) ∧ (at_ModeTransitionsRun_1b.found 1).mode.shutdown = none ∧ (at_ModeTransitionsRun_1b.found
      1).modeCode ≠ 0 ∧ autoTarget (at_ModeTransitionsRun_1b.found 1) = none ∧ (at_ModeTransitionsRun_1b.found 1).mode.staged = some 4 ∧ 4
      ∈ [4, 5, 6, 7] ∧ requestWaits 4 (at_ModeTransitionsRun_1b.found 1) = false ∧ ((at_ModeTransitionsRun_1b.found 1).plan.running =
      RunningPlan.rom → runsBank 4 = true → (at_ModeTransitionsRun_1b.found 1).plan.switchAt = none) ∧ refusal 4 false
      (at_ModeTransitionsRun_1b.found 1) = none ∧ (at_ModeTransitionsRun_1b.found 1).get (faultObj Obj.faultSeverity 43) ≠ 3 := by
  and_intros <;> decide +kernel

def at_ModeTransitionsRun_2 : State :=
  asked 10 (anyBank 5)

theorem witness_ModeTransitionsRun_2 :
    Calm (at_ModeTransitionsRun_2.found 1) ∧ (at_ModeTransitionsRun_2.found 1).mode.shutdown = none ∧ (at_ModeTransitionsRun_2.found
      1).modeCode ≠ 0 ∧ autoTarget (at_ModeTransitionsRun_2.found 1) = none ∧ (at_ModeTransitionsRun_2.found 1).mode.staged = some 10 ∧ 10
      ∈ [8, 9, 10] ∧ requestWaits 10 (at_ModeTransitionsRun_2.found 1) = false ∧ ((at_ModeTransitionsRun_2.found 1).plan.running =
      RunningPlan.rom → runsBank 10 = true → (at_ModeTransitionsRun_2.found 1).plan.switchAt = none) ∧ refusal 10 false
      (at_ModeTransitionsRun_2.found 1) = none ∧ (at_ModeTransitionsRun_2.found 1).get (faultObj Obj.faultSeverity 43) ≠ 3 ∧
      ((at_ModeTransitionsRun_2.found 1).fetHot = true → (at_ModeTransitionsRun_2.found 1).get (faultObj Obj.faultSeverity 20) ≠ 3) := by
  and_intros <;> decide +kernel

def at_ModeTransitionsRun_2b : State :=
  asked 8 (loupeAsked 6)

theorem witness_ModeTransitionsRun_2b :
    Calm (at_ModeTransitionsRun_2b.found 1) ∧ (at_ModeTransitionsRun_2b.found 1).mode.shutdown = none ∧ (at_ModeTransitionsRun_2b.found
      1).modeCode ≠ 0 ∧ autoTarget (at_ModeTransitionsRun_2b.found 1) = none ∧ (at_ModeTransitionsRun_2b.found 1).mode.staged = some 8 ∧ 8
      ∈ [8, 9, 10] ∧ requestWaits 8 (at_ModeTransitionsRun_2b.found 1) = false ∧ ((at_ModeTransitionsRun_2b.found 1).plan.running =
      RunningPlan.rom → runsBank 8 = true → (at_ModeTransitionsRun_2b.found 1).plan.switchAt = none) ∧ refusal 8 false
      (at_ModeTransitionsRun_2b.found 1) = none ∧ (at_ModeTransitionsRun_2b.found 1).get (faultObj Obj.faultSeverity 43) ≠ 3 ∧
      ((at_ModeTransitionsRun_2b.found 1).fetHot = true → (at_ModeTransitionsRun_2b.found 1).get (faultObj Obj.faultSeverity 20) ≠ 3) := by
  and_intros <;> decide +kernel

def at_ModeTransitionsRun_3 : State :=
  asked 3 (up 5)

theorem witness_ModeTransitionsRun_3 :
    Calm (at_ModeTransitionsRun_3.found 1) ∧ (at_ModeTransitionsRun_3.found 1).mode.shutdown = none ∧ (at_ModeTransitionsRun_3.found
      1).modeCode ≠ 0 ∧ autoTarget (at_ModeTransitionsRun_3.found 1) = none ∧ (at_ModeTransitionsRun_3.found 1).mode.staged = some 3 ∧ 3 ∈
      [1, 2, 3] ∧ refusal 3 false (at_ModeTransitionsRun_3.found 1) = none ∧ (at_ModeTransitionsRun_3.found 1).get (faultObj
      Obj.faultSeverity 43) ≠ 3 := by
  and_intros <;> decide +kernel

def at_ModeTransitionsRun_9 : State :=
  { up 5 with mode := { (up 5).mode with shutdown := some 3 } }

theorem witness_ModeTransitionsRun_9 :
    Calm (at_ModeTransitionsRun_9.found 1) ∧ (at_ModeTransitionsRun_9.found 1).mode.shutdown = some 3 ∧ 3 ∈ [1, 2, 3] ∧
      (at_ModeTransitionsRun_9.found 1).shutdownReady = true ∧ (at_ModeTransitionsRun_9.found 1).mode.wakeKept = 0 ∧
      (at_ModeTransitionsRun_9.found 1).get (faultObj Obj.faultSeverity 40) ≠ 3 := by
  and_intros <;> decide +kernel

theorem witness_ChannelRequestsRun_1 :
    1 ≤ 5 ∧ 5 ≤ 24 ∧ (Instr.retire 1 host0 5).wf = true ∧ HeardMaster ((up 6).found 1) host0 0 2 1058 0 ∧ ((up 6).found 1).get (faultObj
      Obj.faultSeverity 43) ≠ 3 := by
  and_intros <;> first | decide +kernel | exact heardMasterOf (by decide +kernel)

def at_ChannelRequestsRun_2 : State :=
  (up 6).set (Obj.channelState + 5) 2

theorem witness_ChannelRequestsRun_2 :
    1 ≤ 5 ∧ 5 ≤ 24 ∧ (Instr.reinstate 1 host0 5).wf = true ∧ HeardMaster (at_ChannelRequestsRun_2.found 1) host0 0 2 1058 0 := by
  and_intros <;> first | decide +kernel | exact heardMasterOf (by decide +kernel)

theorem witness_PlanControlRuns_1 :
    (Instr.load 1 host0 0).wf = true ∧ HeardMaster ((up 6).found 1) host0 0 2 1536 0 :=
  ⟨by decide +kernel, heardMasterOf (by decide +kernel)⟩

theorem witness_PlanControlRuns_2 :
    (Instr.discard 1 host0).wf = true ∧ HeardMaster ((anyBank 6).found 1) host0 0 2 1536 0 :=
  ⟨by decide +kernel, heardMasterOf (by decide +kernel)⟩

theorem witness_PlanControlRuns_3 :
    (Instr.erase 1 host0 0).wf = true ∧ host0.storeOk = true ∧ HeardMaster (slotFull.found 1) host0 0 2 1536 0 :=
  ⟨by decide +kernel, by decide +kernel, heardMasterOf (by decide +kernel)⟩

def at_PlanControlRuns_4 : State :=
  { slotFull with plan := { slotFull.plan with switchAt := some 5 } }

theorem witness_PlanControlRuns_4 :
    (Instr.cancel 1 host0).wf = true ∧ HeardMaster (at_PlanControlRuns_4.found 1) host0 0 2 1536 0 :=
  ⟨by decide +kernel, heardMasterOf (by decide +kernel)⟩

theorem witness_PlanSwitchRuns_1 :
    (Instr.planSwitch 1 host0 0 100).wf = true ∧ HeardMaster ((up 6).found 1) host0 0 2 1538 0 :=
  ⟨by decide +kernel, heardMasterOf (by decide +kernel)⟩

def at_PlanSwitchRuns_1b : State :=
  { up 6 with plan := { (up 6).plan with bankB := ⟨List.replicate 500 0, 0, true⟩ } }

theorem witness_PlanSwitchRuns_1b :
    (Instr.planSwitch 1 host0 0 100000).wf = true ∧ HeardMaster (at_PlanSwitchRuns_1b.found 1) host0 0 2 1538 0 :=
  ⟨by decide +kernel, heardMasterOf (by decide +kernel)⟩

theorem witness_PlanSwitchRuns_2 :
    (Instr.planImageWrite 1 host0 [1, 2, 3]).wf = true ∧ host0.storeOk = true ∧ HeardMaster ((up 6).found 1) host0 0 5 1552 0 ∧ ((up
      6).found 1).backs (((up 6).found 1).get Obj.planSlotSelect) = 0 ∧ ((up 6).found 1).port.writeXfer = none ∧ ((up 6).found 1).get
      Obj.planSlotSelect < ((up 6).found 1).plan.slots.length := by
  and_intros <;> first | decide +kernel | exact heardMasterOf (by decide +kernel)

def at_PlanSwitchRuns_3 : State :=
  { up 6 with plan := { (up 6).plan with switchAt := some 5 } }

theorem witness_PlanSwitchRuns_3 :
    (at_PlanSwitchRuns_3.found 1).plan.switchAt.isSome = true ∧ (at_PlanSwitchRuns_3.found 1).plan.running ≠ RunningPlan.bank ∧
      (at_PlanSwitchRuns_3.found 1).mode.staged = none ∧ ((at_PlanSwitchRuns_3.found 1).plan.running = RunningPlan.rom →
      (at_PlanSwitchRuns_3.found 1).plan.startAt ≠ (at_PlanSwitchRuns_3.found 1).plan.switchAt) := by decide +kernel

set_option maxRecDepth 100000 in
theorem witness_PlanSwitchRuns_4 :
    ((switching 6).found 1).plan.switchAt.isSome = true ∧ (((switching 6).found 1).plan.running = RunningPlan.bank ∨ ((switching
      6).found 1).plan.running = RunningPlan.rom ∧ ((switching 6).found 1).mode.staged = none ∧ ((switching 6).found 1).plan.startAt =
      ((switching 6).found 1).plan.switchAt) ∧ Calm ((switching 6).found 1) ∧ bankFault true ((switching 6).found 1).inactive.image
      (swapBanks ((switching 6).found 1)) = none ∧ ((switching 6).found 1).get (faultObj Obj.faultSeverity 43) ≠ 3 := by
  and_intros <;> decide +kernel

theorem witness_BusRequestsRun_1 :
    5 ≤ 29 ∧ (Instr.auxRequest 1 host0 5).wf = true ∧ HeardMaster ((up 6).found 1) host0 0 2 1795 0 :=
  ⟨by decide +kernel, by decide +kernel, heardMasterOf (by decide +kernel)⟩

theorem witness_BusRequestsRun_2 :
    (Instr.facetSearch 1 host0 1).wf = true ∧ HeardMaster ((up 6).found 1) host0 0 2 1873 0 ∧ ((up 6).found 1).facet.stopped = false :=
  ⟨by decide +kernel, heardMasterOf (by decide +kernel), by decide +kernel⟩

def at_BusRequestsRun_2b : State :=
  { up 6 with facet := { (up 6).facet with searchWait := true } }

theorem witness_BusRequestsRun_2b :
    (Instr.facetSearch 1 host0 1).wf = true ∧ HeardMaster (at_BusRequestsRun_2b.found 1) host0 0 2 1873 0 ∧ (at_BusRequestsRun_2b.found
      1).facet.stopped = false :=
  ⟨by decide +kernel, heardMasterOf (by decide +kernel), by decide +kernel⟩

theorem witness_BusRequestsRun_3 :
    0 ≤ 1 ∧ (Instr.facetEnable 1 host0 0).wf = true ∧ HeardMaster ((up 6).found 1) host0 0 2 1872 0 ∧ host0.storeOk = true ∧ ((up
      6).found 1).logTakes Obj.facetEnable (0 == 1) = true := by
  and_intros <;> first | decide +kernel | exact heardMasterOf (by decide +kernel)

theorem witness_BusRequestsRun_3b :
    1 ≤ 1 ∧ (Instr.facetEnable 1 host0 1).wf = true ∧ HeardMaster ((up 6).found 1) host0 0 2 1872 0 ∧ host0.storeOk = true ∧ ((up
      6).found 1).logTakes Obj.facetEnable (1 == 1) = true := by
  and_intros <;> first | decide +kernel | exact heardMasterOf (by decide +kernel)

def at_BusRequestsRun_4 : State :=
  (up 6).setField Obj.powerPathStatus 0 2 2

theorem witness_BusRequestsRun_4 :
    0 ≤ 1 ∧ (Instr.powerPathPolicyWrite 1 host0 0).wf = true ∧ HeardMaster (at_BusRequestsRun_4.found 1) host0 0 2 2368 0 ∧
      host0.storeOk = true ∧ (at_BusRequestsRun_4.found 1).logTakes Obj.powerPathPolicy (0 == 0) = true := by
  and_intros <;> first | decide +kernel | exact heardMasterOf (by decide +kernel)

theorem witness_HandoversRun_1 :
    (dwelling.found 1).mode.dwell = true ∧ (dwelling.found 1).dwellHolds = true := by decide +kernel

theorem witness_HandoversRun_2 :
    ((handing true dwelling).found 1).mode.handover = some (Handover.mk true 0 false) ∧ ((Handover.mk true 0 false).toXbs = true →
      (Handover.mk true 0 false).failed = false ∧ xbusBarred ((handing true dwelling).found 1) = false) ∧ ((Handover.mk true 0
      false).toXbs = false → ((handing true dwelling).found 1).stkUv = false) := by decide +kernel

theorem witness_HandoversRun_2b :
    ((handing false dwelling).found 1).mode.handover = some (Handover.mk false 0 false) ∧ ((Handover.mk false 0 false).toXbs = true →
      (Handover.mk false 0 false).failed = false ∧ xbusBarred ((handing false dwelling).found 1) = false) ∧ ((Handover.mk false 0
      false).toXbs = false → ((handing false dwelling).found 1).stkUv = false) := by decide +kernel

def at_HandoversRun_3 : State :=
  (handing false dwelling).set Obj.supplyStatus 1

theorem witness_HandoversRun_3 :
    (at_HandoversRun_3.found 1).mode.handover = some (Handover.mk false 0 false) ∧ (Handover.mk false 0 false).toXbs = false ∧
      (at_HandoversRun_3.found 1).stkUv = true ∧ (at_HandoversRun_3.found 1).faultOn 22 = false ∧ (at_HandoversRun_3.found 1).get
      (faultObj Obj.faultSeverity 22) ≠ 3 := by decide +kernel

theorem witness_HandoversRun_5 :
    ((handing false dwelling).found 1).mode.handover = some (Handover.mk false 0 false) ∧ ((handing false dwelling).found 1).faultOn 22
      = false ∧ ((handing false dwelling).found 1).get (faultObj Obj.faultSeverity 22) ≠ 3 := by decide +kernel

theorem witness_HandoversRun_5b :
    ((handing true dwelling).found 1).mode.handover = some (Handover.mk true 0 false) ∧ ((handing true dwelling).found 1).faultOn 22 =
      false ∧ ((handing true dwelling).found 1).get (faultObj Obj.faultSeverity 22) ≠ 3 := by decide +kernel

theorem witness_MirrorReleaseRuns_1 :
    (Instr.mirrorRelease 1 host0 23100 (MirrorFinds.mk [] 0)).wf = true ∧ HeardMaster (mirrorLatched.found 1) host0 0 2 3081 0 ∧
      (mirrorLatched.found 1).on Domain.mir = true ∧ bits ((mirrorLatched.found 1).get Obj.supplyStatus) 2 5 = 31 ∧ (∀ r ∈
      (mirrorLatched.found 1).test.runs, r.count < 2) := by
  and_intros <;> first | decide +kernel | exact heardMasterOf (by decide +kernel)

def at_MirrorReleaseRuns_2 : State :=
  mirrorLatched.set Obj.supplyStatus 0x1C

theorem witness_MirrorReleaseRuns_2 :
    (Instr.mirrorRelease 1 host0 23100 (MirrorFinds.mk [] 0)).wf = true ∧ HeardMaster (at_MirrorReleaseRuns_2.found 1) host0 0 2 3081 0
      ∧ bit ((at_MirrorReleaseRuns_2.found 1).get Obj.supplyStatus) (railBit Rail.vmir) = false :=
  ⟨by decide +kernel, heardMasterOf (by decide +kernel), by decide +kernel⟩

def at_MirrorReleaseRuns_3 : State :=
  { mirrorLatched with safe := { mirrorLatched.safe with selfFaults := 4 } }

theorem witness_MirrorReleaseRuns_3 :
    (Instr.mirrorRelease 1 host0 23100 (MirrorFinds.mk [] 4)).wf = true ∧ HeardMaster (at_MirrorReleaseRuns_3.found 1) host0 0 2 3081 0
      ∧ (at_MirrorReleaseRuns_3.found 1).on Domain.mir = true ∧ bits 4 1 4 ≠ 0 ∧ (∀ k ∈ [1, 2, 3, 4], bit 4 k = true → bit
      (at_MirrorReleaseRuns_3.found 1).safe.selfFaults k = true) := by
  and_intros <;> first | decide +kernel | exact heardMasterOf (by decide +kernel)

theorem witness_WatchdogServiceRuns_1 :
    ((up 6).found 1).on Domain.sup = true ∧ bit (((up 6).found 1).get Obj.watchdogConfig) 16 = false ∧ ((up 6).found 1).wdViolation
      40503 = none := by decide +kernel

def at_WatchdogServiceRuns_2 : State :=
  keyPending (up 6)

theorem witness_WatchdogServiceRuns_2 :
    (at_WatchdogServiceRuns_2.found 1).on Domain.sup = true ∧ bit ((at_WatchdogServiceRuns_2.found 1).get Obj.watchdogConfig) 16 = false
      ∧ (at_WatchdogServiceRuns_2.found 1).wdViolation 25032 = none := by decide +kernel

def at_WatchdogServiceRuns_3 : State :=
  (up 6).set Obj.watchdogConfig 0x10064

theorem witness_WatchdogServiceRuns_3 :
    (Instr.watchdogFirstKey 1 (WdOrigin.host host0)).wf = true ∧ HeardMaster (at_WatchdogServiceRuns_3.found 1) host0 0 2 3136 0 ∧ bit
      ((at_WatchdogServiceRuns_3.found 1).get Obj.watchdogConfig) 16 = true ∧ (at_WatchdogServiceRuns_3.found 1).wdViolation 40503 = none := by
  and_intros <;> first | decide +kernel | exact heardMasterOf (by decide +kernel)

def at_WatchdogServiceRuns_4 : State :=
  keyPending ((up 6).set Obj.watchdogConfig 0x10064)

theorem witness_WatchdogServiceRuns_4 :
    (Instr.watchdogSecondKey 1 (WdOrigin.host host0)).wf = true ∧ HeardMaster (at_WatchdogServiceRuns_4.found 1) host0 0 2 3136 0 ∧ bit
      ((at_WatchdogServiceRuns_4.found 1).get Obj.watchdogConfig) 16 = true ∧ (at_WatchdogServiceRuns_4.found 1).wdViolation 25032 = none := by
  and_intros <;> first | decide +kernel | exact heardMasterOf (by decide +kernel)

theorem witness_WatchdogServiceRuns_5 :
    ((up 6).found 1).on Domain.sup = true := by decide +kernel

theorem witness_WatchdogServiceRuns_6 :
    (Instr.watchdogConfigWrite 1 host0 65636).wf = true ∧ HeardMaster ((up 5).found 1) host0 0 2 3137 0 ∧ ((up 5).found 1).modeIn [4, 5]
      = true ∧ 10 ≤ bits 65636 0 16 ∧ bits 65636 0 16 ≤ 1000 := by
  and_intros <;> first | decide +kernel | exact heardMasterOf (by decide +kernel)

theorem witness_WatchdogFailsSafe_1 :
    ((up 6).found 1).wdRuns = true ∧ GoodFirmware ((up 6).found 1) ∧ Calm ((up 6).found 1) := by
  and_intros <;> first | decide +kernel | exact goodFirmwareOf (by decide +kernel)

def at_WatchdogFailsSafe_2 : State :=
  keyPending (up 6)

theorem witness_WatchdogFailsSafe_2 :
    (at_WatchdogFailsSafe_2.found 1).wdRuns = true ∧ (at_WatchdogFailsSafe_2.found 1).safe.wdKey.isSome = true ∧ GoodFirmware
      (at_WatchdogFailsSafe_2.found 1) ∧ Calm (at_WatchdogFailsSafe_2.found 1) := by
  and_intros <;> first | decide +kernel | exact goodFirmwareOf (by decide +kernel)

def at_WatchdogFailsSafe_3 : State :=
  { up 6 with safe := { (up 6).safe with wdFirst := false } }

theorem witness_WatchdogFailsSafe_3 :
    (at_WatchdogFailsSafe_3.found 1).on Domain.sup = true ∧ bit ((at_WatchdogFailsSafe_3.found 1).get Obj.watchdogConfig) 16 = false ∧
      (at_WatchdogFailsSafe_3.found 1).safe.wdHalted = false ∧ (at_WatchdogFailsSafe_3.found 1).wdClosed = true ∧ GoodFirmware
      (at_WatchdogFailsSafe_3.found 1) ∧ Calm (at_WatchdogFailsSafe_3.found 1) := by
  and_intros <;> first | decide +kernel | exact goodFirmwareOf (by decide +kernel)

theorem witness_CrcEngineRuns_1 :
    (Instr.crcStart 1 host0).wf = true ∧ HeardMaster ((up 6).found 1) host0 0 2 3348 0 :=
  ⟨by decide +kernel, heardMasterOf (by decide +kernel)⟩

theorem witness_CrcEngineRuns_2 :
    (Instr.crcData 1 host0 [1, 2, 3]).wf = true ∧ 1 ≤ [1, 2, 3].length ∧ HeardMaster ((up 6).found 1) host0 0 5 3349 0 ∧ ((up 6).found
      1).port.writeXfer = none := by
  and_intros <;> first | decide +kernel | exact heardMasterOf (by decide +kernel)

theorem witness_AliveCheckerRuns_1 :
    (Instr.aliveConfig 1 host0 65544).wf = true ∧ HeardMaster ((up 6).found 1) host0 0 2 3360 0 ∧ 65544 &&& 4294967071 = 65544 ∧ 4 ≤
      bits 65544 0 5 ∧ bits 65544 0 5 ≤ 16 ∧ 1 ≤ bits 65544 16 16 := by
  and_intros <;> first | decide +kernel | exact heardMasterOf (by decide +kernel)

def at_AliveCheckerRuns_2 : State :=
  (up 6).set Obj.aliveConfig 0x10008

theorem witness_AliveCheckerRuns_2 :
    (Instr.aliveInput 1 host0 5).wf = true ∧ HeardMaster (at_AliveCheckerRuns_2.found 1) host0 0 2 3361 0 :=
  ⟨by decide +kernel, heardMasterOf (by decide +kernel)⟩

theorem witness_RingRequestsRun_1 :
    (Instr.enumNew 1 host0).wf = true ∧ HeardMaster ((head 6).found 1) host0 0 2 2565 0 :=
  ⟨by decide +kernel, heardMasterOf (by decide +kernel)⟩

theorem witness_RingRequestsRun_1b :
    (Instr.enumNew 1 host0).wf = true ∧ HeardMaster ((up 6).found 1) host0 0 2 2565 0 :=
  ⟨by decide +kernel, heardMasterOf (by decide +kernel)⟩

theorem witness_RingRequestsRun_2 :
    (Instr.enumVerify 1 host0).wf = true ∧ HeardMaster ((head 6).found 1) host0 0 2 2565 0 :=
  ⟨by decide +kernel, heardMasterOf (by decide +kernel)⟩

def at_RingRequestsRun_3 : State :=
  (node 6).set Obj.ringRole 4

theorem witness_RingRequestsRun_3 :
    (Instr.deputyControl 1 host0).wf = true ∧ HeardMaster (at_RingRequestsRun_3.found 1) host0 0 2 2598 0 :=
  ⟨by decide +kernel, heardMasterOf (by decide +kernel)⟩

def at_RingRequestsRun_4 : State :=
  (head 6).set Obj.ringGeneration 1

theorem witness_RingRequestsRun_4 :
    (Instr.legacyTransmit 1 host0 [1, 2, 3, 4] 6400).wf = true ∧ 3 ≤ [1, 2, 3, 4].length ∧ [1, 2, 3, 4].length ≤ 35 ∧ HeardMaster
      (at_RingRequestsRun_4.found 1) host0 0 5 2608 0 ∧ (at_RingRequestsRun_4.found 1).port.writeXfer = none ∧ (at_RingRequestsRun_4.found
      1).isHead = true ∧ (at_RingRequestsRun_4.found 1).get Obj.ringGeneration = 1 ∧ (at_RingRequestsRun_4.found 1).ring.legacyWait = none := by
  and_intros <;> first | decide +kernel | exact heardMasterOf (by decide +kernel)

def at_UpdateControlRuns_1 : State :=
  { imageVerified with nvm := { imageVerified.nvm with slotB := { FwSlot.erased with image := firmware, writtenM := .zero } } }

set_option maxRecDepth 100000 in
theorem witness_UpdateControlRuns_1 :
    (Instr.activate 1 host0).wf = true ∧ HeardMaster (at_UpdateControlRuns_1.found 1) host0 0 2 4113 0 ∧ (at_UpdateControlRuns_1.found
      1).modeCode = 12 ∧ (at_UpdateControlRuns_1.found 1).updStage = 3 ∧ ((at_UpdateControlRuns_1.found 1).fwSlot
      (at_UpdateControlRuns_1.found 1).target).trialBooted = false ∧ ((at_UpdateControlRuns_1.found 1).fwSlot
      (at_UpdateControlRuns_1.found 1).target).confirmed = false ∧ ((at_UpdateControlRuns_1.found 1).fwSlot (at_UpdateControlRuns_1.found
      1).target).revoked = false ∧ host0.storeOk = true ∧ imageCrcOk ((at_UpdateControlRuns_1.found 1).fwSlot
      (at_UpdateControlRuns_1.found 1).target) = true ∧ ((at_UpdateControlRuns_1.found 1).fwSlot !(at_UpdateControlRuns_1.found
      1).target).trial = false ∧ Calm (at_UpdateControlRuns_1.found 1) := by
  and_intros <;> first | decide +kernel | exact heardMasterOf (by decide +kernel)

theorem witness_UpdateControlRuns_2 :
    (Instr.abandon 1 host0).wf = true ∧ HeardMaster ((up 12).found 1) host0 0 2 4113 0 ∧ ((up 12).found 1).modeCode = 12 ∧ GoodFirmware
      ((up 12).found 1) ∧ Calm ((up 12).found 1) := by
  and_intros <;> first | decide +kernel | exact heardMasterOf (by decide +kernel) | exact goodFirmwareOf (by decide +kernel)

theorem witness_UpdateControlRuns_3 :
    (Instr.updateVerify 1 host0).wf = true ∧ HeardMaster (imageReceived.found 1) host0 0 2 4113 0 ∧ host0.storeOk = true ∧
      (imageReceived.found 1).updateBusy = false ∧ (imageReceived.found 1).modeCode = 12 ∧ (imageReceived.found 1).updStage = 4 ∧
      Option.map (fun x => x.length) (imageReceived.found 1).journal = some ((imageReceived.found 1).get Obj.updateProgrammed) := by
  and_intros <;> first | decide +kernel | exact heardMasterOf (by decide +kernel)

theorem witness_UpdateControlRuns_4 :
    (Instr.updateVerify 1 hostBadStore).wf = true ∧ HeardMaster (imageReceived.found 1) hostBadStore 0 2 4113 0 ∧ hostBadStore.storeOk =
      false ∧ (imageReceived.found 1).updateBusy = false ∧ (imageReceived.found 1).modeCode = 12 ∧ (imageReceived.found 1).updStage = 4 ∧
      Option.map (fun x => x.length) (imageReceived.found 1).journal = some ((imageReceived.found 1).get Obj.updateProgrammed) := by
  and_intros <;> first | decide +kernel | exact heardMasterOf (by decide +kernel)

theorem witness_UpdateControlRuns_5 :
    (Instr.confirm 1 host0).wf = true ∧ HeardMaster ((up 6).found 1) host0 0 2 4113 0 ∧ host0.storeOk = true :=
  ⟨by decide +kernel, heardMasterOf (by decide +kernel), by decide +kernel⟩

theorem witness_UpdateControlRuns_6 :
    (Instr.confirm 1 hostBadStore).wf = true ∧ HeardMaster (trialOfB.found 1) hostBadStore 0 2 4113 0 ∧ hostBadStore.storeOk = false ∧
      (trialOfB.found 1).inTrial = true := by
  and_intros <;> first | decide +kernel | exact heardMasterOf (by decide +kernel)

set_option maxRecDepth 100000 in
theorem witness_UpdateControlRuns_7 :
    (Instr.rollback 1 host0).wf = true ∧ HeardMaster (trialOfB.found 1) host0 0 2 4113 0 ∧ host0.storeOk = true ∧ (trialOfB.found
      1).inTrial = true ∧ Calm (trialOfB.found 1) := by
  and_intros <;> first | decide +kernel | exact heardMasterOf (by decide +kernel)

set_option maxRecDepth 100000 in
theorem witness_UpdateControlRuns_8 :
    (trialOfB.found 1).inTrial = true ∧ (trialOfB.found 1).nvm.trialAt.isSome = true ∧ (trialOfB.found 1).get Obj.supervisorState ≠ 2 ∧
      Calm (trialOfB.found 1) := by
  and_intros <;> decide +kernel

def at_UpdateControlRuns_9 : State :=
  trialOfB.set Obj.supervisorState 2

theorem witness_UpdateControlRuns_9 :
    (at_UpdateControlRuns_9.found 1).get Obj.supervisorState = 2 := by decide +kernel

set_option maxRecDepth 100000 in
theorem witness_UpdateControlRuns_10 :
    (Instr.firmwareImageWrite 1 host0 firmware).wf = true ∧ host0.storeOk = true ∧ HeardMaster ((up 12).found 1) host0 0 5 4112 0 ∧ ((up
      12).found 1).modeCode = 12 ∧ ((up 12).found 1).inTrial = false ∧ ((up 12).found 1).get Obj.firmwareWriteOffset = 0 ∧ ((up 12).found
      1).get Obj.updateProgrammed = 0 ∧ 256 ≤ firmware.length ∧ firmware.length ≤ 98048 ∧ firmware.length % 8 = 0 ∧ ((up 12).found
      1).port.writeXfer = none ∧ ((up 12).found 1).updateBusy = false := by
  and_intros <;> first | decide +kernel | exact heardMasterOf (by decide +kernel)

set_option maxRecDepth 100000 in
theorem witness_UpdateControlRuns_10b :
    (Instr.firmwareImageWrite 1 host0 (firmware.set 0 1)).wf = true ∧ host0.storeOk = true ∧ HeardMaster ((up 12).found 1) host0 0 5
      4112 0 ∧ ((up 12).found 1).modeCode = 12 ∧ ((up 12).found 1).inTrial = false ∧ ((up 12).found 1).get Obj.firmwareWriteOffset = 0 ∧
      ((up 12).found 1).get Obj.updateProgrammed = 0 ∧ 256 ≤ (firmware.set 0 1).length ∧ (firmware.set 0 1).length ≤ 98048 ∧ (firmware.set
      0 1).length % 8 = 0 ∧ ((up 12).found 1).port.writeXfer = none ∧ ((up 12).found 1).updateBusy = false := by
  and_intros <;> first | decide +kernel | exact heardMasterOf (by decide +kernel)

theorem witness_FaultClearRuns_1 :
    (Instr.faultClear 1 host0 33 0).wf = true ∧ 33 < 48 ∧ HeardMaster ((up 6).found 1) host0 0 2 (3600 + 33) 1 :=
  ⟨by decide +kernel, by decide +kernel, heardMasterOf (by decide +kernel)⟩

def at_FaultClearRuns_1b : State :=
  withFault 0x21 (up 6)

theorem witness_FaultClearRuns_1b :
    (Instr.faultClear 1 host0 33 0).wf = true ∧ 33 < 48 ∧ HeardMaster (at_FaultClearRuns_1b.found 1) host0 0 2 (3600 + 33) 1 :=
  ⟨by decide +kernel, by decide +kernel, heardMasterOf (by decide +kernel)⟩

def at_FaultClearRuns_1c : State :=
  { withFault 0x21 (up 6) with flt := { (withFault 0x21 (up 6)).flt with setIn := 2 ^ 0x21 } }

theorem witness_FaultClearRuns_1c :
    (Instr.faultClear 1 host0 33 0).wf = true ∧ 33 < 48 ∧ HeardMaster (at_FaultClearRuns_1c.found 1) host0 0 2 (3600 + 33) 1 :=
  ⟨by decide +kernel, by decide +kernel, heardMasterOf (by decide +kernel)⟩

def at_FaultClearRuns_1d : State :=
  { withFault 0x21 (up 6) with flt := { (withFault 0x21 (up 6)).flt with cond := 2 ^ 0x21 } }

theorem witness_FaultClearRuns_1d :
    (Instr.faultClear 1 host0 33 0).wf = true ∧ 33 < 48 ∧ HeardMaster (at_FaultClearRuns_1d.found 1) host0 0 2 (3600 + 33) 1 :=
  ⟨by decide +kernel, by decide +kernel, heardMasterOf (by decide +kernel)⟩

def at_FaultRecoveryRuns_1 : State :=
  withFault 0x12 (up 6)

theorem witness_FaultRecoveryRuns_1 :
    (Instr.faultStatusReadClear 1 host0 18).wf = true ∧ 18 < 48 ∧ Heard (at_FaultRecoveryRuns_1.found 1) host0 0 1 (3600 + 18) 1 ∧
      (at_FaultRecoveryRuns_1.found 1).role (Source.host 0) ≠ 0 ∧ (at_FaultRecoveryRuns_1.found 1).supReady = true := by
  and_intros <;> first | decide +kernel | exact heardOf (by decide +kernel)

def at_FaultRecoveryRuns_2 : State :=
  { quietRuns with flt := { quietRuns.flt with quietAt := [(0x21, 0)] } }

theorem witness_FaultRecoveryRuns_2 :
    (Instr.quietPeriodEnd 1 33).wf = true ∧ (at_FaultRecoveryRuns_2.found 1).faultOn 33 = true ∧ (at_FaultRecoveryRuns_2.found
      1).quietOver 33 = true ∧ bit (at_FaultRecoveryRuns_2.found 1).flt.latched 33 = false := by decide +kernel

theorem witness_FaultRecoveryRuns_3 :
    (Instr.quietPeriodEnd 1 33).wf = true ∧ (quietRuns.found 1).quietOver 33 = false := by decide +kernel

theorem witness_FaultRecoveryRuns_4 :
    (Instr.recoveryWindowEnd 1 33).wf = true := by decide +kernel

theorem witness_FaultRecoveryRuns_5 :
    (up 6).faultOn 33 = false := by decide +kernel

def at_FaultRecoveryRuns_6 : State :=
  withFault 0x21 (up 6)

theorem witness_FaultRecoveryRuns_6 :
    at_FaultRecoveryRuns_6.faultOn 33 = true ∧ 33 ≠ 36 ∧ bit at_FaultRecoveryRuns_6.flt.clearedIn 33 = false := by decide +kernel

def at_FaultRecoveryRuns_7 : State :=
  withFault 0x24 (up 6)

theorem witness_FaultRecoveryRuns_7 :
    at_FaultRecoveryRuns_7.faultOn 36 = true ∧ bit at_FaultRecoveryRuns_7.flt.clearedIn 36 = false ∧ at_FaultRecoveryRuns_7.get
      (faultObj Obj.faultSeverity 36) ≠ 3 := by decide +kernel

theorem witness_FaultRecoveryRuns_8 :
    (Instr.faultStatusReadClear 1 host0 70).wf = true ∧ lookup (3600 + 70) 1 = Sum.inl 1 ∧ Heard ((up 6).found 1) host0 0 1 (3600 + 70)
      1 :=
  ⟨by decide +kernel, by decide +kernel, heardOf (by decide +kernel)⟩

theorem witness_ConvertRuns_1 :
    (Instr.convert 1 16777215 1 true 5000).wf = true ∧ ((up 6).found 1).planRuns = true ∧ ((up 6).found 1).cur.latched = none := by decide +kernel

def at_ConvertRuns_2 : State :=
  { up 6 with cur := { (up 6).cur with latched := some (2, 7) } }

theorem witness_ConvertRuns_2 :
    (Instr.convert 1 16777215 1 true 5000).wf = true ∧ (at_ConvertRuns_2.found 1).planRuns = true ∧ (at_ConvertRuns_2.found
      1).cur.latched = some (2, 7) := by decide +kernel

theorem witness_ConvertRuns_3 :
    ((up 6).found 1).planRuns = true := by decide +kernel

def at_ConvertRuns_5 : State :=
  { up 6 with cur := { (up 6).cur with volts := 1000000 } }

theorem witness_ConvertRuns_5 :
    at_ConvertRuns_5.on Domain.icx = true ∧ at_ConvertRuns_5.cur.mutedAt = none ∧ at_ConvertRuns_5.cur.next = [] := by decide +kernel

def at_ConvertRuns_6 : State :=
  { up 6 with cur := { (up 6).cur with volts := 1000000, next := [(28, 5000000)] } }

theorem witness_ConvertRuns_6 :
    at_ConvertRuns_6.on Domain.icx = true ∧ at_ConvertRuns_6.cur.mutedAt = none ∧ at_ConvertRuns_6.cur.next = [(at_ConvertRuns_6.clk +
      28, 5000000)] := by decide +kernel

def at_ConvertRuns_7 : State :=
  { up 6 with cur := { (up 6).cur with volts := 1000000, mutedAt := some 0, residue := 15999999 } }

theorem witness_ConvertRuns_7 :
    at_ConvertRuns_7.on Domain.icx = true ∧ at_ConvertRuns_7.cur.mutedAt = some at_ConvertRuns_7.clk ∧ 1000 ≤ 2 * ms := by decide +kernel

theorem witness_BalanceEntriesRun_1 :
    (Instr.balHold 1 6).wf = true := by decide +kernel

theorem witness_BalanceEntriesRun_2 :
    (Instr.balRelease 1 6).wf = true := by decide +kernel

theorem witness_BalanceEntriesRun_3 :
    (Instr.switchBudgetSpent 1 3).wf = true := by decide +kernel

theorem witness_AuxEntriesRun_1 :
    (Instr.aux 1 1).wf = true ∧ ((running 6).found 1).planRuns = true ∧ ((running 6).found 1).on Domain.icx = true ∧ ((running 6).found
      1).aux.busy = none := by decide +kernel

def at_AuxEntriesRun_2 : State :=
  { running 6 with aux := { (running 6).aux with request := some (0x13, 0) } }

theorem witness_AuxEntriesRun_2 :
    (at_AuxEntriesRun_2.found 1).planRuns = true ∧ (at_AuxEntriesRun_2.found 1).on Domain.icx = true ∧ (at_AuxEntriesRun_2.found
      1).aux.busy = none ∧ (at_AuxEntriesRun_2.found 1).aux.request = some (19, 0) := by decide +kernel

theorem witness_AuxEntriesRun_3 :
    ((converting 19).found 1).aux.busy = some (AuxConv.mk 19 0 100 false 0 false) ∧ (AuxConv.mk 19 0 100 false 0 false).channel ≤ 29 ∧
      (AuxConv.mk 19 0 100 false 0 false).diag = false ∧ Calm ((converting 19).found 1) := by
  and_intros <;> decide +kernel

def at_AuxEntriesRun_3c : State :=
  { running 6 with aux := { (running 6).aux with busy := some ⟨0x11, 1, 100, false, 0, false⟩ } }

theorem witness_AuxEntriesRun_3c :
    (at_AuxEntriesRun_3c.found 1).aux.busy = some (AuxConv.mk 17 1 100 false 0 false) ∧ (AuxConv.mk 17 1 100 false 0 false).channel ≤ 29
      ∧ (AuxConv.mk 17 1 100 false 0 false).diag = false ∧ Calm (at_AuxEntriesRun_3c.found 1) := by
  and_intros <;> decide +kernel

theorem witness_AuxEntriesRun_4 :
    (Instr.openwire 1 196611).wf = true ∧ ((running 6).found 1).planRuns = true := by decide +kernel

theorem witness_ReportRuns_1 :
    (Instr.report 1 (ReportOp.mk 328448 goodSet)).wf = true ∧ ((running 6).found 1).planRuns = true ∧ ((running 6).found 1).reports
      328448 = false := by decide +kernel

theorem witness_ReportRuns_2 :
    (Instr.report 1 (ReportOp.mk 65536 goodSet)).wf = true ∧ ((running 6).found 1).planRuns = true ∧ ((running 6).found 1).reports 65536
      = true ∧ goodSet.bad = [] ∧ goodSet.setOk = true ∧ ((running 6).found 1).cells.badConv = 0 ∧ ((running 6).found 1).cells.tableBad =
      [] := by decide +kernel

def at_ReportRuns_2b : State :=
  { running 6 with cells := { (running 6).cells with apertures := [anAperture] } }

theorem witness_ReportRuns_2b :
    (Instr.report 1 (ReportOp.mk 65536 goodSet)).wf = true ∧ (at_ReportRuns_2b.found 1).planRuns = true ∧ (at_ReportRuns_2b.found
      1).reports 65536 = true ∧ goodSet.bad = [] ∧ goodSet.setOk = true ∧ (at_ReportRuns_2b.found 1).cells.badConv = 0 ∧
      (at_ReportRuns_2b.found 1).cells.tableBad = [] := by decide +kernel

def at_ReportRuns_2c : State :=
  { (running 6).set Obj.nodeAddress 3 with cells := { (running 6).cells with recent := [aUnit] }, clk := 5000, ringTime := 5000 }

theorem witness_ReportRuns_2c :
    (Instr.report 1 (ReportOp.mk 1073807360 goodSet)).wf = true ∧ (at_ReportRuns_2c.found 1).planRuns = true ∧ (at_ReportRuns_2c.found
      1).reports 1073807360 = true ∧ goodSet.bad = [] ∧ goodSet.setOk = true ∧ (at_ReportRuns_2c.found 1).cells.badConv = 0 ∧
      (at_ReportRuns_2c.found 1).cells.tableBad = [] := by decide +kernel

def at_ReportRuns_3 : State :=
  { (running 6).setAll [(Obj.nodeAddress, 1), (Obj.ringRole, 2), (Obj.streamControl, 0x10001)] with cells := { (running 6).cells with recent := [aUnit] }, clk := 5000, ringTime := 5000 }

theorem witness_ReportRuns_3 :
    (Instr.report 1 (ReportOp.mk 1073807360 (SetCheck.mk [] false false))).wf = true ∧ (at_ReportRuns_3.found 1).planRuns = true ∧
      (at_ReportRuns_3.found 1).reports 1073807360 = true ∧ (at_ReportRuns_3.found 1).streamSelects = true ∧ (at_ReportRuns_3.found
      1).isHead = true ∧ (SetCheck.mk [] false false).bad = [] ∧ (SetCheck.mk [] false false).setOk = false ∧ (SetCheck.mk [] false
      false).rereadOk = false ∧ (∀ (x : ℕ × ℕ × Option CellUnit), (at_ReportRuns_3.found 1).chosen = some x → x.2.2.isSome = true) := by decide +kernel

def at_SlicesRun_1 : State :=
  bothServe (running 6)

theorem witness_SlicesRun_1 :
    (Instr.slice 1 0 (7 * 2 ^ 24 + 500)).wf = true ∧ sliceLength (7 * 2 ^ 24 + 500) = 500 ∧ (at_SlicesRun_1.found 1).modeIn [6, 7, 8, 9,
      11] = true ∧ (at_SlicesRun_1.found 1).planRuns = true ∧ (at_SlicesRun_1.found 1).supReady = true ∧ (at_SlicesRun_1.found 1).serving
      Side.north = true ∧ ((at_SlicesRun_1.found 1).test.slices.any fun x => decide (x.kind = 7)) = false ∧ 200 ≤ 500 := by decide +kernel

def at_SlicesRun_2 : State :=
  bothServe (running 6)

theorem witness_SlicesRun_2 :
    (Instr.slice 1 0 (7 * 2 ^ 24 + 150)).wf = true ∧ sliceLength (7 * 2 ^ 24 + 150) = 150 ∧ (at_SlicesRun_2.found 1).modeIn [6, 7, 8, 9,
      11] = true ∧ (at_SlicesRun_2.found 1).planRuns = true ∧ (at_SlicesRun_2.found 1).supReady = true ∧ 150 < 200 := by decide +kernel

def at_SlicesRun_3 : State :=
  inSlice northSlice (bothServe (running 6))

theorem witness_SlicesRun_3 :
    (at_SlicesRun_3.found 1).test.slices = [northSlice] ∧ northSlice.kind = 7 ∧ northSlice.target = 0 ∧ northSlice.told = false ∧
      (at_SlicesRun_3.found 1).sliceOver northSlice = true ∧ (at_SlicesRun_3.found 1).test.set = [] ∧ (at_SlicesRun_3.found 1).test.runs =
      [] ∧ bits (at_SlicesRun_3.found 1).safe.selfFaults 2 3 = 0 ∧ (at_SlicesRun_3.found 1).spare 1 = 0 ∧ MarginsStand
      (at_SlicesRun_3.found 1) ∧ (at_SlicesRun_3.found 1).port.waiting = [] := by
  and_intros <;> first | decide +kernel | exact marginsStandOf (by decide +kernel)

theorem witness_SelftestRuns_1 :
    (Instr.selftestComplete 1 goodMemory goodMemory []).wf = true ∧ (selftesting.found 1).modeCode = 10 ∧ (selftesting.found 1).supReady
      = true ∧ bits ((selftesting.found 1).get Obj.selftestStatus) 0 4 = 1 ∧ (selftesting.found 1).mode.auto = none ∧ (selftesting.found
      1).test.set = [] := by decide +kernel

def at_SelftestRuns_2 : State :=
  testing [(0, 0, 0), (1, 0, 0), (2, 0, 0)]

theorem witness_SelftestRuns_2 :
    (Instr.selftestComplete 1 goodMemory goodMemory []).wf = true ∧ (at_SelftestRuns_2.found 1).modeCode = 10 ∧ (at_SelftestRuns_2.found
      1).supReady = true ∧ bits ((at_SelftestRuns_2.found 1).get Obj.selftestStatus) 0 4 = 1 ∧ (at_SelftestRuns_2.found 1).test.set = [(0,
      0, 0), (1, 0, 0), (2, 0, 0)] ∧ 1 ≠ 0 ∧ (∀ x ∈ [(2, 0, 0)], x.1 ≠ 0) ∧ (∀ x ∈ goodMemory, x.words = []) ∧ bit
      (at_SelftestRuns_2.found 1).flt.cond 41 = false := by decide +kernel

def at_SelftestRuns_3 : State :=
  testing [(0, 0, 0), (1, 0, 0), (2, 0, 0)]

theorem witness_SelftestRuns_3 :
    (Instr.selftestComplete 1 (List.replicate 4 (MacroMeas.mk [(37, 3), (66, 1), (800, 2)] false)) (List.replicate 4 (MacroMeas.mk [(37,
      3), (66, 1), (800, 2)] false)) [TableWord.mk 3 true true]).wf = true ∧ (at_SelftestRuns_3.found 1).modeCode = 10 ∧
      (at_SelftestRuns_3.found 1).supReady = true ∧ bits ((at_SelftestRuns_3.found 1).get Obj.selftestStatus) 0 4 = 1 ∧
      (at_SelftestRuns_3.found 1).test.set = [(0, 0, 0), (1, 0, 0), (2, 0, 0)] ∧ 1 ≠ 0 ∧ (∀ x ∈ [(2, 0, 0)], x.1 ≠ 0) ∧ (∀ c ∈ [8, 39,
      41], (at_SelftestRuns_3.found 1).get (faultObj Obj.faultSeverity c) ≠ 3) := by decide +kernel

def at_SelftestRuns_4 : State :=
  testingServed [(7, 0, 0), (8, 0, 0)]

theorem witness_SelftestRuns_4 :
    (Instr.slice 1 0 (7 * 2 ^ 24 + 500)).wf = true ∧ sliceLength (7 * 2 ^ 24 + 500) = 500 ∧ (at_SelftestRuns_4.found 1).modeCode = 10 ∧
      (at_SelftestRuns_4.found 1).planRuns = true ∧ (at_SelftestRuns_4.found 1).supReady = true ∧ (at_SelftestRuns_4.found 1).serving
      Side.north = true ∧ (at_SelftestRuns_4.found 1).test.slices = [] ∧ (at_SelftestRuns_4.found 1).test.set = [(7, 0, 0), (8, 0, 0)] ∧
      200 ≤ 500 := by decide +kernel

def at_SelftestRuns_5 : State :=
  testingServed [(8, 0, 0)]

theorem witness_SelftestRuns_5 :
    (Instr.slice 1 0 (7 * 2 ^ 24 + 500)).wf = true ∧ (at_SelftestRuns_5.found 1).modeCode = 10 ∧ (at_SelftestRuns_5.found 1).test.set =
      [(8, 0, 0)] ∧ 8 ≠ 7 := by decide +kernel

def at_SelftestRuns_6 : State :=
  inSlice northSlice (mild (testingServed [(7, 0, 0), (8, 0, 0)]))

theorem witness_SelftestRuns_6 :
    (at_SelftestRuns_6.found 1).test.slices = [northSlice] ∧ northSlice.kind = 7 ∧ northSlice.target = 0 ∧ northSlice.told = false ∧
      (at_SelftestRuns_6.found 1).sliceOver northSlice = true ∧ (at_SelftestRuns_6.found 1).modeCode = 10 ∧ (at_SelftestRuns_6.found
      1).test.set = [(7, 0, 0), (8, 0, 0)] ∧ (∀ y ∈ [(8, 0, 0)], y.1 ≠ 7) ∧ (∀ (c : ℕ), 2 ≤ c → c < 48 → (at_SelftestRuns_6.found 1).get
      (faultObj Obj.faultSeverity c) ≠ 3) := by decide +kernel

def at_SelftestRuns_7 : State :=
  inSlice northSlice ((testingServed [(7, 0, 1), (8, 0, 0)]).set (faultObj Obj.faultSeverity 0x2A) 3)

theorem witness_SelftestRuns_7 :
    (at_SelftestRuns_7.found 1).test.slices = [northSlice] ∧ northSlice.kind = 7 ∧ northSlice.target = 0 ∧ northSlice.told = false ∧
      (at_SelftestRuns_7.found 1).sliceOver northSlice = true ∧ (at_SelftestRuns_7.found 1).loupe.point = none ∧ (at_SelftestRuns_7.found
      1).modeCode = 10 ∧ bits ((at_SelftestRuns_7.found 1).get Obj.selftestStatus) 0 4 = 1 ∧ (at_SelftestRuns_7.found 1).faultOn 42 =
      false ∧ (at_SelftestRuns_7.found 1).get (faultObj Obj.faultSeverity 42) = 3 := by decide +kernel

theorem witness_TransferEntriesRun_1 :
    ((xferIn 8 1).found 1).modeCode = 8 ∧ ((xferIn 8 1).found 1).planRuns = true ∧ ((xferIn 8 1).found 1).xferState = 1 := by decide +kernel

theorem witness_TransferEntriesRun_2 :
    ((xferIn 8 2).found 1).modeCode = 8 ∧ ((xferIn 8 2).found 1).planRuns = true ∧ (((xferIn 8 2).found 1).xferState = 2 ∨ ((xferIn 8
      2).found 1).xferState = 3) := by decide +kernel

theorem witness_TransferEntriesRun_3 :
    ((xferIn 8 34).found 1).xferState = 2 := by decide +kernel

def at_LoupeEntriesRun_1 : State :=
  (loupeAsked 9).setAll [(Obj.tableDuty, 10000)]

theorem witness_LoupeEntriesRun_1 :
    (Instr.loupeStart 1 0 0).wf = true ∧ (at_LoupeEntriesRun_1.found 1).modeCode = 9 ∧ (at_LoupeEntriesRun_1.found 1).planRuns = true ∧
      bit ((at_LoupeEntriesRun_1.found 1).get Obj.loupePointMask) 0 = true ∧ (at_LoupeEntriesRun_1.found 1).loupe.point = none ∧
      (at_LoupeEntriesRun_1.found 1).excitation = 0 ∧ (at_LoupeEntriesRun_1.found 1).faultOn 17 = false ∧ (at_LoupeEntriesRun_1.found
      1).chopTooHot (0 - (0 &&& (at_LoupeEntriesRun_1.found 1).get Obj.balLockout)) = false := by decide +kernel

theorem witness_LoupeEntriesRun_2 :
    (pointRuns.found 1).modeCode = 9 ∧ (pointRuns.found 1).planRuns = true ∧ (pointRuns.found 1).loupe.point = some aPoint ∧
      aPoint.point < 16 := by decide +kernel

theorem witness_LoupeEntriesRun_3 :
    (pointRuns.found 1).loupe.point = some aPoint := by decide +kernel

def at_LoupeEntriesRun_4 : State :=
  { loupeAsked 9 with loupe := { (loupeAsked 9).loupe with pend := [aPoint] } }

theorem witness_LoupeEntriesRun_4 :
    (at_LoupeEntriesRun_4.found 1).loupe.pend = [aPoint] ∧ aPoint.point < 16 := by decide +kernel

theorem witness_LoupeEntriesRun_5 :
    (Instr.loupeReferenceTimeout 1 10).wf = true := by decide +kernel

theorem witness_CycleBoundaryRuns_1 :
    (Instr.planCycleBoundary 1 []).wf = true ∧ (running6.found 1).on Domain.rng = true ∧ (running6.found 1).modeCode = 6 ∧
      (running6.found 1).mode.auto = none ∧ (running6.found 1).plan.running = RunningPlan.bank ∧ (running6.found 1).plan.withdraw = none ∧
      (running6.found 1).staged = [] ∧ Calm (running6.found 1) := by
  and_intros <;> decide +kernel

def at_CycleBoundaryRuns_2 : State :=
  { running6.setAll [(faultObj Obj.faultSeverity 8, 3), (faultObj Obj.faultSeverity 0x27, 3)] with staged := [(Obj.cellOvThreshold, 300)] }

theorem witness_CycleBoundaryRuns_2 :
    (Instr.planCycleBoundary 1 [TableWord.mk 3 false false]).wf = true ∧ (at_CycleBoundaryRuns_2.found 1).on Domain.rng = true ∧
      (at_CycleBoundaryRuns_2.found 1).planRuns = true ∧ (at_CycleBoundaryRuns_2.found 1).staged = [(Obj.cellOvThreshold, 300)] ∧ Calm
      (at_CycleBoundaryRuns_2.found 1) := by
  and_intros <;> decide +kernel

theorem witness_PlanIntegrityRuns_1 :
    (Instr.planEntryFetch 1 2 false).wf = true ∧ ((running 6).found 1).hasEntry 2 = true ∧ ((running 6).found 1).plan.refetch.contains 2
      = false := by decide +kernel

theorem witness_PlanIntegrityRuns_2 :
    (Instr.entryRefetchComplete 1 2 true true).wf = true ∧ (refetching.found 1).plan.refetch.contains 2 = true := by decide +kernel

theorem witness_PlanIntegrityRuns_3 :
    (Instr.entryRefetchComplete 1 2 false true).wf = true ∧ (refetching.found 1).plan.refetch.contains 2 = true ∧ (refetching.found
      1).faultOn 37 = false ∧ (refetching.found 1).get (faultObj Obj.faultSeverity 37) ≠ 3 := by decide +kernel

theorem witness_PlanIntegrityRuns_4 :
    (Instr.lateEntry 1 2).wf = true ∧ (refetching.found 1).hasEntry 2 = true ∧ (refetching.found 1).faultOn 38 = false ∧
      (refetching.found 1).get (faultObj Obj.faultSeverity 38) ≠ 3 := by decide +kernel

theorem witness_PlanIntegrityRuns_5 :
    ((running 6).found 1).on Domain.rng = true := by decide +kernel

theorem witness_PlanIntegrityRuns_6 :
    (Instr.planScrubPass 1 [(3, false)] []).wf = true ∧ ((running 6).found 1).on Domain.rng = true ∧ ((running 6).found 1).faultOn 37 =
      false ∧ ((running 6).found 1).active.image ≠ [] ∧ ((running 6).found 1).get (faultObj Obj.faultSeverity 37) ≠ 3 := by decide +kernel

theorem witness_PlanIntegrityRuns_9 :
    (Instr.calScrubPass 1 []).wf = true ∧ ((running 6).found 1).on Domain.rng = true ∧ Calm ((running 6).found 1) := by
  and_intros <;> decide +kernel

theorem witness_PlanIntegrityRuns_9b :
    (Instr.calScrubPass 1 [TableWord.mk 3 false true]).wf = true ∧ ((running 6).found 1).on Domain.rng = true ∧ Calm ((running 6).found
      1) := by
  and_intros <;> decide +kernel

theorem witness_AperturesEnd_1 :
    (Instr.apertureComplete 1 100 (List.replicate 24 (rawValue 330000)) (rawValue 0) (rawValue 0) (CurRaw.mk 1000 false 0 false)
      (List.replicate 24 0) (ApertureEnd.mk true [])).wf = true ∧ List.find? (fun y => decide (y.a = 100)) (apertureOpen.found
      1).cells.apertures = some anAperture ∧ Calm (apertureOpen.found 1) := by
  and_intros <;> decide +kernel

theorem witness_AperturesEnd_2 :
    (Instr.recomputationComplete 1 100 1 true).wf = true ∧ List.find? (fun y => decide (y.a = 100) && y.waits.contains 1)
      (unitWaits.found 1).cells.unit = some waitingUnit ∧ Calm (unitWaits.found 1) ∧ (unitWaits.found 1).cells.reports = [] := by
  and_intros <;> decide +kernel

theorem witness_AperturesEnd_3 :
    (Instr.recomputationComplete 1 100 1 true).wf = true ∧ List.find? (fun y => decide (y.a = 100) && y.waits.contains 1)
      (unitWaits.found 1).cells.unit = some waitingUnit ∧ Calm (unitWaits.found 1) := by
  and_intros <;> decide +kernel

theorem witness_AperturesEnd_4 :
    (Instr.recomputationComplete 1 100 1 true).wf = true ∧ List.find? (fun y => decide (y.a = 100) && y.waits.contains 1)
      (recentUnit.found 1).cells.unit = none ∧ List.find? (fun y => decide (y.a = 100) && y.holds 1) (recentUnit.found 1).cells.recent =
      some heldUnit ∧ Calm (recentUnit.found 1) := by
  and_intros <;> decide +kernel

theorem witness_AperturesEnd_4b :
    (Instr.recomputationComplete 1 100 1 false).wf = true ∧ List.find? (fun y => decide (y.a = 100) && y.waits.contains 1)
      (recentUnit.found 1).cells.unit = none ∧ List.find? (fun y => decide (y.a = 100) && y.holds 1) (recentUnit.found 1).cells.recent =
      some heldUnit ∧ Calm (recentUnit.found 1) := by
  and_intros <;> decide +kernel

theorem witness_AperturesEnd_5 :
    List.find? (fun y => decide (y.a = 100) && y.waits.contains 1) ((running 6).found 1).cells.unit = none ∧ List.find? (fun y => decide
      (y.a = 100) && y.holds 1) ((running 6).found 1).cells.recent = none ∧ ((running 6).found 1).snapshotOf 100 = none := by decide +kernel

def at_SparesRun_1 : State :=
  (running 6).set (Obj.spareState + 1) (1+5*256)

theorem witness_SparesRun_1 :
    (Instr.spareArmingComplete 1 1).wf = true ∧ (at_SparesRun_1.found 1).spare 1 = 1 ∧ ((at_SparesRun_1.found 1).sp 1).returning = false
      ∧ (at_SparesRun_1.found 1).get (faultObj Obj.faultSeverity 6) ≠ 3 ∧ (at_SparesRun_1.found 1).get (faultObj Obj.faultSeverity 5) ≠ 3
      ∧ (at_SparesRun_1.found 1).get (faultObj Obj.faultSeverity 43) ≠ 3 := by decide +kernel

def at_SparesRun_2 : State :=
  { (running 6).set (Obj.spareState + 1) 0x504 with cells := { (running 6).cells with sp1 := { (running 6).cells.sp1 with overlapDue := true } } }

theorem witness_SparesRun_2 :
    (Instr.handBackTimeout 1 1).wf = true ∧ (at_SparesRun_2.found 1).spare 1 = 4 ∧ ((at_SparesRun_2.found 1).sp 1).overlapDue = true ∧
      (at_SparesRun_2.found 1).get (faultObj Obj.faultSeverity 43) ≠ 3 := by decide +kernel

def at_SparesRun_3 : State :=
  { (running 6).set (Obj.spareState + 1) 0x502 with cells := { (running 6).cells with sp1 := { (running 6).cells.sp1 with returning := true } } }

theorem witness_SparesRun_3 :
    (Instr.handBackChannelActive 1 1).wf = true ∧ ((at_SparesRun_3.found 1).sp 1).back = 0 ∧ ((at_SparesRun_3.found 1).sp 1).returning =
      true ∧ (at_SparesRun_3.found 1).spare 1 ≤ 5 ∧ 1 ≤ (at_SparesRun_3.found 1).spareCell 1 ∧ (at_SparesRun_3.found 1).spareCell 1 ≤ 24 ∧
      ((at_SparesRun_3.found 1).channel ((at_SparesRun_3.found 1).spareCell 1) = 2 → (at_SparesRun_3.found 1).spare 1 = 3) ∧
      (at_SparesRun_3.found 1).get (faultObj Obj.faultSeverity 43) ≠ 3 := by decide +kernel

theorem witness_MarksRun_1 :
    (Instr.mark 1 0 false).wf = true ∧ (atHead.found 1).on Domain.rng = true ∧ (atHead.found 1).marks = true ∧ (atHead.found 1).planRuns
      = true := by decide +kernel

theorem witness_MarksRun_2 :
    (Instr.mark 1 0 true).wf = true ∧ (atNode.found 1).marks = false := by decide +kernel

theorem witness_MarksRun_3 :
    (atNode.found 1).isHead = false := by decide +kernel

theorem witness_MarksRun_4 :
    (Instr.markCopy 1 aMark 7000 5).wf = true ∧ GoodFrame (atNode.found 1) aMark 3 ∧ aMark.side = Side.north ∧ (atNode.found 1).isHead =
      false ∧ frameLen aMark.bytes = 24 ∧ (atNode.found 1).timeState = 0 ∧ (atNode.found 1).time.laneSet = false ∧ (atNode.found
      1).time.hopsCw = none ∧ (atNode.found 1).time.hopsCcw = none := by
  and_intros <;> first | decide +kernel | exact goodFrameOf (by decide +kernel)

def at_MarksRun_6 : State :=
  { inTime 2 atNode with time := { atNode.time with laneSet := true }, plan := { atNode.plan with running := RunningPlan.none }, ringTime := 5010, clk := 5010 }

theorem witness_MarksRun_6 :
    (Instr.markCopy 1 aMark 5010 5).wf = true ∧ GoodFrame (at_MarksRun_6.found 1) aMark 3 ∧ aMark.side = Side.north ∧
      (at_MarksRun_6.found 1).isHead = false ∧ frameLen aMark.bytes = 24 ∧ (at_MarksRun_6.found 1).timeState = 2 ∧ (at_MarksRun_6.found
      1).time.laneSet = true ∧ (at_MarksRun_6.found 1).laneCcw = false ∧ markAccepted (at_MarksRun_6.found 1) (leAt (framePayload
      aMark.bytes) 0 6) (phaseError (at_MarksRun_6.found 1) Side.north (framePayload aMark.bytes) 5) = true := by
  and_intros <;> first | decide +kernel | exact goodFrameOf (by decide +kernel)

theorem witness_RingTimeEventsRun_1 :
    ((inTime 2 atNode).found 1).timeState = 2 := by decide +kernel

def at_RingTimeEventsRun_2 : State :=
  { inTime 3 atNode with time := { atNode.time with holdStart := some 0 } }

theorem witness_RingTimeEventsRun_2 :
    (at_RingTimeEventsRun_2.found 1).timeState = 3 ∧ (at_RingTimeEventsRun_2.found 1).time.holdStart.isSome = true ∧
      (at_RingTimeEventsRun_2.found 1).faultOn 27 = false ∧ (at_RingTimeEventsRun_2.found 1).get (faultObj Obj.faultSeverity 27) ≠ 3 := by decide +kernel

def at_RingTimeEventsRun_3 : State :=
  { atNode with ring := { atNode.ring with markCw := true } }

theorem witness_RingTimeEventsRun_3 :
    (at_RingTimeEventsRun_3.found 1).on Domain.rng = true ∧ (at_RingTimeEventsRun_3.found 1).address ≠ 0 := by decide +kernel

def at_RingTimeEventsRun_4 : State :=
  tracking.set Obj.syncConfig 0

theorem witness_RingTimeEventsRun_4 :
    syncOn (at_RingTimeEventsRun_4.found 1) = true ∧ (bits ((at_RingTimeEventsRun_4.found 1).get Obj.syncConfig) 0 1 == 0) = true ∧
      (at_RingTimeEventsRun_4.found 1).time.edgeAt = none := by decide +kernel

def at_RingTimeEventsRun_5 : State :=
  { tracking.set Obj.syncConfig 0x10000 with time := { tracking.time with edgeAt := some 100 } }

theorem witness_RingTimeEventsRun_5 :
    syncOn (at_RingTimeEventsRun_5.found 1) = true ∧ (bits ((at_RingTimeEventsRun_5.found 1).get Obj.syncConfig) 0 1 == 0) = true ∧
      (at_RingTimeEventsRun_5.found 1).time.edgeAt = some 100 := by decide +kernel

theorem witness_RingTimeEventsRun_6 :
    syncOn (tracking.found 1) = true := by decide +kernel

def at_LinksRun_1 : State :=
  (atNode.set (Obj.linkStatus + 1) 0)

theorem witness_LinksRun_1 :
    (at_LinksRun_1.found 1).on Domain.rng = true ∧ (at_LinksRun_1.found 1).linkState Side.north ≠ 2 ∧ (at_LinksRun_1.found
      1).ring.enm.unconfirmed = false := by decide +kernel

theorem witness_LinksRun_2 :
    (atNode.found 1).on Domain.rng = true ∧ (atNode.found 1).linkState Side.north = 2 ∧ (atNode.found 1).faultOn (linkFault Side.north)
      = false ∧ (atNode.found 1).get (faultObj Obj.faultSeverity (linkFault Side.north)) ≠ 3 ∧ (atNode.found 1).get (faultObj
      Obj.faultSeverity 43) ≠ 3 := by decide +kernel

def at_LinksRun_3 : State :=
  (atNode.set (Obj.linkStatus + 2) 0)

theorem witness_LinksRun_3 :
    (at_LinksRun_3.found 1).on Domain.rng = true ∧ (at_LinksRun_3.found 1).linkState Side.south ≠ 2 := by decide +kernel

theorem witness_LinksRun_4 :
    (atNode.found 1).on Domain.rng = true ∧ (atNode.found 1).faultOn (linkFault Side.south) = false ∧ (atNode.found 1).get (faultObj
      Obj.faultSeverity (linkFault Side.south)) ≠ 3 ∧ (atNode.found 1).get (faultObj Obj.faultSeverity 43) ≠ 3 := by decide +kernel

theorem witness_LinksRun_5 :
    (atNode.found 1).on Domain.rng = true ∧ (atNode.found 1).linkState Side.south = 2 ∧ (atNode.found 1).get Obj.ringGeneration =
      (atNode.found 1).linkGen Side.south ∧ (atNode.found 1).get (faultObj Obj.faultSeverity 43) ≠ 3 := by decide +kernel

theorem witness_LinksRun_7 :
    (atNode.found 1).receives Side.south = true ∧ (atNode.found 1).address ≠ 0 := by decide +kernel

theorem witness_LinksRun_8 :
    (Instr.delayReq 1 (fromHead Side.north 6 1 0 3 [17, 4, 0, 0]) 1000).wf = true ∧ (atNode.found 1).receives (fromHead Side.north 6 1 0
      3 [17, 4, 0, 0]).side = true ∧ frameEnd (atNode.found 1) (fromHead Side.north 6 1 0 3 [17, 4, 0, 0]) = FrameEnd.consumed ∧
      newerEpoch ((fromHead Side.north 6 1 0 3 [17, 4, 0, 0]).bytes.getD 1 0) (atNode.found 1).epoch = false ∧ (fromHead Side.north 6 1 0
      3 [17, 4, 0, 0]).ended = true ∧ frameChecks (fromHead Side.north 6 1 0 3 [17, 4, 0, 0]).bytes = true ∧ (framePayload (fromHead
      Side.north 6 1 0 3 [17, 4, 0, 0]).bytes).getD 0 0 = 17 := by decide +kernel

theorem witness_LinksRun_9 :
    (Instr.delayResp 1 (fromHead Side.north 6 1 0 3 ([18, 4, 0, 0] ++ leBytes 4 1000)) 1500).wf = true ∧ (measuring.found 1).receives
      (fromHead Side.north 6 1 0 3 ([18, 4, 0, 0] ++ leBytes 4 1000)).side = true ∧ frameEnd (measuring.found 1) (fromHead Side.north 6 1
      0 3 ([18, 4, 0, 0] ++ leBytes 4 1000)) = FrameEnd.consumed ∧ newerEpoch ((fromHead Side.north 6 1 0 3 ([18, 4, 0, 0] ++ leBytes 4
      1000)).bytes.getD 1 0) (measuring.found 1).epoch = false ∧ (fromHead Side.north 6 1 0 3 ([18, 4, 0, 0] ++ leBytes 4 1000)).ended =
      true ∧ frameChecks (fromHead Side.north 6 1 0 3 ([18, 4, 0, 0] ++ leBytes 4 1000)).bytes = true ∧ (framePayload (fromHead Side.north
      6 1 0 3 ([18, 4, 0, 0] ++ leBytes 4 1000)).bytes).getD 0 0 = 18 ∧ ((measuring.found 1).ringPort (fromHead Side.north 6 1 0 3 ([18,
      4, 0, 0] ++ leBytes 4 1000)).side).waitId = some ((framePayload (fromHead Side.north 6 1 0 3 ([18, 4, 0, 0] ++ leBytes 4
      1000)).bytes).getD 1 0) ∧ leAt (framePayload (fromHead Side.north 6 1 0 3 ([18, 4, 0, 0] ++ leBytes 4 1000)).bytes) 4 4 ≤ 20000 ∧
      leAt (framePayload (fromHead Side.north 6 1 0 3 ([18, 4, 0, 0] ++ leBytes 4 1000)).bytes) 4 4 ≤ 1500 ∧ ((measuring.found 1).ringPort
      (fromHead Side.north 6 1 0 3 ([18, 4, 0, 0] ++ leBytes 4 1000)).side).delays = [] := by decide +kernel

theorem witness_LinksRun_10 :
    (Instr.delayResp 1 (fromHead Side.north 6 1 0 3 ([18, 4, 0, 0] ++ leBytes 4 30000)) 31500).wf = true ∧ (measuring.found 1).receives
      (fromHead Side.north 6 1 0 3 ([18, 4, 0, 0] ++ leBytes 4 30000)).side = true ∧ frameEnd (measuring.found 1) (fromHead Side.north 6 1
      0 3 ([18, 4, 0, 0] ++ leBytes 4 30000)) = FrameEnd.consumed ∧ newerEpoch ((fromHead Side.north 6 1 0 3 ([18, 4, 0, 0] ++ leBytes 4
      30000)).bytes.getD 1 0) (measuring.found 1).epoch = false ∧ (fromHead Side.north 6 1 0 3 ([18, 4, 0, 0] ++ leBytes 4 30000)).ended =
      true ∧ frameChecks (fromHead Side.north 6 1 0 3 ([18, 4, 0, 0] ++ leBytes 4 30000)).bytes = true ∧ (framePayload (fromHead
      Side.north 6 1 0 3 ([18, 4, 0, 0] ++ leBytes 4 30000)).bytes).getD 0 0 = 18 ∧ ((measuring.found 1).ringPort (fromHead Side.north 6 1
      0 3 ([18, 4, 0, 0] ++ leBytes 4 30000)).side).waitId = some ((framePayload (fromHead Side.north 6 1 0 3 ([18, 4, 0, 0] ++ leBytes 4
      30000)).bytes).getD 1 0) ∧ 20000 < leAt (framePayload (fromHead Side.north 6 1 0 3 ([18, 4, 0, 0] ++ leBytes 4 30000)).bytes) 4 4 := by decide +kernel

theorem witness_LinksRun_11 :
    ((measuring.found 1).ringPort Side.north).waitId.isSome = true := by decide +kernel

theorem witness_RingPacketFramesRun_1_1 :
    (Instr.commandFrame 1 (fromHead Side.north 0 3 2 7 pingPacket) true).wf = true ∧ GoodFrame (atNode.found 1) (fromHead Side.north 0 3
      2 7 pingPacket) 0 ∧ (fromHead Side.north 0 3 2 7 pingPacket).bytes.getD 4 0 % 64 = (atNode.found 1).address ∧ framePayload (fromHead
      Side.north 0 3 2 7 pingPacket).bytes = [7, 9, 2, 0, 0, 0, 0, 0] ∧ bit 2 6 = false ∧ HeardRing (atNode.found 1) (Ctx.mk (Source.ring
      (frameSrc (fromHead Side.north 0 3 2 7 pingPacket).bytes) (frameFlags (fromHead Side.north 0 3 2 7 pingPacket).bytes % 8)) 9 (2 %
      64) true) (frameSrc (fromHead Side.north 0 3 2 7 pingPacket).bytes) (frameFlags (fromHead Side.north 0 3 2 7 pingPacket).bytes % 8)
      7 0 0 ∧ (atNode.found 1).hasSeen (frameSrc (fromHead Side.north 0 3 2 7 pingPacket).bytes) 0 ((fromHead Side.north 0 3 2 7
      pingPacket).bytes.getD 5 0) = false := by
  and_intros <;> first | decide +kernel | exact goodFrameOf (by decide +kernel) | exact heardRingOf (by decide +kernel)

def at_RingPacketFramesRun_1_2 : State :=
  { atNode with ring := { atNode.ring with seen := [⟨1, 0, 7, 0⟩] } }

theorem witness_RingPacketFramesRun_1_2 :
    (Instr.commandFrame 1 (fromHead Side.north 0 3 2 7 pingPacket) true).wf = true ∧ GoodFrame (at_RingPacketFramesRun_1_2.found 1)
      (fromHead Side.north 0 3 2 7 pingPacket) 0 ∧ (fromHead Side.north 0 3 2 7 pingPacket).bytes.getD 4 0 % 64 =
      (at_RingPacketFramesRun_1_2.found 1).address ∧ framePayload (fromHead Side.north 0 3 2 7 pingPacket).bytes = [7, 9, 2, 0, 0, 0, 0,
      0] ∧ bit 2 6 = false ∧ HeardRing (at_RingPacketFramesRun_1_2.found 1) (Ctx.mk (Source.ring (frameSrc (fromHead Side.north 0 3 2 7
      pingPacket).bytes) (frameFlags (fromHead Side.north 0 3 2 7 pingPacket).bytes % 8)) 9 (2 % 64) true) (frameSrc (fromHead Side.north
      0 3 2 7 pingPacket).bytes) (frameFlags (fromHead Side.north 0 3 2 7 pingPacket).bytes % 8) 7 0 0 ∧ (at_RingPacketFramesRun_1_2.found
      1).hasSeen (frameSrc (fromHead Side.north 0 3 2 7 pingPacket).bytes) 0 ((fromHead Side.north 0 3 2 7 pingPacket).bytes.getD 5 0) =
      true := by
  and_intros <;> first | decide +kernel | exact goodFrameOf (by decide +kernel) | exact heardRingOf (by decide +kernel)

theorem witness_RingPacketFramesRun_2 :
    (Instr.responseFrame 1 (fromNode Side.north 1 3 1 7 [135, 9, 2, 0, 0, 0, 0, 0])).wf = true ∧ GoodFrame (headAsks.found 1) (fromNode
      Side.north 1 3 1 7 [135, 9, 2, 0, 0, 0, 0, 0]) 1 ∧ (fromNode Side.north 1 3 1 7 [135, 9, 2, 0, 0, 0, 0, 0]).bytes.getD 4 0 % 64 =
      (headAsks.found 1).address ∧ (headAsks.found 1).hasSeen (frameSrc (fromNode Side.north 1 3 1 7 [135, 9, 2, 0, 0, 0, 0, 0]).bytes) 1
      ((fromNode Side.north 1 3 1 7 [135, 9, 2, 0, 0, 0, 0, 0]).bytes.getD 5 0) = false ∧ (headAsks.found 1).portUp = true ∧ bit
      ((framePayload (fromNode Side.north 1 3 1 7 [135, 9, 2, 0, 0, 0, 0, 0]).bytes).getD 2 0) 6 = false ∧ List.find? (fun x => x.session
      == frameFlags (fromNode Side.north 1 3 1 7 [135, 9, 2, 0, 0, 0, 0, 0]).bytes % 8 && x.tag == (framePayload (fromNode Side.north 1 3
      1 7 [135, 9, 2, 0, 0, 0, 0, 0]).bytes).getD 1 0 && x.addr % 64 == frameSrc (fromNode Side.north 1 3 1 7 [135, 9, 2, 0, 0, 0, 0,
      0]).bytes) (headAsks.found 1).ring.cmds = some aRingCmd := by
  and_intros <;> first | decide +kernel | exact goodFrameOf (by decide +kernel)

set_option maxRecDepth 100000 in
theorem witness_RingPacketFramesRun_3 :
    (Instr.bulkFrame 1 (fromNode Side.north 5 1 1 7 ([4, 0, 0, 0] ++ List.replicate 200 1)) true).wf = true ∧ GoodFrame (headAsks.found
      1) (fromNode Side.north 5 1 1 7 ([4, 0, 0, 0] ++ List.replicate 200 1)) 5 ∧ forUs (headAsks.found 1) (fromNode Side.north 5 1 1 7
      ([4, 0, 0, 0] ++ List.replicate 200 1)).bytes = true ∧ 5 ≤ (framePayload (fromNode Side.north 5 1 1 7 ([4, 0, 0, 0] ++
      List.replicate 200 1)).bytes).length ∧ (headAsks.found 1).hasSeen (frameSrc (fromNode Side.north 5 1 1 7 ([4, 0, 0, 0] ++
      List.replicate 200 1)).bytes) 5 ((fromNode Side.north 5 1 1 7 ([4, 0, 0, 0] ++ List.replicate 200 1)).bytes.getD 5 0) = false ∧ bit
      ((framePayload (fromNode Side.north 5 1 1 7 ([4, 0, 0, 0] ++ List.replicate 200 1)).bytes).getD 2 0) 0 = false ∧ List.find? (fun b
      => decide (b.src = frameSrc (fromNode Side.north 5 1 1 7 ([4, 0, 0, 0] ++ List.replicate 200 1)).bytes) && decide (b.xid =
      (framePayload (fromNode Side.north 5 1 1 7 ([4, 0, 0, 0] ++ List.replicate 200 1)).bytes).getD 0 0)) (headAsks.found 1).ring.bulk =
      none := by
  and_intros <;> first | decide +kernel | exact goodFrameOf (by decide +kernel)

def at_RingPacketFramesRun_4 : State :=
  { headAsks with ring := { headAsks.ring with bulk := [aBulk] } }

set_option maxRecDepth 100000 in
theorem witness_RingPacketFramesRun_4 :
    (Instr.bulkFrame 1 (fromNode Side.north 5 7 1 8 ([4, 1, 1, 0] ++ [5])) true).wf = true ∧ GoodFrame (at_RingPacketFramesRun_4.found
      1) (fromNode Side.north 5 7 1 8 ([4, 1, 1, 0] ++ [5])) 5 ∧ forUs (at_RingPacketFramesRun_4.found 1) (fromNode Side.north 5 7 1 8
      ([4, 1, 1, 0] ++ [5])).bytes = true ∧ 5 ≤ (framePayload (fromNode Side.north 5 7 1 8 ([4, 1, 1, 0] ++ [5])).bytes).length ∧
      (at_RingPacketFramesRun_4.found 1).hasSeen (frameSrc (fromNode Side.north 5 7 1 8 ([4, 1, 1, 0] ++ [5])).bytes) 5 ((fromNode
      Side.north 5 7 1 8 ([4, 1, 1, 0] ++ [5])).bytes.getD 5 0) = false ∧ bit ((framePayload (fromNode Side.north 5 7 1 8 ([4, 1, 1, 0] ++
      [5])).bytes).getD 2 0) 0 = true ∧ (framePayload (fromNode Side.north 5 7 1 8 ([4, 1, 1, 0] ++ [5])).bytes).getD 1 0 = 1 ∧
      aBulk.frags = [(0, [135, 9, 2, 0, 0, 0, 0, 0])] ∧ aBulk.last = none ∧ aBulk.response = true ∧ bit (([135, 9, 2, 0, 0, 0, 0, 0] ++
      List.drop 4 (framePayload (fromNode Side.north 5 7 1 8 ([4, 1, 1, 0] ++ [5])).bytes)).getD 2 0) 6 = false ∧ List.find? (fun x =>
      decide (x.src = frameSrc (fromNode Side.north 5 7 1 8 ([4, 1, 1, 0] ++ [5])).bytes) && decide (x.xid = (framePayload (fromNode
      Side.north 5 7 1 8 ([4, 1, 1, 0] ++ [5])).bytes).getD 0 0)) (at_RingPacketFramesRun_4.found 1).ring.bulk = some aBulk ∧ List.find?
      (fun x => x.session == aBulk.session && x.tag == ([135, 9, 2, 0, 0, 0, 0, 0] ++ List.drop 4 (framePayload (fromNode Side.north 5 7 1
      8 ([4, 1, 1, 0] ++ [5])).bytes)).getD 1 0 && x.addr % 64 == frameSrc (fromNode Side.north 5 7 1 8 ([4, 1, 1, 0] ++ [5])).bytes)
      (at_RingPacketFramesRun_4.found 1).ring.cmds = some aRingCmd ∧ (at_RingPacketFramesRun_4.found 1).portUp = true := by
  and_intros <;> first | decide +kernel | exact goodFrameOf (by decide +kernel)

theorem witness_RingPacketFramesRun_5 :
    (Instr.bulkReassemblyTimeout 1 2).wf = true := by decide +kernel

theorem witness_RingPacketFramesRun_6 :
    (Instr.ringCommandTimeout 1 0 9).wf = true ∧ (headAsks.found 1).portUp = true ∧ List.find? (fun x => x.client == (headAsks.found
      1).client 0 && x.tag == 9) (headAsks.found 1).ring.cmds = some aRingCmd := by decide +kernel

set_option maxRecDepth 100000 in
theorem witness_RingDataFramesRun_1 :
    (Instr.resultFrame 1 (shortFrame Side.north 2 0 (setBody 1))).wf = true ∧ GoodFrame (atNode.found 1) (shortFrame Side.north 2 0
      (setBody 1)) 2 ∧ (shortFrame Side.north 2 0 (setBody 1)).side = Side.north ∧ (atNode.found 1).isHead = false ∧ PassesOn
      (atNode.found 1) := by
  and_intros <;> first | decide +kernel | exact goodFrameOf (by decide +kernel)

set_option maxRecDepth 100000 in
theorem witness_RingDataFramesRun_2_1 :
    (Instr.resultFrame 1 (shortFrame Side.north 2 8 (setBody 2))).wf = true ∧ GoodFrame (atHead.found 1) (shortFrame Side.north 2 8
      (setBody 2)) 2 ∧ (atHead.found 1).isHead = true ∧ bit (frameFlags (shortFrame Side.north 2 8 (setBody 2)).bytes) 3 = true ∧
      (atHead.found 1).portUp = true ∧ countKind OutKind.isResult (atHead.found 1).port.outQ < 8 ∧ List.take 12 (List.drop 4 (shortFrame
      Side.north 2 8 (setBody 2)).bytes) ∉ (atHead.found 1).ring.delivered := by
  and_intros <;> first | decide +kernel | exact goodFrameOf (by decide +kernel)

def at_RingDataFramesRun_2_2 : State :=
  { atHead with ring := { atHead.ring with delivered := [(setBody 2).take 12] } }

set_option maxRecDepth 100000 in
theorem witness_RingDataFramesRun_2_2 :
    (Instr.resultFrame 1 (shortFrame Side.north 2 8 (setBody 2))).wf = true ∧ GoodFrame (at_RingDataFramesRun_2_2.found 1) (shortFrame
      Side.north 2 8 (setBody 2)) 2 ∧ (at_RingDataFramesRun_2_2.found 1).isHead = true ∧ bit (frameFlags (shortFrame Side.north 2 8
      (setBody 2)).bytes) 3 = true ∧ (at_RingDataFramesRun_2_2.found 1).portUp = true ∧ countKind OutKind.isResult
      (at_RingDataFramesRun_2_2.found 1).port.outQ < 8 ∧ List.take 12 (List.drop 4 (shortFrame Side.north 2 8 (setBody 2)).bytes) ∈
      (at_RingDataFramesRun_2_2.found 1).ring.delivered := by
  and_intros <;> first | decide +kernel | exact goodFrameOf (by decide +kernel)

theorem witness_RingDataFramesRun_3 :
    (Instr.safetyFrame 1 (shortFrame Side.north 4 0 (safetyBody 2 2048))).wf = true ∧ GoodFrame (atHead.found 1) (shortFrame Side.north
      4 0 (safetyBody 2 2048)) 4 :=
  ⟨by decide +kernel, goodFrameOf (by decide +kernel)⟩

theorem witness_RingDataFramesRun_4 :
    (Instr.eventFrame 1 (fromNode Side.north 8 0 63 7 ([3, 2, 5, 0] ++ leBytes 6 777 ++ [1, 0]))).wf = true ∧ GoodFrame (atHead.found 1)
      (fromNode Side.north 8 0 63 7 ([3, 2, 5, 0] ++ leBytes 6 777 ++ [1, 0])) 8 ∧ (atHead.found 1).isHead = true ∧ (atHead.found
      1).hasSeen (frameSrc (fromNode Side.north 8 0 63 7 ([3, 2, 5, 0] ++ leBytes 6 777 ++ [1, 0])).bytes) 8 ((fromNode Side.north 8 0 63
      7 ([3, 2, 5, 0] ++ leBytes 6 777 ++ [1, 0])).bytes.getD 5 0) = false ∧ (atHead.found 1).portUp = true ∧ bit ((atHead.found 1).get
      Obj.eventMask) ((framePayload (fromNode Side.north 8 0 63 7 ([3, 2, 5, 0] ++ leBytes 6 777 ++ [1, 0])).bytes).getD 0 0) = true ∧
      countKind OutKind.isEvent (atHead.found 1).port.outQ < 12 := by
  and_intros <;> first | decide +kernel | exact goodFrameOf (by decide +kernel)

theorem witness_RingDataFramesRun_5 :
    (Instr.legacyFrame 1 familyFrame).wf = true ∧ (atHead.found 1).receives Side.north = true ∧ familyFrame.side = Side.north ∧ frameEnd
      (atHead.found 1) familyFrame = FrameEnd.captured ∧ familyFrame.ended = true ∧ familyCheck familyFrame.bytes = true := by decide +kernel

theorem witness_RingDataFramesRun_6 :
    (Instr.legacyFrame 1 familyFrame).wf = true ∧ (atNode.found 1).receives Side.north = true ∧ familyFrame.side = Side.north ∧ frameEnd
      (atNode.found 1) familyFrame = FrameEnd.good ∧ frameType familyFrame.bytes = 9 ∧ (atNode.found 1).isHead = false ∧ PassesOn
      (atNode.found 1) := by
  and_intros <;> decide +kernel

def at_RingServiceRuns_1 : State :=
  { atNode with ring := { atNode.ring with txQ := [anAnswerFrame] } }

theorem witness_RingServiceRuns_1 :
    (Instr.frameTransmit 1 Side.south goodSet.bad (SetCrc.mk true true)).wf = true ∧ (at_RingServiceRuns_1.found 1).on Domain.rng = true
      ∧ (at_RingServiceRuns_1.found 1).serving Side.south = true ∧ nextFrame (at_RingServiceRuns_1.found 1) Side.south = some
      anAnswerFrame ∧ List.find? (setDue (at_RingServiceRuns_1.found 1) Side.south) (at_RingServiceRuns_1.found 1).ring.slots = none ∧
      anAnswerFrame.type ≠ 4 ∧ (at_RingServiceRuns_1.found 1).ring.eventsWait = 0 := by decide +kernel

def at_RingServiceRuns_2 : State :=
  { atNode.setField Obj.laneService 0 2 0 with ring := { atNode.ring with slots := [aSet] } }

theorem witness_RingServiceRuns_2 :
    (at_RingServiceRuns_2.found 1).on Domain.rng = true ∧ (at_RingServiceRuns_2.found 1).serving Side.south = true ∧ nextFrame
      (at_RingServiceRuns_2.found 1) Side.south = none ∧ List.find? (setDue (at_RingServiceRuns_2.found 1) Side.south)
      (at_RingServiceRuns_2.found 1).ring.slots = some aSet ∧ bits (at_RingServiceRuns_2.found 1).cells.badConv 1 26 = 0 ∧
      (at_RingServiceRuns_2.found 1).cells.tableBad = [] ∧ goodSet.bad = [] ∧ (SetCrc.mk true true).setOk = true := by decide +kernel

def at_RingServiceRuns_3 : State :=
  { atNode.setField Obj.laneService 0 2 0 with ring := { atNode.ring with slots := [aSet] } }

theorem witness_RingServiceRuns_3 :
    (at_RingServiceRuns_3.found 1).on Domain.rng = true ∧ (at_RingServiceRuns_3.found 1).serving Side.south = true ∧ nextFrame
      (at_RingServiceRuns_3.found 1) Side.south = none ∧ List.find? (setDue (at_RingServiceRuns_3.found 1) Side.south)
      (at_RingServiceRuns_3.found 1).ring.slots = some aSet ∧ bits (at_RingServiceRuns_3.found 1).cells.badConv 1 26 = 0 ∧
      (at_RingServiceRuns_3.found 1).cells.tableBad = [] ∧ goodSet.bad = [] ∧ (SetCrc.mk false true).setOk = false ∧ (SetCrc.mk false
      true).rereadOk = true := by decide +kernel

def at_RingServiceRuns_3b : State :=
  { atNode.setField Obj.laneService 0 2 0 with ring := { atNode.ring with slots := [aSet] } , cells := { atNode.cells with snapshots := [{ aSnapshot with a := 5000 }] } }

theorem witness_RingServiceRuns_3b :
    (at_RingServiceRuns_3b.found 1).on Domain.rng = true ∧ (at_RingServiceRuns_3b.found 1).serving Side.south = true ∧ nextFrame
      (at_RingServiceRuns_3b.found 1) Side.south = none ∧ List.find? (setDue (at_RingServiceRuns_3b.found 1) Side.south)
      (at_RingServiceRuns_3b.found 1).ring.slots = some aSet ∧ bits (at_RingServiceRuns_3b.found 1).cells.badConv 1 26 = 0 ∧
      (at_RingServiceRuns_3b.found 1).cells.tableBad = [] ∧ goodSet.bad = [] ∧ (SetCrc.mk false true).setOk = false ∧ (SetCrc.mk false
      true).rereadOk = true := by decide +kernel

def at_RingServiceRuns_4 : State :=
  { atNode.setField Obj.laneService 0 2 0 with ring := { atNode.ring with slots := [aSet] } }

theorem witness_RingServiceRuns_4 :
    (at_RingServiceRuns_4.found 1).on Domain.rng = true ∧ (at_RingServiceRuns_4.found 1).serving Side.south = true ∧ nextFrame
      (at_RingServiceRuns_4.found 1) Side.south = none ∧ List.find? (setDue (at_RingServiceRuns_4.found 1) Side.south)
      (at_RingServiceRuns_4.found 1).ring.slots = some aSet ∧ goodSet.bad = [] ∧ (SetCrc.mk false false).setOk = false ∧ (SetCrc.mk false
      false).rereadOk = false ∧ (at_RingServiceRuns_4.found 1).faultOn 8 = false ∧ (at_RingServiceRuns_4.found 1).get (faultObj
      Obj.faultSeverity 8) ≠ 3 := by decide +kernel

def at_RingServiceRuns_5 : State :=
  atNode.set Obj.ringCrcLimit 5

theorem witness_RingServiceRuns_5 :
    ∀ k ∈ [1, 2], (at_RingServiceRuns_5.found 1).get (Obj.rxCheckErrors + k) - (Option.map (fun x => x.2) (List.find? (fun p => decide
      (p.1 = k)) (at_RingServiceRuns_5.found 1).ring.rxBase)).getD 0 < (at_RingServiceRuns_5.found 1).get Obj.ringCrcLimit := by decide +kernel

def at_RingServiceRuns_6 : State :=
  atNode.setAll [(Obj.ringCrcLimit, 5), (Obj.rxCheckErrors + 1, 6)]

theorem witness_RingServiceRuns_6 :
    (at_RingServiceRuns_6.found 1).get Obj.ringCrcLimit ≤ (at_RingServiceRuns_6.found 1).get (Obj.rxCheckErrors + 1) - (Option.map (fun
      x => x.2) (List.find? (fun p => decide (p.1 = 1)) (at_RingServiceRuns_6.found 1).ring.rxBase)).getD 0 ∧ (at_RingServiceRuns_6.found
      1).faultOn 30 = false ∧ (at_RingServiceRuns_6.found 1).get (faultObj Obj.faultSeverity 30) ≠ 3 := by decide +kernel

theorem witness_RingServiceRuns_7 :
    nextFrame (atNode.found 1) Side.south = none ∧ List.find? (setDue (atNode.found 1) Side.south) (atNode.found 1).ring.slots = none := by decide +kernel

def at_RingServiceRuns_8 : State :=
  { atNode.set Obj.laneService 0 with ring := { atNode.ring with txQ := [anAnswerFrame] } }

theorem witness_RingServiceRuns_8 :
    (Instr.frameTransmit 1 Side.south goodSet.bad (SetCrc.mk true true)).wf = true ∧ (at_RingServiceRuns_8.found 1).on Domain.rng = true
      ∧ nextFrame (at_RingServiceRuns_8.found 1) Side.south = some anAnswerFrame ∧ List.find? (setDue (at_RingServiceRuns_8.found 1)
      Side.south) (at_RingServiceRuns_8.found 1).ring.slots = none ∧ anAnswerFrame.type ≠ 4 ∧ anAnswerFrame.type ≠ 6 ∧
      (at_RingServiceRuns_8.found 1).serving Side.south = false ∧ (at_RingServiceRuns_8.found 1).ring.eventsWait = 0 := by decide +kernel

def at_RingServiceRuns_9 : State :=
  { atNode.set Obj.laneService 0 with ring := { atNode.ring with slots := [aSet] } }

theorem witness_RingServiceRuns_9 :
    (Instr.frameTransmit 1 Side.south goodSet.bad (SetCrc.mk true true)).wf = true ∧ (at_RingServiceRuns_9.found 1).on Domain.rng = true
      ∧ (at_RingServiceRuns_9.found 1).serving Side.south = false ∧ nextFrame (at_RingServiceRuns_9.found 1) Side.south = none ∧
      List.find? (setDue (at_RingServiceRuns_9.found 1) Side.south) (at_RingServiceRuns_9.found 1).ring.slots = some aSet := by decide +kernel

def at_RingServiceRuns_10 : State :=
  { atNode with ring := { atNode.ring with txQ := [{ anAnswerFrame with type := 6, body := [1, 0, 0, 0] }] } }

theorem witness_RingServiceRuns_10 :
    (Instr.frameTransmit 1 Side.south goodSet.bad (SetCrc.mk true true)).wf = true ∧ (at_RingServiceRuns_10.found 1).on Domain.rng =
      true ∧ (at_RingServiceRuns_10.found 1).serving Side.south = true ∧ nextFrame (at_RingServiceRuns_10.found 1) Side.south = some (let
      __src := anAnswerFrame; TxFrame.mk 6 __src.flags __src.dst __src.seq [1, 0, 0, 0] __src.cw __src.ccw) ∧ typeRank (let __src :=
      anAnswerFrame; TxFrame.mk 6 __src.flags __src.dst __src.seq [1, 0, 0, 0] __src.cw __src.ccw).type ≤ 3 ∧ (let __src := anAnswerFrame;
      TxFrame.mk 6 __src.flags __src.dst __src.seq [1, 0, 0, 0] __src.cw __src.ccw).type ≠ 3 := by decide +kernel

def at_EnumerationRuns_1 : State :=
  withEnum (fun e => { e with due := some true }) atHead

theorem witness_EnumerationRuns_1 :
    (at_EnumerationRuns_1.found 1).on Domain.rng = true ∧ (at_EnumerationRuns_1.found 1).ring.enm.running = false ∧
      (at_EnumerationRuns_1.found 1).isHead = true ∧ (at_EnumerationRuns_1.found 1).ring.enm.due = some true := by decide +kernel

def at_EnumerationRuns_2 : State :=
  (linked (up 6)).setAll [(Obj.ringRoleConfig, 1), (Obj.ringRole, 1)]

theorem witness_EnumerationRuns_2 :
    (at_EnumerationRuns_2.found 1).on Domain.rng = true ∧ (at_EnumerationRuns_2.found 1).ring.enm.running = false ∧
      (at_EnumerationRuns_2.found 1).mayHead = true ∧ ((at_EnumerationRuns_2.found 1).linkState Side.north = 2 ∨
      (at_EnumerationRuns_2.found 1).linkState Side.south = 2) := by decide +kernel

def at_EnumerationRuns_3 : State :=
  linked (up 6)

theorem witness_EnumerationRuns_3 :
    (Instr.discover 1 (fromHead Side.north 6 0 63 7 [1, 0, 0, 0])).wf = true ∧ (at_EnumerationRuns_3.found 1).receives Side.north = true
      ∧ (fromHead Side.north 6 0 63 7 [1, 0, 0, 0]).side = Side.north ∧ frameEnd (at_EnumerationRuns_3.found 1) (fromHead Side.north 6 0
      63 7 [1, 0, 0, 0]) = FrameEnd.good ∧ frameType (fromHead Side.north 6 0 63 7 [1, 0, 0, 0]).bytes = 6 ∧ (framePayload (fromHead
      Side.north 6 0 63 7 [1, 0, 0, 0]).bytes).getD 0 0 = 1 ∧ (at_EnumerationRuns_3.found 1).address = 0 ∧ (at_EnumerationRuns_3.found
      1).isHead = false ∧ (at_EnumerationRuns_3.found 1).get Obj.ringRoleConfig ≠ 1 ∧ (at_EnumerationRuns_3.found 1).hasSeen (frameSrc
      (fromHead Side.north 6 0 63 7 [1, 0, 0, 0]).bytes) 6 ((fromHead Side.north 6 0 63 7 [1, 0, 0, 0]).bytes.getD 5 0) = false := by decide +kernel

def at_EnumerationRuns_4 : State :=
  withEnum (fun e => { e with discCcw := some 3 }) (linked (up 6))

theorem witness_EnumerationRuns_4 :
    (at_EnumerationRuns_4.found 1).ring.enm.discCw = none ∧ (at_EnumerationRuns_4.found 1).ring.enm.discCcw.isSome = true ∧
      (at_EnumerationRuns_4.found 1).ring.enm.reported = false ∧ (at_EnumerationRuns_4.found 1).address = 0 := by decide +kernel

def at_EnumerationRuns_5 : State :=
  withEnum (fun e => { e with running := true }) atHead

theorem witness_EnumerationRuns_5 :
    (Instr.enumReport 1 (fromNode Side.north 6 0 1 7 reportBody)).wf = true ∧ GoodFrame (at_EnumerationRuns_5.found 1) (fromNode
      Side.north 6 0 1 7 reportBody) 6 ∧ (at_EnumerationRuns_5.found 1).isHead = true ∧ (at_EnumerationRuns_5.found 1).ring.enm.running =
      true ∧ (framePayload (fromNode Side.north 6 0 1 7 reportBody).bytes).getD 0 0 = 2 := by
  and_intros <;> first | decide +kernel | exact goodFrameOf (by decide +kernel)

def at_EnumerationRuns_6 : State :=
  (withEnum (fun e => { e with running := true, reports := [⟨2, 3, 1, 0x1234⟩, ⟨2, 3, 1, 0x1235⟩], cwBack := some 1, ccwBack := some 1 }) atHead).set Obj.enumExpected 3

theorem witness_EnumerationRuns_6 :
    (at_EnumerationRuns_6.found 1).isHead = true ∧ (at_EnumerationRuns_6.found 1).ring.enm.running = true ∧ collectionResult
      (at_EnumerationRuns_6.found 1) ≠ 1 := by decide +kernel

def at_EnumerationRuns_7 : State :=
  withEnum (fun e => { e with running := true, reports := [⟨2, 3, 1, 0x1234⟩] }) atHead

theorem witness_EnumerationRuns_7 :
    (at_EnumerationRuns_7.found 1).isHead = true ∧ (at_EnumerationRuns_7.found 1).ring.enm.running = true ∧ collectionResult
      (at_EnumerationRuns_7.found 1) = 1 ∧ Calm (at_EnumerationRuns_7.found 1) := by
  and_intros <;> decide +kernel

def at_EnumerationRuns_8 : State :=
  withEnum (fun e => { e with discCw := some 1, expected := 2 }) (linked (up 6))

theorem witness_EnumerationRuns_8 :
    (Instr.enumConfirm 1 (fromHead Side.north 6 0 63 7 confirmBody)).wf = true ∧ (at_EnumerationRuns_8.found 1).receives (fromHead
      Side.north 6 0 63 7 confirmBody).side = true ∧ frameEnd (at_EnumerationRuns_8.found 1) (fromHead Side.north 6 0 63 7 confirmBody) =
      FrameEnd.good ∧ frameType (fromHead Side.north 6 0 63 7 confirmBody).bytes = 6 ∧ (framePayload (fromHead Side.north 6 0 63 7
      confirmBody).bytes).getD 0 0 = 3 ∧ (at_EnumerationRuns_8.found 1).address = 0 ∧ (at_EnumerationRuns_8.found 1).isHead = false ∧
      (at_EnumerationRuns_8.found 1).get Obj.ringRoleConfig ≠ 1 ∧ takenAddress (at_EnumerationRuns_8.found 1) ≠ 0 ∧ bit (leAt
      (framePayload (fromHead Side.north 6 0 63 7 confirmBody).bytes) 8 8) (takenAddress (at_EnumerationRuns_8.found 1)) = true ∧
      (at_EnumerationRuns_8.found 1).hasSeen (frameSrc (fromHead Side.north 6 0 63 7 confirmBody).bytes) 6 ((fromHead Side.north 6 0 63 7
      confirmBody).bytes.getD 5 0) = false ∧ (at_EnumerationRuns_8.found 1).get (faultObj Obj.faultSeverity 43) ≠ 3 := by decide +kernel

theorem witness_EnumerationRuns_10 :
    (Instr.genSwitch 1 (fromHead Side.north 6 0 63 7 [4, 3, 0, 0])).wf = true ∧ GoodFrame (atNode.found 1) (fromHead Side.north 6 0 63 7
      [4, 3, 0, 0]) 6 ∧ (framePayload (fromHead Side.north 6 0 63 7 [4, 3, 0, 0]).bytes).getD 0 0 = 4 ∧ 1 ≤ (framePayload (fromHead
      Side.north 6 0 63 7 [4, 3, 0, 0]).bytes).getD 1 0 ∧ (framePayload (fromHead Side.north 6 0 63 7 [4, 3, 0, 0]).bytes).getD 1 0 ≤ 3 := by
  and_intros <;> first | decide +kernel | exact goodFrameOf (by decide +kernel)

def at_EnumerationRuns_11 : State :=
  withEnum (fun e => { e with switchTo := some 3 }) atNode

theorem witness_EnumerationRuns_11 :
    (at_EnumerationRuns_11.found 1).ring.enm.switchTo = some 3 ∧ Calm (at_EnumerationRuns_11.found 1) :=
  ⟨by decide +kernel, ⟨by decide +kernel, by decide +kernel⟩⟩

def at_EnumerationRuns_12 : State :=
  withEnum (fun e => { e with unconfirmed := true }) atNode

theorem witness_EnumerationRuns_12 :
    (at_EnumerationRuns_12.found 1).ring.enm.unconfirmed = true ∧ Calm (at_EnumerationRuns_12.found 1) :=
  ⟨by decide +kernel, ⟨by decide +kernel, by decide +kernel⟩⟩

def at_EnumerationRuns_13 : State :=
  atNode.set Obj.ringRole 4

theorem witness_EnumerationRuns_13 :
    (at_EnumerationRuns_13.found 1).on Domain.rng = true ∧ (at_EnumerationRuns_13.found 1).isDeputy = true := by decide +kernel

theorem witness_SafetyInputsRun_1 :
    ((running 6).found 1).on Domain.rng = true ∧ Calm ((running 6).found 1) :=
  ⟨by decide +kernel, ⟨by decide +kernel, by decide +kernel⟩⟩

theorem witness_SafetyInputsRun_2 :
    ((running 6).found 1).on Domain.rng = true ∧ srqChannels ((running 6).found 1).srqMode true true = (false, false) := by decide +kernel

theorem witness_SafetyInputsRun_3 :
    (permitted.found 1).supPermit = true ∧ (permitted.found 1).mirPermit = true ∧ (permitted.found 1).safe.cenOn = false := by decide +kernel

theorem witness_SafetyInputsRun_4 :
    ((running 6).found 1).safe.cenOn = false ∧ ((running 6).found 1).on Domain.rng = true := by decide +kernel

def at_SafetyInputsRun_5 : State :=
  { running 6 with safe := { (running 6).safe with staticH := 1 } }

theorem witness_SafetyInputsRun_5 :
    (at_SafetyInputsRun_5.found 1).safe.cenOn = false ∧ (at_SafetyInputsRun_5.found 1).on Domain.rng = true ∧
      (at_SafetyInputsRun_5.found 1).safe.staticH = 1 ∧ (at_SafetyInputsRun_5.found 1).faultOn 35 = false ∧ (at_SafetyInputsRun_5.found
      1).get (faultObj Obj.faultSeverity 35) ≠ 3 := by decide +kernel

theorem witness_SafetyInputsRun_6 :
    (cenClosed.found 1).supPermit = true ∧ (cenClosed.found 1).mirPermit = true ∧ (cenClosed.found 1).safe.cenOn = true ∧
      (cenClosed.found 1).safe.testing = none ∧ (cenClosed.found 1).safe.cenSince + 10 * ms ≤ (cenClosed.found 1).clk := by decide +kernel

theorem witness_SafetyInputsRun_7 :
    (cenTesting.found 1).safe.testing = some true := by decide +kernel

theorem witness_SafetyInputsRun_8 :
    (cenTesting.found 1).safe.testing = some true ∧ (cenTesting.found 1).faultOn 35 = false ∧ (cenTesting.found 1).get (faultObj
      Obj.faultSeverity 35) ≠ 3 := by decide +kernel

theorem witness_SafetyInputsRun_9 :
    bits ((cenClosed.found 1).get Obj.cenConfig) 0 2 = 0 ∨ ((bits ((cenClosed.found 1).get Obj.cenConfig) 0 2 == 1) == true) =
      (cenClosed.found 1).safe.cenOn := by decide +kernel

def at_SafetyInputsRun_10 : State :=
  cenClosed.set Obj.cenConfig 1

theorem witness_SafetyInputsRun_10 :
    bits ((at_SafetyInputsRun_10.found 1).get Obj.cenConfig) 0 2 ≠ 0 ∧ ((bits ((at_SafetyInputsRun_10.found 1).get Obj.cenConfig) 0 2 ==
      1) == false) ≠ (at_SafetyInputsRun_10.found 1).safe.cenOn ∧ (at_SafetyInputsRun_10.found 1).faultOn 35 = false ∧
      (at_SafetyInputsRun_10.found 1).get (faultObj Obj.faultSeverity 35) ≠ 3 := by decide +kernel

theorem witness_MirrorEventsRun_1 :
    (Instr.mirrorTrip 1 3 (TripRun.mk true [(MirrorSample.beyond, 20000)])).wf = true ∧ Calm (cenClosed.found 1) ∧ (cenClosed.found
      1).on Domain.mir = true ∧ 3 ≤ (cenClosed.found 1).safe.cells ∧ (mirrorCount (cenClosed.found 1).mirrorLimit [(MirrorSample.beyond,
      20000)] ((cenClosed.found 1).mirrorInt 3 true)).2 = true := by
  and_intros <;> decide +kernel

theorem witness_MirrorEventsRun_2 :
    (Instr.mirrorTrip 1 3 (TripRun.mk true [(MirrorSample.beyond, 10), (MirrorSample.inside, 3), (MirrorSample.between, 7)])).wf = true
      ∧ (cenClosed.found 1).on Domain.mir = true ∧ 3 ≤ (cenClosed.found 1).safe.cells ∧ 3 ≤ (if true = true then (cenClosed.found
      1).safe.ovCount else (cenClosed.found 1).safe.uvCount).length ∧ (mirrorCount (cenClosed.found 1).mirrorLimit [(MirrorSample.beyond,
      10), (MirrorSample.inside, 3), (MirrorSample.between, 7)] ((cenClosed.found 1).mirrorInt 3 true)).2 = false := by decide +kernel

theorem witness_MirrorEventsRun_3 :
    (Instr.mirrorSelfFault 1 3).wf = true ∧ Calm (cenClosed.found 1) ∧ (cenClosed.found 1).on Domain.mir = true := by
  and_intros <;> decide +kernel

theorem witness_MirrorEventsRun_4 :
    ((running 6).found 1).on Domain.mir = true := by decide +kernel

theorem witness_StartsRun_1 :
    (Instr.supervisorReady 1 (StartFinds.mk goodMemory [])).wf = true ∧ ((withMargins booted).found 1).get Obj.supervisorState = 1 ∧
      ((withMargins booted).found 1).on Domain.sup = true ∧ ((withMargins booted).found 1).mode.noImage = false ∧ (∀ x ∈ goodMemory,
      x.words = []) ∧ (∀ x ∈ ([] : List CalRead), x.copy0 = true) ∧ (∀ ok ∈ ((withMargins booted).found 1).nvm.cal0.tables, ok = true) ∧
      ((withMargins booted).found 1).get Obj.retiredMask = 0 ∧ ((withMargins booted).found 1).get (faultObj Obj.faultSeverity 40) ≠ 3 ∧
      ((withMargins booted).found 1).get (faultObj Obj.faultSeverity 43) ≠ 3 := by decide +kernel

def at_StartsRun_2 : State :=
  State.reset

theorem witness_StartsRun_2 :
    (Instr.powerOnReset 1 (StrapPins.mk 1 1) true true false).wf = true ∧ GoodFirmware (at_StartsRun_2.found 1) :=
  ⟨by decide +kernel, goodFirmwareOf (by decide +kernel)⟩

def at_StartsRun_3 : State :=
  State.reset.setAll [(Obj.supervisorState, 0)]

theorem witness_StartsRun_3 :
    (at_StartsRun_3.found 1).supReady = true ∧ (at_StartsRun_3.found 1).modeCode = 0 ∧ Calm (at_StartsRun_3.found 1) ∧
      (at_StartsRun_3.found 1).get (faultObj Obj.faultSeverity 43) ≠ 3 := by
  and_intros <;> decide +kernel

def at_StartsRun_4 : State :=
  (running 0).setField Obj.modeStatus 24 8 5

theorem witness_StartsRun_4 :
    (at_StartsRun_4.found 1).supReady = true ∧ (at_StartsRun_4.found 1).modeCode = 0 ∧ Calm (at_StartsRun_4.found 1) ∧ bits
      ((at_StartsRun_4.found 1).get Obj.modeStatus) 24 8 = 5 ∧ (at_StartsRun_4.found 1).get (faultObj Obj.faultSeverity 43) ≠ 3 := by
  and_intros <;> decide +kernel

theorem witness_StartsRun_5 :
    (Instr.brownOut (BrownOut.mk 1 (NvmCut.mk 2 none))).wf = true ∧ Calm (cenClosed.found 1) :=
  ⟨by decide +kernel, ⟨by decide +kernel, by decide +kernel⟩⟩

theorem witness_StartsRun_5b :
    (Instr.brownOut (BrownOut.mk 1 (NvmCut.mk 1 (some (CutWrite.record 1088 1 77))))).wf = true ∧ Calm (cenClosed.found 1) :=
  ⟨by decide +kernel, ⟨by decide +kernel, by decide +kernel⟩⟩

theorem witness_StartsRun_6 :
    Calm (cenClosed.found 1) := ⟨by decide +kernel, by decide +kernel⟩

theorem witness_StartsRun_7 :
    (Instr.powerOnReset 1 (StrapPins.mk 1 1) true true false).wf = true := by decide +kernel

theorem witness_StartsRun_7b :
    (Instr.powerOnReset 1 (StrapPins.mk 4 9) false false true).wf = true := by decide +kernel

theorem witness_StartsRun_8 :
    (Instr.supervisorReady 1 (StartFinds.mk goodMemory [])).wf = true ∧ (booted.found 1).get Obj.supervisorState = 1 ∧ (booted.found
      1).on Domain.sup = true ∧ (booted.found 1).mode.noImage = false ∧ Calm (booted.found 1) := by
  and_intros <;> decide +kernel

theorem witness_StartsRun_8b :
    (Instr.supervisorReady 1 (StartFinds.mk (List.replicate 4 (MacroMeas.mk [(37, 3), (66, 1), (800, 2)] false)) [CalRead.mk false true,
      CalRead.mk true true])).wf = true ∧ (booted.found 1).get Obj.supervisorState = 1 ∧ (booted.found 1).on Domain.sup = true ∧
      (booted.found 1).mode.noImage = false ∧ Calm (booted.found 1) := by
  and_intros <;> decide +kernel

theorem witness_SupplyRuns_1 :
    (apertureOpen.found 1).faultOn 23 = false ∧ (apertureOpen.found 1).get (faultObj Obj.faultSeverity 23) ≠ 3 := by decide +kernel

def at_SupplyRuns_3 : State :=
  apertureOpen.set (faultObj Obj.faultSeverity 0x18) 2

theorem witness_SupplyRuns_3 :
    (at_SupplyRuns_3.found 1).faultOn 24 = false ∧ (at_SupplyRuns_3.found 1).get (faultObj Obj.faultSeverity 24) ≠ 3 := by decide +kernel

theorem witness_SupplyRuns_4 :
    (apertureOpen.found 1).faultOn 24 = false ∧ (apertureOpen.found 1).get (faultObj Obj.faultSeverity 24) = 3 ∧ Calm
      (apertureOpen.found 1) := by
  and_intros <;> decide +kernel

theorem witness_SupplyRuns_4b :
    ((inSession 8 2).found 1).faultOn 24 = false ∧ ((inSession 8 2).found 1).get (faultObj Obj.faultSeverity 24) = 3 ∧ Calm ((inSession
      8 2).found 1) := by
  and_intros <;> decide +kernel

theorem witness_SupplyRuns_7 :
    (apertureOpen.found 1).forwardRuns = false := by decide +kernel

def at_SupplyRuns_7b : State :=
  apertureOpen.setField Obj.powerPathStatus 0 2 2

theorem witness_SupplyRuns_7b :
    (at_SupplyRuns_7b.found 1).forwardRuns = false := by decide +kernel

def at_SupplyRuns_8 : State :=
  (handing true (up 6)).setField Obj.powerPathStatus 0 2 1

theorem witness_SupplyRuns_8 :
    (at_SupplyRuns_8.found 1).mode.handover = some (Handover.mk true 0 false) ∧ (Handover.mk true 0 false).toXbs = true ∧
      (at_SupplyRuns_8.found 1).forwardRuns = false := by decide +kernel

def at_SupplyRuns_8b : State :=
  { (handing true (up 6)).setField Obj.powerPathStatus 0 2 1 with clk := 200 }

theorem witness_SupplyRuns_8b :
    (at_SupplyRuns_8b.found 1).mode.handover = some (Handover.mk true 0 false) ∧ (Handover.mk true 0 false).toXbs = true ∧
      (at_SupplyRuns_8b.found 1).forwardRuns = false := by decide +kernel

theorem witness_SupplyRuns_9 :
    SessionRuns (forwardSession.found 1) 21 ∧ (forwardSession.found 1).forward = true ∧ (forwardSession.found 1).xbsValid = true :=
  ⟨sessionRunsOf (by decide +kernel), by decide +kernel, by decide +kernel⟩

theorem witness_SupplyRuns_10 :
    Calm ((xferIn 8 2).found 1) := ⟨by decide +kernel, by decide +kernel⟩

theorem witness_SupplyRuns_12 :
    (apertureOpen.found 1).faultOn 25 = false ∧ (apertureOpen.found 1).get (faultObj Obj.faultSeverity 25) ≠ 3 := by decide +kernel

def at_SupplyRuns_13 : State :=
  apertureOpen.set Obj.supplyStatus 0x7C

theorem witness_SupplyRuns_13 :
    (∀ (q : Rail), q ≠ Rail.vana → bit ((at_SupplyRuns_13.found 1).get Obj.supplyStatus) (railBit q) = true) ∧ bit
      (at_SupplyRuns_13.found 1).safe.selfFaults 5 = false :=
  ⟨by intro q; cases q <;> decide, by decide +kernel⟩

theorem witness_PinsRun_1 :
    (permitted.found 1).mode.nrstStuck = false ∧ ((permitted.found 1).mode.shutdown.isSome = true ∨ (permitted.found 1).modeIn [1, 2] =
      false) ∧ GoodFirmware (permitted.found 1) ∧ Calm (permitted.found 1) := by
  and_intros <;> first | decide +kernel | exact goodFirmwareOf (by decide +kernel)

def at_PinsRun_2 : State :=
  { up 6 with mode := { (up 6).mode with nrstStuck := true } }

theorem witness_PinsRun_2 :
    (at_PinsRun_2.found 1).mode.nrstStuck = true := by decide +kernel

def at_PinsRun_3_1 : State :=
  (up 2).set Obj.wakeEnable 8

theorem witness_PinsRun_3_1 :
    (at_PinsRun_3_1.found 1).mode.nrstStuck = false ∧ (at_PinsRun_3_1.found 1).mode.shutdown = none ∧ (at_PinsRun_3_1.found 1).modeCode
      = 2 ∧ bit ((at_PinsRun_3_1.found 1).get Obj.wakeEnable) 3 = true ∧ GoodFirmware (at_PinsRun_3_1.found 1) ∧ Calm
      (at_PinsRun_3_1.found 1) := by
  and_intros <;> first | decide +kernel | exact goodFirmwareOf (by decide +kernel)

def at_PinsRun_3_2 : State :=
  (up 2).set Obj.wakeEnable 0

theorem witness_PinsRun_3_2 :
    (at_PinsRun_3_2.found 1).mode.nrstStuck = false ∧ (at_PinsRun_3_2.found 1).mode.shutdown = none ∧ (at_PinsRun_3_2.found 1).modeCode
      = 2 ∧ bit ((at_PinsRun_3_2.found 1).get Obj.wakeEnable) 3 = false := by decide +kernel

theorem witness_PinsRun_4 :
    ((up 1).found 1).mode.nrstStuck = false ∧ ((up 1).found 1).mode.shutdown = none ∧ ((up 1).found 1).modeCode = 1 := by decide +kernel

def at_PinsRun_5 : State :=
  { up 0 with mode := { (up 0).mode with resetting := true, nrstLow := true } }

theorem witness_PinsRun_5 :
    (at_PinsRun_5.found 1).mode.resetting = true := by decide +kernel

def at_PinsRun_6 : State :=
  { up 0 with mode := { (up 0).mode with resetting := true, nrstLow := true } }

theorem witness_PinsRun_6 :
    (at_PinsRun_6.found 1).mode.nrstLow = true ∧ (at_PinsRun_6.found 1).mode.nrstStuck = false ∧ (at_PinsRun_6.found 1).faultOn 44 =
      false ∧ (at_PinsRun_6.found 1).get (faultObj Obj.faultSeverity 44) ≠ 3 := by decide +kernel

def at_PinsRun_8_1 : State :=
  (up 2).set Obj.wakeEnable 4

theorem witness_PinsRun_8_1 :
    (at_PinsRun_8_1.found 1).mode.shutdown = none ∧ (at_PinsRun_8_1.found 1).modeCode = 2 ∧ bit ((at_PinsRun_8_1.found 1).get
      Obj.wakeEnable) 2 = true ∧ GoodFirmware (at_PinsRun_8_1.found 1) ∧ Calm (at_PinsRun_8_1.found 1) := by
  and_intros <;> first | decide +kernel | exact goodFirmwareOf (by decide +kernel)

def at_PinsRun_8_2 : State :=
  (up 2).set Obj.wakeEnable 0

theorem witness_PinsRun_8_2 :
    (at_PinsRun_8_2.found 1).mode.shutdown = none ∧ (at_PinsRun_8_2.found 1).modeCode = 2 ∧ bit ((at_PinsRun_8_2.found 1).get
      Obj.wakeEnable) 2 = false := by decide +kernel

theorem witness_PinsRun_9 :
    ((up 1).found 1).mode.shutdown = none ∧ ((up 1).found 1).modeCode = 1 := by decide +kernel

theorem witness_PinsRun_10 :
    ((up 1).found 1).mode.shutdown = none ∧ ((up 1).found 1).modeCode = 1 ∧ ((up 1).found 1).on Domain.rng = false ∧ ((up 1).found
      1).toneGuard = false := by decide +kernel

def at_PinsRun_11_1 : State :=
  (up 2).set Obj.wakeEnable 1

theorem witness_PinsRun_11_1 :
    (at_PinsRun_11_1.found 1).mode.shutdown = none ∧ (at_PinsRun_11_1.found 1).modeCode = 2 ∧ (at_PinsRun_11_1.found 1).on Domain.rng =
      false ∧ (at_PinsRun_11_1.found 1).toneGuard = false ∧ bit ((at_PinsRun_11_1.found 1).get Obj.wakeEnable)
      (match Side.north with | .north => 0 | .south => 1) = true ∧ GoodFirmware (at_PinsRun_11_1.found 1) ∧ Calm (at_PinsRun_11_1.found 1) := by
  and_intros <;> first | decide +kernel | exact goodFirmwareOf (by decide +kernel)

def at_PinsRun_11_1b : State :=
  (up 2).set Obj.wakeEnable 2

theorem witness_PinsRun_11_1b :
    (at_PinsRun_11_1b.found 1).mode.shutdown = none ∧ (at_PinsRun_11_1b.found 1).modeCode = 2 ∧ (at_PinsRun_11_1b.found 1).on Domain.rng
      = false ∧ (at_PinsRun_11_1b.found 1).toneGuard = false ∧ bit ((at_PinsRun_11_1b.found 1).get Obj.wakeEnable)
      (match Side.south with | .north => 0 | .south => 1) = true ∧ GoodFirmware (at_PinsRun_11_1b.found 1) ∧ Calm (at_PinsRun_11_1b.found
      1) := by
  and_intros <;> first | decide +kernel | exact goodFirmwareOf (by decide +kernel)

def at_PinsRun_11_2 : State :=
  (up 2).set Obj.wakeEnable 2

theorem witness_PinsRun_11_2 :
    (at_PinsRun_11_2.found 1).mode.shutdown = none ∧ (at_PinsRun_11_2.found 1).modeCode = 2 ∧ (at_PinsRun_11_2.found 1).on Domain.rng =
      false ∧ (at_PinsRun_11_2.found 1).toneGuard = false ∧ bit ((at_PinsRun_11_2.found 1).get Obj.wakeEnable)
      (match Side.north with | .north => 0 | .south => 1) = false := by decide +kernel

def at_PinsRun_12 : State :=
  { up 2 with mode := { (up 2).mode with toneSentAt := some 0 } }

theorem witness_PinsRun_12 :
    (at_PinsRun_12.found 1).toneGuard = true ∨ (at_PinsRun_12.found 1).on Domain.rng = true ∧ (at_PinsRun_12.found 1).linkState
      Side.north = 2 := by decide +kernel

theorem witness_PinsRun_12b :
    (atNode.found 1).toneGuard = true ∨ (atNode.found 1).on Domain.rng = true ∧ (atNode.found 1).linkState Side.north = 2 := by decide +kernel

theorem witness_PinsRun_14 :
    (Instr.sleepCheck 1 (readings 0 0)).wf = true ∧ ((up 2).found 1).modeCode = 2 ∧ ((up 2).found 1).sleepCount = 0 := by decide +kernel

theorem witness_PinsRun_15 :
    (Instr.sleepCheck 1 (readings 1000000000 0)).wf = true ∧ (asleepAux.found 1).modeCode = 2 ∧ (asleepAux.found 1).sleepCount ≠ 0 ∧ (∀
      i < (asleepAux.found 1).sleepCount, (asleepAux.found 1).sleepCrossing i (sleepReading (readings 1000000000 0).first i) = false) := by decide +kernel

theorem witness_PinsRun_16 :
    (Instr.sleepCheck 1 (readings 0 1000000000)).wf = true ∧ (asleepAux.found 1).modeCode = 2 ∧ (asleepAux.found 1).sleepCount = 1 ∧
      (asleepAux.found 1).sleepCrossing 0 (sleepReading (readings 0 1000000000).first 0) = true ∧ (asleepAux.found 1).sleepCrossing 0
      (sleepReading (readings 0 1000000000).again 0) = false := by decide +kernel

theorem witness_PinsRun_17 :
    (Instr.sleepCheck 1 (readings 0 0)).wf = true ∧ (asleepAux.found 1).mode.shutdown = none ∧ (asleepAux.found 1).modeCode = 2 ∧
      (asleepAux.found 1).sleepCount ≠ 0 ∧ (asleepAux.found 1).sleepCrossing 0 (sleepReading (readings 0 0).first 0) = true ∧
      (asleepAux.found 1).sleepCrossing 0 (sleepReading (readings 0 0).again 0) = true ∧ bit ((asleepAux.found 1).get Obj.wakeEnable) 4 =
      true ∧ GoodFirmware (asleepAux.found 1) ∧ Calm (asleepAux.found 1) := by
  and_intros <;> first | decide +kernel | exact goodFirmwareOf (by decide +kernel)

theorem witness_BalanceTimeRuns_1 :
    (Instr.balancingFrameStart 1 aFrame).wf = true ∧ (balancing.found 1).on Domain.rng = true ∧ (balancing.found 1).xferState = 0 ∧
      (balancing.found 1).stageNow = false ∧ (balancing.found 1).loupe.point = none := by decide +kernel

theorem witness_BalanceTimeRuns_2 :
    (balancing.found 1).on Domain.rng = true ∧ (balancing.found 1).modeCode = 7 ∧ (balancing.found 1).faultOn 17 = false ∧
      (balancing.found 1).get (faultObj Obj.faultSeverity 17) ≠ 3 ∧ (balancing.found 1).mode.auto = none := by decide +kernel

theorem witness_BalanceTimeRuns_3 :
    (Instr.stuckOnDetected 1 5).wf = true ∧ (balancing.found 1).on Domain.bal = true ∧ (balancing.found 1).faultOn 16 = false ∧
      (balancing.found 1).get (faultObj Obj.faultSeverity 16) ≠ 3 := by decide +kernel

theorem witness_TransferStopsRun_1 :
    SessionRuns ((inSession 8 2).found 1) 18 ∧ ((inSession 8 2).found 1).on Domain.bal = true :=
  ⟨sessionRunsOf (by decide +kernel), by decide +kernel⟩

theorem witness_TransferStopsRun_2 :
    SessionRuns ((inSession 8 2).found 1) 19 ∧ ((inSession 8 2).found 1).xfer.start.isSome = true :=
  ⟨sessionRunsOf (by decide +kernel), by decide +kernel⟩

theorem witness_TransferStopsRun_3 :
    SessionRuns ((inSession 8 1).found 1) 20 ∧ ((inSession 8 1).found 1).xfer.thermalRun = true :=
  ⟨sessionRunsOf (by decide +kernel), by decide +kernel⟩

def at_TransferStopsRun_4 : State :=
  ((inSession 8 2).set Obj.xferConfig 0).set Obj.powerPathStatus 0

theorem witness_TransferStopsRun_4 :
    SessionRuns (at_TransferStopsRun_4.found 1) 21 ∧ (at_TransferStopsRun_4.found 1).forward = false ∧ (at_TransferStopsRun_4.found
      1).xfer.firstOn.isSome = true ∧ (at_TransferStopsRun_4.found 1).xbsValid = false := by
  and_intros <;> first | decide +kernel | exact sessionRunsOf (by decide +kernel)

theorem witness_TransferStopsRun_5 :
    SessionRuns ((inSession 8 2).found 1) 21 ∧ ((inSession 8 2).found 1).on Domain.bal = true ∧ ((inSession 8 2).found
      1).plan.gateEnable = true :=
  ⟨sessionRunsOf (by decide +kernel), by decide +kernel, by decide +kernel⟩

def at_TransferStopsRun_6 : State :=
  { inSession 8 4 with xfer := { (inSession 8 4).xfer with stop := some (4, 0) } }

theorem witness_TransferStopsRun_6 :
    (at_TransferStopsRun_6.found 1).xfer.stop = some (4, 0) := by decide +kernel

theorem witness_FacetBusRuns_1 :
    (facetOn.found 1).on Domain.icx = true ∧ (facetOn.found 1).get Obj.facetEnable = 1 ∧ (facetOn.found 1).facet.powered = false := by decide +kernel

theorem witness_FacetBusRuns_6 :
    (facetSearching.found 1).facetRuns = true ∧ (facetSearching.found 1).facet.stopped = false ∧ (facetSearching.found 1).faultOn 13 =
      false ∧ (facetSearching.found 1).get (faultObj Obj.faultSeverity 13) ≠ 3 := by decide +kernel

theorem witness_UpkeepRuns_1 :
    ((running 6).found 1).supReady = true ∧ ((running 6).found 1).on Domain.icx = true := by decide +kernel

theorem witness_UpkeepRuns_2_1 :
    (dormantOn.found 1).test.refOn = true := by decide +kernel

theorem witness_UpkeepRuns_2_2 :
    (dormantOn.found 1).test.refOn = true := by decide +kernel

theorem witness_UpkeepRuns_3 :
    ((running 6).found 1).supReady = true ∧ Calm ((running 6).found 1) ∧ (((running 6).found 1).nvm.op.isSome = true ∨ hasRoom 48
      ((running 6).found 1).nvm.log = true) := by
  and_intros <;> decide +kernel

theorem witness_UpkeepRuns_4 :
    (slowCell.found 1).plan.running = RunningPlan.bank ∧ (slowCell.found 1).settleWorst = some (2, (Option.map (fun x => x.2)
      slowCell.settleWorst).getD 0) := by decide +kernel

theorem witness_UpkeepRuns_5 :
    (Instr.marginScrub 1 [90, 91, 92, 93, 94, 95, 96, 97] [90, 91, 92, 93, 94, 95] false).wf = true ∧ ((running 6).found 1).on
      Domain.nvm = true ∧ ((running 6).found 1).supReady = true ∧ Calm ((running 6).found 1) := by
  and_intros <;> decide +kernel

theorem witness_UpkeepRuns_5b :
    (Instr.marginScrub 1 [90, 91, 92, 93, 94, 95, 96, 97] [90, 91, 92, 93, 94, 95] true).wf = true ∧ ((running 6).found 1).on Domain.nvm
      = true ∧ ((running 6).found 1).supReady = true ∧ Calm ((running 6).found 1) := by
  and_intros <;> decide +kernel

theorem witness_UpkeepRuns_6_1 :
    ((running 6).found 1).on Domain.nvm = true ∧ ((running 6).found 1).nvm.op = none := by decide +kernel

theorem witness_UpkeepRuns_6_21 :
    ((running 6).found 1).on Domain.nvm = true ∧ ((running 6).found 1).nvm.op = none := by decide +kernel

theorem witness_UpkeepRuns_6_22 :
    ((running 6).found 1).on Domain.nvm = true ∧ ((running 6).found 1).nvm.op = none ∧ Calm ((running 6).found 1) := by
  and_intros <;> decide +kernel

theorem witness_UpkeepRuns_7 :
    (Instr.coalescedStateStore 1 1088 1 true).wf = true ∧ deviceP (1088 * 256 + 1) = true ∧ ((running 6).found 1).on Domain.nvm = true ∧
      ((running 6).found 1).supReady = true ∧ Calm ((running 6).found 1) ∧ ((running 6).found 1).logTakes (1088 * 256 + 1) (((running
      6).found 1).get (1088 * 256 + 1) == Dict.default (1088 * 256 + 1)) = true := by
  and_intros <;> decide +kernel

theorem witness_ModeRequestRuns_1e :
    (Instr.modeRequest 1 host0 0).wf = true ∧ HeardMaster ((up 6).found 1) host0 0 2 512 0 :=
  ⟨by decide +kernel, heardMasterOf (by decide +kernel)⟩

def at_ModeTransitionsRun_4 : State :=
  asked 12 (up 4)

theorem witness_ModeTransitionsRun_4 :
    Calm (at_ModeTransitionsRun_4.found 1) ∧ (at_ModeTransitionsRun_4.found 1).mode.shutdown = none ∧ (at_ModeTransitionsRun_4.found
      1).modeCode ≠ 0 ∧ autoTarget (at_ModeTransitionsRun_4.found 1) = none ∧ (at_ModeTransitionsRun_4.found 1).mode.staged = some 12 ∧
      refusal 12 false (at_ModeTransitionsRun_4.found 1) = none ∧ (at_ModeTransitionsRun_4.found 1).get (faultObj Obj.faultSeverity 43) ≠
      3 := by
  and_intros <;> decide +kernel

theorem witness_ModeTransitionsRun_5 :
    Calm ((returning 10).found 1) ∧ ((returning 10).found 1).mode.shutdown = none ∧ ((returning 10).found 1).modeCode ≠ 0 ∧ autoTarget
      ((returning 10).found 1) = some (5, 6) ∧ 5 ≤ 12 ∧ 6 < 256 ∧ ((returning 10).found 1).get (faultObj Obj.faultSeverity 43) ≠ 3 := by
  and_intros <;> decide +kernel

def at_ModeTransitionsRun_6 : State :=
  (asked 8 (anyBank 6)).set Obj.supervisorState 1

theorem witness_ModeTransitionsRun_6 :
    (at_ModeTransitionsRun_6.found 1).mode.shutdown = none ∧ (at_ModeTransitionsRun_6.found 1).modeCode ≠ 0 ∧ autoTarget
      (at_ModeTransitionsRun_6.found 1) = none ∧ (at_ModeTransitionsRun_6.found 1).mode.staged = some 8 ∧ requestWaits 8
      (at_ModeTransitionsRun_6.found 1) = true := by decide +kernel

def at_ModeTransitionsRun_7 : State :=
  asked 8 (anyBank 6)

theorem witness_ModeTransitionsRun_7 :
    (at_ModeTransitionsRun_7.found 1).mode.shutdown = none ∧ (at_ModeTransitionsRun_7.found 1).modeCode ≠ 0 ∧ autoTarget
      (at_ModeTransitionsRun_7.found 1) = none ∧ (at_ModeTransitionsRun_7.found 1).mode.staged = some 8 ∧ requestWaits 8
      (at_ModeTransitionsRun_7.found 1) = false ∧ (runsBank 8 = true → (at_ModeTransitionsRun_7.found 1).plan.running = RunningPlan.rom →
      (at_ModeTransitionsRun_7.found 1).plan.switchAt = none) ∧ refusal 8 false (at_ModeTransitionsRun_7.found 1) = some 5 := by decide +kernel

def at_ModeTransitionsRun_7b : State :=
  asked 7 (up 6)

theorem witness_ModeTransitionsRun_7b :
    (at_ModeTransitionsRun_7b.found 1).mode.shutdown = none ∧ (at_ModeTransitionsRun_7b.found 1).modeCode ≠ 0 ∧ autoTarget
      (at_ModeTransitionsRun_7b.found 1) = none ∧ (at_ModeTransitionsRun_7b.found 1).mode.staged = some 7 ∧ requestWaits 7
      (at_ModeTransitionsRun_7b.found 1) = false ∧ (runsBank 7 = true → (at_ModeTransitionsRun_7b.found 1).plan.running = RunningPlan.rom
      → (at_ModeTransitionsRun_7b.found 1).plan.switchAt = none) ∧ refusal 7 false (at_ModeTransitionsRun_7b.found 1) = some 4 := by decide +kernel

def at_ModeTransitionsRun_8 : State :=
  shuttingDown 2 (handing true (up 5))

theorem witness_ModeTransitionsRun_8 :
    (at_ModeTransitionsRun_8.found 1).mode.shutdown = some 2 ∧ (at_ModeTransitionsRun_8.found 1).shutdownReady = false := by decide +kernel

def at_ModeTransitionsRun_9b : State :=
  shuttingDown 1 (up 5)

theorem witness_ModeTransitionsRun_9b :
    Calm (at_ModeTransitionsRun_9b.found 1) ∧ (at_ModeTransitionsRun_9b.found 1).mode.shutdown = some 1 ∧ 1 ∈ [1, 2, 3] ∧
      (at_ModeTransitionsRun_9b.found 1).shutdownReady = true ∧ (at_ModeTransitionsRun_9b.found 1).mode.wakeKept = 0 ∧
      (at_ModeTransitionsRun_9b.found 1).get (faultObj Obj.faultSeverity 40) ≠ 3 := by
  and_intros <;> decide +kernel

def at_ModeTransitionsRun_10 : State :=
  { shuttingDown 2 (running 6) with mode := { (shuttingDown 2 (running 6)).mode with wakeKept := 4 } }

theorem witness_ModeTransitionsRun_10 :
    Calm (at_ModeTransitionsRun_10.found 1) ∧ GoodFirmware (at_ModeTransitionsRun_10.found 1) ∧ (at_ModeTransitionsRun_10.found
      1).mode.shutdown = some 2 ∧ (at_ModeTransitionsRun_10.found 1).shutdownReady = true ∧ (at_ModeTransitionsRun_10.found
      1).mode.wakeKept = 4 ∧ 2 < 5 ∧ bit 4 2 = true ∧ bit ((at_ModeTransitionsRun_10.found 1).get Obj.wakeEnable) 2 = true := by
  and_intros <;> first | decide +kernel | exact goodFirmwareOf (by decide +kernel)

theorem witness_MarksRun_5 :
    (Instr.markCopy 1 aMark 7000 5).wf = true ∧ GoodFrame (atNode.found 1) aMark 3 ∧ aMark.side = Side.north ∧ (atNode.found 1).isHead =
      false ∧ frameLen aMark.bytes = 24 ∧ 24 ≤ (framePayload aMark.bytes).length ∧ PassesOn (atNode.found 1) := by
  and_intros <;> first | decide +kernel | exact goodFrameOf (by decide +kernel)

theorem witness_FacetBusRuns_2 :
    (Instr.facetWindowEnd 1 2 (facetWord 3220290)).wf = true ∧ 2 ≤ 6 ∧ (facetSearching.found 1).facetRuns = true ∧ (facetSearching.found
      1).facet.stopped = false ∧ twoFaults ((facetSearching.found 1).facet.lastFault :: slotFaults 2 (facetWord 3220290)) = false ∧
      (facetSearching.found 1).facetState 2 = 0 ∧ lineWord (facetWord 3220290) = FacetWord.bits 3220290 ∧ facetClean 3220290 = true := by decide +kernel

theorem witness_FacetBusRuns_2b :
    (Instr.facetWindowEnd 1 0 (facetWord 3220290)).wf = true ∧ 0 ≤ 6 ∧ (facetSearching.found 1).facetRuns = true ∧ (facetSearching.found
      1).facet.stopped = false ∧ twoFaults ((facetSearching.found 1).facet.lastFault :: slotFaults 0 (facetWord 3220290)) = false ∧
      (facetSearching.found 1).facetState 0 = 0 ∧ lineWord (facetWord 3220290) = FacetWord.bits 3220290 ∧ facetClean 3220290 = true := by decide +kernel

theorem witness_FacetBusRuns_3 :
    (Instr.facetWindowEnd 1 2 (facetSame 3000)).wf = true ∧ 2 ≤ 6 ∧ (facetSearching.found 1).facetRuns = true ∧ (facetSearching.found
      1).facet.stopped = false ∧ twoFaults ((facetSearching.found 1).facet.lastFault :: slotFaults 2 (facetSame 3000)) = false ∧
      (facetSearching.found 1).facetState 2 < 2 ∧ lineWord (facetSame 3000) = FacetWord.timing := by decide +kernel

def at_FacetBusRuns_3b : State :=
  facetSearching.set (Obj.facetValue + 1) 2

theorem witness_FacetBusRuns_3b :
    (Instr.facetWindowEnd 1 0 (facetSame 3000)).wf = true ∧ 0 ≤ 6 ∧ (at_FacetBusRuns_3b.found 1).facetRuns = true ∧
      (at_FacetBusRuns_3b.found 1).facet.stopped = false ∧ twoFaults ((at_FacetBusRuns_3b.found 1).facet.lastFault :: slotFaults 0
      (facetSame 3000)) = false ∧ (at_FacetBusRuns_3b.found 1).facetState 0 < 2 ∧ lineWord (facetSame 3000) = FacetWord.timing := by decide +kernel

def at_FacetBusRuns_4 : State :=
  facetSearching.set (Obj.facetValue + 4) 4

theorem witness_FacetBusRuns_4 :
    (Instr.facetWindowEnd 1 3 (facetSame 2000)).wf = true ∧ 3 ≤ 6 ∧ (at_FacetBusRuns_4.found 1).facetRuns = true ∧
      (at_FacetBusRuns_4.found 1).facet.stopped = false ∧ twoFaults ((at_FacetBusRuns_4.found 1).facet.lastFault :: slotFaults 3
      (facetSame 2000)) = false ∧ (at_FacetBusRuns_4.found 1).facetState 3 = 2 ∧ lineWord (facetSame 2000) = FacetWord.missing := by decide +kernel

theorem witness_UpkeepRuns_8 :
    1 < 3 ∧ ((running 6).found 1).on Domain.icx = true ∧ (∀ (p : ℕ × ℕ), ((running 6).found 1).cur.repairAt = some p → p.1 + 4 <
      ((running 6).found 1).clk ∨ p.2 ≠ 1) := by decide +kernel

theorem witness_UpkeepRuns_9 :
    3 ≤ 3 ∧ ((running 6).found 1).on Domain.icx = true ∧ (3 = 3 ∨ ((running 6).found 1).cur.repairAt = some (0, 3) ∧ ((running 6).found
      1).clk ≤ 0 + 4) ∧ ((running 6).found 1).faultOn 10 = false ∧ ((running 6).found 1).get (faultObj Obj.faultSeverity 10) ≠ 3 := by decide +kernel

def at_UpkeepRuns_9b : State :=
  { running 6 with cur := { (running 6).cur with repairAt := some (1, 2) } }

theorem witness_UpkeepRuns_9b :
    2 ≤ 3 ∧ (at_UpkeepRuns_9b.found 1).on Domain.icx = true ∧ (2 = 3 ∨ (at_UpkeepRuns_9b.found 1).cur.repairAt = some (1, 2) ∧
      (at_UpkeepRuns_9b.found 1).clk ≤ 1 + 4) ∧ (at_UpkeepRuns_9b.found 1).faultOn 10 = false ∧ (at_UpkeepRuns_9b.found 1).get (faultObj
      Obj.faultSeverity 10) ≠ 3 := by decide +kernel

theorem witness_PlanIntegrityRuns_6b :
    (Instr.planScrubPass 1 [(3, false)] []).wf = true ∧ ((running 6).found 1).on Domain.rng = true ∧ ((running 6).found 1).faultOn 37 =
      false ∧ ((running 6).found 1).active.image ≠ [] ∧ ((running 6).found 1).get (faultObj Obj.faultSeverity 37) ≠ 3 := by decide +kernel

def at_PlanIntegrityRuns_7 : State :=
  { running 6 with plan := { (running 6).plan with bankB := ⟨planA, 1, true⟩ } }

theorem witness_PlanIntegrityRuns_7 :
    (Instr.planScrubPass 1 [] [(3, false)]).wf = true ∧ (at_PlanIntegrityRuns_7.found 1).on Domain.rng = true ∧
      (at_PlanIntegrityRuns_7.found 1).faultOn 37 = false ∧ (at_PlanIntegrityRuns_7.found 1).inactive.image ≠ [] ∧
      (at_PlanIntegrityRuns_7.found 1).get (faultObj Obj.faultSeverity 37) ≠ 3 := by decide +kernel

theorem witness_PlanIntegrityRuns_8 :
    (Instr.planScrubPass 1 [(3, true)] []).wf = true ∧ ((running 6).found 1).on Domain.rng = true ∧ ((running 6).found 1).active.image ≠
      [] := by decide +kernel

def at_PlanSwitchRuns_5 : State :=
  asked 7 { switching 6 with plan := { (switching 6).plan with running := .rom } }

set_option maxRecDepth 100000 in
theorem witness_PlanSwitchRuns_5 :
    (at_PlanSwitchRuns_5.found 1).plan.switchAt.isSome = true ∧ (at_PlanSwitchRuns_5.found 1).plan.running = RunningPlan.rom ∧
      (at_PlanSwitchRuns_5.found 1).mode.staged = some 7 ∧ runsBank 7 = true ∧ sessionWaits 7 (at_PlanSwitchRuns_5.found 1) = false ∧
      refusal 7 false (swapBanks (at_PlanSwitchRuns_5.found 1)) = none ∧ Calm (at_PlanSwitchRuns_5.found 1) ∧ (at_PlanSwitchRuns_5.found
      1).get (faultObj Obj.faultSeverity 43) ≠ 3 ∧ bankFault true (at_PlanSwitchRuns_5.found 1).inactive.image (swapBanks
      (at_PlanSwitchRuns_5.found 1)) = none := by
  and_intros <;> decide +kernel

def at_PlanSwitchRuns_4b : State :=
  { switching 6 with plan := { (switching 6).plan with running := .rom, startAt := some 5 } }

set_option maxRecDepth 100000 in
theorem witness_PlanSwitchRuns_4b :
    (at_PlanSwitchRuns_4b.found 1).plan.switchAt.isSome = true ∧ ((at_PlanSwitchRuns_4b.found 1).plan.running = RunningPlan.bank ∨
      (at_PlanSwitchRuns_4b.found 1).plan.running = RunningPlan.rom ∧ (at_PlanSwitchRuns_4b.found 1).mode.staged = none ∧
      (at_PlanSwitchRuns_4b.found 1).plan.startAt = (at_PlanSwitchRuns_4b.found 1).plan.switchAt) ∧ Calm (at_PlanSwitchRuns_4b.found 1) ∧
      bankFault true (at_PlanSwitchRuns_4b.found 1).inactive.image (swapBanks (at_PlanSwitchRuns_4b.found 1)) = none ∧
      (at_PlanSwitchRuns_4b.found 1).get (faultObj Obj.faultSeverity 43) ≠ 3 := by
  and_intros <;> decide +kernel

def at_HandoversRun_4 : State :=
  { dwelling with mode := { dwelling.mode with handover := some ⟨true, 0, true⟩ } }

theorem witness_HandoversRun_4 :
    (at_HandoversRun_4.found 1).mode.handover = some (Handover.mk true 0 true) ∧ (Handover.mk true 0 true).toXbs = true ∧ ((Handover.mk
      true 0 true).failed = true ∨ xbusBarred (at_HandoversRun_4.found 1) = true) := by decide +kernel

def at_HandoversRun_5c : State :=
  { dwelling with mode := { dwelling.mode with handover := some ⟨true, 0, true⟩ } }

theorem witness_HandoversRun_5c :
    (at_HandoversRun_5c.found 1).mode.handover = some (Handover.mk true 0 true) ∧ (at_HandoversRun_5c.found 1).faultOn 22 = false ∧
      (at_HandoversRun_5c.found 1).get (faultObj Obj.faultSeverity 22) ≠ 3 := by decide +kernel

def at_FacetBusRuns_5 : State :=
  { facetSearching with facet := { facetSearching.facet with stopped := true } }

theorem witness_FacetBusRuns_5 :
    (at_FacetBusRuns_5.found 1).facetRuns = true ∧ (at_FacetBusRuns_5.found 1).facet.stopped = true ∧ (at_FacetBusRuns_5.found 1).clk ≤
      (at_FacetBusRuns_5.found 1).facet.frameAt + 4 * ms := by decide +kernel

def at_EnumerationRuns_9 : State :=
  { linked (up 6) with ring := { (linked (up 6)).ring with seen := [⟨1, 6, 7, 0⟩] } }

theorem witness_EnumerationRuns_9 :
    (Instr.enumConfirm 1 (fromHead Side.north 6 0 63 7 confirmBody)).wf = true ∧ (at_EnumerationRuns_9.found 1).receives (fromHead
      Side.north 6 0 63 7 confirmBody).side = true ∧ frameEnd (at_EnumerationRuns_9.found 1) (fromHead Side.north 6 0 63 7 confirmBody) =
      FrameEnd.good ∧ frameType (fromHead Side.north 6 0 63 7 confirmBody).bytes = 6 ∧ (framePayload (fromHead Side.north 6 0 63 7
      confirmBody).bytes).getD 0 0 = 3 ∧ (at_EnumerationRuns_9.found 1).address = 0 ∧ (at_EnumerationRuns_9.found 1).isHead = false ∧
      (at_EnumerationRuns_9.found 1).get Obj.ringRoleConfig ≠ 1 ∧ (at_EnumerationRuns_9.found 1).hasSeen (frameSrc (fromHead Side.north 6
      0 63 7 confirmBody).bytes) 6 ((fromHead Side.north 6 0 63 7 confirmBody).bytes.getD 5 0) = true := by decide +kernel

def at_FaultClearRuns_2 : State :=
  withFault 0x21 (up 6)

theorem witness_FaultClearRuns_2 :
    (Instr.faultClear 1 host0 33 1).wf = true ∧ 33 < 48 ∧ 1 ≠ 0 ∧ HeardMaster (at_FaultClearRuns_2.found 1) host0 0 2 (3600 + 33) 1 := by
  and_intros <;> first | decide +kernel | exact heardMasterOf (by decide +kernel)

theorem witness_FaultClearRuns_3 :
    (Instr.faultClear 1 host0 70 0).wf = true ∧ lookup (3600 + 70) 1 = Sum.inl 1 ∧ HeardMaster ((up 6).found 1) host0 0 2 (3600 + 70) 1 :=
  ⟨by decide +kernel, by decide +kernel, heardMasterOf (by decide +kernel)⟩

theorem witness_RingPacketFramesRun_7 :
    (Instr.responseFrame 1 (fromNode Side.north 1 3 1 7 [135, 9, 66, 0, 0, 0, 0, 0])).wf = true ∧ GoodFrame (headAsks.found 1) (fromNode
      Side.north 1 3 1 7 [135, 9, 66, 0, 0, 0, 0, 0]) 1 ∧ (fromNode Side.north 1 3 1 7 [135, 9, 66, 0, 0, 0, 0, 0]).bytes.getD 4 0 % 64 =
      (headAsks.found 1).address ∧ (headAsks.found 1).hasSeen (frameSrc (fromNode Side.north 1 3 1 7 [135, 9, 66, 0, 0, 0, 0, 0]).bytes) 1
      ((fromNode Side.north 1 3 1 7 [135, 9, 66, 0, 0, 0, 0, 0]).bytes.getD 5 0) = false ∧ bit ((framePayload (fromNode Side.north 1 3 1 7
      [135, 9, 66, 0, 0, 0, 0, 0]).bytes).getD 2 0) 6 = true := by
  and_intros <;> first | decide +kernel | exact goodFrameOf (by decide +kernel)

theorem witness_SlicesRun_4 :
    (Instr.slice 1 1 (4 * 2 ^ 24 + 100)).wf = true ∧ 1 ≤ (4 * 2 ^ 24 + 100) / 2 ^ 24 ∧ (4 * 2 ^ 24 + 100) / 2 ^ 24 ≤ 10 ∧ ((running
      7).found 1).modeIn [6, 7, 8, 9, 11] = true ∧ ((running 7).found 1).planRuns = true ∧ ((running 7).found 1).supReady = true ∧
      sliceLength (4 * 2 ^ 24 + 100) < minLength ((4 * 2 ^ 24 + 100) / 2 ^ 24) := by decide +kernel

theorem witness_SlicesRun_4b :
    (Instr.slice 1 1 (1 * 2 ^ 24 + 469)).wf = true ∧ 1 ≤ (1 * 2 ^ 24 + 469) / 2 ^ 24 ∧ (1 * 2 ^ 24 + 469) / 2 ^ 24 ≤ 10 ∧ ((running
      6).found 1).modeIn [6, 7, 8, 9, 11] = true ∧ ((running 6).found 1).planRuns = true ∧ ((running 6).found 1).supReady = true ∧
      sliceLength (1 * 2 ^ 24 + 469) < minLength ((1 * 2 ^ 24 + 469) / 2 ^ 24) := by decide +kernel

theorem witness_SlicesRun_5 :
    (Instr.slice 1 1 (4 * 2 ^ 24 + 500)).wf = true ∧ 1 ≤ (4 * 2 ^ 24 + 500) / 2 ^ 24 ∧ (4 * 2 ^ 24 + 500) / 2 ^ 24 ≤ 10 ∧ ((running
      7).found 1).modeIn [6, 7, 8, 9, 11] = true ∧ ((running 7).found 1).planRuns = true ∧ ((running 7).found 1).supReady = true ∧
      minLength ((4 * 2 ^ 24 + 500) / 2 ^ 24) ≤ sliceLength (4 * 2 ^ 24 + 500) := by decide +kernel

theorem witness_SlicesRun_5c :
    (Instr.slice 1 3 (1 * 2 ^ 24 + 600)).wf = true ∧ 1 ≤ (1 * 2 ^ 24 + 600) / 2 ^ 24 ∧ (1 * 2 ^ 24 + 600) / 2 ^ 24 ≤ 10 ∧ ((running
      6).found 1).modeIn [6, 7, 8, 9, 11] = true ∧ ((running 6).found 1).planRuns = true ∧ ((running 6).found 1).supReady = true ∧
      minLength ((1 * 2 ^ 24 + 600) / 2 ^ 24) ≤ sliceLength (1 * 2 ^ 24 + 600) := by decide +kernel

def at_SlicesRun_5g : State :=
  (running 9).set (Obj.cellResult + 1) 330000

theorem witness_SlicesRun_5g :
    (Instr.slice 1 1 (6 * 2 ^ 24 + 600)).wf = true ∧ 1 ≤ (6 * 2 ^ 24 + 600) / 2 ^ 24 ∧ (6 * 2 ^ 24 + 600) / 2 ^ 24 ≤ 10 ∧
      (at_SlicesRun_5g.found 1).modeIn [6, 7, 8, 9, 11] = true ∧ (at_SlicesRun_5g.found 1).planRuns = true ∧ (at_SlicesRun_5g.found
      1).supReady = true ∧ minLength ((6 * 2 ^ 24 + 600) / 2 ^ 24) ≤ sliceLength (6 * 2 ^ 24 + 600) := by decide +kernel

def at_SlicesRun_5h : State :=
  bothServe (running 6)

theorem witness_SlicesRun_5h :
    (Instr.slice 1 0 (8 * 2 ^ 24 + 600)).wf = true ∧ 1 ≤ (8 * 2 ^ 24 + 600) / 2 ^ 24 ∧ (8 * 2 ^ 24 + 600) / 2 ^ 24 ≤ 10 ∧
      (at_SlicesRun_5h.found 1).modeIn [6, 7, 8, 9, 11] = true ∧ (at_SlicesRun_5h.found 1).planRuns = true ∧ (at_SlicesRun_5h.found
      1).supReady = true ∧ minLength ((8 * 2 ^ 24 + 600) / 2 ^ 24) ≤ sliceLength (8 * 2 ^ 24 + 600) := by decide +kernel

def at_ResetsRun_6 : State :=
  { up 6 with port := { (up 6).port with resetReq := some ⟨0x5A01, some 0⟩ } }

theorem witness_ResetsRun_6 :
    (at_ResetsRun_6.found 1).port.resetReq = some (ResetReq.mk 23041 (some 0)) ∧ Calm (at_ResetsRun_6.found 1) :=
  ⟨by decide +kernel, ⟨by decide +kernel, by decide +kernel⟩⟩

def at_ResetsRun_6b : State :=
  { up 6 with port := { (up 6).port with resetReq := some ⟨0x5A02, some 0⟩ } }

theorem witness_ResetsRun_6b :
    (at_ResetsRun_6b.found 1).port.resetReq = some (ResetReq.mk 23042 (some 0)) ∧ Calm (at_ResetsRun_6b.found 1) :=
  ⟨by decide +kernel, ⟨by decide +kernel, by decide +kernel⟩⟩

def at_MarksRun_7 : State :=
  { inTime 0 atNode with time := { atNode.time with laneSet := true }, plan := { atNode.plan with running := RunningPlan.none }, ringTime := 5010, clk := 5010 }

theorem witness_MarksRun_7 :
    (Instr.markCopy 1 aMark 7000 5).wf = true ∧ GoodFrame (at_MarksRun_7.found 1) aMark 3 ∧ (at_MarksRun_7.found 1).isHead = false ∧
      frameLen aMark.bytes = 24 ∧ (at_MarksRun_7.found 1).time.laneSet = true ∧ (at_MarksRun_7.found 1).laneCcw = (aMark.side ==
      Side.south) ∧ markAccepted (at_MarksRun_7.found 1) (leAt (framePayload aMark.bytes) 0 6) (phaseError (at_MarksRun_7.found 1)
      aMark.side (framePayload aMark.bytes) 5) = true := by
  and_intros <;> first | decide +kernel | exact goodFrameOf (by decide +kernel)

def at_MarksRun_7b : State :=
  { inTime 1 atNode with time := { atNode.time with laneSet := true }, plan := { atNode.plan with running := RunningPlan.none }, ringTime := 5010, clk := 5010 }

theorem witness_MarksRun_7b :
    (Instr.markCopy 1 aMark 7000 5).wf = true ∧ GoodFrame (at_MarksRun_7b.found 1) aMark 3 ∧ (at_MarksRun_7b.found 1).isHead = false ∧
      frameLen aMark.bytes = 24 ∧ (at_MarksRun_7b.found 1).time.laneSet = true ∧ (at_MarksRun_7b.found 1).laneCcw = (aMark.side ==
      Side.south) ∧ markAccepted (at_MarksRun_7b.found 1) (leAt (framePayload aMark.bytes) 0 6) (phaseError (at_MarksRun_7b.found 1)
      aMark.side (framePayload aMark.bytes) 5) = true := by
  and_intros <;> first | decide +kernel | exact goodFrameOf (by decide +kernel)

theorem witness_MarksRun_8 :
    (Instr.markCopy 1 aMark 7000 5).wf = true ∧ (atHead.found 1).receives aMark.side = true ∧ frameEnd (atHead.found 1) aMark =
      FrameEnd.circled ∧ aMark.ended = true ∧ frameChecks aMark.bytes = true ∧ frameType aMark.bytes = 3 ∧ (atHead.found 1).isHead = true
      ∧ newerEpoch (aMark.bytes.getD 1 0) (atHead.found 1).epoch = false := by decide +kernel

theorem witness_MarksRun_8b :
    (Instr.markCopy 1 (let __src := aMark; RingFrame.mk Side.south __src.bytes __src.ended __src.cut) 7000 5).wf = true ∧ (atHead.found
      1).receives (let __src := aMark; RingFrame.mk Side.south __src.bytes __src.ended __src.cut).side = true ∧ frameEnd (atHead.found 1)
      (let __src := aMark; RingFrame.mk Side.south __src.bytes __src.ended __src.cut) = FrameEnd.circled ∧ (let __src := aMark;
      RingFrame.mk Side.south __src.bytes __src.ended __src.cut).ended = true ∧ frameChecks (let __src := aMark; RingFrame.mk Side.south
      __src.bytes __src.ended __src.cut).bytes = true ∧ frameType (let __src := aMark; RingFrame.mk Side.south __src.bytes __src.ended
      __src.cut).bytes = 3 ∧ (atHead.found 1).isHead = true ∧ newerEpoch ((let __src := aMark; RingFrame.mk Side.south __src.bytes
      __src.ended __src.cut).bytes.getD 1 0) (atHead.found 1).epoch = false := by decide +kernel

theorem witness_RingTimeEventsRun_7 :
    syncOn (atNode.found 1) = false ∨ (bits ((atNode.found 1).get Obj.syncConfig) 0 1 == 0) ≠ true := by decide +kernel

def at_RingTimeEventsRun_7b : State :=
  tracking.set Obj.syncConfig 0

theorem witness_RingTimeEventsRun_7b :
    syncOn (at_RingTimeEventsRun_7b.found 1) = false ∨ (bits ((at_RingTimeEventsRun_7b.found 1).get Obj.syncConfig) 0 1 == 0) ≠ false := by decide +kernel

theorem witness_SparesRun_4 :
    (Instr.spareArmingComplete 1 1).wf = true ∧ (((running 6).found 1).spare 1 ≠ 1 ∨ (((running 6).found 1).sp 1).returning = true) := by decide +kernel

theorem witness_PortTimeoutsRun_4 :
    (Instr.segData 1 host0 1552 0 0 false []).wf = true ∧ lookup 1552 0 = Sum.inr (rowOf 1552 0) ∧ 1552 ≠ 2608 ∧ 1552 ≠ 3081 ∧ Heard
      ((endedBy false).found 1) host0 0 5 1552 0 ∧ ((endedBy false).found 1).supReady = true ∧ ((endedBy false).found 1).port.writeXfer =
      none ∧ ((endedBy false).found 1).port.readXfers = [] := by
  and_intros <;> first | decide +kernel | exact heardOf (by decide +kernel)

theorem witness_PortTimeoutsRun_4b :
    (Instr.segData 1 host0 1552 0 0 false [1, 2]).wf = true ∧ lookup 1552 0 = Sum.inr (rowOf 1552 0) ∧ 1552 ≠ 2608 ∧ 1552 ≠ 3081 ∧ Heard
      ((endedBy true).found 1) host0 0 5 1552 0 ∧ ((endedBy true).found 1).supReady = true ∧ ((endedBy true).found 1).port.writeXfer =
      none ∧ ((endedBy true).found 1).port.readXfers = [] := by
  and_intros <;> first | decide +kernel | exact heardOf (by decide +kernel)

def at_PlanSwitchRuns_4c : State :=
  { switching 8 with plan := { (switching 8).plan with switchAt := some 5 }, objs := ((inSession 8 2).setAll [(Obj.modeStatus, 8)]).objs, xfer := (inSession 8 2).xfer }

set_option maxRecDepth 100000 in
theorem witness_PlanSwitchRuns_4c :
    (at_PlanSwitchRuns_4c.found 1).plan.switchAt.isSome = true ∧ ((at_PlanSwitchRuns_4c.found 1).plan.running = RunningPlan.bank ∨
      (at_PlanSwitchRuns_4c.found 1).plan.running = RunningPlan.rom ∧ (at_PlanSwitchRuns_4c.found 1).mode.staged = none ∧
      (at_PlanSwitchRuns_4c.found 1).plan.startAt = (at_PlanSwitchRuns_4c.found 1).plan.switchAt) ∧ Calm (at_PlanSwitchRuns_4c.found 1) ∧
      bankFault true (at_PlanSwitchRuns_4c.found 1).inactive.image (swapBanks (at_PlanSwitchRuns_4c.found 1)) = none ∧
      (at_PlanSwitchRuns_4c.found 1).get (faultObj Obj.faultSeverity 43) ≠ 3 := by
  and_intros <;> decide +kernel

def at_SlicesRun_6 : State :=
  inSlice northSlice (bothServe (running 6))

theorem witness_SlicesRun_6 :
    (Instr.sliceEnd 1 7 0 true (SliceOut.mk false (SliceMeas.phy false none) [])).wf = true ∧ (at_SlicesRun_6.found 1).test.slices =
      [northSlice] ∧ northSlice.kind = 7 ∧ northSlice.target = sliceTarget 7 0 ∧ (at_SlicesRun_6.found 1).sliceOver northSlice = true := by decide +kernel

def at_SlicesRun_6b : State :=
  inSlice switchSlice (running 7)

theorem witness_SlicesRun_6b :
    (Instr.sliceEnd 1 4 3 true (SliceOut.mk true (SliceMeas.switch 0 100 0 3000 0 0 0) [])).wf = true ∧ (at_SlicesRun_6b.found
      1).test.slices = [switchSlice] ∧ switchSlice.kind = 4 ∧ switchSlice.target = sliceTarget 4 3 ∧ (at_SlicesRun_6b.found 1).sliceOver
      switchSlice = true := by decide +kernel

def at_SlicesRun_6c : State :=
  inSlice loopSlice (running 6)

theorem witness_SlicesRun_6c :
    (Instr.sliceEnd 1 1 3 true (SliceOut.mk true (SliceMeas.loop 10 10) [])).wf = true ∧ (at_SlicesRun_6c.found 1).test.slices =
      [loopSlice] ∧ loopSlice.kind = 1 ∧ loopSlice.target = sliceTarget 1 3 ∧ (at_SlicesRun_6c.found 1).sliceOver loopSlice = true := by decide +kernel

def at_SlicesRun_6d : State :=
  inSlice loopSlice ((running 6).set (Obj.spareState + 1) (3 * 256 + 2))

theorem witness_SlicesRun_6d :
    (Instr.sliceEnd 1 1 3 false (SliceOut.mk true (SliceMeas.loop 10 10) [])).wf = true ∧ (at_SlicesRun_6d.found 1).test.slices =
      [loopSlice] ∧ loopSlice.kind = 1 ∧ loopSlice.target = sliceTarget 1 3 ∧ (at_SlicesRun_6d.found 1).sliceOver loopSlice = true := by decide +kernel

def at_SlicesRun_6f : State :=
  inSlice loopSlice (running 6)

theorem witness_SlicesRun_6f :
    (Instr.sliceEnd 1 1 3 true (SliceOut.mk true (SliceMeas.loop 10 10) [TableWord.mk 3 true true])).wf = true ∧ (at_SlicesRun_6f.found
      1).test.slices = [loopSlice] ∧ loopSlice.kind = 1 ∧ loopSlice.target = sliceTarget 1 3 ∧ (at_SlicesRun_6f.found 1).sliceOver
      loopSlice = true := by decide +kernel

def at_SlicesRun_6g : State :=
  inSlice mirrorSlice (running 6)

theorem witness_SlicesRun_6g :
    (Instr.sliceEnd 1 6 3 true (SliceOut.mk true (SliceMeas.mirror false none none) [])).wf = true ∧ (at_SlicesRun_6g.found
      1).test.slices = [mirrorSlice] ∧ mirrorSlice.kind = 6 ∧ mirrorSlice.target = sliceTarget 6 3 ∧ (at_SlicesRun_6g.found 1).sliceOver
      mirrorSlice = true := by decide +kernel

def at_SlicesRun_6h : State :=
  inSlice sourceSlice (running 6)

theorem witness_SlicesRun_6h :
    (Instr.sliceEnd 1 9 0 true (SliceOut.mk true (SliceMeas.sources 15 1) [])).wf = true ∧ (at_SlicesRun_6h.found 1).test.slices =
      [sourceSlice] ∧ sourceSlice.kind = 9 ∧ sourceSlice.target = sliceTarget 9 0 ∧ (at_SlicesRun_6h.found 1).sliceOver sourceSlice = true := by decide +kernel

def at_SlicesRun_7 : State :=
  { inSlice sourceSlice (running 6) with clk := 3000 }

theorem witness_SlicesRun_7 :
    (Instr.sliceEnd 1 9 0 true (SliceOut.mk true (SliceMeas.sources 15 1) [])).wf = true ∧ (at_SlicesRun_7.found 1).test.slices =
      [sourceSlice] ∧ sourceSlice.kind = 9 ∧ sourceSlice.target = sliceTarget 9 0 ∧ (at_SlicesRun_7.found 1).sliceOver sourceSlice = false
      ∧ (true && (at_SlicesRun_7.found 1).tokenEarly sourceSlice) = false ∧ (at_SlicesRun_7.found 1).port.waiting = [] := by decide +kernel

def at_SlicesRun_8 : State :=
  inSlice { loopSlice with loopAt := some 100, length := 2000 } (running 6)

theorem witness_SlicesRun_8 :
    (Instr.sliceEnd 1 1 3 true (SliceOut.mk true (SliceMeas.loop 10 10) [])).wf = true ∧ (at_SlicesRun_8.found 1).test.slices = [let
      __src := loopSlice; Slice.mk __src.kind __src.e 2000 __src.target __src.spare (some 100) __src.word __src.planOn __src.told] ∧ (let
      __src := loopSlice; Slice.mk __src.kind __src.e 2000 __src.target __src.spare (some 100) __src.word __src.planOn __src.told).kind =
      1 ∧ (let __src := loopSlice; Slice.mk __src.kind __src.e 2000 __src.target __src.spare (some 100) __src.word __src.planOn
      __src.told).target = sliceTarget 1 3 ∧ (at_SlicesRun_8.found 1).sliceOver (let __src := loopSlice; Slice.mk __src.kind __src.e 2000
      __src.target __src.spare (some 100) __src.word __src.planOn __src.told) = false ∧ (at_SlicesRun_8.found 1).tokenEarly (let __src :=
      loopSlice; Slice.mk __src.kind __src.e 2000 __src.target __src.spare (some 100) __src.word __src.planOn __src.told) = true := by decide +kernel

def at_LinksRun_6 : State :=
  atNode.set Obj.ringGeneration 2

theorem witness_LinksRun_6 :
    (at_LinksRun_6.found 1).on Domain.rng = false ∨ (at_LinksRun_6.found 1).linkState Side.south ≠ 2 ∨ (at_LinksRun_6.found 1).get
      Obj.ringGeneration ≠ (at_LinksRun_6.found 1).linkGen Side.south := by decide +kernel

def at_LinksRun_6b : State :=
  atNode.set (Obj.linkStatus + 2) 0

theorem witness_LinksRun_6b :
    (at_LinksRun_6b.found 1).on Domain.rng = false ∨ (at_LinksRun_6b.found 1).linkState Side.south ≠ 2 ∨ (at_LinksRun_6b.found 1).get
      Obj.ringGeneration ≠ (at_LinksRun_6b.found 1).linkGen Side.south := by decide +kernel

def at_UpkeepRuns_3b : State :=
  { running 6 with nvm := { (running 6).nvm with op := some ⟨3, 5, .calProgram⟩ } }

theorem witness_UpkeepRuns_3b :
    (at_UpkeepRuns_3b.found 1).supReady = true ∧ Calm (at_UpkeepRuns_3b.found 1) ∧ ((at_UpkeepRuns_3b.found 1).nvm.op.isSome = true ∨
      hasRoom 48 (at_UpkeepRuns_3b.found 1).nvm.log = true) := by
  and_intros <;> decide +kernel

def at_UpkeepRuns_11 : State :=
  { running 6 with nvm := { (running 6).nvm with op := some ⟨3, 5, .record (LogRec.of 1 0x044001 1 [77, 0])⟩ } }

theorem witness_UpkeepRuns_11 :
    (at_UpkeepRuns_11.found 1).on Domain.nvm = true ∧ (at_UpkeepRuns_11.found 1).nvm.op = some (NvmOp.mk 3 5 (NvmWork.record (LogRec.of
      1 278529 1 [77, 0]))) ∧ (at_UpkeepRuns_11.found 1).nvm.queue = [] ∧ (at_UpkeepRuns_11.found 1).updStage ≠ 1 ∧
      (at_UpkeepRuns_11.found 1).updStage ≠ 2 ∧ (∀ (i : ℕ), (NvmOp.mk 3 5 (NvmWork.record (LogRec.of 1 278529 1 [77, 0]))).work ≠
      NvmWork.copy i) ∧ (NvmOp.mk 3 5 (NvmWork.record (LogRec.of 1 278529 1 [77, 0]))).code ≠ 1 ∧ Calm (at_UpkeepRuns_11.found 1) ∧ (true
      = true ∨ false = true) := by
  and_intros <;> first | decide +kernel | exact fun _ h => nomatch h

def at_UpkeepRuns_11b : State :=
  { running 6 with nvm := { (running 6).nvm with op := some ⟨3, 5, .record (LogRec.of 1 0x044001 1 [77, 0])⟩ } }

theorem witness_UpkeepRuns_11b :
    (at_UpkeepRuns_11b.found 1).on Domain.nvm = true ∧ (at_UpkeepRuns_11b.found 1).nvm.op = some (NvmOp.mk 3 5 (NvmWork.record
      (LogRec.of 1 278529 1 [77, 0]))) ∧ (at_UpkeepRuns_11b.found 1).nvm.queue = [] ∧ (at_UpkeepRuns_11b.found 1).updStage ≠ 1 ∧
      (at_UpkeepRuns_11b.found 1).updStage ≠ 2 ∧ (∀ (i : ℕ), (NvmOp.mk 3 5 (NvmWork.record (LogRec.of 1 278529 1 [77, 0]))).work ≠
      NvmWork.copy i) ∧ (NvmOp.mk 3 5 (NvmWork.record (LogRec.of 1 278529 1 [77, 0]))).code ≠ 1 ∧ Calm (at_UpkeepRuns_11b.found 1) ∧
      (false = true ∨ true = true) := by
  and_intros <;> first | decide +kernel | exact fun _ h => nomatch h

def at_UpkeepRuns_11c : State :=
  { running 6 with nvm := { (running 6).nvm with op := some ⟨4, 5, .reclaim 2⟩ } }

theorem witness_UpkeepRuns_11c :
    (at_UpkeepRuns_11c.found 1).on Domain.nvm = true ∧ (at_UpkeepRuns_11c.found 1).nvm.op = some (NvmOp.mk 4 5 (NvmWork.reclaim 2)) ∧
      (at_UpkeepRuns_11c.found 1).nvm.queue = [] ∧ (at_UpkeepRuns_11c.found 1).updStage ≠ 1 ∧ (at_UpkeepRuns_11c.found 1).updStage ≠ 2 ∧
      (∀ (i : ℕ), (NvmOp.mk 4 5 (NvmWork.reclaim 2)).work ≠ NvmWork.copy i) ∧ (NvmOp.mk 4 5 (NvmWork.reclaim 2)).code ≠ 1 ∧ Calm
      (at_UpkeepRuns_11c.found 1) ∧ (true = true ∨ false = true) := by
  and_intros <;> first | decide +kernel | exact fun _ h => nomatch h

def at_UpkeepRuns_11d : State :=
  { running 6 with nvm := { (running 6).nvm with op := some ⟨3, 5, .marker true 1⟩ } }

theorem witness_UpkeepRuns_11d :
    (at_UpkeepRuns_11d.found 1).on Domain.nvm = true ∧ (at_UpkeepRuns_11d.found 1).nvm.op = some (NvmOp.mk 3 5 (NvmWork.marker true 1))
      ∧ (at_UpkeepRuns_11d.found 1).nvm.queue = [] ∧ (at_UpkeepRuns_11d.found 1).updStage ≠ 1 ∧ (at_UpkeepRuns_11d.found 1).updStage ≠ 2 ∧
      (∀ (i : ℕ), (NvmOp.mk 3 5 (NvmWork.marker true 1)).work ≠ NvmWork.copy i) ∧ (NvmOp.mk 3 5 (NvmWork.marker true 1)).code ≠ 1 ∧ Calm
      (at_UpkeepRuns_11d.found 1) ∧ (true = true ∨ false = true) := by
  and_intros <;> first | decide +kernel | exact fun _ h => nomatch h

def at_UpkeepRuns_12 : State :=
  { running 6 with nvm := { (running 6).nvm with op := some ⟨3, 5, .record (LogRec.of 1 0x044001 1 [77, 0])⟩ } }

theorem witness_UpkeepRuns_12 :
    (at_UpkeepRuns_12.found 1).on Domain.nvm = true ∧ (at_UpkeepRuns_12.found 1).nvm.op = some (NvmOp.mk 3 5 (NvmWork.record (LogRec.of
      1 278529 1 [77, 0]))) ∧ (NvmOp.mk 3 5 (NvmWork.record (LogRec.of 1 278529 1 [77, 0]))).work = NvmWork.record (LogRec.of 1 278529 1
      [77, 0]) ∧ (NvmOp.mk 3 5 (NvmWork.record (LogRec.of 1 278529 1 [77, 0]))).code ≠ 1 ∧ (at_UpkeepRuns_12.found 1).openSector <
      (at_UpkeepRuns_12.found 1).nvm.log.length ∧ ((at_UpkeepRuns_12.found 1).nvm.log.any fun x => decide (x.state = 1)) = true ∧ Calm
      (at_UpkeepRuns_12.found 1) ∧ (at_UpkeepRuns_12.found 1).updStage ≠ 1 := by
  and_intros <;> decide +kernel

def at_UpkeepRuns_13 : State :=
  { imageArrives with nvm := { (imageArrives).nvm with op := some ⟨4, fwBase (imageArrives).target + 4096, .update []⟩ } }

theorem witness_UpkeepRuns_13 :
    (at_UpkeepRuns_13.found 1).on Domain.nvm = true ∧ (at_UpkeepRuns_13.found 1).nvm.op = some (NvmOp.mk 4 (fwBase imageArrives.target +
      4096) (NvmWork.update [])) ∧ (NvmOp.mk 4 (fwBase imageArrives.target + 4096) (NvmWork.update [])).code = 4 ∧ (NvmOp.mk 4 (fwBase
      imageArrives.target + 4096) (NvmWork.update [])).work = NvmWork.update [] ∧ (NvmOp.mk 4 (fwBase imageArrives.target + 4096)
      (NvmWork.update [])).addr = fwBase (at_UpkeepRuns_13.found 1).target + (at_UpkeepRuns_13.found 1).nvm.erased * 4096 ∧
      (at_UpkeepRuns_13.found 1).updStage = 1 ∧ (true = true ∨ false = true) := by decide +kernel

def at_BusRequestsRun_5 : State :=
  { facetSearching with facet := { facetSearching.facet with stopped := true } }

theorem witness_BusRequestsRun_5 :
    (Instr.facetSearch 1 host0 1).wf = true ∧ HeardMaster (at_BusRequestsRun_5.found 1) host0 0 2 1873 0 ∧ (at_BusRequestsRun_5.found
      1).facet.stopped = true :=
  ⟨by decide +kernel, heardMasterOf (by decide +kernel), by decide +kernel⟩

def at_BusRequestsRun_5b : State :=
  { facetSearching with facet := { facetSearching.facet with stopped := true, searchFrames := some 15 }, clk := 5 * ms }

theorem witness_BusRequestsRun_5b :
    (Instr.facetSearch 1 host0 1).wf = true ∧ HeardMaster (at_BusRequestsRun_5b.found 1) host0 0 2 1873 0 ∧ (at_BusRequestsRun_5b.found
      1).facet.stopped = true :=
  ⟨by decide +kernel, heardMasterOf (by decide +kernel), by decide +kernel⟩

/-! The statements over every state: what a step needs to answer a next state, and a command of each kind of operand. -/

/-- The next state of a step, if there is one. -/
def stepped (s : State) : Option State :=
  match step s with
  | .next t => some t
  | _ => none

/-- A property of the state after a command. -/
def after (i : Instr) (s : State) (p : State → Bool) : Bool :=
  match exec i s with
  | .next t => p t
  | _ => false

theorem witness_StepsKeepGuards : (stepped { up 6 with pending := [.ping 1 host0] }).isSome = true := by decide +kernel

theorem witness_EveryCommandCompletes : Instr.wf (.ping 1 host0) = true ∧ Instr.wf (.balHold 1 0) = false := by decide +kernel

/-! The word of a command: the table gives no row any bits. -/

theorem test_no_word_spells_a_command : decodeTableWord 16 0x4F00 = none ∧ State.reset.withFetchWord 16 0x4F00 = State.reset := by
  decide +kernel

/-! WellFormed: for each check, a term that it refuses. -/

theorem test_wf_client : Instr.wf (.ping 1 ⟨.host 16, 7, 64, true⟩) = false := by decide +kernel
theorem test_wf_node : Instr.wf (.ping 1 ⟨.ring 64 1, 7, 2, true⟩) = false := by decide +kernel
theorem test_wf_session : Instr.wf (.ping 1 ⟨.ring 1 5, 7, 2, true⟩) = false := by decide +kernel
theorem test_wf_tag : Instr.wf (.ping 1 ⟨.host 0, 256, 64, true⟩) = false := by decide +kernel
theorem test_wf_addr : Instr.wf (.ping 1 ⟨.host 0, 7, 256, true⟩) = false := by decide +kernel
theorem test_wf_watchdog_origin : Instr.wf (.watchdogFirstKey 1 (.host ⟨.host 16, 7, 64, true⟩)) = false := by decide +kernel
theorem test_wf_object : Instr.wf (.read 1 host0 0x10000 0 []) = false ∧ Instr.wf (.read 1 host0 1 256 []) = false := by decide +kernel
theorem test_wf_data_byte : Instr.wf (.write 1 host0 1 0 [256]) = false := by decide +kernel
theorem test_wf_data_length : Instr.wf (.write 1 host0 1 0 (List.replicate 65536 0)) = false := by
  simp only [Instr.wf, bytesOk, List.length_replicate, show decide (65536 ≤ 65535) = false from rfl, Bool.false_and, Bool.and_false]
theorem test_wf_total : Instr.wf (.segWriteStart 1 host0 0x610 0 (2 ^ 32)) = false := by decide +kernel
theorem test_wf_segment : Instr.wf (.segData 1 host0 0x610 0 65536 false []) = false := by decide +kernel
theorem test_wf_spi_length : Instr.wf (.status 1 65536) = false ∧ Instr.wf (.get 1 65536 6) = false := by decide +kernel
theorem test_wf_spi_put : Instr.wf (.put 1 8 256 [] 0 true) = false ∧ Instr.wf (.put 1 8 0 [] 65536 true) = false := by decide +kernel
theorem test_wf_spi_pop : Instr.wf (.pop 1 0 256 0 6) = false := by decide +kernel
theorem test_wf_can_identifier : Instr.wf (.canCommandFrame 1 (2 ^ 29) 1 [] true) = false := by decide +kernel
theorem test_wf_can_classical : Instr.wf (.canCommandFrame 1 0 0 (List.replicate 9 0) true) = false := by decide +kernel
theorem test_wf_can_fd_length : Instr.wf (.canCommandFrame 1 0 1 (List.replicate 9 0) true) = false := by decide +kernel
theorem test_wf_can_format : Instr.wf (.canCommandFrame 1 0 3 [] true) = false := by decide +kernel
theorem test_wf_timeout_client : Instr.wf (.sessionTimeout 1 16) = false := by decide +kernel
theorem test_wf_request_value : Instr.wf (.modeRequest 1 host0 256) = false := by decide +kernel
theorem test_wf_slot : Instr.wf (.load 1 host0 256) = false ∧ Instr.wf (.erase 1 host0 256) = false := by decide +kernel
theorem test_wf_plan_switch : Instr.wf (.planSwitch 1 host0 256 0) = false ∧ Instr.wf (.planSwitch 1 host0 1 (2 ^ 48)) = false := by
  decide +kernel
theorem test_wf_release_value :
    Instr.wf (.mirrorRelease 1 host0 65536 ⟨[], 0⟩) = false ∧ Instr.wf (.mirrorRelease 1 host0 0 ⟨[⟨25, true, []⟩], 0⟩) = false := by decide +kernel
theorem test_wf_config_value : Instr.wf (.watchdogConfigWrite 1 host0 (2 ^ 32)) = false := by decide +kernel
theorem test_wf_alive : Instr.wf (.aliveInput 1 host0 65536) = false ∧ Instr.wf (.aliveConfig 1 host0 (2 ^ 32)) = false := by decide +kernel
theorem test_wf_fault_source : Instr.wf (.faultClear 1 host0 61936 0) = false ∧ Instr.wf (.quietPeriodEnd 1 48) = false := by decide +kernel
theorem test_wf_convert : Instr.wf (.convert 1 (2 ^ 24) 1 false 0) = false ∧ Instr.wf (.convert 1 1 5 false 0) = false := by decide +kernel
theorem test_wf_switches : Instr.wf (.balHold 1 0) = false ∧ Instr.wf (.balRelease 1 (2 ^ 24)) = false := by decide +kernel
theorem test_wf_select : Instr.wf (.aux 1 0) = false ∧ Instr.wf (.aux 1 17) = false := by decide +kernel
theorem test_wf_param : Instr.wf (.report 1 ⟨2 ^ 32, goodSet⟩) = false ∧ Instr.wf (.openwire 1 (2 ^ 32)) = false := by decide +kernel
theorem test_wf_offset : Instr.wf (.mark 1 (2 ^ 24) false) = false := by decide +kernel
theorem test_wf_slice : Instr.wf (.slice 1 (2 ^ 26) 0) = false := by decide +kernel
theorem test_wf_point : Instr.wf (.loupeStart 1 16 0) = false := by decide +kernel
theorem test_wf_set_check : Instr.wf (.frameTransmit 1 .south [(0x1C, true)] ⟨true, true⟩) = false := by decide +kernel
theorem test_wf_entry : Instr.wf (.planEntryFetch 1 256 true) = false ∧ Instr.wf (.lateEntry 1 256) = false := by decide +kernel
theorem test_wf_table_word : Instr.wf (.calScrubPass 1 [⟨28, true, true⟩]) = false := by decide +kernel
theorem test_wf_aperture : Instr.wf (.apertureComplete 1 0 [] ⟨0, false, 0, false⟩ ⟨0, false, 0, false⟩ ⟨0, false, 0, false⟩ [] ⟨true, []⟩) = false := by
  decide +kernel
theorem test_wf_raw : CellRaw.wf ⟨0, false, 4, false⟩ = false ∧ CurRaw.wf ⟨0, false, 4, false⟩ = false := by decide +kernel
theorem test_wf_converter : Instr.wf (.recomputationComplete 1 0 0 true) = false := by decide +kernel
theorem test_wf_transfer : Instr.wf (.transferTimeout 1 (.ring 64 1) true) = false := by decide +kernel
theorem test_wf_spare : Instr.wf (.spareArmingComplete 1 3) = false ∧ Instr.wf (.handBackTimeout 1 0) = false := by decide +kernel
theorem test_wf_slice_outcome : Instr.wf (.sliceEnd 1 7 0 true ⟨true, .facet true true, []⟩) = false := by decide +kernel
theorem test_wf_selftest : Instr.wf (.selftestComplete 1 [] [] []) = false := by decide +kernel
theorem test_wf_macro : MacroMeas.wf ⟨[(4096, 0)], true⟩ = false ∧ MacroMeas.wf ⟨[(0, 40)], true⟩ = false := by decide +kernel
theorem test_wf_mark_copy : Instr.wf (.markCopy 1 ⟨.north, [], true, none⟩ 0 125) = false := by decide +kernel
theorem test_wf_frame : Instr.wf (.resultFrame 1 ⟨.north, [256], true, none⟩) = false := by decide +kernel
theorem test_wf_delay : Instr.wf (.delayReq 1 ⟨.north, [], true, none⟩ (2 ^ 32)) = false := by decide +kernel
theorem test_wf_bulk_source : Instr.wf (.bulkReassemblyTimeout 1 64) = false := by decide +kernel
theorem test_wf_trip : Instr.wf (.mirrorTrip 1 25 ⟨true, []⟩) = false ∧ Instr.wf (.mirrorSelfFault 1 6) = false := by decide +kernel
theorem test_wf_straps : Instr.wf (.powerOnReset 1 ⟨128, 0⟩ true false false) = false := by decide +kernel
theorem test_wf_cut : Instr.wf (.brownOut ⟨1, 3, none⟩) = false ∧ Instr.wf (.brownOut ⟨1, 0, some (.marker true 6)⟩) = false ∧
    Instr.wf (.brownOut ⟨1, 0, some (.planSlot 4)⟩) = false ∧ Instr.wf (.brownOut ⟨1, 0, some (.record 65536 0 0)⟩) = false := by decide +kernel
theorem test_wf_memory : Instr.wf (.supervisorReady 1 ⟨[], []⟩) = false := by decide +kernel
theorem test_wf_sleep : Instr.wf (.sleepCheck 1 ⟨0, [], []⟩) = false := by decide +kernel
theorem test_wf_frame_start : FrameMeas.wf ⟨65536, 0, 0, 0, true, true, 0⟩ = false := by decide +kernel
theorem test_wf_switch : Instr.wf (.stuckOnDetected 1 25) = false ∧ Instr.wf (.switchBudgetSpent 1 0) = false := by decide +kernel
theorem test_wf_facet : Instr.wf (.facetWindowEnd 1 8 (facetSame 0)) = false ∧ FacetLine.wf ⟨⟨none, false⟩, []⟩ = false := by decide +kernel
theorem test_wf_margins : Instr.wf (.marginScrub 1 [] [] false) = false := by decide +kernel
theorem test_wf_store : Instr.wf (.coalescedStateStore 1 65536 0 true) = false := by decide +kernel

/-! Single steps; each expected value is the spec's. -/

/-- The last packet of the output queue. -/
def lastPacket (s : State) : List Nat := (s.port.outQ.getLast?.map (·.bytes)).getD []

/-- The check values of R450. -/
theorem test_crc_check_values :
    crc32c [0x31, 0x32, 0x33, 0x34, 0x35, 0x36, 0x37, 0x38, 0x39] = 0xE3069283 ∧
      crcSafety [0x31, 0x32, 0x33, 0x34, 0x35, 0x36, 0x37, 0x38, 0x39] = 0x1697D06A ∧
      crc16 [0x31, 0x32, 0x33, 0x34, 0x35, 0x36, 0x37, 0x38, 0x39] = 0x29B1 ∧
      crc8 [0x31, 0x32, 0x33, 0x34, 0x35, 0x36, 0x37, 0x38, 0x39] = 0xF4 ∧
      crcOut 15 false 0 (crcFeed 15 0x4599 false 0 [0x31, 0x32, 0x33, 0x34, 0x35, 0x36, 0x37, 0x38, 0x39]) = 0x059E ∧
      crcOut 3 false 7 (crcFeed 3 3 false 0 [0x31, 0x32, 0x33, 0x34, 0x35, 0x36, 0x37, 0x38, 0x39]) = 4 := by decide +kernel

/-- R42, R43: 87h, the TAG, LOCAL and node 0, no data. -/
theorem test_ping : after (.ping 1 host0) (up 6) (fun t => lastPacket t == [0x87, 7, 64, 0, 0, 0, 0, 0]) = true := by decide +kernel

/-- R48: DeviceState 0001:00 is MEASURE, 06h. -/
theorem test_read_device_state :
    after (.read 1 host0 1 0 []) (up 6) (fun t => lastPacket t == [0x81, 7, 64, 1, 0, 0, 1, 0, 6]) = true := by decide +kernel

/-- R44, R553: no such index is UNKNOWN_OBJECT, 01h. -/
theorem test_read_unknown_object :
    after (.read 1 host0 0xFFFE 0 []) (up 6) (fun t => lastPacket t == [0xFF, 7, 64, 0xFE, 0xFF, 0, 4, 0, 1, 0, 0, 0]) = true := by
  decide +kernel

/-- R44: a write of an RO object is NOT_WRITABLE, 03h. -/
theorem test_write_read_only :
    after (.write 1 host0 1 0 [6]) (up 6) (fun t => lastPacket t == [0xFF, 7, 64, 1, 0, 0, 4, 0, 3, 0, 0, 0]) = true := by decide +kernel

/-- R64: STAT, PENDLEN and LASTSEQ of a port with a response of 8 bytes: RSP is bit 6. -/
theorem test_status : after (.status 1 4) spiQueued (fun t => t.port.sdo == [0x40, 8, 0, 0]) = true := by decide +kernel

/-- R67: a wrong CRC refuses the PUT and counts in LinkErrors. -/
theorem test_put_wrong_crc :
    after (.put 1 8 5 [7, 9, 64, 0, 0, 0, 0, 0] (pingCrc ^^^ 1) true) onSpi
      (fun t => t.port.outQ == [] && t.port.spiCrcErr && t.get Obj.linkErrors == 1) = true := by decide +kernel

/-- R67: the same PUT with the right CRC is executed. -/
theorem test_put : after (.put 1 8 5 [7, 9, 64, 0, 0, 0, 0, 0] pingCrc true) onSpi
    (fun t => lastPacket t == [0x87, 9, 64, 0, 0, 0, 0, 0] && t.port.spiLastSeq == 5) = true := by decide +kernel

/-- R58: a session that lapses is gone. -/
theorem test_session_timeout : after (.sessionTimeout 1 0) (up 6) (fun t => t.port.sessions == []) = true := by decide +kernel

/-- R92: CONFIG HOLD from READY, with PREVIOUS 05h and CAUSE 02h. -/
theorem test_mode_transition :
    after (.modeTransition 1) (asked 4 (up 5)) (fun t => t.get Obj.modeStatus % 65536 == 0x0504 && t.get Obj.modeStatus / 2 ^ 24 == 2) = true := by
  decide +kernel

/-- R198, R200: the counter stands in two's complement of 48 bits, and SNAP_CURRENT latches it. -/
theorem test_snap_current :
    after (.snapCurrent 1 0) { running 6 with cur := { (running 6).cur with counter := 2 ^ 48 - 5 } } (fun t => t.get (Obj.coulombSnapshot + 1) == 2 ^ 48 - 5 && t.get (Obj.coulombSnapshot + 3) == 1) =
      true := by decide +kernel

/-- R132: an aperture starts two ticks after its entry. -/
theorem test_convert : after (.convert 1 7 1 false 0) (running 6) (fun t => t.cells.apertures.map (fun x => (x.mask, x.osr)) == [(7, 1)]) =
    true := by decide +kernel

/-- R239: at a plan's start every switch is held; a release takes its cells only. -/
theorem test_bal_release : after (.balRelease 1 6) (running 6) (fun t => t.plan.held == 0xFFFFF9) = true := by decide +kernel

/-- A checker of WIDTH 4, STEP 1 and WINDOW 2 that has its baseline. -/
def aliveAt (result : Nat) : State :=
  let s := (up 6).setAll [(Obj.aliveConfig, 0x10204), (Obj.aliveResult, result)]
  { s with check := { s.check with baseline := false } }

/-- The worked example below R452: WIDTH 4, STEP 1, WINDOW 2 and LAST Eh; 1h is OK, and 6h after it JUMP. -/
theorem test_alive_ok :
    after (.aliveInput 1 host0 1) (aliveAt 0xE0001)
      (fun t => t.get Obj.aliveResult == 0x10001 && t.get (Obj.aliveCounts + 1) == 1) = true := by decide +kernel
theorem test_alive_jump :
    after (.aliveInput 1 host0 6) (aliveAt 0x10001)
      (fun t => t.get Obj.aliveResult == 0x60003 && t.get (Obj.aliveCounts + 3) == 1) = true := by decide +kernel

/-- R450: the first row of the check values, through the engine. -/
theorem test_crc_data :
    after (.crcData 1 host0 [0x31, 0x32, 0x33, 0x34, 0x35, 0x36, 0x37, 0x38, 0x39])
      { up 6 with check := { (up 6).check with
        crcStarted := true, crcReg := 0xFFFFFFFF, crcConfig := 0x30020, crcPoly := 0x1EDC6F41, crcXorOut := 0xFFFFFFFF } }
      (fun t => t.get Obj.crcResult == 0xE3069283 && t.get Obj.crcByteCount == 9) = true := by decide +kernel

/-- R405: the trip of cell 3 stands in its bit, the permit drops, and nFAULT is low. -/
theorem test_mirror_trip :
    after (.mirrorTrip 1 3 ⟨true, [(.beyond, 10000)]⟩) (up 6) (fun t => t.get Obj.mirrorOvTripped == 4 && !t.mirPermit && t.nFault && t.modeCode == 11) = true := by
  decide +kernel

/-- R404: a run of samples one short of the limit trips nothing. -/
theorem test_mirror_deglitch :
    after (.mirrorTrip 1 3 ⟨true, [(.beyond, (up 6).mirrorLimit - 1)]⟩) (up 6) (fun t => t.get Obj.mirrorOvTripped == 0 && t.modeCode == 6) = true := by
  decide +kernel

/-- FIPS 180-4: the digest of the message "abc". -/
theorem test_sha256 :
    sha256 [0x61, 0x62, 0x63] =
      [0xBA, 0x78, 0x16, 0xBF, 0x8F, 0x01, 0xCF, 0xEA, 0x41, 0x41, 0x40, 0xDE, 0x5D, 0xAE, 0x22, 0x23, 0xB0, 0x03, 0x61, 0xA3, 0x96,
        0x17, 0x7A, 0x9C, 0xB4, 0x10, 0xFF, 0x61, 0xF2, 0x00, 0x15, 0xAD] := by decide +kernel

/-- The pair from node 2 to node 3 below R367: 3028.0 ns with TURNAROUND 3000.0 ns read 28. -/
theorem test_link_delay :
    after (.delayResp 1 (fromHead .north 6 1 0 3 ([18, 4, 0, 0] ++ leBytes 4 6000)) 6056) measuring (fun t => t.get (Obj.linkDelay + 1) == 28) = true := by decide +kernel

/-- R110: ring time counts the ticks, modulo 2^48. -/
theorem test_ring_time_wraps :
    after (.cenClose 3) { up 6 with ringTime := 2 ^ 48 - 1 } (fun t => t.ringTime == 2) = true := by decide +kernel

/-- R122: a LOCKED node without its copy is in HOLDOVER, state 3. -/
theorem test_mark_silence : after (.markSilence 1) (inTime 2 (up 6)) (fun t => t.get Obj.ringTimeStatus % 8 == 3) = true := by decide +kernel

/-- R460: at the end of its quiet period a source clears, and its recovery counts. -/
theorem test_quiet_period_end :
    after (.quietPeriodEnd 1 0x21) at_FaultRecoveryRuns_2 (fun t => !t.faultOn 0x21 && t.get (faultObj Obj.faultRecoveryCount 0x21) == 1) = true := by
  decide +kernel

/-- R455: 17h under its default severity opens nothing; R76: the comparator shows in SupplyStatus. -/
theorem test_supply_undervoltage :
    after (.supplyUndervoltage 1) (up 6) (fun t => t.faultOn 0x17 && bit (t.get Obj.supplyStatus) 0) = true := by decide +kernel

/-- R330: the session ends with END 04h once both gates are low. -/
theorem test_stop_sequence :
    after (.stopSequenceComplete 1) { inSession 8 4 with xfer := { (inSession 8 4).xfer with stop := some (4, 0) } }
      (fun t => t.get Obj.xferStatus / 2 ^ 24 == 4 && t.get Obj.xferStatus % 16 == 0) = true := by decide +kernel

/-- R231: the power phase starts the search, and the bus runs. -/
theorem test_facet_power_phase : after (.facetPowerPhaseEnd 1) facetOn (fun t => t.get Obj.facetStatus % 8 == 5) = true := by decide +kernel

/-- R109: at power-on the mode code is 00h, ring time is 0 and no client has a session. -/
theorem test_power_on :
    after (.powerOnReset 1 ⟨0x0F, 0x0F⟩ true false false) State.reset (fun t => t.modeCode == 0 && t.ringTime == 0 && t.port.sessions == []) =
      true := by decide +kernel

/-- An empty queue idles for one tick. -/
theorem test_idle : (stepped State.reset).map (·.clk) = some (State.reset.clk + 1) := by decide +kernel

/-- R341: K28.5 at negative running disparity is 0011111010, bit a first; R379: the fault idle is the pair K28.5 D10.2. -/
theorem test_idle_characters :
    (tenBit false (.idle false)).1 = chips [0, 0, 1, 1, 1, 1, 1, 0, 1, 0] ∧
      ((tenBit false (.idle true)).1.take 10, (tenBit false (.idle true)).1.length) = ((tenBit false (.idle false)).1, 20) := by decide +kernel

/-- R340, R342: at G1 a frame is SD, its bits with the least significant first, and ED; a 1 is low then high. -/
theorem test_line_of_a_byte :
    wire 1 false (frameSyms 1 [1, 256]) =
      chips ([1, 1, 1, 0, 0, 0] ++ [0, 1] ++ [1, 0, 1, 0, 1, 0, 1, 0, 1, 0, 1, 0, 1, 0] ++ [0, 0, 0, 1, 1, 1]) := by decide +kernel

/-- R375: a RESULT frame holds a lane for 535 us at G1, 85.6 us at G2 and 21.6 us at G3; a SAFETY frame for 87 us at G1; in ticks, rounded up. -/
theorem test_frame_times :
    [1, 2, 3].map (frameTime · (List.replicate 132 0 ++ [256])) = [8560, 1370, 346] ∧
      frameTime 1 (List.replicate 20 0 ++ [256]) = 1392 := by decide +kernel
end Sys2Proof.Tests
end

section
namespace Sys2Proof.Machine

/-! What the shared actions leave of the transmit pairs, the sessions and CEN. -/

/-- What no shared action touches, whatever slices run: what stands on the transmit pairs, the sessions of the host port, and CEN. -/
structure Apart (s t : State) : Prop where
  north : t.ring.north = s.ring.north
  south : t.ring.south = s.ring.south
  lineN : t.ring.lineN = s.ring.lineN
  lineS : t.ring.lineS = s.ring.lineS
  sessions : t.port.sessions = s.port.sessions
  cen : t.safe.cenOn = s.safe.cenOn

theorem Apart.refl (s : State) : Apart s s := ⟨rfl, rfl, rfl, rfl, rfl, rfl⟩

theorem Apart.trans {s t u : State} (h : Apart s t) (g : Apart t u) : Apart s u :=
  ⟨g.north.trans h.north, g.south.trans h.south, g.lineN.trans h.lineN, g.lineS.trans h.lineS, g.sessions.trans h.sessions, g.cen.trans h.cen⟩

/-- A record update that leaves the three blocks. -/
theorem Apart.of_eq {s t : State} (hr : t.ring = s.ring) (hp : t.port = s.port) (hs : t.safe.cenOn = s.safe.cenOn) : Apart s t :=
  ⟨by rw [hr], by rw [hr], by rw [hr], by rw [hr], by rw [hp], hs⟩

/-- An update of the other blocks. -/
theorem Apart.after {s t : State} (h : Apart s t) {pending clk ringTime freeCtr objs latest staged notifyQ mode time cells cur aux facet plan bal
    loupe xfer flt check test nvm} : Apart s ⟨pending, clk, ringTime, freeCtr, objs, latest, staged, notifyQ, t.port, mode, time, cells, cur,
      aux, facet, plan, bal, loupe, xfer, t.ring, t.safe, flt, check, test, nvm⟩ :=
  ⟨h.north, h.south, h.lineN, h.lineS, h.sessions, h.cen⟩

/-- As before, with an update of the safety block that leaves CEN. -/
theorem Apart.afterSafe {s t : State} (h : Apart s t) {pending clk ringTime freeCtr objs latest staged notifyQ mode time cells cur aux facet plan
    bal loupe xfer flt check test nvm x} (hx : x.cenOn = t.safe.cenOn := by rfl) : Apart s ⟨pending, clk, ringTime, freeCtr, objs, latest, staged, notifyQ,
      t.port, mode, time, cells, cur, aux, facet, plan, bal, loupe, xfer, t.ring, x, flt, check, test, nvm⟩ :=
  ⟨h.north, h.south, h.lineN, h.lineS, h.sessions, hx.trans h.cen⟩

theorem Apart.set (s : State) (k v : Nat) : Apart s (s.set k v) := .of_eq rfl rfl rfl

theorem Apart.ite {s t u : State} {p : Prop} [Decidable p] (h : Apart s t) (g : Apart s u) : Apart s (if p then t else u) := by
  split_ifs
  · exact h
  · exact g

theorem Apart.foldl {α : Type} {f : State → α → State} {s t : State} {l : List α} (h : Apart s t) (hf : ∀ s x, Apart s (f s x)) :
    Apart s (l.foldl f t) := by
  induction l generalizing t with
  | nil => exact h
  | cons x l ih => exact ih (h.trans (hf t x))

theorem leaveExcite_apart (s : State) : Apart s (leaveExcite s) := .ite (.set _ _ _) (.refl s)

theorem stopChop_apart (s : State) : Apart s (stopChop s) := .of_eq rfl rfl rfl

theorem stopExcitation_apart (s : State) : Apart s (stopExcitation s) :=
  (Apart.refl s).after.trans ((stopChop_apart _).trans (leaveExcite_apart _))

theorem restStage_apart (s : State) : Apart s (restStage s) := .ite (.of_eq rfl rfl rfl) (.refl s)

theorem closeOutputs_apart (s : State) : Apart s (closeOutputs s) :=
  ((stopExcitation_apart s).trans (restStage_apart _)).after

theorem setChannel_apart (n c : Nat) (s : State) : Apart s (setChannel n c s) := .ite (.set _ _ _) (.of_eq rfl rfl rfl)

theorem setSp_apart (k : Nat) (e : SpareEng) (s : State) : Apart s (s.setSp k e) := .ite (.of_eq rfl rfl rfl) (.of_eq rfl rfl rfl)

theorem armSpare_apart (k n : Nat) (c : Bool) (s : State) : Apart s (armSpare k n c s) := (Apart.set s _ _).trans (setSp_apart _ _ _)

theorem freeSpare_apart (k : Nat) (s : State) : Apart s (freeSpare k s) := (Apart.set s _ _).trans (setSp_apart _ _ _)

/-- The controller of the NVM concerns nothing but the NVM (R495). -/
theorem startNext_eq (s : State) : startNext s = { s with nvm := (startNext s).nvm } := by
  unfold startNext State.setLog
  dsimp only
  repeat' split
  all_goals rfl

theorem requestOp_eq (o : NvmOp) (s : State) : requestOp o s = { s with nvm := (requestOp o s).nvm } := startNext_eq _

theorem storeState_eq (k : Nat) (s : State) : storeState k s = { s with nvm := (storeState k s).nvm } := by
  unfold storeState
  dsimp only
  split_ifs
  · exact requestOp_eq _ s
  · rfl

theorem keep_eq (k v : Nat) (s : State) : s.keep k v = { s.set k v with nvm := (s.keep k v).nvm } := storeState_eq k _

theorem keep_apart (k v : Nat) (s : State) : Apart s (s.keep k v) := keep_eq k v s ▸ .of_eq rfl rfl rfl

theorem coverHere_apart (k n : Nat) (s : State) : Apart s (coverHere k n s) := by
  unfold coverHere
  dsimp only
  refine .after (.trans ?_ (setSp_apart _ _ _))
  exact ((Apart.set s _ _).trans (setChannel_apart _ _ _)).trans (keep_apart _ _ _)

theorem handBack_apart (k : Nat) (s : State) : Apart s (handBack k s) := by
  unfold handBack
  dsimp only
  split_ifs
  · exact .refl s
  · exact coverHere_apart _ _ _
  · exact (armSpare_apart _ _ _ _).trans (setSp_apart _ _ _)
  · exact setSp_apart _ _ _


theorem sliceRelease_apart (x : Slice) (s : State) : Apart s (sliceRelease x s) := by
  unfold sliceRelease
  refine .trans ?_ (.ite (handBack_apart _ _) (.refl _))
  refine .trans ?_ (.ite (.afterSafe (.refl _)) (.refl _))
  exact .ite (.after (.after (.refl s))) (.refl s)

theorem sliceResult_apart (k n r : Nat) (b : Bool) (s : State) : Apart s (sliceResult k n r b s) := by
  unfold sliceResult
  refine .trans ?_ (.ite (.set _ _ _) (.ite (.set _ _ _) (.refl _)))
  exact .ite (.trans (.set _ _ _) (.set _ _ _)) (.set _ _ _)

theorem abortSlices_apart (p : Slice → Bool) (s : State) : Apart s (abortSlices p s) :=
  .foldl (.after (.refl s)) (fun t x => .trans (.ite (.refl t) (sliceResult_apart _ _ _ _ t)) (sliceRelease_apart x _))

theorem retireChannel_apart (n : Nat) (s : State) : Apart s (retireChannel n s) := by
  unfold retireChannel
  dsimp only
  split
  · exact .after (.trans (.foldl (.after (.refl s)) (fun t x => sliceResult_apart _ _ _ _ t)) (setSp_apart _ _ _))
  · split
    · exact .after (.trans (abortSlices_apart _ s) (armSpare_apart _ _ _ _))
    · exact .after (setSp_apart _ _ s)
    · exact .trans (.after (.refl s)) (setChannel_apart _ _ _)

theorem coverAgain_apart (l : List Nat) (s : State) : Apart s (coverAgain l s) :=
  .ite (.refl s) (.foldl (.refl s) (fun t _ => .ite (retireChannel_apart _ t) (.refl t)))

theorem restoreCovers_apart (s : State) : Apart s (restoreCovers s) := coverAgain_apart [0] s

theorem releaseSpare_apart (k n : Nat) (s : State) : Apart s (releaseSpare k n s) :=
  .ite (armSpare_apart _ _ _ _) ((freeSpare_apart _ _).trans (setSp_apart _ _ _))

theorem applyCellCount_apart (s : State) : Apart s (applyCellCount s) := by
  unfold applyCellCount
  refine .trans ?_ (restoreCovers_apart _)
  refine .after (.foldl (.foldl (.afterSafe (.refl s)) ?_) ?_)
  · exact fun t k => .ite (releaseSpare_apart _ _ t) (.refl t)
  · exact fun t i => (setChannel_apart _ _ t).trans (.set _ _ _)

theorem mirrorCodes_apart (s : State) : Apart s (mirrorCodes s) :=
  .afterSafe (.trans (.set s _ _) (.set _ _ _))

theorem recordAt_apart (n : Nat) (s : State) : Apart s (recordAt n s) := .afterSafe (.refl s)

theorem outputsClosed_apart (s : State) : Apart s (closeOutputs (abortSlices (fun _ => true) (newWindow s))) :=
  .trans (.trans (.after (.refl s)) (abortSlices_apart _ _)) (closeOutputs_apart _)

theorem startRom_apart (s : State) : Apart s (startRom s) := by
  refine .after (.trans (.trans (.trans (.trans ?_ (.set _ _ _)) (.set _ _ _)) (.set _ _ _)) (recordAt_apart 1 _))
  exact .trans (.trans (outputsClosed_apart s) (applyCellCount_apart _)) (mirrorCodes_apart _)

theorem haltPlan_apart (s : State) : Apart s (haltPlan s) := .after (.trans (outputsClosed_apart s) (recordAt_apart 0 _))

theorem planForMode_apart (m : Nat) (s : State) : Apart s (planForMode m s) := by
  unfold planForMode
  have hr : Apart s (if s.plan.running = RunningPlan.none then startRom s else s) := .ite (startRom_apart s) (.refl s)
  refine .ite (.ite (.refl s) ?_) (.ite (haltPlan_apart s) (.ite (.after (.refl s)) (startRom_apart s)))
  exact .ite (.after hr) (.ite (.after hr) hr)

theorem event_apart (a b : Nat) (s : State) : Apart s (event a b s) := by
  have hp : ∀ a b c d u, Apart u (portEvent a b c d u) := fun a b c d u =>
    .ite (.refl u) (.ite ⟨rfl, rfl, rfl, rfl, rfl, rfl⟩ ⟨rfl, rfl, rfl, rfl, rfl, rfl⟩)
  have hr : ∀ a b u, Apart u (ringEvent a b u) := fun a b u =>
    .ite (.refl u) (.ite ⟨rfl, rfl, rfl, rfl, rfl, rfl⟩ ⟨rfl, rfl, rfl, rfl, rfl, rfl⟩)
  exact (hp _ _ _ _ s).trans (hr _ _ _)

theorem notify_apart (s : State) : Apart s (notify s) := .ite (.after (.refl s)) (.ite (.after (.refl s)) (.set _ _ _))

theorem loupeFinish_apart (p : LoupePoint) (c : Nat) (s : State) : Apart s (loupeFinish p c s) := by
  have h : Apart s ((s.set (Obj.loupePointStatus + p.point + 1) (c * 2 ^ 28 + p.samples.length % 2 ^ 24)).setBitOf
    Obj.loupeSessionStatus p.point true) := .trans (.set _ _ _) (.set _ _ _)
  exact .ite h (.foldl h (fun t i => .trans (.set t _ _) (.set _ _ _)))

theorem loupeEndPoint_apart (c : Nat) (s : State) : Apart s (loupeEndPoint c s) := by
  unfold loupeEndPoint
  split
  · exact .refl s
  · exact .trans (.after (.trans (loupeFinish_apart _ c s) (leaveExcite_apart _))) (stopChop_apart _)

theorem stageEnds_apart (s : State) : Apart s (stageEnds s) := .ite (.after (.set s _ _)) (.refl s)

theorem endLoupe_apart (s : State) : Apart s (endLoupe s) :=
  .ite (.refl s) (.after (.trans (.trans (loupeEndPoint_apart 2 s) (.set _ _ _)) (stageEnds_apart _)))

theorem alsoEnds_apart (n : Nat) (s : State) : Apart s (alsoEnds n s) := by
  unfold alsoEnds
  split
  · exact .ite (.after (.refl s)) (.refl s)
  · exact .refl s

theorem dwellFollow_apart (s : State) : Apart s (dwellFollow s) := .after (.set s _ _)

theorem endTransfer_apart (n : Nat) (s : State) : Apart s (endTransfer n s) := by
  refine .ite (alsoEnds_apart n s) (.trans (.after ?_) (dwellFollow_apart _))
  exact .trans (.trans (.trans (.set s _ _) (.set _ _ _)) (.set _ _ _)) (.set _ _ _)

theorem selftestEnds_apart (s : State) : Apart s (selftestEnds s) :=
  .ite (.after (.trans (abortSlices_apart _ s) (.set _ _ _))) (.refl s)

theorem changeMode_apart (m c : Nat) (s : State) : Apart s (changeMode m c s) := by
  unfold changeMode
  refine .trans (.trans (.after (.trans ?_ (abortSlices_apart _ _))) (planForMode_apart _ _)) (event_apart _ _ _)
  refine .trans (.trans ?_ (.ite (.after (.set _ _ _)) (.refl _))) (.ite (.trans (.after (.set _ _ _)) (.set _ _ _)) (.refl _))
  exact .trans (.trans (.trans (.trans (selftestEnds_apart s) (.set _ _ _)) (.set _ _ _)) (.set _ _ _)) (.set _ _ _)

theorem overtake_apart (s : State) : Apart s (overtake s) := by
  unfold overtake
  split
  · exact .refl s
  · exact .trans (.after (.refl s)) (.set _ _ _)

theorem enterSafe_apart (s : State) : Apart s (enterSafe s) := by
  refine .ite (.after ?_) (.refl s)
  exact .trans (.trans (.trans (endTransfer_apart 5 s) (endLoupe_apart _)) (changeMode_apart _ _ _)) (overtake_apart _)

theorem stageAuto_apart (a b : Nat) (s : State) : Apart s (stageAuto a b s) := by
  unfold stageAuto
  split
  · exact .ite (.refl s) (.after (.refl s))
  · exact .after (.refl s)

theorem faultLog_apart (c n : Nat) (s : State) : Apart s (faultLog c n s) := .after (.set s _ _)

theorem faultCollision_apart (c : Nat) (s : State) : Apart s (faultCollision c s) := .trans (.set s _ _) (faultLog_apart _ _ _)

theorem faultClear_apart (c : Nat) (b : Bool) (s : State) : Apart s (faultClear c b s) := by
  unfold faultClear
  have h : ∀ t, Apart s t → Apart s (if bit s.flt.warn c = true then event 2 c t else t) :=
    fun t h => .trans h (.ite (event_apart _ _ _) (.refl _))
  refine h _ (.trans (.after (faultLog_apart _ _ s)) (.ite (.set _ _ _) (.refl _)))

theorem faultOccur_apart (c : Nat) (s : State) : Apart s (faultOccur c s) := by
  unfold faultOccur
  extract_lets hit flt a b d lim latch sev flt' e f inWindow
  have hb : Apart s b := .trans (.after (.refl s)) (.ite (faultCollision_apart _ _) (.refl a))
  have hd : Apart s d := .trans hb (.ite (.trans (faultClear_apart _ _ _) (.set _ _ _)) (.refl b))
  have he : Apart s e := .trans (.after hd) (faultLog_apart _ _ _)
  have hf : Apart s f := .trans (.trans he (.ite (event_apart _ _ _) (.refl e))) (notify_apart _)
  exact .ite hb (.ite (.after (.trans hf (enterSafe_apart f))) (.ite (.trans hf (stageAuto_apart _ _ f)) hf))

theorem faultEnd_apart (c : Nat) (s : State) : Apart s (faultEnd c s) := .after (.refl s)

theorem faultPulse_apart (c : Nat) (s : State) : Apart s (faultPulse c s) := (faultOccur_apart c s).trans (faultEnd_apart _ _)

theorem faultFollow_apart (c : Nat) (b : Bool) (s : State) : Apart s (faultFollow c b s) :=
  .ite (.ite (.refl s) (faultOccur_apart c s)) (.ite (faultEnd_apart c s) (.refl s))

theorem margins_apart (s : State) : Apart s (margins s) := by
  have h : Apart s (s.setField Obj.marginStatus 0 40 (ofLe s.marginList)) := .set s _ _
  exact .ite (.trans h (faultFollow_apart _ _ _)) (.ite h (.trans (.trans h (.set _ _ _)) (faultOccur_apart _ _)))

theorem marginsFollow_apart (s : State) : Apart s (marginsFollow s) := .ite (.refl s) (margins_apart s)

/-! What a port sends. -/

/-- Only what stands on the transmit pairs and in the ports' buffers differs. -/
def LinesOnly (s t : State) : Prop :=
  t = { s with ring := { s.ring with north := t.ring.north, south := t.ring.south, lineN := t.ring.lineN, lineS := t.ring.lineS } }

theorem LinesOnly.refl (s : State) : LinesOnly s s := rfl

theorem LinesOnly.trans {s t u : State} (h : LinesOnly s t) (g : LinesOnly t u) : LinesOnly s u := by
  unfold LinesOnly at *
  rw [g, h]

theorem LinesOnly.keeps {s t : State} (h : LinesOnly s t) : Keeps [] [.ring] s t := by
  rw [h]
  exact ⟨fun _ _ => rfl, fun b hb => by cases b <;> simp_all [Block.same]⟩

theorem LinesOnly.seqs {s t : State} (h : LinesOnly s t) : t.ring.seqs = s.ring.seqs := by rw [h]

theorem LinesOnly.clk {s t : State} (h : LinesOnly s t) : t.clk = s.clk := by rw [h]

theorem setRingPort_linesOnly (p : Side) (x : RingPort) (s : State) : LinesOnly s (s.setRingPort p x) := by cases p <;> rfl

theorem setLine_linesOnly (p : Side) (n : Nat) (l : List Nat) (s : State) : LinesOnly s (setLine p n l s) := by cases p <;> rfl

@[simp] theorem ringPort_setRingPort_self (p : Side) (x : RingPort) (s : State) : (s.setRingPort p x).ringPort p = x := by cases p <;> rfl

@[simp] theorem line_setRingPort (p q : Side) (x : RingPort) (s : State) : (s.setRingPort p x).line q = s.line q := by
  cases p <;> cases q <;> rfl

@[simp] theorem line_setLine_self (p : Side) (n : Nat) (l : List Nat) (s : State) : (setLine p n l s).line p = l := by cases p <;> rfl

theorem setRingPort_ringPort (p : Side) (s : State) : s.setRingPort p (s.ringPort p) = s := by cases p <;> rfl

@[simp] theorem ringPort_setLine_self (p : Side) (n : Nat) (l : List Nat) (s : State) :
    (setLine p n l s).ringPort p = { s.ringPort p with sentAt := n, inset := none } := by cases p <;> rfl

@[simp] theorem setRingPort_clk (p : Side) (x : RingPort) (s : State) : (s.setRingPort p x).clk = s.clk := rfl
@[simp] theorem setLine_clk (p : Side) (n : Nat) (l : List Nat) (s : State) : (setLine p n l s).clk = s.clk := rfl

/-- What one port sends is as it was. -/
def PortSame (p : Side) (s t : State) : Prop := t.ringPort p = s.ringPort p ∧ t.line p = s.line p

theorem PortSame.trans {p : Side} {s t u : State} (h : PortSame p s t) (g : PortSame p t u) : PortSame p s u :=
  ⟨g.1.trans h.1, g.2.trans h.2⟩

theorem PortSame.sends {p : Side} {s t : State} {l : List Nat} (h : PortSame p s t) (g : s.sends p l) : t.sends p l := by
  unfold State.sends at *
  rw [h.1, h.2]
  exact g

theorem Apart.portSame {s t : State} (h : Apart s t) (p : Side) : PortSame p s t := by
  cases p
  · exact ⟨h.north, h.lineN⟩
  · exact ⟨h.south, h.lineS⟩

/-- A meaning of one port's sending: only the lines differ, and of those only the port's own. -/
structure AtPort (p : Side) (s t : State) : Prop where
  lines : LinesOnly s t
  other : PortSame (otherSide p) s t

theorem AtPort.refl (p : Side) (s : State) : AtPort p s s := ⟨.refl s, rfl, rfl⟩

theorem AtPort.trans {p : Side} {s t u : State} (h : AtPort p s t) (g : AtPort p t u) : AtPort p s u :=
  ⟨h.lines.trans g.lines, h.other.trans g.other⟩

theorem AtPort.setRingPort {p : Side} {s t : State} (h : AtPort p s t) (x : RingPort) : AtPort p s (t.setRingPort p x) :=
  h.trans ⟨setRingPort_linesOnly p x t, by cases p <;> exact ⟨rfl, rfl⟩⟩

theorem AtPort.setLine {p : Side} {s t : State} (h : AtPort p s t) (n : Nat) (l : List Nat) : AtPort p s (setLine p n l t) :=
  h.trans ⟨setLine_linesOnly p n l t, by cases p <;> exact ⟨rfl, rfl⟩⟩

theorem flushLine_atPort (p : Side) (s : State) : AtPort p s (flushLine p s) := by
  unfold flushLine
  have key : ∀ (l : List (Nat × List Nat)) (t : State), AtPort p s t → AtPort p s (l.foldl (fun t h => setLine p h.1 h.2 t) t) := by
    intro l
    induction l with
    | nil => exact fun t h => h
    | cons x l ih => exact fun t h => ih _ (h.setLine x.1 x.2)
  exact key _ _ ((AtPort.refl p s).setRingPort _)

theorem holdLine_atPort (p : Side) (l : List Nat) (s : State) : AtPort p s (holdLine p l s) := (AtPort.refl p s).setRingPort _

theorem ownLine_atPort (p : Side) (l : List Nat) (s : State) : AtPort p s (ownLine p l s) := by
  have h := flushLine_atPort p s
  unfold ownLine
  dsimp only
  split_ifs
  · exact h.trans (holdLine_atPort p l _)
  · exact (h.setLine _ _).setRingPort _

theorem markLine_atPort (p : Side) (n : Nat) (l : List Nat) (s : State) : AtPort p s (markLine p n l s) := by
  have h := flushLine_atPort p s
  unfold markLine
  dsimp only
  split_ifs
  · exact (h.setLine _ _).setRingPort _
  · exact (h.setRingPort _).setRingPort _
  · exact h.setRingPort _

/-- A port has more to send, and nothing that it holds is due yet. -/
def Sending (p : Side) (s : State) : Prop := s.clk < (s.ringPort p).till ∧ ∀ h ∈ (s.ringPort p).held, s.clk < h.1

theorem flushLine_held (p : Side) (s : State) : ∀ h ∈ ((flushLine p s).ringPort p).held, s.clk < h.1 := by
  have key : ∀ (l : List (Nat × List Nat)) (t : State), ((l.foldl (fun t h => setLine p h.1 h.2 t) t).ringPort p).held = (t.ringPort p).held := by
    intro l
    induction l with
    | nil => exact fun t => rfl
    | cons x l ih => exact fun t => (ih _).trans (by simp)
  intro h hh
  unfold flushLine at hh
  rw [key] at hh
  rw [ringPort_setRingPort_self] at hh
  simpa using (List.mem_filter.mp hh).2

theorem flushLine_sending {p : Side} {s : State} (h : Sending p s) : flushLine p s = s := by
  have h1 : (s.ringPort p).held.filter (fun x => x.1 ≤ s.clk) = [] :=
    List.filter_eq_nil_iff.mpr (fun x hx => by have := h.2 x hx; simp; omega)
  have h2 : (s.ringPort p).held.filter (fun x => s.clk < x.1) = (s.ringPort p).held :=
    List.filter_eq_self.mpr (fun x hx => by simpa using h.2 x hx)
  unfold flushLine
  dsimp only
  rw [h1, h2]
  exact setRingPort_ringPort p s

/-- A MARK leaves by the port: on the pair, within the frame that it preempts, or behind it (R348). -/
theorem markLine_sends (p : Side) (n : Nat) (l : List Nat) (s : State) : (markLine p n l s).sends p l := by
  unfold markLine State.sends
  dsimp only
  split_ifs
  · exact .inl (by simp)
  · exact .inr (.inl ⟨_, _, by rw [ringPort_setRingPort_self, ringPort_setRingPort_self]⟩)
  · exact .inr (.inr ⟨_, by rw [ringPort_setRingPort_self]; exact List.mem_cons_self⟩)

theorem markLine_sending (p : Side) {n : Nat} (l : List Nat) {s : State} (h : s.clk < n) : Sending p (markLine p n l s) := by
  have hh := flushLine_held p s
  have hc := (flushLine_atPort p s).lines.clk
  have later : ∀ d : Nat, ∀ x ∈ ((flushLine p s).ringPort p).held.map (fun h => (h.1 + d, h.2)), s.clk < x.1 := by
    intro d x hx
    obtain ⟨y, hy, rfl⟩ := List.mem_map.mp hx
    have := hh y hy
    show s.clk < y.1 + d
    omega
  unfold markLine Sending
  dsimp only
  split_ifs with h1 h2
  · simp only [ringPort_setRingPort_self, ringPort_setLine_self, setRingPort_clk, setLine_clk, hc]
    exact ⟨by omega, hh⟩
  · simp only [ringPort_setRingPort_self, setRingPort_clk, hc]
    exact ⟨by omega, later _⟩
  · simp only [ringPort_setRingPort_self, setRingPort_clk, hc, List.mem_cons]
    refine ⟨by omega, ?_⟩
    rintro x (rfl | hx)
    · show s.clk < (flushLine p s).lineEnd p
      omega
    · exact later _ x hx

/-- A frame of the node's own that comes while a port is sending waits behind what it sends (R347). -/
theorem ownLine_sends {p : Side} {s : State} {l : List Nat} (m : List Nat) (h : Sending p s) (g : s.sends p l) : (ownLine p m s).sends p l := by
  unfold ownLine
  dsimp only
  rw [flushLine_sending h, if_pos h.1]
  unfold State.sends holdLine at *
  rcases g with g | ⟨n, sd, g⟩ | ⟨n, g⟩
  · exact .inl (by simpa using g)
  · exact .inr (.inl ⟨n, sd, by simpa using g⟩)
  · exact .inr (.inr ⟨n, by simp [g]⟩)

/-! The head's MARK. -/

theorem leads_of {i : Instr} {dt : Nat} {s : State} {post : State → State → Prop} {eff : State → State} (hw : Instr.wf i = true)
    (he : exec i s = run (Instr.wf i) dt eff s) (hp : post (s.found dt) (settle (eff (s.found dt)))) : Leads i dt s post :=
  ⟨settle (eff (s.found dt)), by rw [he, hw]; rfl, hp⟩

/-- A command whose effect is none. -/
theorem completes_idle {i : Instr} {dt : Nat} {s : State} {eff : State → State} (hw : Instr.wf i = true)
    (he : exec i s = run (Instr.wf i) dt eff s) (hid : eff (s.found dt) = s.found dt) : Completes i dt s [] [] (fun _ _ => True) :=
  completes_of hw he trivial (hid.symm ▸ Keeps.refl _ _ _)

theorem nextSeq_assocSet_self (l : List (Nat × Nat)) (k v : Nat) : (((assocSet l k v).find? (fun p => p.1 = k)).map (·.2)).getD 0 = v := by
  simp [assocSet]

theorem nextSeq_assocSet_ne (l : List (Nat × Nat)) {k j : Nat} (v : Nat) (h : j ≠ k) :
    (((assocSet l k v).find? (fun p => p.1 = j)).map (·.2)).getD 0 = ((l.find? (fun p => p.1 = j)).map (·.2)).getD 0 := by
  have hf : (l.filter (fun p => p.1 != k)).find? (fun p => p.1 = j) = l.find? (fun p => p.1 = j) := by
    rw [List.find?_filter]
    congr 1
    funext p
    by_cases hp : p.1 = j <;> simp [hp, h]
  simp [assocSet, Ne.symm h, hf]

/-- The settling numbers no frame but safety records. -/
theorem settle_nextSeq (s : State) {k : Nat} (h : k ≠ 4) : (settle s).nextSeq k = s.nextSeq k := by
  have hs : ∀ u t, (sendSafety u t).nextSeq k = t.nextSeq k := by
    intro u t
    unfold sendSafety
    split_ifs
    · rfl
    · exact nextSeq_assocSet_ne _ _ h
  have hp : ∀ t, (settlePermits t).nextSeq k = t.nextSeq k := by
    intro t
    have ho : (if (t.supPermit && t.mirPermit) = true then t else openCen t).nextSeq k = t.nextSeq k := by split_ifs <;> rfl
    have hu : ∀ (b : Bool) (x : State), (if b = true then sendSafety true x else x).nextSeq k = x.nextSeq k := by
      intro b x
      split_ifs
      · exact hs true x
      · rfl
    exact (hu _ _).trans ho
  have hr : ∀ t, (settleRecord t).nextSeq k = t.nextSeq k := by
    intro t
    unfold settleRecord
    split_ifs
    · rfl
    · exact hs false _
    · rfl
  exact (hp _).trans (hr _)

theorem settle_portSame (p : Side) (s : State) : PortSame p s (settle s) := by
  cases p <;> simp [PortSame, State.ringPort, State.line]

theorem sendOwn_atPort (p : Side) (type : Nat) (bs : List Nat) (s : State) : PortSame (otherSide p) s (sendOwn p type bs s) := by
  have hm := (markLine_atPort p (s.clk + 2) (bs ++ [256]) s).other
  have ho := (ownLine_atPort p (bs ++ [256]) s).other
  unfold sendOwn
  dsimp only
  split_ifs
  · exact ⟨rfl, rfl⟩
  · exact hm
  · exact ho

theorem sendOwn_keeps (p : Side) (type : Nat) (bs : List Nat) (s : State) :
    Keeps [Obj.txFrames + sideSub p, Obj.txDropped + sideSub p] [.ring] s (sendOwn p type bs s) := by
  have hm := (markLine_atPort p (s.clk + 2) (bs ++ [256]) s).lines.keeps
  have ho := (ownLine_atPort p (bs ++ [256]) s).lines.keeps
  replace hm := keeps_mono (js := [Obj.txFrames + sideSub p, Obj.txDropped + sideSub p]) (cs := [.ring]) hm (by simp) (by simp)
  replace ho := keeps_mono (js := [Obj.txFrames + sideSub p, Obj.txDropped + sideSub p]) (cs := [.ring]) ho (by simp) (by simp)
  unfold sendOwn
  refine keeps_ite _ (keeps_set _ _ _ (by simp)) ?_
  exact (keeps_ite _ hm ho).trans (keeps_set _ _ _ (by simp))

theorem sendOwn_seqs (p : Side) (type : Nat) (bs : List Nat) (s : State) : (sendOwn p type bs s).ring.seqs = s.ring.seqs := by
  have hm := (markLine_atPort p (s.clk + 2) (bs ++ [256]) s).lines.seqs
  have ho := (ownLine_atPort p (bs ++ [256]) s).lines.seqs
  unfold sendOwn
  dsimp only
  split_ifs
  · rfl
  · exact hm
  · exact ho

theorem passes_of_serving {s : State} {p : Side} (h : s.serving p = true) (type : Nat) : s.passes p type = true := by
  simp [State.passes, h]

/-- A MARK leaves by a port that serves, which then goes on sending (R348). -/
theorem sendOwn_mark {p : Side} {s : State} (bs : List Nat) (h : s.serving p = true) :
    (sendOwn p 3 bs s).sends p (bs ++ [256]) ∧ Sending p (sendOwn p 3 bs s) := by
  unfold sendOwn
  rw [passes_of_serving h]
  exact ⟨markLine_sends p _ _ s, markLine_sending p _ (Nat.lt_add_of_pos_right (by decide))⟩

/-- Another frame of the node's own leaves what a port sends in its place (R347). -/
theorem sendOwn_after {p : Side} {s : State} {l : List Nat} (bs : List Nat) {type : Nat} (h3 : type ≠ 3) (h : Sending p s) (g : s.sends p l) :
    (sendOwn p type bs s).sends p l := by
  unfold sendOwn
  rw [if_neg h3]
  split_ifs
  · exact g
  · exact ownLine_sends (bs ++ [256]) h g


/-- What TRACK_ADJUSTMENT can do (R130). -/
theorem trackAdjustment_cases (last : Bool) (s : State) :
    trackAdjustment last s = s ∨ ∃ x m, trackAdjustment last s = { s.set Obj.syncPhase x with time := m } := by
  unfold trackAdjustment
  dsimp only
  split_ifs
  · exact .inl rfl
  · split
    · exact .inl rfl
    · exact .inr ⟨_, _, rfl⟩

theorem trackAdjustment_keeps (last : Bool) (s : State) : Keeps [Obj.syncPhase] [.time] s (trackAdjustment last s) := by
  obtain h | ⟨x, m, h⟩ := trackAdjustment_cases last s <;> rw [h]
  · exact Keeps.refl _ _ _
  · exact (keeps_set _ s x (by simp)).trans ⟨fun _ _ => rfl, fun b hb => by cases b <;> simp_all [Block.same]⟩

/-- The payload of a MARK of the state (R113), whose START2 is given apart. -/
def markBody (start2 : Nat) (s : State) : List Nat :=
  leBytes 6 (wrap48 (s.ringTime + 2)) ++ [0, 0, 0, 0] ++ leBytes 4 s.cycle ++ leBytes 6 start2 ++ [s.runningId, 0, 0, 0]

/-- The bytes of a MARK of the state. -/
def markFrame (start2 : Nat) (s : State) : List Nat :=
  frameBytes (s.set Obj.ringEpoch s.markEpochNow) ⟨3, 0, 63, s.nextSeq 3, markBody start2 s, true, true⟩

/-- What the header of an own frame says of its sender. -/
theorem sender_congr {s v : State} (ha : v.get Obj.nodeAddress = s.get Obj.nodeAddress) (he : v.get Obj.ringEpoch = s.get Obj.ringEpoch)
    (hr : v.ring = s.ring) : v.sendEpoch = s.sendEpoch ∧ v.srcAddress = s.srcAddress := by
  have h1 : v.address = s.address := by rw [State.address, ha, State.address]
  have h2 : v.epoch = s.epoch := he
  have h3 : takenAddress v = takenAddress s := by rw [takenAddress, hr, takenAddress]
  exact ⟨by rw [State.sendEpoch, h1, h2, hr, State.sendEpoch], by rw [State.srcAddress, h1, h3, State.srcAddress]⟩

theorem markFrame_congr {s v : State} (start2 : Nat) (hg : ∀ k, k ≠ Obj.syncPhase → v.get k = s.get k) (hr : v.ring = s.ring)
    (hc : v.clk = s.clk) (ht : v.ringTime = s.ringTime) (hp : v.plan = s.plan) : markFrame start2 v = markFrame start2 s := by
  have hq : v.nextSeq 3 = s.nextSeq 3 := by simp only [State.nextSeq, hr]
  have hb : markBody start2 v = markBody start2 s := by
    simp only [markBody, State.cycle, State.runningId, State.active, ht, hp, hg Obj.cycleCount (by decide)]
  have he : v.markEpochNow = s.markEpochNow := by simp only [State.markEpochNow, State.epoch, hr, hc, hg Obj.ringEpoch (by decide)]
  have hs : ∀ x k, k ≠ Obj.syncPhase → (v.set Obj.ringEpoch x).get k = (s.set Obj.ringEpoch x).get k := by
    intro x k hk
    rw [State.get_set, State.get_set, hg k hk]
  obtain ⟨h1, h2⟩ := sender_congr (v := v.set Obj.ringEpoch s.markEpochNow) (s := s.set Obj.ringEpoch s.markEpochNow)
    (hs _ _ (by decide)) (hs _ _ (by decide)) hr
  simp only [markFrame, frameBytes, hb, hq, he, h1, h2]

theorem trackAdjustment_ring (last : Bool) (s : State) : (trackAdjustment last s).ring = s.ring := by
  obtain h | ⟨x, m, h⟩ := trackAdjustment_cases last s <;> rw [h]
  rfl

/-- An adjustment shows in START2 alone (R130). -/
theorem markFrame_trackAdjustment (last : Bool) (start2 : Nat) (s : State) :
    markFrame start2 (trackAdjustment last s) = markFrame start2 s := by
  have hk := trackAdjustment_keeps last s
  exact markFrame_congr start2 (fun k h => hk.1 k (by simpa using h)) (trackAdjustment_ring last s) (hk.2 .clk (by decide))
    (hk.2 .ringTime (by decide)) (hk.2 .plan (by decide))

/-- A MARK leaves both ports, and is numbered (R113, R348). -/
def sendMark (bs : List Nat) (s : State) : State :=
  let u := sendOwn .north 3 bs (sendOwn .south 3 bs s)
  { u with ring := { u.ring with seqs := assocSet u.ring.seqs 3 ((s.nextSeq 3 + 1) % 256) } }

theorem effMark_eq {s : State} (last : Bool) (h1 : s.on .rng = true) (h2 : s.marks = true) (h3 : s.planRuns = true) :
    effMark last s = sendLegacy (sendMark (markFrame (markStart2 (trackAdjustment last s)) (trackAdjustment last s)) (trackAdjustment last s)) := by
  unfold effMark
  simp only [h1, h2, h3, Bool.not_true, Bool.or_self, Bool.false_eq_true, if_false]
  rfl

/-- The objects that count what the ports send. -/
abbrev sentObjects : List Nat := [Obj.txFrames + 1, Obj.txFrames + 2, Obj.txDropped + 1, Obj.txDropped + 2]

theorem sendOwn_counts (p : Side) (type : Nat) (bs : List Nat) (s : State) : Keeps sentObjects [.ring] s (sendOwn p type bs s) :=
  keeps_mono (sendOwn_keeps p type bs s) (by cases p <;> simp [sideSub]) (by simp)

theorem ringUpdate_keeps (ks : List Nat) (s : State) (r : RingEng) : Keeps ks [.ring] s { s with ring := r } :=
  ⟨fun _ _ => rfl, fun b hb => by cases b <;> simp_all [Block.same]⟩

theorem sendMark_keeps (bs : List Nat) (s : State) : Keeps sentObjects [.ring] s (sendMark bs s) :=
  ((sendOwn_counts _ _ _ s).trans (sendOwn_counts _ _ _ _)).trans (ringUpdate_keeps _ _ _)

theorem sendLegacy_keeps (s : State) : Keeps sentObjects [.ring] s (sendLegacy s) := by
  unfold sendLegacy
  split
  · exact Keeps.refl _ _ _
  · exact (sendOwn_counts _ _ _ s).trans (ringUpdate_keeps _ _ _)

theorem sendMark_nextSeq (bs : List Nat) (s : State) : (sendMark bs s).nextSeq 3 = (s.nextSeq 3 + 1) % 256 := nextSeq_assocSet_self _ _ _

theorem sendLegacy_nextSeq (s : State) (k : Nat) : (sendLegacy s).nextSeq k = s.nextSeq k := by
  unfold sendLegacy
  split
  · rfl
  · exact congrArg (fun l : List (Nat × Nat) => ((l.find? (fun p => p.1 = k)).map (·.2)).getD 0) (sendOwn_seqs _ _ _ s)

theorem serving_congr {s t : State} (h : t.get Obj.laneService = s.get Obj.laneService) (p : Side) : t.serving p = s.serving p := by
  simp only [State.serving, h]

/-- The MARK leaves by each port that serves, a family frame behind it (R113, R372). -/
theorem sendMark_sends {s : State} (bs : List Nat) {p : Side} (h : s.serving p = true) :
    (sendLegacy (sendMark bs s)).sends p (bs ++ [256]) := by
  have hn : (sendOwn .south 3 bs s).serving .north = s.serving .north :=
    serving_congr ((sendOwn_keeps .south 3 bs s).1 _ (by decide)) .north
  have legacy : ∀ b t, PortSame .north t (sendOwn .south 9 b t) := fun b t => sendOwn_atPort .south 9 b t
  cases p with
  | north =>
    have hm := (sendOwn_mark bs (hn.trans h)).1
    unfold sendLegacy
    split
    · exact hm
    · exact (legacy _ (sendMark bs s)).sends hm
  | south =>
    have hs := sendOwn_mark bs h
    have hp : PortSame .south (sendOwn .south 3 bs s) (sendMark bs s) := sendOwn_atPort .north 3 bs _
    have hm : (sendMark bs s).sends .south (bs ++ [256]) := hp.sends hs.1
    have hc : (sendMark bs s).clk = (sendOwn .south 3 bs s).clk := (sendOwn_keeps .north 3 bs _).2 .clk (by decide)
    have hb : Sending .south (sendMark bs s) := by
      unfold Sending
      rw [hp.1, hc]
      exact hs.2
    unfold sendLegacy
    split
    · exact hm
    · exact sendOwn_after _ (by decide) hb hm

theorem mark_runs (dt offset : Nat) (last : Bool) (s : State) (hw : Instr.wf (.mark dt offset last) = true) (h1 : (s.found dt).on .rng = true)
    (h2 : (s.found dt).marks = true) (h3 : (s.found dt).planRuns = true) :
    Completes (.mark dt offset last) dt s (sentObjects ++ [Obj.syncPhase]) [.ring, .time] (fun u t =>
      (∀ p, u.serving p = true → t.sends p (markFrame (markStart2 (trackAdjustment last u)) u ++ [256])) ∧
        t.nextSeq 3 = (u.nextSeq 3 + 1) % 256 ∧ t.time = (trackAdjustment last u).time) := by
  generalize hu : s.found dt = u at *
  have he := effMark_eq last h1 h2 h3
  rw [markFrame_trackAdjustment] at he
  set v := trackAdjustment last u
  set bs := markFrame (markStart2 v) u
  have hk : Keeps sentObjects [.ring] v (effMark last u) := he ▸ (sendMark_keeps bs v).trans (sendLegacy_keeps _)
  have hv : Keeps [Obj.syncPhase] [.time] u v := trackAdjustment_keeps last u
  refine completes_of hw rfl ?_ ?_
  · rw [hu]
    refine ⟨fun p hp => (settle_portSame p _).sends (he ▸ sendMark_sends bs ?_), ?_, ?_⟩
    · rw [serving_congr (hv.1 _ (by decide)) p]
      exact hp
    · rw [settle_nextSeq _ (by decide), he, sendLegacy_nextSeq, sendMark_nextSeq]
      simp only [State.nextSeq, v, trackAdjustment_ring]
    · rw [settle_time]
      exact hk.2 .time (by decide)
  · rw [hu]
    exact (keeps_mono hv (by simp) (by simp)).trans (keeps_mono hk (by simp) (by simp))

/-! A MARK copy on its way through the node. -/

theorem newerEpoch_self (e : Nat) : newerEpoch e e = false := by simp [newerEpoch]

theorem epochRules_current {bs : List Nat} {s : State} (h : newerEpoch (bs.getD 1 0) s.epoch = false) : epochRules bs s = s := by
  unfold epochRules
  dsimp only
  rw [h]
  simp

theorem ite_ne_of_ne {α : Type} {p : Prop} [Decidable p] {a b c : α} (ha : a ≠ c) (hb : b ≠ c) : (if p then a else b) ≠ c := by
  split_ifs
  · exact ha
  · exact hb

/-- A good frame has ended with ED (R345). -/
theorem ended_of_good {s : State} {f : RingFrame} (h : frameEnd s f = .good) : f.ended = true := by
  by_contra hn
  rw [Bool.not_eq_true] at hn
  refine absurd h ?_
  unfold frameEnd
  simp only [hn, Bool.false_eq_true, if_false, Bool.not_false, if_true]
  repeat' apply ite_ne_of_ne
  all_goals decide

/-- The frame as it is counted at its port and has gone on (R344). -/
def passed (f : RingFrame) (lag : Nat) (onward : List Nat) (s : State) : State :=
  forwardFrame (frameEnd s f) f lag onward (countFrame (frameEnd s f) f s)

theorem countFrame_mark {s : State} {f : RingFrame} {e : FrameEnd} (he : e = .good ∨ e = .circled) (h : f.ended = true) :
    countFrame e f s = s.wrap (Obj.rxFrames + sideSub f.side) 32 := by
  rcases he with rfl | rfl <;> simp [countFrame, h]

theorem sendLine_mark_keeps (p : Side) (lag : Nat) (cut : Option Nat) (l : List Nat) (s : State) :
    Keeps [Obj.txDropped + sideSub p] [.ring] s (sendLine p 3 lag cut l s) :=
  keeps_ite _ (keeps_set _ _ _ (by simp)) (keeps_mono (markLine_atPort p (s.clk + lag) l s).lines.keeps (by simp) (by simp))

theorem passed_keeps {s : State} {f : RingFrame} (lag : Nat) (onward : List Nat) (he : frameEnd s f = .good ∨ frameEnd s f = .circled)
    (h : f.ended = true) (ht : frameType f.bytes = 3) : Keeps (frameObjects f.side) [.ring] s (passed f lag onward s) := by
  unfold passed forwardFrame
  dsimp only
  rw [countFrame_mark he h, ht]
  refine (keeps_set _ s _ (by simp [frameObjects])).trans (keeps_ite _ (Keeps.refl _ _ _) ?_)
  exact keeps_mono (sendLine_mark_keeps _ _ _ _ _) (by simp [frameObjects]) (by simp)

/-- A good MARK that passes on leaves by the South port with what goes on of it (R344, R348). -/
theorem passed_sends {s : State} {f : RingFrame} (lag : Nat) (onward : List Nat) (he : frameEnd s f = .good) (ht : frameType f.bytes = 3)
    (hp : f.side = .north) (h : PassesOn s) : (passed f lag onward s).sends .south (regenerate onward ++ [256]) := by
  have hc : countFrame (frameEnd s f) f s = s.wrap (Obj.rxFrames + sideSub .north) 32 := by
    rw [countFrame_mark (.inl he) (ended_of_good he), hp]
  set c := s.wrap (Obj.rxFrames + sideSub .north) 32
  have hg : ∀ k, k ≠ Obj.rxFrames + 1 → c.get k = s.get k := fun k hk => State.get_wrap_ne s 32 hk
  have h1 : c.serving .south = true := (serving_congr (hg _ (by decide)) .south).trans h.1
  have h2 : c.linkGen .south = c.linkGen .north := by
    simp only [State.linkGen, hg (Obj.linkStatus + sideSub .south) (by decide), hg (Obj.linkStatus + sideSub .north) (by decide)]
    exact h.2
  unfold passed forwardFrame sendLine
  rw [hc, hp, he, ht]
  simp only [otherSide, h2, bne_self_eq_false, Bool.and_false, Bool.false_eq_true, if_false, passes_of_serving h1, Bool.not_true, if_true]
  exact markLine_sends .south _ _ c

theorem ringReceiveAt_good {s : State} {f : RingFrame} (lag : Nat) (onward : List Nat) (act own : State → State)
    (hr : s.receives f.side = true) (hg : frameEnd s f = .good) :
    ringReceiveAt f lag onward act own s = frameActivity f.bytes (act (epochRules f.bytes (passed f lag onward s))) := by
  unfold ringReceiveAt passed
  simp only [hr, hg, Bool.not_true, Bool.false_eq_true, if_false]

theorem ringReceiveAt_circled {s : State} {f : RingFrame} (lag : Nat) (onward : List Nat) (act own : State → State)
    (hr : s.receives f.side = true) (hg : frameEnd s f = .circled) (he : f.ended = true) (hc : frameChecks f.bytes = true) :
    ringReceiveAt f lag onward act own s = own (epochRules f.bytes (passed f lag onward s)) := by
  unfold ringReceiveAt passed
  simp only [hr, hg, he, hc, Bool.not_true, Bool.false_eq_true, if_false, Bool.and_self, if_true]

/-- The objects that the use of a frame reads are not those that its passing counts. -/
theorem passed_get {s : State} {f : RingFrame} {lag : Nat} {onward : List Nat} (h : Keeps (frameObjects f.side) [.ring] s (passed f lag onward s))
    {k : Nat} (hk : k ∈ [Obj.ringEpoch, Obj.nodeAddress, Obj.ringRole, Obj.ringTimeStatus, Obj.cycleStart, Obj.linkDelay + 1, Obj.linkDelay + 2]) :
    (passed f lag onward s).get k = s.get k := by
  refine h.1 k ?_
  revert hk k
  cases f.side <;> decide

/-- A copy that has passed finds the node as it was. -/
theorem passed_reads {s : State} {f : RingFrame} {lag : Nat} {onward : List Nat} (h : Keeps (frameObjects f.side) [.ring] s (passed f lag onward s)) :
    (passed f lag onward s).epoch = s.epoch ∧ (passed f lag onward s).address = s.address ∧ (passed f lag onward s).isHead = s.isHead ∧
      (passed f lag onward s).timeState = s.timeState ∧ (passed f lag onward s).laneCcw = s.laneCcw := by
  have g := fun k => passed_get (k := k) h
  refine ⟨g _ (by simp), ?_, ?_, ?_, ?_⟩
  · simp only [State.address, g Obj.nodeAddress (by simp)]
  · simp only [State.isHead, g Obj.ringRole (by simp)]
  · simp only [State.timeState, g Obj.ringTimeStatus (by simp)]
  · simp only [State.laneCcw, g Obj.ringTimeStatus (by simp)]

/-- A good MARK of the current epoch at a node that is not head is counted, passed on and used; and it is ring activity (R299, R344). -/
theorem effMarkCopy_good {s : State} {f : RingFrame} (residence sub : Nat) (h : GoodFrame s f 3) (hh : s.isHead = false)
    (hl : frameLen f.bytes = 24) :
    effMarkCopy f residence sub s = frameActivity f.bytes (useMark f.side (frameHops f.bytes + 1) (framePayload f.bytes) sub
      (passed f ((sub + residence) / 125) (onwardMark s f.side residence f.bytes) s)) := by
  obtain ⟨e1, e2, e3, -, -⟩ := passed_reads (passed_keeps ((sub + residence) / 125) (onwardMark s f.side residence f.bytes) (.inl h.good)
    (ended_of_good h.good) h.type)
  have hnew : newerEpoch (f.bytes.getD 1 0) s.epoch = false := by rw [h.epoch]; exact newerEpoch_self _
  unfold effMarkCopy
  rw [ringReceiveAt_good _ _ _ _ h.receives h.good, epochRules_current (by rw [e1]; exact hnew), hh, if_neg Bool.false_ne_true]
  set c := passed f ((sub + residence) / 125) (onwardMark s f.side residence f.bytes) s
  have hm : markEpoch f.bytes c = c := by
    unfold markEpoch
    rw [e1, hnew]
    simp
  have ha : actsOn f.bytes c = true := by
    unfold actsOn
    rw [e2, if_neg h.member, e1, h.epoch]
    exact beq_self_eq_true _
  unfold actMark
  simp only [h.type, hm, ha, e3, hh, hl, if_true]
  rfl

/-- The head's own MARK returns: it is counted, and the lane is noted (R345, R384). -/
theorem effMarkCopy_own {s : State} {f : RingFrame} (residence sub : Nat) (hr : s.receives f.side = true) (hg : frameEnd s f = .circled)
    (he : f.ended = true) (hc : frameChecks f.bytes = true) (ht : frameType f.bytes = 3) (hh : s.isHead = true)
    (hn : newerEpoch (f.bytes.getD 1 0) s.epoch = false) :
    effMarkCopy f residence sub s =
      noteMark f.side (passed f ((sub + residence) / 125) (onwardMark s f.side residence f.bytes) s) := by
  obtain ⟨e1, -, e3, -, -⟩ := passed_reads (passed_keeps ((sub + residence) / 125) (onwardMark s f.side residence f.bytes) (.inr hg) he ht)
  unfold effMarkCopy
  rw [ringReceiveAt_circled _ _ _ _ hr hg he hc, epochRules_current (by rw [e1]; exact hn)]
  unfold ownMark
  simp only [ht, e3, hh, decide_true, Bool.and_self, if_true]

theorem frameActivity_keeps (bs : List Nat) (s : State) : Keeps [] [.bal, .flt] s (frameActivity bs s) := by
  unfold frameActivity ringActivity faultEnd
  refine keeps_ite _ (keeps_ite _ ?_ ?_) (Keeps.refl _ _ _)
  all_goals exact ⟨fun _ _ => rfl, fun b hb => by cases b <;> simp_all [Block.same]⟩

theorem frameActivity_apart (bs : List Nat) (s : State) : Apart s (frameActivity bs s) :=
  .ite (.ite (.trans (.after (.refl s)) (faultEnd_apart _ _)) (.after (.refl s))) (.refl s)

theorem noteMark_keeps (p : Side) (s : State) : Keeps [] [.ring] s (noteMark p s) := by
  unfold noteMark
  exact ringUpdate_keeps _ _ _

theorem noteMark_marks (p : Side) (s : State) :
    (p = .north → (noteMark p s).ring.markCw = true) ∧ (p = .south → (noteMark p s).ring.markCcw = true) := by
  refine ⟨?_, ?_⟩ <;> rintro rfl <;> rfl

/-! What a node reads off a MARK copy is the same before and after the copy has passed. -/

theorem compensation_congr {s t : State} (hp : t.plan = s.plan) (ha : t.address = s.address) (p : Side) :
    compensation t p = compensation s p := by
  unfold compensation State.active
  rw [hp, ha]

/-- What places a copy in time: the objects and blocks that R114, R117 and R119 name. -/
structure SameClock (s t : State) : Prop where
  plan : t.plan = s.plan
  ringTime : t.ringTime = s.ringTime
  count : t.cells.count = s.cells.count
  address : t.address = s.address
  delay : ∀ p, t.get (Obj.linkDelay + sideSub p) = s.get (Obj.linkDelay + sideSub p)
  start : t.get Obj.cycleStart = s.get Obj.cycleStart
  state : t.timeState = s.timeState

theorem SameClock.markCorr {s t : State} (h : SameClock s t) (p : Side) (pl : List Nat) : markCorr t p pl = markCorr s p pl := by
  unfold Machine.markCorr
  rw [h.delay, compensation_congr h.plan h.address]

theorem SameClock.markTime {s t : State} (h : SameClock s t) (p : Side) (pl : List Nat) : markTime t p pl = markTime s p pl := by
  unfold Machine.markTime
  rw [h.markCorr]

theorem SameClock.phaseError {s t : State} (h : SameClock s t) (p : Side) (pl : List Nat) (sub : Nat) :
    phaseError t p pl sub = phaseError s p pl sub := by
  unfold Machine.phaseError
  rw [h.markTime, h.ringTime]

theorem SameClock.markInTime {s t : State} (h : SameClock s t) (origin : Nat) : t.markInTime origin = s.markInTime origin := by
  have hl : t.planLc = s.planLc := by unfold State.planLc State.active; rw [h.plan]
  have he : t.planEntries = s.planEntries := by unfold State.planEntries State.active State.cellCount; rw [h.plan, h.count]
  unfold State.markInTime State.markTick
  rw [h.ringTime, he, hl, h.start]

theorem SameClock.markAccepted {s t : State} (h : SameClock s t) (origin : Nat) (e : Int) : markAccepted t origin e = markAccepted s origin e := by
  unfold Machine.markAccepted
  rw [h.state, h.markInTime]

theorem passed_sameClock {s : State} {f : RingFrame} {lag : Nat} {onward : List Nat} (h : Keeps (frameObjects f.side) [.ring] s (passed f lag onward s)) :
    SameClock s (passed f lag onward s) :=
  have g := fun k => passed_get (k := k) h
  { plan := h.2 .plan (by decide)
    ringTime := h.2 .ringTime (by decide)
    count := (congrArg CellEng.count (h.2 .cells (by decide)).1 :)
    address := (passed_reads h).2.1
    delay := fun p => by cases p <;> exact g _ (by simp [sideSub])
    start := g _ (by simp)
    state := (passed_reads h).2.2.2.1 }

/-! The ring-time state. -/

theorem timeState_setField_above (s : State) (lo w x : Nat) (h : 3 ≤ lo) : (s.setField Obj.ringTimeStatus lo w x).timeState = s.timeState := by
  unfold State.timeState
  rw [State.get_setField_self, bits_setBits_below _ _ _ _ _ _ h]

theorem timeState_congr {s t : State} (h : t.get Obj.ringTimeStatus = s.get Obj.ringTimeStatus) : t.timeState = s.timeState := by
  simp only [State.timeState, h]

theorem setTimeState_keeps (c : Nat) (s : State) : Keeps [Obj.ringTimeStatus] [.cells] s (setTimeState c s) := by
  unfold setTimeState
  exact (keeps_set _ s _ (by simp)).trans ⟨fun _ _ => rfl, fun b hb => by cases b <;> simp_all [Block.same]⟩

theorem setTimeState_timeState (c : Nat) (s : State) : (setTimeState c s).timeState = c % 8 := by
  show bits ((s.setField Obj.ringTimeStatus 0 3 c).get Obj.ringTimeStatus) 0 3 = c % 8
  rw [State.get_setField_self]
  exact bits_setBits _ 0 3 c

theorem timeUpdate_keeps (ks : List Nat) (s : State) (m : TimeEng) : Keeps ks [.time] s { s with time := m } :=
  ⟨fun _ _ => rfl, fun b hb => by cases b <;> simp_all [Block.same]⟩

/-! The lane of a copy (R116). -/

theorem noteSchedule_eq (pl : List Nat) (s : State) : ∃ m, noteSchedule pl s = { s with time := m } ∧
    m.laneSet = s.time.laneSet ∧ m.hopsCw = s.time.hopsCw ∧ m.hopsCcw = s.time.hopsCcw := by
  unfold noteSchedule
  dsimp only
  split_ifs
  all_goals exact ⟨_, rfl, rfl, rfl, rfl⟩

theorem selectLane_keeps (p : Side) (hops : Nat) (s : State) :
    Keeps [Obj.ringTimeStatus] [.time] s (selectLane p hops s) ∧ (selectLane p hops s).timeState = s.timeState := by
  have hb : ∀ (u : State) b, (u.setBitOf Obj.ringTimeStatus 8 b).timeState = u.timeState := fun u b => timeState_setField_above u 8 1 _ (by decide)
  have hk : ∀ (u : State) b, Keeps [Obj.ringTimeStatus] [.time] u (u.setBitOf Obj.ringTimeStatus 8 b) := fun u b => keeps_set _ u _ (by simp)
  have ht : ∀ (u : State) m, Keeps [Obj.ringTimeStatus] [.time] u { u with time := m } := fun u m => timeUpdate_keeps _ u m
  unfold selectLane
  extract_lets src x t again src'
  have h0 : Keeps [Obj.ringTimeStatus] [.time] s t := ht s x
  split_ifs
  · exact ⟨h0, rfl⟩
  · exact ⟨h0.trans (ht _ _), rfl⟩
  · split
    · exact ⟨(h0.trans (hk _ _)).trans (ht _ _), hb _ _⟩
    · exact ⟨h0.trans (hk _ _), hb _ _⟩
    · exact ⟨h0.trans (hk _ _), hb _ _⟩
    · exact ⟨h0, rfl⟩

/-- A selection that has been made stays (R116). -/
theorem selectLane_set {s : State} (p : Side) (hops : Nat) (h : s.time.laneSet = true) : (selectLane p hops s).laneCcw = s.laneCcw := by
  unfold selectLane
  extract_lets src x t again src'
  have hl : t.time.laneSet = true := by cases p <;> exact h
  rw [if_pos hl]
  rfl

/-- The very first copy selects its own lane (R116). -/
theorem selectLane_first {s : State} (hops : Nat) (h : s.time.laneSet = false) (h1 : s.time.hopsCw = none) (h2 : s.time.hopsCcw = none) :
    (selectLane .north hops s).laneCcw = false := by
  unfold selectLane
  simp only [h, h1, h2, Option.isSome_none, Bool.false_eq_true, if_false]
  unfold State.laneCcw
  rw [State.get_setBitOf_self]
  exact bit_setBits_self _ 8 false

/-- An accepted copy is noted: its hops, its lane, the head's schedule, and the lane's selection (R116, R127, R382). -/
def noteCopy (p : Side) (hops : Nat) (pl : List Nat) (s : State) : State :=
  selectLane p hops (noteSchedule pl (noteMark p (s.setField Obj.ringTimeStatus 16 6 hops)))

theorem laneCcw_setField_above (s : State) (lo w x : Nat) (h : 9 ≤ lo) : (s.setField Obj.ringTimeStatus lo w x).laneCcw = s.laneCcw := by
  have hb : bits (setBits (s.get Obj.ringTimeStatus) lo w x) 8 1 = bits (s.get Obj.ringTimeStatus) 8 1 := bits_setBits_below _ _ _ _ _ _ h
  simp only [bits, pow_one] at hb
  simp only [State.laneCcw, State.get_setField_self, bit, hb]

theorem noteCopy_lane {s : State} (p : Side) (hops : Nat) (pl : List Nat) (h : s.time.laneSet = true) :
    (noteCopy p hops pl s).laneCcw = s.laneCcw := by
  obtain ⟨m, e, hl, -⟩ := noteSchedule_eq pl (noteMark p (s.setField Obj.ringTimeStatus 16 6 hops))
  unfold noteCopy
  rw [selectLane_set p hops (by rw [e]; exact hl.trans h), e]
  exact laneCcw_setField_above s 16 6 hops (by decide)

theorem noteCopy_first {s : State} (hops : Nat) (pl : List Nat) (h : s.time.laneSet = false) (h1 : s.time.hopsCw = none)
    (h2 : s.time.hopsCcw = none) : (noteCopy .north hops pl s).laneCcw = false := by
  obtain ⟨m, e, hl, hcw, hccw⟩ := noteSchedule_eq pl (noteMark .north (s.setField Obj.ringTimeStatus 16 6 hops))
  exact selectLane_first hops (by rw [e]; exact hl.trans h) (by rw [e]; exact hcw.trans h1) (by rw [e]; exact hccw.trans h2)

theorem noteSchedule_keeps (pl : List Nat) (s : State) : Keeps [] [.time] s (noteSchedule pl s) := by
  obtain ⟨m, e, -⟩ := noteSchedule_eq pl s
  rw [e]
  exact timeUpdate_keeps _ _ _

theorem noteCopy_keeps (p : Side) (hops : Nat) (pl : List Nat) (s : State) :
    Keeps [Obj.ringTimeStatus] [.ring, .time] s (noteCopy p hops pl s) ∧ (noteCopy p hops pl s).timeState = s.timeState := by
  have h1 : Keeps [Obj.ringTimeStatus] [.ring, .time] s (s.setField Obj.ringTimeStatus 16 6 hops) := keeps_set _ s _ (by simp)
  have h2 := noteMark_keeps p (s.setField Obj.ringTimeStatus 16 6 hops)
  have h3 := noteSchedule_keeps pl (noteMark p (s.setField Obj.ringTimeStatus 16 6 hops))
  obtain ⟨h4, e4⟩ := selectLane_keeps p hops (noteSchedule pl (noteMark p (s.setField Obj.ringTimeStatus 16 6 hops)))
  refine ⟨((h1.trans (keeps_mono h2 (by simp) (by simp))).trans (keeps_mono h3 (by simp) (by simp))).trans
    (keeps_mono h4 (by simp) (by simp)), ?_⟩
  exact ((e4.trans (timeState_congr (h3.1 _ (by simp)))).trans (timeState_congr (h2.1 _ (by simp)))).trans
    (timeState_setField_above s 16 6 hops (by decide))

/-- Blocks and objects that are kept have the same marks. -/
theorem marks_of_keeps {ks : List Nat} {bs : List Block} {s t : State} (h : Keeps ks bs s t) (hr : Block.ring ∉ bs) :
    t.ring.markCw = s.ring.markCw ∧ t.ring.markCcw = s.ring.markCcw := by
  have e := (h.2 .ring hr).1
  exact ⟨(congrArg RingEng.markCw e :), (congrArg RingEng.markCcw e :)⟩

theorem noteCopy_marks (p : Side) (hops : Nat) (pl : List Nat) (s : State) :
    (p = .north → (noteCopy p hops pl s).ring.markCw = true) ∧ (p = .south → (noteCopy p hops pl s).ring.markCcw = true) := by
  have h1 := noteMark_marks p (s.setField Obj.ringTimeStatus 16 6 hops)
  have h2 := noteSchedule_keeps pl (noteMark p (s.setField Obj.ringTimeStatus 16 6 hops))
  have h3 := (selectLane_keeps p hops (noteSchedule pl (noteMark p (s.setField Obj.ringTimeStatus 16 6 hops)))).1
  obtain ⟨e2, f2⟩ := marks_of_keeps h2 (by decide)
  obtain ⟨e3, f3⟩ := marks_of_keeps h3 (by decide)
  exact ⟨fun hp => (e3.trans e2).trans (h1.1 hp), fun hp => (f3.trans f2).trans (h1.2 hp)⟩

theorem laneSkew_keeps (a b : Int) (s : State) :
    Keeps [Obj.ringTimeStatus, Obj.laneSkew] [.time] s (laneSkew a b s) ∧ (laneSkew a b s).timeState = s.timeState := by
  unfold laneSkew
  extract_lets d n t
  have h1 : Keeps [Obj.ringTimeStatus, Obj.laneSkew] [.time] s t := (keeps_set _ s _ (by simp)).trans (keeps_set _ _ _ (by simp))
  refine ⟨h1.trans (timeUpdate_keeps _ _ _), ?_⟩
  exact (timeState_setField_above (s.set Obj.laneSkew _) 9 1 _ (by decide)).trans
    (timeState_congr (State.get_set_ne s _ (by decide)))

/-- The state in which a copy accepted on the selected lane disciplines the counter: the copy is noted, the skew of the lanes where both have
brought it, and the phase error (R116, R117). -/
def copySeen (p : Side) (hops : Nat) (pl : List Nat) (e : Int) (s : State) : State :=
  let a := noteCopy p hops pl s
  let b := { a with time := { a.time with selE := some (leAt pl 0 6, e) } }
  let c := match sameMark b.time.otherE (leAt pl 0 6) with
    | some o => laneSkew e o b
    | none => b
  let d := c.set Obj.phaseError (ofInt 32 (clampInt 32 e))
  { d with time := { d.time with bigs := 0 } }

theorem useMark_selected {p : Side} {hops : Nat} {pl : List Nat} {sub : Nat} {s : State}
    (hok : markAccepted s (leAt pl 0 6) (phaseError s p pl sub) = true) (hl : (noteCopy p hops pl s).laneCcw = (p == .south)) :
    useMark p hops pl sub s = disciplined sub (phaseError s p pl sub) (copySeen p hops pl (phaseError s p pl sub) s) := by
  unfold useMark
  simp only [hok, if_true]
  have hl' : (selectLane p hops (noteSchedule pl (noteMark p (s.setField Obj.ringTimeStatus 16 6 hops)))).laneCcw = (p == .south) := hl
  simp only [hl', beq_self_eq_true, if_true]
  rfl

theorem copySeen_keeps (p : Side) (hops : Nat) (pl : List Nat) (e : Int) (s : State) :
    Keeps [Obj.ringTimeStatus, Obj.laneSkew, Obj.phaseError] [.ring, .time] s (copySeen p hops pl e s) ∧
      (copySeen p hops pl e s).timeState = s.timeState ∧
      (copySeen p hops pl e s).get Obj.phaseError = ofInt 32 (clampInt 32 e) ∧
      (p = .north → (copySeen p hops pl e s).ring.markCw = true) ∧ (p = .south → (copySeen p hops pl e s).ring.markCcw = true) := by
  obtain ⟨ka, ta⟩ := noteCopy_keeps p hops pl s
  obtain ⟨mn, ms⟩ := noteCopy_marks p hops pl s
  unfold copySeen
  extract_lets a src b c d src'
  have hb : Keeps [Obj.ringTimeStatus, Obj.laneSkew] [.time] a b := timeUpdate_keeps _ _ _
  have hc : Keeps [Obj.ringTimeStatus, Obj.laneSkew] [.time] a c ∧ c.timeState = a.timeState := by
    unfold c
    split
    · obtain ⟨k, h⟩ := laneSkew_keeps e _ b
      exact ⟨hb.trans k, h⟩
    · exact ⟨hb, rfl⟩
  obtain ⟨e1, e2⟩ := marks_of_keeps hc.1 (by decide)
  refine ⟨?_, ?_, State.get_set_self c _ _, fun h => e1.trans (mn h), fun h => e2.trans (ms h)⟩
  · refine (keeps_mono ka (by simp) (by simp)).trans ((keeps_mono hc.1 (by simp) (by simp)).trans ?_)
    exact (keeps_set _ c _ (by simp)).trans (keeps_mono (timeUpdate_keeps [] d _) (by simp) (by simp))
  · exact (timeState_congr (State.get_set_ne c _ (by decide))).trans (hc.2.trans ta)

/-! The discipline of the counter (R117, R118, R123). -/

/-- The steer stays within 25 ppm (R117). -/
theorem steer_bounds (s : State) :
    -25000 ≤ (steer s).getInt Obj.frequencySteer 32 ∧ (steer s).getInt Obj.frequencySteer 32 ≤ 25000 := by
  unfold steer
  extract_lets v w
  have h : ∀ i : Int, -25000 ≤ i → i ≤ 25000 → toInt 32 (ofInt 32 i) = i := by
    intro i h1 h2
    unfold toInt ofInt
    norm_num
    omega
  have hg : State.getInt ((s.set Obj.frequencySteer (ofInt 32 (max (-25000) (min 25000 w)))).freeUsed) Obj.frequencySteer 32 =
      max (-25000) (min 25000 w) := by
    unfold State.getInt
    rw [State.get_freeUsed, State.get_set_self]
    exact h _ (le_max_left _ _) (max_le (by decide) (min_le_left _ _))
  rw [hg]
  exact ⟨le_max_left _ _, max_le (by decide) (min_le_left _ _)⟩

theorem freeUsed_keeps (ks : List Nat) (s : State) : Keeps ks [.free] s s.freeUsed :=
  ⟨fun _ _ => rfl, fun b hb => by cases b <;> simp_all [Block.same, State.freeUsed]⟩

theorem steer_keeps (s : State) : Keeps [Obj.frequencySteer] [.free] s (steer s) :=
  (keeps_set _ s _ (by simp)).trans (freeUsed_keeps _ _)

theorem slewDone_keeps (e : Int) (s : State) : Keeps [] [.time] s (slewDone e s) :=
  keeps_ite _ (timeUpdate_keeps _ _ _) (Keeps.refl _ _ _)

theorem endHoldover_keeps (s : State) : Keeps [] [.time] s (endHoldover s) := by
  unfold endHoldover
  split
  · exact Keeps.refl _ _ _
  · exact timeUpdate_keeps _ _ _

theorem faultEnd_keeps (c : Nat) (s : State) : Keeps [] [.flt] s (faultEnd c s) :=
  ⟨fun _ _ => rfl, fun b hb => by cases b <;> simp_all [Block.same, faultEnd]⟩

/-- A source whose condition does not hold never sets. -/
theorem faultFollow_false_keeps (c : Nat) (s : State) : Keeps [] [.flt] s (faultFollow c false s) := by
  unfold faultFollow
  rw [if_neg Bool.false_ne_true]
  exact keeps_ite _ (faultEnd_keeps c s) (Keeps.refl _ _ _)

theorem lockTime_keeps (s : State) :
    Keeps [Obj.ringTimeStatus] [.time, .cells, .flt] s (lockTime s) ∧ (lockTime s).timeState = 2 := by
  unfold lockTime
  generalize hm : ({ s.time with locks := _, lastE := _, lastBig := _, slewFrom := _ } : TimeEng) = m
  have h1 := timeUpdate_keeps [] s m
  have h2 := setTimeState_keeps 2 { s with time := m }
  have h3 := endHoldover_keeps (setTimeState 2 { s with time := m })
  have h4 := faultFollow_false_keeps 0x1B (endHoldover (setTimeState 2 { s with time := m }))
  refine ⟨?_, ?_⟩
  · exact (keeps_mono h1 (by simp) (by simp)).trans ((keeps_mono h2 (by simp) (by simp)).trans
      ((keeps_mono h3 (by simp) (by simp)).trans (keeps_mono h4 (by simp) (by simp))))
  · exact ((timeState_congr (h4.1 _ (by simp))).trans (timeState_congr (h3.1 _ (by simp)))).trans (setTimeState_timeState 2 _)

/-- In FREE the counter takes the time of the copy, and the node acquires (R118). -/
theorem disciplined_free {s : State} (sub : Nat) (e : Int) (h : s.timeState = 0) :
    Keeps [Obj.ringTimeStatus] [.time, .ringTime, .cells] s (disciplined sub e s) ∧ (disciplined sub e s).timeState = 1 ∧
      (disciplined sub e s).ringTime = (stepCounter sub e s).ringTime := by
  unfold disciplined
  rw [if_pos h]
  generalize hm : ({ s.time with locks := _ } : TimeEng) = m
  have h1 : Keeps [] [.time, .ringTime] s (stepCounter sub e { s with time := m }) :=
    ⟨fun _ _ => rfl, fun b hb => by cases b <;> simp_all [Block.same, stepCounter]⟩
  have h2 := setTimeState_keeps 1 (stepCounter sub e { s with time := m })
  exact ⟨(keeps_mono h1 (by simp) (by simp)).trans (keeps_mono h2 (by simp) (by simp)), setTimeState_timeState 1 _, rfl⟩

/-- In ACQUIRE the node steers, and locks in time (R118). -/
theorem disciplined_acquire {s : State} (sub : Nat) (e : Int) (h : s.timeState = 1) :
    Keeps [Obj.ringTimeStatus, Obj.frequencySteer] [.time, .free, .cells, .flt] s (disciplined sub e s) ∧
      ((disciplined sub e s).timeState = 1 ∨ (disciplined sub e s).timeState = 2) := by
  unfold disciplined
  rw [if_neg (by omega), if_pos h]
  extract_lets n src t
  have h1 : Keeps [Obj.ringTimeStatus, Obj.frequencySteer] [.time, .free, .cells, .flt] s t :=
    Keeps.trans (keeps_mono (timeUpdate_keeps [] s _) (by simp) (by simp)) (keeps_mono (steer_keeps _) (by simp) (by simp))
  have e1 : t.timeState = 1 := (timeState_congr ((steer_keeps _).1 _ (by decide))).trans h
  split_ifs
  · obtain ⟨k, e2⟩ := lockTime_keeps t
    exact ⟨h1.trans (keeps_mono k (by simp) (by simp)), .inr e2⟩
  · exact ⟨h1, .inl e1⟩

/-- In LOCKED the node steers (R117). -/
theorem disciplined_locked {s : State} (sub : Nat) (e : Int) (h : s.timeState = 2) :
    Keeps [Obj.frequencySteer] [.time, .free] s (disciplined sub e s) ∧ (disciplined sub e s).timeState = 2 ∧
      disciplined sub e s = steer (slewDone e s) := by
  have hd : disciplined sub e s = steer (slewDone e s) := by
    unfold disciplined
    rw [if_neg (by omega), if_neg (by omega), if_pos h]
  have h1 := slewDone_keeps e s
  have h2 := steer_keeps (slewDone e s)
  rw [hd]
  refine ⟨(keeps_mono h1 (by simp) (by simp)).trans (keeps_mono h2 (by simp) (by simp)), ?_, rfl⟩
  exact ((timeState_congr (h2.1 _ (by decide))).trans (timeState_congr (h1.1 _ (by simp)))).trans h

/-- In HOLDOVER, or a state without a code, a second copy that agrees locks the node again (R123). -/
theorem disciplined_holdover {s : State} (sub : Nat) (e : Int) (h : 3 ≤ s.timeState) :
    Keeps [Obj.ringTimeStatus, Obj.frequencySteer] [.time, .free, .cells, .flt] s (disciplined sub e s) ∧
      ((disciplined sub e s).timeState = 2 ∨ (disciplined sub e s).timeState = s.timeState) := by
  unfold disciplined
  rw [if_neg (by omega), if_neg (by omega), if_neg (by omega)]
  dsimp only
  have ht : ∀ m, Keeps [Obj.ringTimeStatus, Obj.frequencySteer] [.time, .free, .cells, .flt] s { s with time := m } :=
    fun m => keeps_mono (timeUpdate_keeps [] s m) (by simp) (by simp)
  obtain ⟨k, e2⟩ := lockTime_keeps s
  have k3 := steer_keeps (lockTime s)
  split
  · split_ifs
    · refine ⟨(keeps_mono k (by simp) (by simp)).trans (keeps_mono k3 (by simp) (by simp)), .inl ?_⟩
      exact (timeState_congr (k3.1 _ (by decide))).trans e2
    · exact ⟨ht _, .inr rfl⟩
  · exact ⟨ht _, .inr rfl⟩

/-- The power of a domain is its own bit (R14). -/
theorem on_power_ne (s : State) {d e : Domain} (b : Bool) (h : e.bitNo ≠ d.bitNo) : (s.power d b).on e = s.on e := by
  unfold State.on State.power
  rw [State.get_setBitOf_self]
  exact bit_setBits_ne _ _ _ _ h

theorem on_set_ne (s : State) {k : Nat} (v : Nat) (e : Domain) (h : Obj.domainStatus ≠ k) : (s.set k v).on e = s.on e := by
  unfold State.on
  rw [State.get_set_ne _ _ h]

theorem bootStarts_ring (s : State) : (bootStarts s).on .rng = s.on .rng ∧ (bootStarts s).ringTime = s.ringTime := by
  have h : ∀ v b, ((s.set Obj.supervisorState v).power .sup b).on .rng = s.on .rng := fun v b =>
    (on_power_ne _ _ (by decide)).trans (on_set_ne s _ _ (by decide))
  unfold bootStarts
  split_ifs
  · exact ⟨h 1 true, rfl⟩
  · exact ⟨h 2 false, rfl⟩
  · exact ⟨rfl, rfl⟩

/-- A counter that runs stays within its 48 bits. -/
theorem found_ringTime_lt {s : State} {dt : Nat} (h : (s.found dt).on .rng = true) : (s.found dt).ringTime < 2 ^ 48 := by
  unfold State.found advance at *
  generalize elapse dt s = u at *
  rw [(bootStarts_ring _).1] at h
  rw [(bootStarts_ring _).2]
  have hu : u.on .rng = true := h
  simp only [hu, if_true]
  exact Nat.mod_lt _ (by decide)

/-- A counter set by the phase error stands at the head's time (R117, R118). -/
theorem stepCounter_phaseError {s t : State} {sub : Nat} (p : Side) (pl : List Nat) (hr : s.ringTime < 2 ^ 48) (hs : sub < 125)
    (ht : t.ringTime = s.ringTime) : (stepCounter sub (phaseError s p pl sub) t).ringTime = markTime s p pl / 125 := by
  have hm : markTime s p pl < timeSpan := Nat.mod_lt _ (by decide)
  unfold stepCounter phaseError
  rw [ht]
  generalize markTime s p pl = m at *
  generalize s.ringTime = r at *
  unfold timeSpan wrap48 at *
  dsimp only
  split_ifs <;> omega

/-! What the use of a copy leaves alone on the transmit pairs. -/

theorem setTimeState_apart (c : Nat) (s : State) : Apart s (setTimeState c s) := .after (.set s _ _)

theorem steer_apart (s : State) : Apart s (steer s) := .after (.set s _ _)

theorem slewDone_apart (e : Int) (s : State) : Apart s (slewDone e s) := .ite (.after (.refl s)) (.refl s)

theorem endHoldover_apart (s : State) : Apart s (endHoldover s) := by
  unfold endHoldover
  split
  · exact .refl s
  · exact .after (.refl s)

theorem lockTime_apart (s : State) : Apart s (lockTime s) :=
  .trans (.trans (.trans (.after (.refl s)) (setTimeState_apart 2 _)) (endHoldover_apart _)) (faultFollow_apart _ _ _)

theorem disciplined_apart (sub : Nat) (e : Int) (s : State) : Apart s (disciplined sub e s) := by
  unfold disciplined
  extract_lets n src t t'
  have ht : Apart s t := .trans (.after (.refl s)) (steer_apart _)
  have ht' : Apart s t' := .after (.refl s)
  refine .ite (.trans (.after (.refl s)) (setTimeState_apart 1 _)) (.ite (.ite (ht.trans (lockTime_apart t)) ht)
    (.ite ((slewDone_apart e s).trans (steer_apart _)) ?_))
  split
  · exact .ite ((lockTime_apart s).trans (steer_apart _)) ht'
  · exact ht'

theorem stepPlan_apart (a b c : Nat) (s : State) : Apart s (stepPlan a b c s) := .ite (.refl s) (.after (.set s _ _))

theorem timeStep_apart (pl : List Nat) (sub : Nat) (e : Int) (s : State) : Apart s (timeStep pl sub e s) := by
  unfold timeStep
  extract_lets t src u
  have h : Apart s u :=
    .after (.trans (.trans (.trans (.after (.refl s)) (stepPlan_apart _ _ _ _)) (setTimeState_apart 1 _)) (.set _ _ _))
  exact .ite (h.trans (faultPulse_apart _ _)) (h.trans (endHoldover_apart _))

theorem bigError_apart (pl : List Nat) (sub : Nat) (e : Int) (o : Option Int) (s : State) : Apart s (bigError pl sub e o s) := by
  unfold bigError
  extract_lets src t
  have hs : Apart s (timeStep pl sub e s) := timeStep_apart pl sub e s
  have ht : Apart s t := .after (.refl s)
  refine .ite ?_ (.ite ?_ (.refl s))
  · split
    · exact .ite (.ite hs (.after (.refl s))) (.refl s)
    · exact .refl s
  · split
    · exact .ite hs ht
    · exact ht

theorem noteMark_apart (p : Side) (s : State) : Apart s (noteMark p s) := by
  cases p <;> exact ⟨rfl, rfl, rfl, rfl, rfl, rfl⟩

theorem noteSchedule_apart (pl : List Nat) (s : State) : Apart s (noteSchedule pl s) := by
  obtain ⟨m, e, -⟩ := noteSchedule_eq pl s
  rw [e]
  exact .after (.refl s)

theorem selectLane_apart (p : Side) (hops : Nat) (s : State) : Apart s (selectLane p hops s) := by
  unfold selectLane
  extract_lets src x t again src'
  have h : Apart s t := .after (.refl s)
  split_ifs
  · exact h
  · exact .after h
  · split
    · exact .after (h.trans (.set t _ _))
    · exact h.trans (.set t _ _)
    · exact h.trans (.set t _ _)
    · exact h

theorem noteCopy_apart (p : Side) (hops : Nat) (pl : List Nat) (s : State) : Apart s (noteCopy p hops pl s) :=
  (((Apart.set s _ _).trans (noteMark_apart p _)).trans (noteSchedule_apart pl _)).trans (selectLane_apart p hops _)

theorem laneSkew_apart (a b : Int) (s : State) : Apart s (laneSkew a b s) := .after (.trans (.set s _ _) (.set _ _ _))

theorem useMark_apart (p : Side) (hops : Nat) (pl : List Nat) (sub : Nat) (s : State) : Apart s (useMark p hops pl sub s) := by
  unfold useMark
  extract_lets e origin ok a mine src b c d src' b'
  have ha : Apart s a := .ite (noteCopy_apart p hops pl s) (.refl s)
  have hc : Apart s c := by
    unfold c
    split
    · exact ha.trans (.trans (.after (.refl a)) (laneSkew_apart _ _ b))
    · exact .after ha
  have hb : Apart s b' := .after ha
  refine .ite (.ite (.trans (.after (hc.trans (.set c _ _))) (disciplined_apart _ _ _)) (.ite hc (hc.trans (bigError_apart _ _ _ _ _)))) ?_
  split
  · exact .ite (hb.trans (laneSkew_apart _ _ _)) ((hb.trans (laneSkew_apart _ _ _)).trans (bigError_apart _ _ _ _ _))
  · exact hb

/-! The residence time in the copy that leaves (R114). -/

theorem ofLe_leBytes (n v : Nat) : ofLe (leBytes n v) = v % 256 ^ n := by
  induction n generalizing v with
  | zero => simp [leBytes, ofLe, Nat.mod_one]
  | succ n ih =>
    show v % 256 + 256 * ofLe (leBytes n (v / 256)) = _
    rw [ih, pow_succ', Nat.mod_mul]

theorem leBytes_length (n v : Nat) : (leBytes n v).length = n := by
  induction n generalizing v with
  | zero => rfl
  | succ n ih => exact congrArg (· + 1) (ih _)

/-- The correction is read off the first bytes of the payload, so what follows the payload does not matter. -/
theorem markCorr_framePayload (s : State) (p : Side) {bs : List Nat} (h : frameLen bs = 24) :
    markCorr s p (framePayload bs) = markCorr s p (bs.drop 8) := by
  unfold markCorr framePayload leAt
  rw [h, List.drop_take, List.take_take]
  rfl

theorem onwardMark_corr (s : State) (p : Side) (residence : Nat) {bs : List Nat} (ht : frameType bs = 3) (hl : frameLen bs = 24)
    (hn : 24 ≤ (framePayload bs).length) :
    leAt (onwardMark s p residence bs) 14 4 = (markCorr s p (framePayload bs) + residence) % 2 ^ 32 := by
  have hb : 32 ≤ bs.length := by
    rw [framePayload, List.length_take, List.length_drop] at hn
    omega
  have h14 : (bs.take 14).length = 14 := List.length_take_of_le (by omega)
  rw [markCorr_framePayload s p hl]
  unfold onwardMark leAt
  have hs : (frameType bs != 3 || decide (bs.length < 18)) = false := by
    rw [ht]
    simp only [bne_self_eq_false, Bool.false_or, decide_eq_false_iff_not]
    omega
  rw [hs, if_neg Bool.false_ne_true]
  dsimp only
  rw [List.append_assoc, List.drop_left' h14, List.take_left' (leBytes_length 4 _), ofLe_leBytes]
  exact Nat.mod_mod_of_dvd _ (by decide)

theorem mark_idle {s : State} (last : Bool) (h : s.marks = false) : effMark last s = s := by
  unfold effMark
  simp only [h, Bool.not_false, Bool.or_true, Bool.true_or, if_true]

theorem syncOn_of_not_head {s : State} (h : s.isHead = false) : syncOn s = false := by
  unfold syncOn
  rw [h, Bool.and_false, Bool.false_and]

theorem syncEdge_idle {s : State} (rising : Bool) (h : syncOn s = false) : effSyncEdge rising s = s := by
  unfold effSyncEdge
  rw [h, Bool.not_false, Bool.true_or, if_pos rfl]

theorem syncEdgeMissing_idle {s : State} (h : syncOn s = false) : effSyncEdgeMissing s = s := by
  unfold effSyncEdgeMissing
  rw [h, if_neg Bool.false_ne_true]

theorem sub_lt_of_wf {dt residence sub : Nat} {f : RingFrame} (h : Instr.wf (.markCopy dt f residence sub) = true) : sub < 125 := by
  have h' : (f.wf && decide (sub < 125)) = true := h
  rw [Bool.and_eq_true, decide_eq_true_eq] at h'
  exact h'.2

/-! A copy on its way through a node that is not head: passed on, seen, used, and counted as ring activity. -/

/-- The copy has passed on and stands noted, with its phase error. -/
def copyIn (f : RingFrame) (residence sub : Nat) (s : State) : State :=
  copySeen f.side (frameHops f.bytes + 1) (framePayload f.bytes) (phaseError s f.side (framePayload f.bytes) sub)
    (passed f ((sub + residence) / 125) (onwardMark s f.side residence f.bytes) s)

theorem effMarkCopy_selected {s : State} {f : RingFrame} (residence sub : Nat) (h : GoodFrame s f 3) (hh : s.isHead = false)
    (hl : frameLen f.bytes = 24)
    (ha : markAccepted s (leAt (framePayload f.bytes) 0 6) (phaseError s f.side (framePayload f.bytes) sub) = true)
    (hs : (noteCopy f.side (frameHops f.bytes + 1) (framePayload f.bytes)
      (passed f ((sub + residence) / 125) (onwardMark s f.side residence f.bytes) s)).laneCcw = (f.side == .south)) :
    effMarkCopy f residence sub s = frameActivity f.bytes (disciplined sub (phaseError s f.side (framePayload f.bytes) sub)
      (copyIn f residence sub s)) := by
  have hc := passed_sameClock (passed_keeps ((sub + residence) / 125) (onwardMark s f.side residence f.bytes) (.inl h.good)
    (ended_of_good h.good) h.type)
  rw [effMarkCopy_good residence sub h hh hl, useMark_selected (by rw [hc.markAccepted, hc.phaseError]; exact ha) hs, hc.phaseError]
  rfl

theorem copyIn_keeps {s : State} {f : RingFrame} (residence sub : Nat) (h : GoodFrame s f 3) :
    Keeps (frameObjects f.side ++ [Obj.ringTimeStatus, Obj.laneSkew, Obj.phaseError]) [.ring, .time] s (copyIn f residence sub s) ∧
      (copyIn f residence sub s).timeState = s.timeState ∧
      (copyIn f residence sub s).get Obj.phaseError = ofInt 32 (clampInt 32 (phaseError s f.side (framePayload f.bytes) sub)) ∧
      (f.side = .north → (copyIn f residence sub s).ring.markCw = true) ∧
      (f.side = .south → (copyIn f residence sub s).ring.markCcw = true) := by
  have hp := passed_keeps ((sub + residence) / 125) (onwardMark s f.side residence f.bytes) (.inl h.good) (ended_of_good h.good) h.type
  obtain ⟨k, ht, hr⟩ := copySeen_keeps f.side (frameHops f.bytes + 1) (framePayload f.bytes)
    (phaseError s f.side (framePayload f.bytes) sub) (passed f ((sub + residence) / 125) (onwardMark s f.side residence f.bytes) s)
  refine ⟨?_, ht.trans (passed_sameClock hp).state, hr⟩
  exact (keeps_mono hp (fun _ => List.mem_append_left _) (by simp)).trans (keeps_mono k (by simp) (by simp))

/-- A copy that has passed finds the selected lane as it was. -/
theorem noteCopy_passed_lane {s : State} {f : RingFrame} (residence sub : Nat) (h : GoodFrame s f 3) (hset : s.time.laneSet = true) :
    (noteCopy f.side (frameHops f.bytes + 1) (framePayload f.bytes)
      (passed f ((sub + residence) / 125) (onwardMark s f.side residence f.bytes) s)).laneCcw = s.laneCcw := by
  have hp := passed_keeps ((sub + residence) / 125) (onwardMark s f.side residence f.bytes) (.inl h.good) (ended_of_good h.good) h.type
  have ht : (passed f ((sub + residence) / 125) (onwardMark s f.side residence f.bytes) s).time = s.time := hp.2 .time (by decide)
  rw [noteCopy_lane _ _ _ (by rw [ht]; exact hset)]
  exact (passed_reads hp).2.2.2.2

theorem noteCopy_passed_first {s : State} {f : RingFrame} (residence sub : Nat) (h : GoodFrame s f 3) (hn : f.side = .north)
    (hset : s.time.laneSet = false) (h1 : s.time.hopsCw = none) (h2 : s.time.hopsCcw = none) :
    (noteCopy f.side (frameHops f.bytes + 1) (framePayload f.bytes)
      (passed f ((sub + residence) / 125) (onwardMark s f.side residence f.bytes) s)).laneCcw = false := by
  have hp := passed_keeps ((sub + residence) / 125) (onwardMark s f.side residence f.bytes) (.inl h.good) (ended_of_good h.good) h.type
  have ht : (passed f ((sub + residence) / 125) (onwardMark s f.side residence f.bytes) s).time = s.time := hp.2 .time (by decide)
  rw [hn] at ht ⊢
  exact noteCopy_first _ _ (by rw [ht]; exact hset) (by rw [ht]; exact h1) (by rw [ht]; exact h2)

/-- What ring activity and the settling of the gates leave of the discipline's result. -/
theorem finished_keeps (bs : List Nat) (s : State) : Keeps [] [.bal, .flt, .cells] s (settle (frameActivity bs s)) :=
  (keeps_mono (frameActivity_keeps bs s) (by simp) (by simp)).settle

theorem accepted_of_free {s : State} (origin : Nat) (e : Int) (h : s.timeState = 0) : markAccepted s origin e = true := by
  unfold markAccepted
  simp [h]

/-- The first copy at a FREE node (R118). -/
theorem mark_first (dt residence sub : Nat) (f : RingFrame) (s : State) (hw : Instr.wf (.markCopy dt f residence sub) = true)
    (h : GoodFrame (s.found dt) f 3) (hn : f.side = .north) (hh : (s.found dt).isHead = false) (hl : frameLen f.bytes = 24)
    (h0 : (s.found dt).timeState = 0) (hset : (s.found dt).time.laneSet = false) (h1 : (s.found dt).time.hopsCw = none)
    (h2 : (s.found dt).time.hopsCcw = none) (hr : (s.found dt).ringTime < 2 ^ 48) :
    Completes (.markCopy dt f residence sub) dt s (frameObjects .north ++ [Obj.ringTimeStatus, Obj.laneSkew, Obj.phaseError])
      (frameBlocks ++ [.time, .ringTime, .cells]) (fun u t =>
        t.timeState = 1 ∧ t.ringTime = markTime u .north (framePayload f.bytes) / 125) := by
  generalize hu : s.found dt = u at *
  have he := effMarkCopy_selected residence sub h hh hl (accepted_of_free _ _ h0)
    (by rw [noteCopy_passed_first residence sub h hn hset h1 h2, hn]; rfl)
  obtain ⟨k1, e1, -, -, -⟩ := copyIn_keeps residence sub h
  obtain ⟨k2, e2, e3⟩ := disciplined_free sub (phaseError u f.side (framePayload f.bytes) sub) (e1.trans h0)
  have k3 := finished_keeps f.bytes (disciplined sub (phaseError u f.side (framePayload f.bytes) sub) (copyIn f residence sub u))
  rw [hn] at *
  refine completes_of hw rfl ?_ ?_
  · rw [hu, he]
    refine ⟨(timeState_congr (k3.1 _ (by simp))).trans e2, ?_⟩
    have hs := stepCounter_phaseError .north (framePayload f.bytes) hr (sub_lt_of_wf hw) (k1.2 .ringTime (by decide))
    exact ((k3.2 .ringTime (by decide) :).trans e3).trans hs
  · rw [hu, he]
    exact (keeps_mono k1 (by decide) (by decide)).trans ((keeps_mono k2 (by simp) (by simp)).trans
      (keeps_mono (frameActivity_keeps f.bytes _) (by simp) (by simp [frameBlocks])))

/-- What goes on of a copy (R114). -/
theorem mark_onward (dt residence sub : Nat) (f : RingFrame) (s : State) (hw : Instr.wf (.markCopy dt f residence sub) = true)
    (h : GoodFrame (s.found dt) f 3) (hn : f.side = .north) (hh : (s.found dt).isHead = false) (hl : frameLen f.bytes = 24)
    (hp : 24 ≤ (framePayload f.bytes).length) (hg : PassesOn (s.found dt)) :
    Leads (.markCopy dt f residence sub) dt s (fun u t =>
      t.sends .south (regenerate (onwardMark u .north residence f.bytes) ++ [256]) ∧
        leAt (onwardMark u .north residence f.bytes) 14 4 = (markCorr u .north (framePayload f.bytes) + residence) % 2 ^ 32) := by
  generalize hu : s.found dt = u at *
  have he := effMarkCopy_good residence sub h hh hl
  refine leads_of hw rfl ⟨?_, onwardMark_corr _ .north residence h.type hl hp⟩
  rw [hu, he, hn]
  have hs := passed_sends ((sub + residence) / 125) (onwardMark u .north residence f.bytes) h.good h.type hn hg
  exact (settle_portSame .south _).sends ((((useMark_apart _ _ _ _ _).trans (frameActivity_apart f.bytes _)).portSame .south).sends hs)

/-- A copy that a LOCKED node accepts steers it (R117). -/
theorem mark_locked (dt residence sub : Nat) (f : RingFrame) (s : State) (hw : Instr.wf (.markCopy dt f residence sub) = true)
    (h : GoodFrame (s.found dt) f 3) (hn : f.side = .north) (hh : (s.found dt).isHead = false) (hl : frameLen f.bytes = 24)
    (h2 : (s.found dt).timeState = 2) (hset : (s.found dt).time.laneSet = true) (hlane : (s.found dt).laneCcw = false)
    (ha : markAccepted (s.found dt) (leAt (framePayload f.bytes) 0 6)
      (phaseError (s.found dt) .north (framePayload f.bytes) sub) = true) :
    Completes (.markCopy dt f residence sub) dt s
      (frameObjects .north ++ [Obj.ringTimeStatus, Obj.laneSkew, Obj.phaseError, Obj.frequencySteer])
      (frameBlocks ++ [.time, .free]) (fun u t =>
        t.timeState = 2 ∧ t.get Obj.phaseError = ofInt 32 (clampInt 32 (phaseError u .north (framePayload f.bytes) sub)) ∧
          -25000 ≤ t.getInt Obj.frequencySteer 32 ∧ t.getInt Obj.frequencySteer 32 ≤ 25000) := by
  generalize hu : s.found dt = u at *
  have he := effMarkCopy_selected residence sub h hh hl (by rw [hn]; exact ha)
    (by rw [noteCopy_passed_lane residence sub h hset, hlane, hn]; rfl)
  obtain ⟨k1, e1, g1, -, -⟩ := copyIn_keeps residence sub h
  obtain ⟨k2, e2, e3⟩ := disciplined_locked sub (phaseError u f.side (framePayload f.bytes) sub) (e1.trans h2)
  have k3 := finished_keeps f.bytes (disciplined sub (phaseError u f.side (framePayload f.bytes) sub) (copyIn f residence sub u))
  have hb := steer_bounds (slewDone (phaseError u f.side (framePayload f.bytes) sub) (copyIn f residence sub u))
  rw [← e3] at hb
  rw [hn] at *
  refine completes_of hw rfl ?_ ?_
  · rw [hu, he]
    refine ⟨(timeState_congr (k3.1 _ (by simp))).trans e2, ?_, ?_⟩
    · exact ((k3.1 _ (by simp)).trans (k2.1 _ (by decide))).trans g1
    · simpa only [State.getInt, k3.1 Obj.frequencySteer (by simp)] using hb
  · rw [hu, he]
    exact (keeps_mono k1 (by decide) (by decide)).trans ((keeps_mono k2 (by simp) (by simp)).trans
      (keeps_mono (frameActivity_keeps f.bytes _) (by simp) (by simp [frameBlocks])))

/-- The discipline in every state of the ring time (R117, R118, R123). -/
theorem disciplined_accepted (sub : Nat) (e : Int) (s : State) :
    Keeps [Obj.ringTimeStatus, Obj.frequencySteer] [.time, .free, .ringTime, .cells, .flt] s (disciplined sub e s) ∧
      (s.timeState = 0 → (disciplined sub e s).timeState = 1 ∧ (disciplined sub e s).ringTime = (stepCounter sub e s).ringTime) ∧
      (s.timeState = 1 → (disciplined sub e s).timeState = 1 ∨ (disciplined sub e s).timeState = 2) ∧
      (s.timeState = 2 → (disciplined sub e s).timeState = 2) ∧
      (s.timeState = 3 → (disciplined sub e s).timeState = 2 ∨ (disciplined sub e s).timeState = 3) := by
  obtain h | h | h | h : s.timeState = 0 ∨ s.timeState = 1 ∨ s.timeState = 2 ∨ 3 ≤ s.timeState := by omega
  · obtain ⟨k, e1, e2⟩ := disciplined_free sub e h
    exact ⟨keeps_mono k (by simp) (by simp), fun _ => ⟨e1, e2⟩, by omega, by omega, by omega⟩
  · obtain ⟨k, e1⟩ := disciplined_acquire sub e h
    exact ⟨keeps_mono k (by simp) (by simp), by omega, fun _ => e1, by omega, by omega⟩
  · obtain ⟨k, e1, -⟩ := disciplined_locked sub e h
    exact ⟨keeps_mono k (by simp) (by simp), by omega, by omega, fun _ => e1, by omega⟩
  · obtain ⟨k, e1⟩ := disciplined_holdover sub e h
    exact ⟨keeps_mono k (by simp) (by simp), by omega, by omega, by omega, fun h3 => h3 ▸ e1⟩

/-- A copy accepted on the selected lane, on either lane and in each state. -/
theorem mark_accepted (dt residence sub : Nat) (f : RingFrame) (s : State) (hw : Instr.wf (.markCopy dt f residence sub) = true)
    (h : GoodFrame (s.found dt) f 3) (hh : (s.found dt).isHead = false) (hl : frameLen f.bytes = 24)
    (hset : (s.found dt).time.laneSet = true) (hlane : (s.found dt).laneCcw = (f.side == .south))
    (ha : markAccepted (s.found dt) (leAt (framePayload f.bytes) 0 6)
      (phaseError (s.found dt) f.side (framePayload f.bytes) sub) = true) (hr : (s.found dt).ringTime < 2 ^ 48) :
    Leads (.markCopy dt f residence sub) dt s (fun u t =>
      t.get Obj.phaseError = ofInt 32 (clampInt 32 (phaseError u f.side (framePayload f.bytes) sub)) ∧
        (u.timeState = 0 → t.timeState = 1 ∧ t.ringTime = markTime u f.side (framePayload f.bytes) / 125) ∧
        (u.timeState = 1 → t.timeState = 1 ∨ t.timeState = 2) ∧ (u.timeState = 2 → t.timeState = 2) ∧
        (u.timeState = 3 → t.timeState = 2 ∨ t.timeState = 3) ∧
        (f.side = .north → t.ring.markCw = true) ∧ (f.side = .south → t.ring.markCcw = true)) := by
  generalize hu : s.found dt = u at *
  have he := effMarkCopy_selected residence sub h hh hl ha (by rw [noteCopy_passed_lane residence sub h hset, hlane])
  obtain ⟨k1, e1, g1, mn, ms⟩ := copyIn_keeps residence sub h
  obtain ⟨k2, d0, d1, d2, d3⟩ := disciplined_accepted sub (phaseError u f.side (framePayload f.bytes) sub) (copyIn f residence sub u)
  have hc := stepCounter_phaseError f.side (framePayload f.bytes) hr (sub_lt_of_wf hw) (k1.2 .ringTime (by decide))
  refine leads_of hw rfl ?_
  rw [hu, he]
  rw [e1, hc] at d0
  rw [e1] at d1 d2 d3
  set d := disciplined sub (phaseError u f.side (framePayload f.bytes) sub) (copyIn f residence sub u)
  have k3 := finished_keeps f.bytes d
  have ht : (settle (frameActivity f.bytes d)).timeState = d.timeState := timeState_congr (k3.1 _ (by simp))
  have hr3 : (settle (frameActivity f.bytes d)).ringTime = d.ringTime := k3.2 .ringTime (by decide)
  obtain ⟨m2, m2'⟩ := marks_of_keeps k2 (by decide)
  obtain ⟨m3, m3'⟩ := marks_of_keeps k3 (by decide)
  rw [ht, hr3]
  exact ⟨((k3.1 _ (by simp)).trans (k2.1 _ (by decide))).trans g1, d0, d1, d2, d3, fun hp => (m3.trans m2).trans (mn hp),
    fun hp => (m3'.trans m2').trans (ms hp)⟩

/-- The head's own MARK returns (R384). -/
theorem mark_own (dt residence sub : Nat) (f : RingFrame) (s : State) (hw : Instr.wf (.markCopy dt f residence sub) = true)
    (hr : (s.found dt).receives f.side = true) (hg : frameEnd (s.found dt) f = .circled) (he : f.ended = true)
    (hc : frameChecks f.bytes = true) (ht : frameType f.bytes = 3) (hh : (s.found dt).isHead = true)
    (hn : newerEpoch (f.bytes.getD 1 0) (s.found dt).epoch = false) :
    Completes (.markCopy dt f residence sub) dt s (frameObjects f.side) frameBlocks (fun u t =>
      t.ringTime = u.ringTime ∧ (f.side = .north → t.ring.markCw = true) ∧ (f.side = .south → t.ring.markCcw = true)) := by
  generalize hu : s.found dt = u at *
  have hf := effMarkCopy_own residence sub hr hg he hc ht hh hn
  have hp := passed_keeps ((sub + residence) / 125) (onwardMark u f.side residence f.bytes) (.inr hg) he ht
  set c := passed f ((sub + residence) / 125) (onwardMark u f.side residence f.bytes) u
  have k1 := noteMark_keeps f.side c
  have k2 : Keeps [] [.cells] (noteMark f.side c) (settle (noteMark f.side c)) := (Keeps.refl _ _ _).settle
  obtain ⟨mn, ms⟩ := noteMark_marks f.side c
  obtain ⟨m2, m2'⟩ := marks_of_keeps k2 (by decide)
  refine completes_of hw rfl ?_ ?_
  · rw [hu, hf]
    exact ⟨((k2.2 .ringTime (by decide) :).trans (k1.2 .ringTime (by decide) :)).trans (hp.2 .ringTime (by decide)),
      fun h => m2.trans (mn h), fun h => m2'.trans (ms h)⟩
  · rw [hu, hf]
    exact (keeps_mono hp (fun _ => id) (by simp [frameBlocks])).trans (keeps_mono k1 (by simp) (by simp [frameBlocks]))

theorem rng_on_of_receives {s : State} {p : Side} (h : s.receives p = true) : s.on .rng = true := by
  unfold State.receives at h
  rw [Bool.and_eq_true] at h
  exact h.1

/-- Settles O45: the head's departure, the idle commands of another node, and a copy by its place: the first one, one accepted, the head's own. -/
theorem marksRun : Obligations.MarksRun := by
  unfold Obligations.MarksRun
  refine ⟨mark_runs, fun dt offset last s hw h => completes_idle hw rfl (mark_idle last h), fun dt rising s h => ⟨?_, ?_⟩,
    fun dt residence sub f s hw h hn hh hl h0 hset h1 h2 => ?_, mark_onward, mark_locked,
    fun dt residence sub f s hw h hh hl hset hlane ha => ?_, mark_own⟩
  · exact completes_idle rfl rfl (syncEdge_idle rising (syncOn_of_not_head h))
  · exact completes_idle rfl rfl (syncEdgeMissing_idle (syncOn_of_not_head h))
  · exact mark_first dt residence sub f s hw h hn hh hl h0 hset h1 h2 (found_ringTime_lt (rng_on_of_receives h.receives))
  · exact mark_accepted dt residence sub f s hw h hh hl hset hlane ha (found_ringTime_lt (rng_on_of_receives h.receives))

/-! The setting of a source that does not lead to SAFE: one whose severity is not SAFE, or in a mode that is not left for SAFE. -/

/-- The setting of a source does not lead to SAFE (R93, R455). -/
def NoEntry (c : Nat) (s : State) : Prop := (2 ≤ c ∧ s.get (faultObj Obj.faultSeverity c) ≠ 3) ∨ s.modeIn safeFrom = false

/-- The severity of a source and the mode are none of the registers that its setting writes. -/
def Registers (c : Nat) : Prop := c ≠ 0x24 ∧ faultObj Obj.faultSeverity c ∉ faultObjects c ∧ Obj.modeStatus ∉ faultObjects c

theorem registers_27 : Registers 0x27 := by unfold Registers; decide

theorem registers_28 : Registers 0x28 := by unfold Registers; decide

theorem registers_29 : Registers 0x29 := by unfold Registers; decide

theorem registers_2B : Registers 0x2B := by unfold Registers; decide

theorem modeIn_congr {s t : State} (l : List Nat) (h : t.get Obj.modeStatus = s.get Obj.modeStatus) : t.modeIn l = s.modeIn l := by
  unfold State.modeIn State.modeCode
  rw [h]

theorem modeCode_congr {s t : State} (h : t.get Obj.modeStatus = s.get Obj.modeStatus) : t.modeCode = s.modeCode := by
  unfold State.modeCode
  rw [h]

theorem NoEntry.congr {c : Nat} {s t : State} (h : NoEntry c s) (hs : t.get (faultObj Obj.faultSeverity c) = s.get (faultObj Obj.faultSeverity c))
    (hm : t.get Obj.modeStatus = s.get Obj.modeStatus) : NoEntry c t := by
  unfold NoEntry
  rw [hs, modeIn_congr safeFrom hm]
  exact h

/-- A start is not left for SAFE (R93). -/
theorem noEntry_of_start {c : Nat} {s : State} (h : s.modeCode = 0) : NoEntry c s := by
  refine .inr ?_
  unfold State.modeIn
  rw [h]
  decide

theorem enterSafe_id {s : State} (h : s.modeIn safeFrom = false) : enterSafe s = s := by
  unfold enterSafe
  rw [h, if_neg Bool.false_ne_true]

/-- What the recurrence of a condition writes, whether or not its source is set (R459, R463). -/
def recurs (c : Nat) (s : State) : State :=
  let a := { s with flt := { s.flt with
    cond := setBit s.flt.cond c true
    quiet := setBit s.flt.quiet c false
    setIn := setBit s.flt.setIn c true
    clearedIn := setBit s.flt.clearedIn c false } }
  if bit s.flt.clearedIn c then faultCollision c a else a

theorem recurs_keeps (c : Nat) (s : State) : Keeps (faultObjects c) faultBlocks s (recurs c s) := by
  unfold recurs
  extract_lets src a
  have h : Keeps (faultObjects c) faultBlocks s a := flt_keeps _ _ _
  refine keeps_ite _ (h.trans ?_) h
  exact (keeps_set faultBlocks a (k := faultObj Obj.faultCollisionCount c) _ (by simp [faultObjects])).trans (faultLog_keeps _ _ _)

/-- A source that is set stays set; its condition recurs (R459). -/
theorem faultOccur_again {c : Nat} {s : State} (h : s.faultOn c = true) (hc : c ≠ 0x24) : faultOccur c s = recurs c s := by
  unfold faultOccur recurs
  dsimp only
  rw [if_pos (by rw [h, Bool.true_and]; exact bne_iff_ne.mpr hc)]

theorem faultOccur_keeps {c : Nat} {s : State} (hr : Registers c) (h : NoEntry c s) : Keeps (faultObjects c) faultBlocks s (faultOccur c s) := by
  obtain ⟨hc, hv, hm⟩ := hr
  cases hs : s.faultOn c with
  | true => exact faultOccur_again hs hc ▸ recurs_keeps c s
  | false =>
    rcases h with ⟨h2, h3⟩ | hf
    · exact (faultOccur_mild hs h2 h3 hv).1
    · obtain ⟨f, k, -, e⟩ := faultOccur_form hs hv
      have hf' : f.modeIn safeFrom = false := (modeIn_congr safeFrom (k.1 _ hm)).trans hf
      rw [e]
      refine keeps_ite _ ?_ (keeps_ite _ (k.trans (keeps_mono (stageAuto_keeps _ _ _) (by simp) (by simp [faultBlocks]))) k)
      rw [enterSafe_id hf']
      exact k.trans (flt_keeps _ _ _)

theorem faultEnd_keeps_of (c : Nat) (ks : List Nat) (s : State) : Keeps ks faultBlocks s (faultEnd c s) :=
  keeps_mono (faultEnd_keeps c s) (by simp) (by simp [faultBlocks])

theorem faultPulse_keeps {c : Nat} {s : State} (hr : Registers c) (h : NoEntry c s) : Keeps (faultObjects c) faultBlocks s (faultPulse c s) :=
  (faultOccur_keeps hr h).trans (faultEnd_keeps_of c _ _)

theorem faultFollow_keeps {c : Nat} {s : State} (holds : Bool) (hr : Registers c) (h : NoEntry c s) :
    Keeps (faultObjects c) faultBlocks s (faultFollow c holds s) := by
  refine keeps_ite _ ?_ ?_
  · split_ifs
    · exact Keeps.refl _ _ _
    · exact faultOccur_keeps hr h
  · split_ifs
    · exact faultEnd_keeps_of c _ _
    · exact Keeps.refl _ _ _

theorem margins_keeps {s : State} (h : NoEntry 0x2B s) : Keeps marginObjects faultBlocks s (margins s) := by
  unfold margins
  extract_lets t
  have ht : Keeps marginObjects faultBlocks s t := keeps_set faultBlocks s _ (by simp [marginObjects])
  have hn : NoEntry 0x2B t := h.congr (ht.1 _ (by decide)) (ht.1 _ (by decide))
  refine keeps_ite _ (ht.trans (keeps_mono (faultFollow_false_keeps 0x2B t) (by simp) (by simp [faultBlocks]))) ?_
  refine keeps_ite _ ht (ht.trans ?_)
  have hu : Keeps marginObjects faultBlocks t (t.set Obj.ageingMarginCause s.marginCause) := keeps_set faultBlocks t _ (by simp [marginObjects])
  exact hu.trans (keeps_mono (faultOccur_keeps registers_2B (hn.congr (hu.1 _ (by decide)) (hu.1 _ (by decide))))
    (fun _ => List.mem_append_right _) (by simp))

theorem marginsFollow_keeps {s : State} (h : NoEntry 0x2B s) : Keeps marginObjects faultBlocks s (marginsFollow s) :=
  keeps_ite _ (Keeps.refl _ _ _) (margins_keeps h)

/-! A source leaves the others. -/

theorem bit_setBit_ne (v : Nat) {n m : Nat} (b : Bool) (h : m ≠ n) : bit (setBit v n b) m = bit v m := bit_setBits_ne v n m _ h

theorem recurs_status (c : Nat) (s : State) : (recurs c s).flt.status = s.flt.status := by
  unfold recurs
  dsimp only
  split_ifs <;> rfl

theorem stageAuto_flt (a b : Nat) (s : State) : (stageAuto a b s).flt = s.flt := by
  unfold stageAuto
  split
  · split_ifs <;> rfl
  · rfl

/-- The registers of a source that sets, with its event and the notice (R455, R459). -/
def raised (c : Nat) (d : State) : State :=
  let lim := d.get (faultObj Obj.faultRecoveryLimit c)
  let latch := c = 0x21 || c = 0x23 || (faultKindQ c && lim != 255 && lim ≤ d.get (faultObj Obj.faultRecoveryCount c))
  let sev := if c ≤ 1 then 3 else d.get (faultObj Obj.faultSeverity c)
  let e := faultLog c (2 ^ 8 + num latch * 2 ^ 9) { d with flt := { d.flt with
    status := setBit d.flt.status c true
    latched := setBit d.flt.latched c latch
    warn := setBit d.flt.warn c (1 ≤ sev)
    degrade := setBit d.flt.degrade c (sev == 2)
    safe := setBit d.flt.safe c (sev == 3) } }
  notify (if 1 ≤ sev then event 1 c e else e)

/-- A source that is not set is raised, and its severity acts (R455). -/
theorem faultOccur_raises {c : Nat} {s : State} (h : s.faultOn c = false) :
    faultOccur c s =
      (let f := raised c (recurs c s)
       let sev := if c ≤ 1 then 3 else (recurs c s).get (faultObj Obj.faultSeverity c)
       if sev = 3 then { enterSafe f with flt := { (enterSafe f).flt with setIn := setBit (enterSafe f).flt.setIn c true } }
       else if sev = 2 && f.modeIn outputModes then stageAuto Mode.measure 9 f else f) := by
  unfold faultOccur raised recurs
  simp only [h, Bool.false_and, Bool.false_eq_true, if_false]

theorem raised_faultOn_ne {c j : Nat} (d : State) (hj : j ≠ c) : (raised c d).faultOn j = d.faultOn j := by
  unfold raised
  extract_lets lim latch sev src e
  have he : e.faultOn j = d.faultOn j := bit_setBit_ne _ _ hj
  rw [(notify_stays _).faultOn]
  split_ifs
  · exact ((event_stays _ _ _).faultOn j).trans he
  · exact he

theorem raised_modeStatus {c : Nat} (d : State) (h : Obj.modeStatus ∉ faultObjects c) : (raised c d).get Obj.modeStatus = d.get Obj.modeStatus := by
  unfold raised
  extract_lets lim latch sev src e
  have he : e.get Obj.modeStatus = d.get Obj.modeStatus := (faultLog_keeps c _ _).1 _ h
  rw [(notify_keeps _).1 _ (by decide)]
  split_ifs
  · exact ((event_keeps _ _ _).1 _ (by decide)).trans he
  · exact he

/-- A source that sets leaves the status of the others, where it does not lead to SAFE. -/
theorem faultOccur_faultOn_ne {c j : Nat} {s : State} (hj : j ≠ c) (hr : Registers c) (hm : s.modeIn safeFrom = false) :
    (faultOccur c s).faultOn j = s.faultOn j := by
  obtain ⟨hc, -, hx⟩ := hr
  have hb : (recurs c s).faultOn j = s.faultOn j := congrArg (bit · j) (recurs_status c s)
  cases hs : s.faultOn c with
  | true => rw [faultOccur_again hs hc, hb]
  | false =>
    have hf : (raised c (recurs c s)).faultOn j = s.faultOn j := (raised_faultOn_ne _ hj).trans hb
    have hn : (raised c (recurs c s)).modeIn safeFrom = false := by
      rw [modeIn_congr safeFrom (raised_modeStatus _ hx), modeIn_congr safeFrom ((recurs_keeps c s).1 _ hx), hm]
    rw [faultOccur_raises hs]
    extract_lets f sev g
    have hg : g = f := enterSafe_id hn
    split_ifs
    · exact (congrArg (State.faultOn · j) hg).trans hf
    · unfold State.faultOn at hf ⊢
      rw [stageAuto_flt]
      exact hf
    · exact hf

/-- A source that sets shows in its status. -/
theorem faultOccur_on {c : Nat} {s : State} (hs : s.faultOn c = false) (hr : Registers c) (hm : s.modeIn safeFrom = false) :
    (faultOccur c s).faultOn c = true := by
  obtain ⟨-, hv, hx⟩ := hr
  obtain ⟨f, kf, hf, e⟩ := faultOccur_form hs hv
  have hn : enterSafe f = f := enterSafe_id ((modeIn_congr safeFrom (kf.1 _ hx)).trans hm)
  rw [e, hn]
  generalize (if c ≤ 1 then 3 else s.get (faultObj Obj.faultSeverity c)) = sev
  split_ifs
  · exact hf
  · unfold State.faultOn at hf ⊢
    rw [stageAuto_flt]
    exact hf
  · exact hf

theorem faultFollow_faultOn_ne {c j : Nat} {s : State} (b : Bool) (hj : j ≠ c) (hr : Registers c) (hm : s.modeIn safeFrom = false) :
    (faultFollow c b s).faultOn j = s.faultOn j := by
  unfold faultFollow
  split_ifs
  · rfl
  · exact faultOccur_faultOn_ne hj hr hm
  · rfl
  · rfl

theorem margins_faultOn_ne {j : Nat} {s : State} (hj : j ≠ 0x2B) (hm : s.modeIn safeFrom = false) : (margins s).faultOn j = s.faultOn j := by
  have hx : ∀ (u : State) k v, Obj.modeStatus ≠ k → u.modeIn safeFrom = false → (u.set k v).modeIn safeFrom = false := fun u k v h hu =>
    (modeIn_congr safeFrom (State.get_set_ne u v h)).trans hu
  unfold margins
  extract_lets t
  have ht : t.modeIn safeFrom = false := hx s Obj.marginStatus _ (by decide) hm
  have hs : t.faultOn j = s.faultOn j := congrArg (fun f : FaultEng => bit f.status j) (State.setField_flt s _ _ _ _)
  clear_value t
  split_ifs
  · exact (faultFollow_faultOn_ne false hj registers_2B ht).trans hs
  · exact hs
  · exact (faultOccur_faultOn_ne hj registers_2B (hx t _ _ (by decide) ht)).trans hs

theorem marginsFollow_faultOn_ne {j : Nat} {s : State} (hj : j ≠ 0x2B) (hm : s.modeIn safeFrom = false) :
    (marginsFollow s).faultOn j = s.faultOn j := by
  unfold marginsFollow
  split_ifs
  · rfl
  · exact margins_faultOn_ne hj hm

/-! The end of a start of the core (R30, R480, R497). What its parts leave: the log, the calibration regions, the memory test. -/

theorem nvm_keeps (ks : List Nat) (s : State) (m : NvmEng) : Keeps ks [.nvm] s { s with nvm := m } :=
  ⟨fun _ _ => rfl, fun b hb => by cases b <;> simp_all [Block.same]⟩

theorem requestOp_keeps (ks : List Nat) (o : NvmOp) (s : State) : Keeps ks [.nvm] s (requestOp o s) := requestOp_eq o s ▸ nvm_keeps ks s _

theorem storeState_keeps (ks : List Nat) (k : Nat) (s : State) : Keeps ks [.nvm] s (storeState k s) := storeState_eq k s ▸ nvm_keeps ks s _

theorem keeps_foldl {α : Type} {ks : List Nat} {bs : List Block} {f : State → α → State} (h : ∀ s x, Keeps ks bs s (f s x)) (l : List α) (s : State) :
    Keeps ks bs s (l.foldl f s) := by
  induction l generalizing s with
  | nil => exact Keeps.refl _ _ _
  | cons x l ih => exact (h s x).trans (ih _)

theorem storeDeviceP_keeps (s : State) : Keeps [] [.nvm] s (storeDeviceP s) := keeps_foldl (fun t k => storeState_keeps [] k t) _ s

theorem scanLog_keeps (s : State) : Keeps [Obj.nvmStatus, Obj.nvmTornRecords] [.nvm] s (scanLog s) := by
  unfold scanLog
  extract_lets torn top a fresh b t
  have ha : Keeps [Obj.nvmStatus, Obj.nvmTornRecords] [.nvm] s a := keeps_set _ s _ (by simp)
  have hb : Keeps [Obj.nvmStatus, Obj.nvmTornRecords] [.nvm] s b := keeps_ite _ ha (ha.trans (nvm_keeps _ a _))
  have ht : Keeps [Obj.nvmStatus, Obj.nvmTornRecords] [.nvm] s t := hb.trans (keeps_set _ b _ (by simp))
  refine keeps_ite _ ht ?_
  split
  · exact ht.trans (requestOp_keeps _ _ t)
  · exact ht

theorem startNext_cal0 (s : State) : (startNext s).nvm.cal0 = s.nvm.cal0 := by
  unfold startNext State.setLog
  dsimp only
  repeat' split
  all_goals rfl

theorem scanLog_cal0 (s : State) : (scanLog s).nvm.cal0 = s.nvm.cal0 := by
  unfold scanLog
  extract_lets torn top a fresh b t
  have hb : b.nvm.cal0 = s.nvm.cal0 := by
    unfold b
    split_ifs <;> rfl
  split_ifs
  · exact hb
  · split
    · exact (startNext_cal0 _).trans hb
    · exact hb

/-- Calibration regions that read well are taken as they are (R497). -/
theorem calLoad_good {cal : List CalRead} {s : State} (h : ∀ x ∈ cal, x.copy0 = true) (ht : ∀ ok ∈ s.nvm.cal0.tables, ok = true) :
    Keeps [] [.nvm] s (calLoad cal s) := by
  have hd : ∀ i, s.nvm.cal0.tables.getD i true = true := by
    intro i
    rw [List.getD_eq_getElem?_getD]
    cases hg : s.nvm.cal0.tables[i]? with
    | none => rfl
    | some ok => exact ht ok (List.mem_of_getElem? hg)
  unfold calLoad
  extract_lets l src c0 c1 a b
  have hl : ∀ x ∈ l, x.1 = true := by
    intro x hx
    obtain ⟨⟨c, i⟩, hc, rfl⟩ := List.mem_map.mp hx
    simp only [h c (List.fst_mem_of_mem_zipIdx hc), hd i, Bool.and_self]
  have hf : ∀ (m : List (Bool × Bool)) (t : State), (∀ x ∈ m, x.1 = true) → m.foldl (fun t x => readEnds x.1 x.2 (calAddress false) t) t = t := by
    intro m
    induction m with
    | nil => exact fun t _ => rfl
    | cons x m ih =>
      intro t hm
      rw [List.foldl_cons, readEnds, if_pos (hm x (by simp))]
      exact ih t (fun y hy => hm y (by simp [hy]))
  have hb : b = a := hf l a hl
  have hall : (l.all (·.1) || !l.all (·.2)) = true := by
    rw [List.all_eq_true.mpr hl, Bool.true_or]
  refine keeps_ite _ (Keeps.refl _ _ _) ?_
  rw [hall, if_pos rfl, hb]
  exact nvm_keeps [] s _

/-- A memory without a failing word has no row to map (R480). -/
theorem testMacros_clean {mem : List MacroMeas} (h : ∀ x ∈ mem, x.words = []) (m : Nat) (s : State) :
    testMacros m mem s = (s, 1) ∧ firstFail m mem = 0 := by
  induction mem generalizing m with
  | nil => exact ⟨rfl, rfl⟩
  | cons x xs ih =>
    have hx : x.words = [] := h x (by simp)
    obtain ⟨h1, h2⟩ := ih (fun y hy => h y (by simp [hy])) (m + 1)
    refine ⟨?_, ?_⟩
    · rw [testMacros, hx, List.isEmpty_nil, if_pos rfl, h1]
    · rw [firstFail, hx]
      exact h2

theorem memoryTest_clean {mem : List MacroMeas} (h : ∀ x ∈ mem, x.words = []) (s : State) :
    memoryTest mem s = faultFollow 0x29 false (s.set Obj.memBistResult 1) := by
  obtain ⟨h1, h2⟩ := testMacros_clean h 0 s
  unfold memoryTest
  rw [h1, h2]
  rfl

theorem coverAgain_none {xs : List Nat} {s : State} (h : s.get Obj.retiredMask = 0) : coverAgain xs s = s := by
  have hb : bitList 0 24 = [] := by decide
  unfold coverAgain
  rw [h, hb]
  split_ifs <;> rfl

/-- What the core has read and tested when its start ends, before the sources and the covers follow. -/
def coreTested (mem : List MacroMeas) (cal : List CalRead) (s : State) : State :=
  storeDeviceP (memoryTest mem (calLoad cal (scanLog (s.set Obj.supervisorState 0))))

/-- The core has ended its start: the wear has been judged, no notice waits, and a trial is timed (R506). -/
def coreUp (mem : List MacroMeas) (cal : List CalRead) (s : State) : State :=
  let a := nvmWear (coreTested mem cal s)
  { a with notifyQ := 0, nvm := { a.nvm with trialAt := if a.inTrial then some a.clk else none } }

theorem effSupervisorReady_eq (mem : List MacroMeas) (cal : List CalRead) {s : State} (h1 : s.get Obj.supervisorState = 1) (h2 : s.on .sup = true)
    (h3 : s.mode.noImage = false) :
    effSupervisorReady mem cal s =
      event 7 0 (marginsFollow (if (coreUp mem cal s).modeCode = 0 then coreUp mem cal s else coverAgain [0, 3] (coreUp mem cal s))) := by
  unfold effSupervisorReady coreUp coreTested
  have hg : (s.get Obj.supervisorState != 1 || !s.on .sup || s.mode.noImage) = false := by
    rw [h1, h2, h3]
    rfl
  rw [hg, if_neg Bool.false_ne_true]

theorem coreTested_good {mem : List MacroMeas} {cal : List CalRead} {s : State} (hm : ∀ x ∈ mem, x.words = []) (hc : ∀ x ∈ cal, x.copy0 = true)
    (ht : ∀ ok ∈ s.nvm.cal0.tables, ok = true) :
    Keeps [Obj.supervisorState, Obj.nvmStatus, Obj.nvmTornRecords, Obj.memBistResult] [.nvm, .flt] s (coreTested mem cal s) ∧
      (coreTested mem cal s).get Obj.supervisorState = 0 ∧ (coreTested mem cal s).get Obj.memBistResult = 1 := by
  have k1 : Keeps [Obj.supervisorState] [] s (s.set Obj.supervisorState 0) := keeps_set [] s 0 (by simp)
  have g1 : (s.set Obj.supervisorState 0).get Obj.supervisorState = 0 := State.get_set_self s _ _
  have t1 : (scanLog (s.set Obj.supervisorState 0)).nvm.cal0 = s.nvm.cal0 := scanLog_cal0 _
  have k2 := scanLog_keeps (s.set Obj.supervisorState 0)
  have k3 := calLoad_good (s := scanLog (s.set Obj.supervisorState 0)) hc (t1.symm ▸ ht)
  unfold coreTested
  rw [memoryTest_clean hm]
  set d := calLoad cal (scanLog (s.set Obj.supervisorState 0))
  have k4 : Keeps [Obj.memBistResult] [] d (d.set Obj.memBistResult 1) := keeps_set [] d 1 (by simp)
  have k5 := faultFollow_false_keeps 0x29 (d.set Obj.memBistResult 1)
  have k6 := storeDeviceP_keeps (faultFollow 0x29 false (d.set Obj.memBistResult 1))
  refine ⟨?_, ?_, ?_⟩
  · exact ((((keeps_mono k1 (by simp) (by simp)).trans (keeps_mono k2 (by simp) (by simp))).trans (keeps_mono k3 (by simp) (by simp))).trans
      (keeps_mono k4 (by simp) (by simp))).trans ((keeps_mono k5 (by simp) (by simp)).trans (keeps_mono k6 (by simp) (by simp)))
  · rw [k6.1 _ (by simp), k5.1 _ (by simp), k4.1 _ (by decide), k3.1 _ (by simp), k2.1 _ (by decide), g1]
  · rw [k6.1 _ (by simp), k5.1 _ (by simp), State.get_set_self]

/-- The objects that the judgement of the wear and of the margins, with its events, writes. -/
def followObjects : List Nat := faultObjects 0x28 ++ marginObjects

theorem event_follows (a b : Nat) (s : State) : Keeps followObjects faultBlocks s (event a b s) :=
  keeps_mono (event_keeps a b s) (by simp [followObjects, faultObjects]) (by simp [faultBlocks])

theorem coreUp_good {mem : List MacroMeas} {cal : List CalRead} {s : State} (hm : ∀ x ∈ mem, x.words = []) (hc : ∀ x ∈ cal, x.copy0 = true)
    (ht : ∀ ok ∈ s.nvm.cal0.tables, ok = true) (h28 : s.get (faultObj Obj.faultSeverity 0x28) ≠ 3) :
    Keeps ([Obj.supervisorState, Obj.nvmStatus, Obj.nvmTornRecords, Obj.memBistResult] ++ followObjects) (.nvm :: faultBlocks) s (coreUp mem cal s) ∧
      (coreUp mem cal s).get Obj.supervisorState = 0 ∧ (coreUp mem cal s).get Obj.memBistResult = 1 := by
  obtain ⟨k1, g1, m1⟩ := coreTested_good hm hc ht
  unfold coreUp
  set c := coreTested mem cal s
  have hn : NoEntry 0x28 c := .inl ⟨by decide, by rw [k1.1 _ (by decide)]; exact h28⟩
  have k2 : Keeps followObjects faultBlocks c (nvmWear c) :=
    keeps_mono (faultFollow_keeps _ registers_28 hn) (fun _ => List.mem_append_left _) (by simp)
  extract_lets a src
  have k3 : Keeps [] [.notes, .nvm] a { a with notifyQ := 0, nvm := { a.nvm with trialAt := if a.inTrial then some a.clk else none } } :=
    ⟨fun _ _ => rfl, fun b hb => by cases b <;> simp_all [Block.same]⟩
  refine ⟨?_, (k2.1 _ (by decide)).trans g1, (k2.1 _ (by decide)).trans m1⟩
  exact ((keeps_mono k1 (fun _ => List.mem_append_left _) (by simp [faultBlocks])).trans
    (keeps_mono k2 (fun _ => List.mem_append_right _) (fun _ => List.mem_cons_of_mem _))).trans (keeps_mono k3 (by simp) (by simp [faultBlocks]))

/-- A start of the core whose memory and calibration are good ends (R30). -/
theorem supervisorReady_good (dt : Nat) (mem : List MacroMeas) (cal : List CalRead) (s : State) (hw : Instr.wf (.supervisorReady dt ⟨mem, cal⟩) = true)
    (h1 : (s.found dt).get Obj.supervisorState = 1) (h2 : (s.found dt).on .sup = true) (h3 : (s.found dt).mode.noImage = false)
    (hm : ∀ x ∈ mem, x.words = []) (hc : ∀ x ∈ cal, x.copy0 = true) (ht : ∀ ok ∈ (s.found dt).nvm.cal0.tables, ok = true)
    (hr : (s.found dt).get Obj.retiredMask = 0) (h28 : (s.found dt).get (faultObj Obj.faultSeverity 0x28) ≠ 3)
    (h2b : (s.found dt).get (faultObj Obj.faultSeverity 0x2B) ≠ 3) :
    Completes (.supervisorReady dt ⟨mem, cal⟩) dt s
      ([Obj.supervisorState, Obj.nvmStatus, Obj.nvmTornRecords, Obj.memBistResult] ++ followObjects) (.nvm :: faultBlocks)
      (fun _ t => t.supReady = true ∧ t.get Obj.memBistResult = 1) := by
  generalize hu : s.found dt = u at *
  obtain ⟨k1, g1, m1⟩ := coreUp_good hm hc ht h28
  have he := effSupervisorReady_eq mem cal h1 h2 h3
  set c := coreUp mem cal u
  rw [coverAgain_none ((k1.1 _ (by decide)).trans hr), ite_self] at he
  have hn : NoEntry 0x2B c := .inl ⟨by decide, by rw [k1.1 _ (by decide)]; exact h2b⟩
  have k2 : Keeps followObjects faultBlocks c (effSupervisorReady mem cal u) :=
    he ▸ (keeps_mono (marginsFollow_keeps hn) (fun _ => List.mem_append_right _) (by simp)).trans (event_follows 7 0 _)
  refine completes_of hw rfl ?_ ?_
  · rw [hu]
    refine ⟨?_, ?_⟩
    · unfold State.supReady
      rw [settle_get]
      exact beq_iff_eq.mpr ((k2.1 _ (by decide)).trans g1)
    · rw [settle_get]
      exact (k2.1 _ (by decide)).trans m1
  · rw [hu]
    exact k1.trans (keeps_mono k2 (fun _ => List.mem_append_right _) (fun _ => List.mem_cons_of_mem _))

/-! The same whatever the memory test and the calibration have found: one object at a time, as the sources may lead to SAFE. -/

/-- An object is as it was, and a calm state stays calm. -/
structure Rests (k : Nat) (s t : State) : Prop where
  get : t.get k = s.get k
  calm : Calm s → Calm t

theorem Rests.refl (k : Nat) (s : State) : Rests k s s := ⟨rfl, id⟩

theorem Rests.trans {k : Nat} {s t u : State} (h : Rests k s t) (g : Rests k t u) : Rests k s u :=
  ⟨g.get.trans h.get, fun c => g.calm (h.calm c)⟩

theorem Rests.ite {k : Nat} {s t u : State} {p : Prop} [Decidable p] (h : Rests k s t) (g : Rests k s u) : Rests k s (if p then t else u) := by
  split_ifs
  · exact h
  · exact g

theorem Rests.set {k j : Nat} (s : State) (v : Nat) (h : k ≠ j) : Rests k s (s.set j v) := ⟨State.get_set_ne s v h, id⟩

theorem Stays.rests {ks : List Nat} {s t : State} (h : Stays ks s t) {k : Nat} (hk : k ∉ ks) : Rests k s t := ⟨h.objs k hk, h.calm⟩

theorem Keeps.rests {ks : List Nat} {bs : List Block} {s t : State} (h : Keeps ks bs s t) {k : Nat} (hk : k ∉ ks) (ht : Block.test ∉ bs)
    (hl : Block.loupe ∉ bs) : Rests k s t := by
  have e1 : t.test = s.test := h.2 .test ht
  have e2 : t.loupe = s.loupe := h.2 .loupe hl
  exact ⟨h.1 k hk, fun c => ⟨by rw [e1]; exact c.1, by rw [e2]; exact c.2⟩⟩

theorem Rests.foldl {α : Type} {k : Nat} {f : State → α → State} (h : ∀ s x, Calm s → Rests k s (f s x)) (l : List α) {s : State} (c : Calm s) :
    Rests k s (l.foldl f s) := by
  induction l generalizing s with
  | nil => exact .refl k s
  | cons x l ih => exact (h s x c).trans (ih ((h s x c).calm c))

/-- The setting of a source, whether or not it leads to SAFE. -/
theorem faultOccur_rests {c k : Nat} {s : State} (hr : Registers c) (hk : k ∉ faultObjects c) (hs : k ∉ safeObjects) (hc : Calm s) :
    Rests k s (faultOccur c s) := by
  obtain ⟨h24, hv, -⟩ := hr
  cases ho : s.faultOn c with
  | true => exact faultOccur_again ho h24 ▸ (recurs_keeps c s).rests hk (by decide) (by decide)
  | false =>
    obtain ⟨f, kf, -, e⟩ := faultOccur_form ho hv
    have rf : Rests k s f := kf.rests hk (by decide) (by decide)
    have re : Rests k f (enterSafe f) := by
      cases hm : f.modeIn safeFrom with
      | true => exact (enterSafe_eq (rf.calm hc) hm).1.rests hs
      | false => exact (enterSafe_id hm).symm ▸ .refl k f
    have rx : ∀ x : State, ∀ g, Rests k x { x with flt := g } := fun x g => ⟨rfl, id⟩
    rw [e]
    exact .ite ((rf.trans re).trans (rx _ _)) (.ite (rf.trans ((stageAuto_keeps _ _ f).rests (by simp) (by decide) (by decide))) rf)

theorem faultFollow_rests {c k : Nat} {s : State} (b : Bool) (hr : Registers c) (hk : k ∉ faultObjects c) (hs : k ∉ safeObjects) (hc : Calm s) :
    Rests k s (faultFollow c b s) :=
  .ite (.ite (.refl k s) (faultOccur_rests hr hk hs hc)) (.ite ⟨rfl, id⟩ (.refl k s))

theorem marginsFollow_rests {k : Nat} {s : State} (hk : k ∉ marginObjects) (hs : k ∉ safeObjects) (hc : Calm s) : Rests k s (marginsFollow s) := by
  have h1 : k ≠ Obj.marginStatus := fun e => hk (e ▸ List.mem_append_left _ (by decide))
  have h2 : k ≠ Obj.ageingMarginCause := fun e => hk (e ▸ List.mem_append_left _ (by decide))
  have h3 : k ∉ faultObjects 0x2B := fun e => hk (List.mem_append_right _ e)
  have ht : Rests k s (s.setField Obj.marginStatus 0 40 (ofLe s.marginList)) := .set s _ h1
  refine .ite (.refl k s) (.ite (ht.trans (faultFollow_rests false registers_2B h3 hs (ht.calm hc))) (.ite ht ?_))
  have hu := ht.trans (Rests.set _ s.marginCause h2)
  exact hu.trans (faultOccur_rests registers_2B h3 hs (hu.calm hc))

theorem readEnds_rests {k : Nat} (a b : Bool) (n : Nat) {s : State} (hk : k ∉ faultObjects 0x27) (hs : k ∉ safeObjects)
    (h1 : k ≠ Obj.nvmRereads) (h2 : k ≠ Obj.nvmLastFault) (hc : Calm s) : Rests k s (readEnds a b n s) := by
  have ht : ∀ v, Rests k s (s.set Obj.nvmLastFault v) := fun v => .set s v h2
  exact .ite (.refl k s) (.ite (.set s _ h1) ((ht _).trans (faultOccur_rests registers_27 hk hs ((ht _).calm hc))))

theorem calLoad_rests {k : Nat} (cal : List CalRead) {s : State} (hk : k ∉ faultObjects 0x27) (hs : k ∉ safeObjects)
    (h1 : k ≠ Obj.nvmRereads) (h2 : k ≠ Obj.nvmLastFault) (hc : Calm s) : Rests k s (calLoad cal s) := by
  unfold calLoad
  extract_lets l src c0 c1 a b
  have ha : Rests k s a := ⟨rfl, id⟩
  have hb : Rests k s b := ha.trans (.foldl (fun t x ht => readEnds_rests x.1 x.2 _ hk hs h1 h2 ht) l (ha.calm hc))
  have hq : ∀ o x, Rests k x (requestOp o x) := fun o x => (requestOp_keeps [] o x).rests (by simp) (by decide) (by decide)
  exact .ite (.refl k s) (.ite hb ((hb.trans (hq _ _)).trans (hq _ _)))

/-- The repair of a row writes its map, above the objects of the start (R481). -/
theorem mapRow_rests {k m row : Nat} {s t : State} (hk : k < Obj.repairMap) (h : mapRow m row s = some t) : Rests k s t := by
  have hj : ∀ v, Rests k s (s.keep (Obj.repairMap + (m + 1)) v) := fun v =>
    keep_eq (Obj.repairMap + (m + 1)) v s ▸ ⟨State.get_set_ne s v (by omega), id⟩
  unfold mapRow at h
  dsimp only at h
  split_ifs at h
  · exact Option.some.inj h ▸ hj _
  · exact Option.some.inj h ▸ hj _

theorem mapRows_rests {k m : Nat} (hk : k < Obj.repairMap) (rows : List Nat) (s : State) : Rests k s (mapRows m rows s).1 := by
  induction rows generalizing s with
  | nil => exact .refl k s
  | cons r rs ih =>
    unfold mapRows
    split
    case h_1 t ht => exact (mapRow_rests hk ht).trans (ih t)
    case h_2 => exact .refl k s

theorem testMacros_rests {k : Nat} (hk : k < Obj.repairMap) (mem : List MacroMeas) (m : Nat) (s : State) : Rests k s (testMacros m mem s).1 := by
  induction mem generalizing m s with
  | nil => exact .refl k s
  | cons x xs ih =>
    unfold testMacros
    split_ifs
    · exact ih _ s
    · exact (mapRows_rests hk _ s).trans (ih _ _)

/-- The outcome of a memory test is 1, 2 or 3, and the word that failed first stands above it (R480). -/
theorem testMacros_outcome (mem : List MacroMeas) (m : Nat) (s : State) : 1 ≤ (testMacros m mem s).2 ∧ (testMacros m mem s).2 ≤ 3 := by
  induction mem generalizing m s with
  | nil => exact ⟨le_refl 1, (by decide : 1 ≤ 3)⟩
  | cons x xs ih =>
    unfold testMacros
    split_ifs
    · exact ih _ s
    · obtain ⟨h1, h2⟩ := ih (m + 1) (mapRows m (macroRows x) s).1
      refine ⟨le_max_of_le_left h1, max_le h2 ?_⟩
      split_ifs <;> decide

theorem firstFail_mod (mem : List MacroMeas) (m : Nat) : firstFail m mem % 16 = 0 := by
  induction mem generalizing m with
  | nil => rfl
  | cons x xs ih =>
    unfold firstFail
    split
    · omega
    · exact ih _

theorem memoryTest_rests {k : Nat} (mem : List MacroMeas) {s : State} (hk : k < Obj.repairMap) (hb : k ≠ Obj.memBistResult)
    (h29 : k ∉ faultObjects 0x29) (hs : k ∉ safeObjects) (hc : Calm s) : Rests k s (memoryTest mem s) := by
  have ht := (testMacros_rests hk mem 0 s).trans (Rests.set _ (firstFail 0 mem + (testMacros 0 mem s).2) hb)
  exact ht.trans (faultFollow_rests _ registers_29 h29 hs (ht.calm hc))

theorem memoryTest_result (mem : List MacroMeas) {s : State} (hc : Calm s) : (memoryTest mem s).get Obj.memBistResult % 16 ≠ 0 := by
  have ht : Calm ((testMacros 0 mem s).1.set Obj.memBistResult (firstFail 0 mem + (testMacros 0 mem s).2)) :=
    (testMacros_rests (k := 0) (by decide) mem 0 s).calm hc
  have hg : (memoryTest mem s).get Obj.memBistResult = firstFail 0 mem + (testMacros 0 mem s).2 :=
    (faultFollow_rests _ registers_29 (by decide) (by decide) ht).get.trans (State.get_set_self _ _ _)
  have h1 := testMacros_outcome mem 0 s
  have h2 := firstFail_mod mem 0
  omega

theorem storeDeviceP_rests (k : Nat) (s : State) : Rests k s (storeDeviceP s) := (storeDeviceP_keeps s).rests (by simp) (by decide) (by decide)

/-- What the core does at the end of its start leaves SupervisorState as it set it, and gives the test its outcome. -/
theorem coreTested_calm (mem : List MacroMeas) (cal : List CalRead) {s : State} (hc : Calm s) :
    Calm (coreTested mem cal s) ∧ (coreTested mem cal s).get Obj.supervisorState = 0 ∧
      (coreTested mem cal s).get Obj.memBistResult % 16 ≠ 0 := by
  have r2 : Rests Obj.supervisorState (s.set Obj.supervisorState 0) (scanLog (s.set Obj.supervisorState 0)) :=
    (scanLog_keeps _).rests (by decide) (by decide) (by decide)
  have c2 : Calm (scanLog (s.set Obj.supervisorState 0)) := r2.calm hc
  have r3 := calLoad_rests cal (k := Obj.supervisorState) (by decide) (by decide) (by decide) (by decide) c2
  have c3 := r3.calm c2
  have r4 := memoryTest_rests (k := Obj.supervisorState) mem (by decide) (by decide) (by decide) (by decide) c3
  have g := memoryTest_result mem c3
  unfold coreTested
  set m := memoryTest mem (calLoad cal (scanLog (s.set Obj.supervisorState 0)))
  refine ⟨(storeDeviceP_rests 0 m).calm (r4.calm c3), ?_, ?_⟩
  · rw [((r2.trans (r3.trans r4)).trans (storeDeviceP_rests _ m)).get, State.get_set_self]
  · rw [(storeDeviceP_rests Obj.memBistResult m).get]
    exact g

/-- What follows the tests leaves the objects of the start. -/
theorem effSupervisorReady_rests {k : Nat} {mem : List MacroMeas} {cal : List CalRead} {s : State} (h1 : s.get Obj.supervisorState = 1)
    (h2 : s.on .sup = true) (h3 : s.mode.noImage = false) (h28 : k ∉ faultObjects 0x28) (hm : k ∉ marginObjects) (hs : k ∉ safeObjects)
    (hp : k ∉ planObjects) (he : k ∉ [Obj.eventsLost, Obj.ringEventsLost]) (hc : Calm (coreTested mem cal s)) :
    Rests k (coreTested mem cal s) (effSupervisorReady mem cal s) := by
  rw [effSupervisorReady_eq mem cal h1 h2 h3]
  have r1 : Rests k (coreTested mem cal s) (coreUp mem cal s) :=
    (faultFollow_rests _ registers_28 h28 hs hc).trans ⟨rfl, id⟩
  have r2 := r1.trans (Rests.ite (p := (coreUp mem cal s).modeCode = 0) (.refl k _) ((coverAgain_stays [0, 3] (r1.calm hc)).rests hp))
  exact (r2.trans (marginsFollow_rests hm hs (r2.calm hc))).trans ((event_keeps 7 0 _).rests he (by decide) (by decide))

/-- A start of the core ends, whatever its memory test has found (R480, log entry 17). -/
theorem supervisorReady_any (dt : Nat) (mem : List MacroMeas) (cal : List CalRead) (s : State) (hw : Instr.wf (.supervisorReady dt ⟨mem, cal⟩) = true)
    (h1 : (s.found dt).get Obj.supervisorState = 1) (h2 : (s.found dt).on .sup = true) (h3 : (s.found dt).mode.noImage = false)
    (hc : Calm (s.found dt)) :
    Leads (.supervisorReady dt ⟨mem, cal⟩) dt s (fun _ t => t.supReady = true ∧ t.get Obj.memBistResult % 16 ≠ 0) := by
  obtain ⟨c, g, m⟩ := coreTested_calm mem cal hc
  have r := fun k h28 hm hs hp he => effSupervisorReady_rests (k := k) h1 h2 h3 h28 hm hs hp he c
  refine leads_of hw rfl ⟨?_, ?_⟩
  · unfold State.supReady
    rw [settle_get, (r Obj.supervisorState (by decide) (by decide) (by decide) (by decide) (by decide)).get, g]
    rfl
  · rw [settle_get, (r Obj.memBistResult (by decide) (by decide) (by decide) (by decide) (by decide)).get]
    exact m

/-! A power-on reset (R85, R109). -/

/-- The role bits of a start show no head (R109). -/
theorem bit_startRole (a b : Bool) : bit (num a + num b * 8) 1 = false := by cases a <;> cases b <;> rfl

/-- The strapped host port and the watchdog's default write their own objects. -/
theorem startDefaults_get (s : State) {k : Nat} (h1 : k ≠ Obj.hostPortActive) (h2 : k ≠ Obj.watchdogConfig) :
    (watchdogDefault (hostPort s)).get k = s.get k :=
  (State.get_set_ne (hostPort s) _ h2).trans (State.get_set_ne s _ h1)

theorem setLink_get (s : State) (p : Side) (a b : Nat) {k : Nat} (h : k ≠ Obj.linkStatus + sideSub p) : (s.setLink p a b).get k = s.get k :=
  State.get_set_ne s _ h

/-- States with one store of objects read the same. -/
theorem get_of_objs {s t : State} (h : t.objs = s.objs) (k : Nat) : t.get k = s.get k := by
  unfold State.get
  rw [h]

theorem startupMode_objs (cause prev : Nat) (s : State) :
    (watchdogStart (startupMode cause prev s)).objs = (s.set Obj.modeStatus (cause * 2 ^ 24 + prev * 2 ^ 8)).objs := rfl

theorem startupMode_modeStatus (cause prev : Nat) (s : State) :
    (watchdogStart (startupMode cause prev s)).get Obj.modeStatus = cause * 2 ^ 24 + prev * 2 ^ 8 := by
  rw [get_of_objs (startupMode_objs cause prev s), State.get_set_self]

theorem startupMode_get_ne (cause prev : Nat) (s : State) {k : Nat} (h : k ≠ Obj.modeStatus) :
    (watchdogStart (startupMode cause prev s)).get k = s.get k := by
  rw [get_of_objs (startupMode_objs cause prev s), State.get_set_ne _ _ h]

/-- Nothing is in progress, no session stands, and the counter is at 0. -/
structure Blank (s : State) : Prop where
  ringTime : s.ringTime = 0
  sessions : s.port.sessions = []
  calm : Calm s

theorem Blank.set {s : State} (h : Blank s) (k v : Nat) : Blank (s.set k v) := ⟨h.ringTime, h.sessions, h.calm⟩

/-- An update of the other blocks. -/
theorem Blank.after {s : State} (h : Blank s) {pending clk freeCtr objs latest staged notifyQ mode time cells cur aux facet plan bal xfer ring safe flt
    check nvm} : Blank ⟨pending, clk, s.ringTime, freeCtr, objs, latest, staged, notifyQ, s.port, mode, time, cells, cur, aux, facet, plan, bal,
      s.loupe, xfer, ring, safe, flt, check, s.test, nvm⟩ :=
  ⟨h.ringTime, h.sessions, h.calm⟩

theorem Blank.ite {s t : State} {p : Prop} [Decidable p] (h : Blank s) (g : Blank t) : Blank (if p then s else t) := by
  split_ifs
  · exact h
  · exact g

/-- A start from the domains' resets: nothing is in progress (R109). -/
theorem coldStart_blank (kept : List Nat) (cause : Nat) (s : State) : Blank (coldStart kept cause s) := by
  unfold coldStart
  extract_lets cells cur plan bal ring port test a held b c cells' ring' enm d e cur' f
  have ha : Blank a := ⟨rfl, rfl, rfl, rfl⟩
  have hb : Blank b := .ite ha (ha.set _ _)
  have hc : Blank c := ((hb.set _ _).set _ _).set _ _ |>.after
  have hd : Blank d := hc.after
  have he : Blank e := (hd.set _ _).set _ _
  have hf : Blank f := he.after
  exact (hf.set _ _).after.after

/-- A start from the domains' resets: no mode has been entered, and no role is held (R89, R109). -/
theorem coldStart_objs (kept : List Nat) (s : State) : (coldStart kept 1 s).modeCode = 0 ∧ (coldStart kept 1 s).isHead = false := by
  unfold coldStart State.modeCode State.isHead
  extract_lets cells cur plan bal ring port test a held b c cells' ring' enm d e cur' f
  have hr : f.get Obj.ringRole = num (bit (b.get Obj.strapStatus) 5) + num (b.get Obj.shuntEnable = 1) * 8 :=
    calc f.get Obj.ringRole
      _ = e.get Obj.ringRole := get_of_objs (t := f) (s := e) rfl _
      _ = (d.setLink .north 1 1).get Obj.ringRole := setLink_get _ .south 1 1 (by decide)
      _ = d.get Obj.ringRole := setLink_get d .north 1 1 (by decide)
      _ = c.get Obj.ringRole := get_of_objs (t := d) (s := c) rfl _
      _ = _ := startDefaults_get _ (by decide) (by decide)
      _ = _ := State.get_set_self b _ _
  clear_value f
  have hc : (if (1 : Nat) = 5 then bits (s.get Obj.modeStatus) 0 8 else 0) = 0 := if_neg (by decide)
  refine ⟨?_, ?_⟩
  · rw [startupMode_modeStatus, hc]
    decide
  · rw [startupMode_get_ne _ _ _ (by decide), hr]
    exact bit_startRole _ _

/-- What a device that is powered up shows, on its way to its ROM plan and its core. -/
structure Powered (path : Nat) (alarm : Bool) (s : State) : Prop where
  boot : s.modeCode = 0
  head : s.isHead = false
  domains : s.get Obj.domainStatus = 0x2FF
  ringTime : s.ringTime = 0
  path : s.pathState = path
  alarm : s.faultOn 0x16 = alarm
  calm : Calm s

/-- What changes none of them. -/
theorem Powered.of {p : Nat} {a b : Bool} {s t : State} (h : Powered p a s)
    (hk : ∀ k ∈ [Obj.modeStatus, Obj.ringRole, Obj.domainStatus, Obj.powerPathStatus], t.get k = s.get k) (ht : t.ringTime = s.ringTime)
    (hf : t.faultOn 0x16 = b) (hc : Calm s → Calm t) : Powered p b t := by
  refine ⟨(modeCode_congr (hk _ (by simp))).trans h.boot, ?_, (hk _ (by simp)).trans h.domains, ht.trans h.ringTime, ?_, hf, hc h.calm⟩
  · simpa only [State.isHead, hk Obj.ringRole (by simp)] using h.head
  · simpa only [State.pathState, hk Obj.powerPathStatus (by simp)] using h.path

theorem Powered.keeps {p : Nat} {a b : Bool} {ks : List Nat} {bs : List Block} {s t : State} (h : Powered p a s) (hk : Keeps ks bs s t)
    (ho : ∀ k ∈ [Obj.modeStatus, Obj.ringRole, Obj.domainStatus, Obj.powerPathStatus], k ∉ ks) (hr : Block.ringTime ∉ bs) (ht : Block.test ∉ bs)
    (hl : Block.loupe ∉ bs) (hf : t.faultOn 0x16 = b) : Powered p b t :=
  h.of (fun k m => hk.1 k (ho k m)) (hk.2 .ringTime hr) hf (hk.rests (ho _ (by simp : Obj.modeStatus ∈ _)) ht hl).calm

theorem Powered.stays {p : Nat} {a : Bool} {ks : List Nat} {s t : State} (h : Powered p a s) (hk : Stays ks s t)
    (ho : ∀ k ∈ [Obj.modeStatus, Obj.ringRole, Obj.domainStatus, Obj.powerPathStatus], k ∉ ks) : Powered p a t :=
  h.of (fun k m => hk.objs k (ho k m)) hk.ringTime ((hk.faultOn _).trans h.alarm) hk.calm

theorem Powered.mild {p : Nat} {a : Bool} {s : State} (h : Powered p a s) : s.modeIn safeFrom = false := by
  unfold State.modeIn
  rw [h.boot]
  decide

/-- PowerPathStatus of the first source shows XBS without STK (R85). -/
theorem bits_firstPath (x b : Bool) : bits (num x * 8 + if b = true then 2 else 0) 0 2 = if b = true then 2 else 0 := by
  cases x <;> cases b <;> rfl

/-- The domains are powered, with the safety domain and the sources at their resets (R109). -/
def poweredUp (p : StrapPins) (fromShip : Bool) (s : State) : State :=
  let a := if fromShip then
      (s.set Obj.resetCause (bits (s.get Obj.resetCause) 12 4 * 2 ^ 12 + 4)).setBitOf Obj.wakeCause 6 true
    else s.setBitOf Obj.wakeCause 5 true
  let b := coldStart aoKept 1 (sampleStraps p fromShip a)
  let c := { b with
    safe := { b.safe.down with cells := strapCells b, wdStart := b.clk }
    flt := FaultEng.clear
    cur := if fromShip then b.cur else
      { b.cur with counter := 0, start := 0, retained := 0, prevLatch := 0, temps := [] }
    mode := { b.mode with dwell := false, handover := none, resetting := false, powerAt := some b.clk } }
  (c.set Obj.supplyStatus 0x7C).set Obj.domainStatus 0x2FF

theorem effPowerOnReset_eq (p : StrapPins) (stkOk xbsOk fromShip : Bool) (s : State) :
    effPowerOnReset p stkOk xbsOk fromShip s =
      dwellFollow (startSup (marginsFollow (startRom (adoptShuntSource
        ((firstSource stkOk xbsOk (poweredUp p fromShip s)).count Obj.counterGapCount 16))))) := rfl

/-- A device whose domains have just been powered, before it chooses its source. -/
structure Unsourced (s : State) : Prop where
  boot : s.modeCode = 0
  head : s.isHead = false
  domains : s.get Obj.domainStatus = 0x2FF
  ringTime : s.ringTime = 0
  status : s.flt.status = 0
  sessions : s.port.sessions = []
  cen : s.safe.cenOn = false
  calm : Calm s

/-- The reset of the safety domain and of the sources after a start (R109). -/
theorem resetSafety_unsourced {s : State} (hm : s.modeCode = 0) (hh : s.isHead = false) (hb : Blank s) {safe : SafetyEng} {flt : FaultEng}
    (hs : safe.cenOn = false) (hf : flt.status = 0) (cur : CurEng) (mode : ModeEng) :
    Unsourced ((State.set { s with safe := safe, flt := flt, cur := cur, mode := mode } Obj.supplyStatus 0x7C).set Obj.domainStatus 0x2FF) := by
  set c : State := { s with safe := safe, flt := flt, cur := cur, mode := mode } with hc
  have ho : ∀ k, k ≠ Obj.supplyStatus → k ≠ Obj.domainStatus → ((c.set Obj.supplyStatus 0x7C).set Obj.domainStatus 0x2FF).get k = s.get k :=
    fun k h1 h2 => ((State.get_set_ne _ _ h2).trans (State.get_set_ne c _ h1)).trans (get_of_objs (t := c) (s := s) rfl k)
  refine ⟨(modeCode_congr (ho _ (by decide) (by decide))).trans hm, ?_, State.get_set_self _ _ _, hb.ringTime, hf, hb.sessions, hs, hb.calm⟩
  unfold State.isHead
  rw [ho _ (by decide) (by decide)]
  exact hh

theorem poweredUp_unsourced (p : StrapPins) (fromShip : Bool) (s : State) : Unsourced (poweredUp p fromShip s) := by
  unfold poweredUp
  extract_lets a b
  obtain ⟨hm, hh⟩ := coldStart_objs aoKept (sampleStraps p fromShip a)
  exact resetSafety_unsourced hm hh (coldStart_blank aoKept 1 _) rfl rfl _ _

theorem firstSource_apart (a b : Bool) (s : State) : Apart s (firstSource a b s) :=
  .ite ((Apart.set s _ _).trans (faultPulse_apart _ _)) (.set s _ _)

theorem faultEnd_faultOn (c j : Nat) (s : State) : (faultEnd c s).faultOn j = s.faultOn j := by
  unfold State.faultOn faultEnd
  rfl

theorem registers_16 : Registers 0x16 := by unfold Registers; decide

/-- The first source: 16h where the device starts on XBS (R85). -/
theorem firstSource_powered (stkOk xbsOk : Bool) {s : State} (h : Unsourced s) :
    Powered (if !stkOk && xbsOk then 2 else 0) (!stkOk && xbsOk) (firstSource stkOk xbsOk s) := by
  unfold firstSource
  generalize hx : (!stkOk && xbsOk) = x
  set v := num xbsOk * 8 + if x = true then 2 else 0 with hv
  have hp : bits v 0 2 = if x = true then 2 else 0 := bits_firstPath _ _
  have g : ∀ k, k ≠ Obj.powerPathStatus → (s.set Obj.powerPathStatus v).get k = s.get k := fun k hk => State.get_set_ne s v hk
  have hoff : (s.set Obj.powerPathStatus v).faultOn 0x16 = false := by
    show bit s.flt.status 0x16 = false
    rw [h.status]
    decide
  have h0 : Powered (if x = true then 2 else 0) false (s.set Obj.powerPathStatus v) := by
    refine ⟨(modeCode_congr (g _ (by decide))).trans h.boot, ?_, (g _ (by decide)).trans h.domains, h.ringTime, ?_, hoff, h.calm⟩
    · unfold State.isHead
      rw [g _ (by decide)]
      exact h.head
    · unfold State.pathState
      rw [State.get_set_self]
      exact hp
  cases x with
  | false => exact h0
  | true =>
    have ho : (faultPulse 0x16 (s.set Obj.powerPathStatus v)).faultOn 0x16 = true :=
      (faultEnd_faultOn _ _ _).trans (faultOccur_on hoff registers_16 h0.mild)
    exact h0.keeps (faultPulse_keeps registers_16 (.inr h0.mild)) (by decide) (by decide) (by decide) (by decide) ho

theorem adoptShuntSource_keeps (s : State) : Keeps [Obj.shuntTemperature] [] s (adoptShuntSource s) := by
  unfold adoptShuntSource
  dsimp only
  split
  · exact keeps_set [] s _ (by simp)
  · exact keeps_set [] s _ (by simp)

theorem adoptShuntSource_apart (s : State) : Apart s (adoptShuntSource s) := by
  unfold adoptShuntSource
  dsimp only
  split
  · exact .set s _ _
  · exact .set s _ _

theorem Keeps.faultOn {ks : List Nat} {bs : List Block} {s t : State} (h : Keeps ks bs s t) (hb : Block.flt ∉ bs) (c : Nat) :
    t.faultOn c = s.faultOn c := congrArg (fun f : FaultEng => bit f.status c) (h.2 .flt hb : t.flt = s.flt)

/-- The ROM plan starts (R109). -/
theorem startRom_planRuns (s : State) : (startRom s).planRuns = true := rfl

theorem planRuns_of_keeps {ks : List Nat} {bs : List Block} {s t : State} (h : Keeps ks bs s t) (hb : Block.plan ∉ bs) : t.planRuns = s.planRuns :=
  congrArg (fun p : PlanEng => p.running != RunningPlan.none) (h.2 .plan hb : t.plan = s.plan)

/-! The choice of the firmware image (R506). -/

/-- The objects that the ROM boot writes. -/
def imageObjects : List Nat := [Obj.updateStatus, Obj.nvmLastFault] ++ faultObjects 0x27

/-- What the ROM boot of a device that starts writes, and what it leaves. -/
structure Boots (s t : State) : Prop where
  keeps : Keeps imageObjects (.nvm :: faultBlocks) s t
  apart : Apart s t
  alarm : t.faultOn 0x16 = s.faultOn 0x16

theorem Boots.refl (s : State) : Boots s s := ⟨Keeps.refl _ _ _, .refl s, rfl⟩

theorem Boots.trans {s t u : State} (h : Boots s t) (g : Boots t u) : Boots s u :=
  ⟨h.keeps.trans g.keeps, h.apart.trans g.apart, g.alarm.trans h.alarm⟩

theorem Boots.start {s t : State} (h : Boots s t) (h0 : s.modeCode = 0) : t.modeCode = 0 :=
  (modeCode_congr (h.keeps.1 _ (by decide))).trans h0

/-- An update of the NVM and of the mode's engine. -/
theorem Boots.engines (s : State) (n : NvmEng) (m : ModeEng) : Boots s { s with nvm := n, mode := m } :=
  ⟨⟨fun _ _ => rfl, fun b hb => by cases b <;> simp_all [Block.same, faultBlocks]⟩, .of_eq rfl rfl rfl, rfl⟩

theorem Boots.set (s : State) {k : Nat} (v : Nat) (h : k ∈ imageObjects) : Boots s (s.set k v) :=
  ⟨keeps_set _ s v h, .set s _ _, rfl⟩

theorem setFwSlot_boots (b : Bool) (f : FwSlot) (s : State) : Boots s (s.setFwSlot b f) := by
  unfold State.setFwSlot
  split_ifs
  · exact .engines s _ s.mode
  · exact .engines s _ s.mode

theorem bootTrials_boots (l : List Bool) (s : State) : Boots s (bootTrials l s).1 := by
  induction l generalizing s with
  | nil => exact .refl s
  | cons b bs ih =>
    unfold bootTrials
    dsimp only
    split_ifs
    · exact setFwSlot_boots _ _ s
    · exact (setFwSlot_boots _ _ s).trans (ih _)
    · exact ih s

theorem bootRollback_boots (s : State) : Boots s (bootRollback s).1 := by
  have h : ∀ (r : State × Bool) (b : Bool), Boots r.1 ((if ((r.1.fwSlot b).trialBooted && !(r.1.fwSlot b).confirmed && !(r.1.fwSlot b).revoked) = true
      then (r.1.setFwSlot b { r.1.fwSlot b with revokedM := .zero }, true) else r) : State × Bool).1 := by
    intro r b
    split_ifs
    · exact setFwSlot_boots _ _ _
    · exact .refl _
  exact (h (s, false) false).trans (h _ true)

theorem bootImageFault_boots (b : Bool) {s : State} (h : s.modeCode = 0) : Boots s (bootImageFault b s) := by
  have ht : Boots s (s.set Obj.nvmLastFault (4 * 2 ^ 24 + (if b then 0x18000 else 0))) := .set s _ (by decide)
  have hn : NoEntry 0x27 _ := noEntry_of_start (ht.start h)
  refine ht.trans ⟨keeps_mono (faultOccur_keeps registers_27 hn) (fun _ => List.mem_append_right _) (fun _ => List.mem_cons_of_mem _),
    faultOccur_apart _ _, faultOccur_faultOn_ne (by decide) registers_27 ?_⟩
  unfold State.modeIn
  rw [ht.start h]
  decide

theorem bootConfirmed_boots (l : List Bool) {s : State} (h : s.modeCode = 0) : Boots s (bootConfirmed l s).1 := by
  induction l generalizing s with
  | nil => exact .refl s
  | cons b bs ih =>
    unfold bootConfirmed
    dsimp only
    split_ifs
    · exact .refl s
    · have hf := bootImageFault_boots b h
      exact hf.trans (ih (hf.start h))
    · exact ih h

theorem startImage_boots (b trial rolled : Bool) (s : State) : Boots s (startImage b trial rolled s) := by
  have hu : ∀ (x : State) v, Boots x (x.set Obj.updateStatus v) := fun x v => .set x v (by decide)
  unfold startImage
  extract_lets t src src' u
  have h : Boots s u := ((hu s _).trans (hu _ _)).trans (.engines t _ _)
  split_ifs
  · exact h.trans (hu u _)
  · exact h.trans (hu u _)
  · exact h

theorem bootFirmware_boots {s : State} (h : s.modeCode = 0) : Boots s (bootFirmware s) := by
  have h1 := bootTrials_boots [false, true] s
  unfold bootFirmware
  split
  case h_1 t b ht =>
    rw [ht] at h1
    exact h1.trans (startImage_boots _ _ _ t)
  case h_2 t ht =>
    rw [ht] at h1
    have h2 := h1.trans (bootRollback_boots t)
    have h3 := fun l => h2.trans (bootConfirmed_boots l (h2.start h))
    dsimp only
    split
    case h_1 v b hv =>
      have h4 := h3 (if (bootRollback t).1.nvm.slotA.seq < (bootRollback t).1.nvm.slotB.seq then [true, false] else [false, true])
      rw [hv] at h4
      exact h4.trans (startImage_boots _ _ _ v)
    case h_2 v hv =>
      have h4 := h3 (if (bootRollback t).1.nvm.slotA.seq < (bootRollback t).1.nvm.slotB.seq then [true, false] else [false, true])
      rw [hv] at h4
      exact h4.trans (.engines v v.nvm _)

/-! The start as a whole. -/

theorem Powered.boots {p : Nat} {a : Bool} {s t : State} (h : Powered p a s) (hb : Boots s t) : Powered p a t :=
  h.keeps hb.keeps (by decide) (by decide) (by decide) (by decide) (hb.alarm.trans h.alarm)

/-- The core is powered and in its ROM boot (R30). -/
theorem supPowered {p : Nat} {a : Bool} {s : State} (h : Powered p a s) :
    Powered p a ((s.set Obj.supervisorState 1).power .sup true) ∧ ((s.set Obj.supervisorState 1).power .sup true).get Obj.supervisorState = 1 := by
  have hd : ((s.set Obj.supervisorState 1).power .sup true).get Obj.domainStatus = s.get Obj.domainStatus := by
    unfold State.power
    rw [State.get_setBitOf_self, State.get_set_ne s _ (by decide), h.domains]
    decide
  have ho : ∀ k, k ≠ Obj.domainStatus → k ≠ Obj.supervisorState → ((s.set Obj.supervisorState 1).power .sup true).get k = s.get k :=
    fun k h1 h2 => (State.get_setBitOf_ne _ _ _ h1).trans (State.get_set_ne s _ h2)
  refine ⟨h.of ?_ rfl h.alarm id, (State.get_setBitOf_ne _ _ _ (by decide)).trans (State.get_set_self s _ _)⟩
  intro k hk
  simp only [List.mem_cons, List.not_mem_nil, or_false] at hk
  rcases hk with rfl | rfl | rfl | rfl
  · exact ho _ (by decide) (by decide)
  · exact ho _ (by decide) (by decide)
  · exact hd
  · exact ho _ (by decide) (by decide)

theorem startSup_powered {p : Nat} {a : Bool} {s : State} (h : Powered p a s) :
    Powered p a (startSup s) ∧ (startSup s).get Obj.supervisorState = 1 ∧ (startSup s).planRuns = s.planRuns ∧ Apart s (startSup s) := by
  obtain ⟨hp, hs⟩ := supPowered h
  have hb := bootFirmware_boots hp.boot
  have ha : Apart s ((s.set Obj.supervisorState 1).power .sup true) := (Apart.set s _ _).trans (.set _ _ _)
  have hr : (startSup s).planRuns = ((s.set Obj.supervisorState 1).power .sup true).planRuns := planRuns_of_keeps hb.keeps (by decide)
  exact ⟨hp.boots hb, (hb.keeps.1 _ (by decide)).trans hs, hr, ha.trans hb.apart⟩

theorem dwellFollow_powered {p : Nat} {a : Bool} {s : State} (h : Powered p a s) : Powered p a (dwellFollow s) := by
  have hs := dwellFollow_stays s
  have ho : ∀ k, k ≠ Obj.powerPathStatus → (dwellFollow s).get k = s.get k := fun k hk => State.get_set_ne s _ hk
  refine ⟨(modeCode_congr (ho _ (by decide))).trans h.boot, ?_, (ho _ (by decide)).trans h.domains, hs.ringTime.trans h.ringTime, ?_,
    (hs.faultOn _).trans h.alarm, hs.calm h.calm⟩
  · simpa only [State.isHead, ho Obj.ringRole (by decide)] using h.head
  · have hg : (dwellFollow s).get Obj.powerPathStatus = setBits (s.get Obj.powerPathStatus) 5 1 (num s.dwellHolds) := State.get_setBitOf_self s _ _ _
    unfold State.pathState
    rw [hg, bits_setBits_below _ _ _ _ _ _ (by decide)]
    exact h.path

/-- A power-on reset, whatever firmware there is (R85, R109, log entry 23). -/
theorem powerOnReset_powered (p : StrapPins) (stkOk xbsOk fromShip : Bool) (s : State) :
    Powered (if !stkOk && xbsOk then 2 else 0) (!stkOk && xbsOk) (effPowerOnReset p stkOk xbsOk fromShip s) ∧
      (effPowerOnReset p stkOk xbsOk fromShip s).get Obj.supervisorState = 1 ∧
      (effPowerOnReset p stkOk xbsOk fromShip s).planRuns = true ∧
      (effPowerOnReset p stkOk xbsOk fromShip s).port.sessions = [] ∧ (effPowerOnReset p stkOk xbsOk fromShip s).safe.cenOn = false := by
  rw [effPowerOnReset_eq]
  have hu := poweredUp_unsourced p fromShip s
  set u := poweredUp p fromShip s
  have h1 := firstSource_powered stkOk xbsOk hu
  have a1 := firstSource_apart stkOk xbsOk u
  set f := firstSource stkOk xbsOk u
  have kc : Keeps [Obj.counterGapCount] [] f (f.count Obj.counterGapCount 16) := keeps_set [] f _ (by simp)
  have ka := adoptShuntSource_keeps (f.count Obj.counterGapCount 16)
  have h2 := (h1.keeps kc (by decide) (by decide) (by decide) (by decide) ((kc.faultOn (by decide) _).trans h1.alarm))
  have h3 := h2.keeps ka (by decide) (by decide) (by decide) (by decide) ((ka.faultOn (by decide) _).trans h2.alarm)
  have a3 : Apart u (adoptShuntSource (f.count Obj.counterGapCount 16)) := (a1.trans (.set f _ _)).trans (adoptShuntSource_apart _)
  set g := adoptShuntSource (f.count Obj.counterGapCount 16)
  have h4 : Powered _ _ (startRom g) := h3.stays (startRom_stays h3.calm) (by decide)
  have r4 := startRom_planRuns g
  have a4 := a3.trans (startRom_apart g)
  set r := startRom g
  have km := marginsFollow_keeps (s := r) (.inr h4.mild)
  have h5 := h4.keeps km (by decide) (by decide) (by decide) (by decide) ((marginsFollow_faultOn_ne (by decide) h4.mild).trans h4.alarm)
  obtain ⟨h6, s6, r6, a6⟩ := startSup_powered h5
  have a7 := ((a4.trans (marginsFollow_apart r)).trans a6).trans (dwellFollow_apart _)
  refine ⟨dwellFollow_powered h6, ?_, ?_, a7.sessions.trans hu.sessions, a7.cen.trans hu.cen⟩
  · exact ((dwellFollow_stays _).objs _ (by decide)).trans s6
  · exact (r6.trans (planRuns_of_keeps km (by decide))).trans r4

theorem sendSafety_cenOn (b : Bool) (s : State) : (sendSafety b s).safe.cenOn = s.safe.cenOn := by
  unfold sendSafety
  split_ifs <;> rfl

theorem settleRecord_cenOn (s : State) : (settleRecord s).safe.cenOn = s.safe.cenOn := by
  unfold settleRecord
  split_ifs
  · rfl
  · exact sendSafety_cenOn _ _
  · rfl

/-- CEN stays off where it is off: the settling only opens it (R416). -/
theorem settlePermits_cenOn {s : State} (h : s.safe.cenOn = false) : (settlePermits s).safe.cenOn = false := by
  unfold settlePermits
  extract_lets sp mp pt t u
  have ht : t.safe.cenOn = false := by
    unfold t
    split_ifs
    · exact h
    · rfl
  show u.safe.cenOn = false
  unfold u
  split_ifs
  · exact (sendSafety_cenOn _ _).trans ht
  · exact ht

theorem settle_cenOn {s : State} (h : s.safe.cenOn = false) : (settle s).safe.cenOn = false :=
  settlePermits_cenOn ((settleRecord_cenOn _).trans h)

theorem powerOnReset_starts (dt : Nat) (p : StrapPins) (stkOk xbsOk fromShip : Bool) (s : State)
    (hw : Instr.wf (.powerOnReset dt p stkOk xbsOk fromShip) = true) :
    Leads (.powerOnReset dt p stkOk xbsOk fromShip) dt s (fun _ t =>
      t.modeCode = 0 ∧ t.get Obj.domainStatus = 0x2FF ∧ t.get Obj.supervisorState = 1 ∧ t.planRuns = true ∧ t.ringTime = 0 ∧
        t.isHead = false ∧ t.port.sessions = [] ∧ t.safe.cenOn = false ∧ t.pathState = (if !stkOk && xbsOk then 2 else 0) ∧
        t.faultOn 0x16 = (!stkOk && xbsOk)) := by
  obtain ⟨h, hs, hr, hp, hc⟩ := powerOnReset_powered p stkOk xbsOk fromShip (s.found dt)
  have hk : Keeps [] [.cells] (effPowerOnReset p stkOk xbsOk fromShip (s.found dt)) (settle (effPowerOnReset p stkOk xbsOk fromShip (s.found dt))) :=
    (Keeps.refl _ _ _).settle
  have ht : Powered _ _ (settle (effPowerOnReset p stkOk xbsOk fromShip (s.found dt))) :=
    h.keeps hk (by decide) (by decide) (by decide) (by decide) ((hk.faultOn (by decide) _).trans h.alarm)
  refine leads_of hw rfl ⟨ht.boot, ht.domains, (settle_get _ _).trans hs, (planRuns_of_keeps hk (by decide)).trans hr, ht.ringTime, ht.head, ?_,
    settle_cenOn hc, ht.path, ht.alarm⟩
  rw [settle_port]
  exact hp

/-! The configuration check of a start (R97). -/

theorem plan_keeps (ks : List Nat) (s : State) (p : PlanEng) : Keeps ks [.plan] s { s with plan := p } :=
  ⟨fun _ _ => rfl, fun b hb => by cases b <;> simp_all [Block.same]⟩

theorem showVerdict_keeps (v : Option (Nat × Nat)) (s : State) : Keeps [Obj.planStatus, Obj.planRejectDetail] [.plan] s (showVerdict v s) := by
  unfold showVerdict
  split
  · exact keeps_set _ s _ (by simp)
  · exact (keeps_set _ s _ (by simp)).trans (keeps_set _ _ _ (by simp))

theorem bootPlan_keeps (s : State) : Keeps [Obj.planStatus, Obj.planRejectDetail] [.plan] s (bootPlan s) := by
  unfold bootPlan
  extract_lets slot image src t v u
  have ht : Keeps [Obj.planStatus, Obj.planRejectDetail] [.plan] s t := plan_keeps _ s _
  exact keeps_ite _ ht ((ht.trans (showVerdict_keeps v t)).trans (plan_keeps _ u _))

theorem registers_2D : Registers 0x2D := by unfold Registers; decide

theorem registers_2E : Registers 0x2E := by unfold Registers; decide

theorem judgeStraps_keeps {s : State} (h : s.modeCode = 0) : Keeps (Obj.strapStatus :: faultObjects 0x2D) faultBlocks s (judgeStraps s) := by
  unfold judgeStraps
  extract_lets mism t
  have ht : Keeps (Obj.strapStatus :: faultObjects 0x2D) faultBlocks s t := keeps_set _ s _ (by simp)
  have hn : NoEntry 0x2D t := noEntry_of_start ((modeCode_congr (ht.1 _ (by decide))).trans h)
  exact keeps_ite _ (Keeps.refl _ _ _) (ht.trans (keeps_mono (faultFollow_keeps _ registers_2D hn) (fun _ => List.mem_cons_of_mem _) (by simp)))

theorem checkConfig_keeps {s : State} (h : s.modeCode = 0) : Keeps (Obj.configCheck :: faultObjects 0x2E) faultBlocks s (checkConfig s) := by
  unfold checkConfig
  extract_lets c t
  have hu : Keeps (Obj.configCheck :: faultObjects 0x2E) faultBlocks s (s.set Obj.configCheck c) := keeps_set _ s _ (by simp)
  have hn : NoEntry 0x2E (s.set Obj.configCheck c) := noEntry_of_start ((modeCode_congr (hu.1 _ (by decide))).trans h)
  have ht : Keeps (Obj.configCheck :: faultObjects 0x2E) faultBlocks s t :=
    hu.trans (keeps_mono (faultFollow_keeps _ registers_2E hn) (fun _ => List.mem_cons_of_mem _) (by simp))
  exact keeps_ite _ (ht.trans (keeps_mono (stageAuto_keeps _ _ t) (by simp) (by simp [faultBlocks]))) ht

theorem checked_rests {k : Nat} {s : State} (hp : k ∉ planObjects) (hk : k ∉ Obj.configCheck :: faultObjects 0x2E) (h : s.modeCode = 0) (hc : Calm s) :
    Rests k s (checkConfig (restoreCovers s)) := by
  have h1 := restoreCovers_stays hc
  have h2 := checkConfig_keeps ((modeCode_congr (h1.objs _ (by decide))).trans h)
  exact (h1.rests hp).trans (h2.rests hk (by decide) (by decide))

/-! The first mode (R93, R105). -/

theorem Stays.safeFault {ks : List Nat} {s t : State} (h : Stays ks s t) : t.safeFault = s.safeFault :=
  congrArg (fun f : FaultEng => f.status &&& f.safe != 0) (a₁ := t.flt.base) (a₂ := s.flt.base) h.flt

/-- ModeStatus after a change of mode. -/
theorem changeMode_modeStatus (m cause : Nat) {s : State} (c : Calm s) :
    (changeMode m cause s).get Obj.modeStatus = (modeWrite m cause (selftestEnds s)).get Obj.modeStatus := by
  have h1 := selftestEnds_stays c
  have h2 := modeWrite_stays m cause (selftestEnds s)
  exact (changeRest m (h2.calm (h1.calm c)) _ _ _ rfl rfl rfl (modeCuts m)).2

theorem changeMode_cause (m : Nat) {cause : Nat} {s : State} (c : Calm s) (h : cause < 256) :
    bits ((changeMode m cause s).get Obj.modeStatus) 24 8 = cause := by
  rw [changeMode_modeStatus m cause c]
  unfold modeWrite
  rw [State.get_setField_self, bits_setBits]
  exact Nat.mod_eq_of_lt h

/-- No plan runs in STANDBY (R96). -/
theorem changeMode_standby_planRuns (cause : Nat) (s : State) : (changeMode Mode.standby cause s).planRuns = false := by
  have hp : ∀ x : State, (planForMode Mode.standby x).planRuns = false := by
    intro x
    have e : planForMode Mode.standby x = haltPlan x := by
      unfold planForMode
      rw [if_neg (by decide), if_pos (by decide)]
    rw [e]
    rfl
  unfold changeMode
  extract_lets s1 a p b c d src
  exact (planRuns_of_keeps (event_keeps 3 Mode.standby _) (by decide)).trans (hp _)

/-- The first mode with its cause, and the mode before it kept (R89). -/
def firstChange (m cause : Nat) (s : State) : State :=
  (changeMode m cause s).setField Obj.modeStatus 8 8 (bits (s.get Obj.modeStatus) 8 8)

theorem firstChange_stays (m cause : Nat) {s : State} (c : Calm s) : Stays modeObjects s (firstChange m cause s) :=
  (changeMode_eq m cause c).1.trans (Stays.setField _ 8 8 _ (by decide))

theorem firstChange_modeCode {m : Nat} (cause : Nat) {s : State} (c : Calm s) (h : m < 256) : (firstChange m cause s).modeCode = m := by
  unfold firstChange State.modeCode
  rw [State.get_setField_self, bits_setBits_below _ _ _ _ _ _ (by decide)]
  exact (changeMode_eq m cause c).2 h

theorem firstChange_cause (m : Nat) {cause : Nat} {s : State} (c : Calm s) (h : cause < 256) :
    bits ((firstChange m cause s).get Obj.modeStatus) 24 8 = cause := by
  unfold firstChange
  rw [State.get_setField_self, bits_setBits_above _ _ _ _ _ _ (by decide)]
  exact changeMode_cause m c h

theorem firstChange_prev (m cause : Nat) (s : State) :
    bits ((firstChange m cause s).get Obj.modeStatus) 8 8 = bits (s.get Obj.modeStatus) 8 8 := by
  unfold firstChange
  rw [State.get_setField_self, bits_setBits]
  exact Nat.mod_eq_of_lt (Nat.mod_lt _ (by decide))

theorem firstChange_planRuns (m cause : Nat) (s : State) : (firstChange m cause s).planRuns = (changeMode m cause s).planRuns := by
  unfold firstChange State.planRuns
  rw [State.setField_plan]

theorem enterFirstMode_eq (s : State) :
    enterFirstMode s =
      (let cause := bits (s.get Obj.modeStatus) 24 8
       let ok := bits (s.get Obj.configCheck) 0 8 == 0
       let m := if !ok then Mode.configHold else if cause = 5 then Mode.standby else if s.safeFault then Mode.safeMode else Mode.ready
       let t := firstChange m (if ok then (if m = Mode.safeMode then 3 else cause) else 4) s
       marginsFollow (if m = Mode.standby && t.safeFault then enterSafe t else t)) := rfl

/-- The severity of 2Bh is not SAFE, and it is none of the registers of a change of mode. -/
theorem marginsFollow_modeCode {s : State} (h : s.get (faultObj Obj.faultSeverity 0x2B) ≠ 3) : (marginsFollow s).get Obj.modeStatus = s.get Obj.modeStatus :=
  (marginsFollow_keeps (.inl ⟨by decide, h⟩)).1 _ (by decide)

/-- A start whose configuration check has failed enters CONFIG_HOLD. -/
theorem enterFirstMode_bad {s : State} (c : Calm s) (h : s.get (faultObj Obj.faultSeverity 0x2B) ≠ 3) (hb : bits (s.get Obj.configCheck) 0 8 ≠ 0) :
    (enterFirstMode s).modeCode = 4 := by
  rw [enterFirstMode_eq]
  have hok : (bits (s.get Obj.configCheck) 0 8 == 0) = false := beq_false_of_ne hb
  simp only [hok, Bool.not_false, if_true, Bool.false_eq_true, if_false]
  have hs := firstChange_stays Mode.configHold 4 c
  rw [if_neg (by simp [Mode.configHold, Mode.standby])]
  refine (modeCode_congr (marginsFollow_modeCode ?_)).trans (firstChange_modeCode 4 c (by decide))
  rw [hs.objs _ (by decide)]
  exact h

/-- A start that wakes enters STANDBY, and leaves it for SAFE where a source of that severity is set (R105). -/
theorem enterFirstMode_wake {s : State} (c : Calm s) (h : s.get (faultObj Obj.faultSeverity 0x2B) ≠ 3) (hb : bits (s.get Obj.configCheck) 0 8 = 0)
    (hw : bits (s.get Obj.modeStatus) 24 8 = 5) :
    (enterFirstMode s).modeCode = (if s.safeFault then 11 else 3) ∧
      (s.safeFault = false → enterFirstMode s = marginsFollow (firstChange Mode.standby 5 s)) := by
  have hok : (bits (s.get Obj.configCheck) 0 8 == 0) = true := beq_iff_eq.mpr hb
  have hs := firstChange_stays Mode.standby 5 c
  have hm := firstChange_modeCode (m := Mode.standby) 5 c (by decide)
  have he : enterFirstMode s = marginsFollow (if s.safeFault then enterSafe (firstChange Mode.standby 5 s) else firstChange Mode.standby 5 s) := by
    rw [enterFirstMode_eq]
    simp only [hok, hw, Bool.not_true, Bool.false_eq_true, if_false, if_true, hs.safeFault, decide_true, Bool.true_and,
      show ¬ Mode.standby = Mode.safeMode by decide]
  refine ⟨?_, fun hf => by rw [he, hf, if_neg Bool.false_ne_true]⟩
  rw [he]
  cases s.safeFault with
  | true =>
    have hi : (firstChange Mode.standby 5 s).modeIn safeFrom = true := by
      unfold State.modeIn
      rw [hm]
      decide
    obtain ⟨g, gm⟩ := enterSafe_eq (hs.calm c) hi
    rw [if_pos rfl, if_pos rfl]
    refine (modeCode_congr (marginsFollow_modeCode ?_)).trans gm
    rw [g.objs _ (by decide), hs.objs _ (by decide)]
    exact h
  | false =>
    rw [if_neg Bool.false_ne_true, if_neg Bool.false_ne_true]
    refine (modeCode_congr (marginsFollow_modeCode ?_)).trans hm
    rw [hs.objs _ (by decide)]
    exact h

/-- Another start enters READY, or SAFE where a source of that severity is set (R93). -/
theorem enterFirstMode_start {s : State} (c : Calm s) (h : s.get (faultObj Obj.faultSeverity 0x2B) ≠ 3) (hb : bits (s.get Obj.configCheck) 0 8 = 0)
    (hw : bits (s.get Obj.modeStatus) 24 8 ≠ 5) : (enterFirstMode s).modeCode = if s.safeFault then 11 else 5 := by
  have hok : (bits (s.get Obj.configCheck) 0 8 == 0) = true := beq_iff_eq.mpr hb
  have hl : ∀ m k, m < 256 → (marginsFollow (firstChange m k s)).modeCode = m := by
    intro m k hm
    refine (modeCode_congr (marginsFollow_modeCode ?_)).trans (firstChange_modeCode k c hm)
    rw [(firstChange_stays m k c).objs _ (by decide)]
    exact h
  rw [enterFirstMode_eq]
  simp only [hok, hw, Bool.not_true, Bool.false_eq_true, if_false, if_true]
  cases s.safeFault with
  | true => exact hl Mode.safeMode _ (by decide)
  | false => exact hl Mode.ready _ (by decide)

theorem effConfigurationCheck_boot {s : State} (h1 : s.supReady = true) (h2 : s.modeCode = 0) :
    effConfigurationCheck s = enterFirstMode (checkConfig (restoreCovers (judgeStraps (bootPlan s)))) := by
  unfold effConfigurationCheck
  rw [h1, Bool.not_true, if_neg Bool.false_ne_true, if_pos h2]

/-- The check of a start leaves ModeStatus and the severity of 2Bh. -/
theorem startChecked_rests {k : Nat} {s : State} (hk : k = Obj.modeStatus ∨ k = faultObj Obj.faultSeverity 0x2B) (h : s.modeCode = 0) (hc : Calm s) :
    Rests k s (checkConfig (restoreCovers (judgeStraps (bootPlan s)))) := by
  have hb := bootPlan_keeps s
  have h0 : (bootPlan s).modeCode = 0 := (modeCode_congr (hb.1 _ (by decide))).trans h
  have hj := judgeStraps_keeps h0
  have h1 : (judgeStraps (bootPlan s)).modeCode = 0 := (modeCode_congr (hj.1 _ (by decide))).trans h0
  rcases hk with rfl | rfl
  · have r := (hb.rests (k := Obj.modeStatus) (by decide) (by decide) (by decide)).trans (hj.rests (by decide) (by decide) (by decide))
    exact r.trans (checked_rests (by decide) (by decide) h1 (r.calm hc))
  · have r := (hb.rests (k := faultObj Obj.faultSeverity 0x2B) (by decide) (by decide) (by decide)).trans
      (hj.rests (by decide) (by decide) (by decide))
    exact r.trans (checked_rests (by decide) (by decide) h1 (r.calm hc))

/-- A start enters the first mode by the result of its check (R93, R105). -/
theorem configurationCheck_first (dt : Nat) (s : State) (h1 : (s.found dt).supReady = true) (h0 : (s.found dt).modeCode = 0)
    (hc : Calm (s.found dt)) (hv : (s.found dt).get (faultObj Obj.faultSeverity 0x2B) ≠ 3) :
    Leads (.configurationCheck dt) dt s (fun u t =>
      let x := checkConfig (restoreCovers (judgeStraps (bootPlan u)))
      if bits (x.get Obj.configCheck) 0 8 ≠ 0 then t.modeCode = 4
      else t.modeCode = if x.safeFault then 11 else if bits (x.get Obj.modeStatus) 24 8 = 5 then 3 else 5) := by
  refine leads_of rfl rfl ?_
  intro x
  have rv := startChecked_rests (.inr rfl) h0 hc
  have hx : x.get (faultObj Obj.faultSeverity 0x2B) ≠ 3 := fun e => hv (rv.get.symm.trans e)
  have cx : Calm x := rv.calm hc
  have he : (settle (effConfigurationCheck (s.found dt))).modeCode = (enterFirstMode x).modeCode := by
    rw [modeCode_congr (settle_get _ Obj.modeStatus), effConfigurationCheck_boot h1 h0]
  by_cases hb : bits (x.get Obj.configCheck) 0 8 = 0
  · rw [if_neg (not_not.mpr hb), he]
    by_cases hw : bits (x.get Obj.modeStatus) 24 8 = 5
    · rw [if_pos hw]
      exact (enterFirstMode_wake cx hx hb hw).1
    · rw [if_neg hw]
      exact enterFirstMode_start cx hx hb hw
  · rw [if_pos hb, he]
    exact enterFirstMode_bad cx hx hb

theorem judgeStraps_wake {s : State} (h : bits (s.get Obj.modeStatus) 24 8 = 5) : judgeStraps s = s := if_pos h

/-- A start that wakes enters STANDBY by its check: the mode left is kept, and no plan runs (R105). -/
theorem configurationCheck_wake (dt : Nat) (s : State) (h1 : (s.found dt).supReady = true) (h0 : (s.found dt).modeCode = 0)
    (hc : Calm (s.found dt)) (hw : bits ((s.found dt).get Obj.modeStatus) 24 8 = 5)
    (hv : (s.found dt).get (faultObj Obj.faultSeverity 0x2B) ≠ 3) :
    Leads (.configurationCheck dt) dt s (fun u t =>
      let x := checkConfig (restoreCovers (bootPlan u))
      bits (x.get Obj.configCheck) 0 8 = 0 → x.safeFault = false → t.modeCode = 3 ∧ bits (t.get Obj.modeStatus) 24 8 = 5 ∧
        bits (t.get Obj.modeStatus) 8 8 = bits (u.get Obj.modeStatus) 8 8 ∧ t.planRuns = false) := by
  refine leads_of rfl rfl ?_
  generalize hu : s.found dt = u at *
  intro x hb hf
  have hj : judgeStraps (bootPlan u) = bootPlan u := judgeStraps_wake (by rw [(bootPlan_keeps u).1 _ (by decide)]; exact hw)
  have hx : checkConfig (restoreCovers (judgeStraps (bootPlan u))) = x := by rw [hj]
  have rm := startChecked_rests (.inl rfl) h0 hc
  have rv := startChecked_rests (.inr rfl) h0 hc
  rw [hx] at rm rv
  have hxv : x.get (faultObj Obj.faultSeverity 0x2B) ≠ 3 := fun e => hv (rv.get.symm.trans e)
  have cx : Calm x := rv.calm hc
  have he : effConfigurationCheck u = marginsFollow (firstChange Mode.standby 5 x) := by
    rw [effConfigurationCheck_boot h1 h0, hx]
    exact (enterFirstMode_wake cx hxv hb (by rw [rm.get]; exact hw)).2 hf
  have hs : (firstChange Mode.standby 5 x).get (faultObj Obj.faultSeverity 0x2B) ≠ 3 := by
    rw [(firstChange_stays Mode.standby 5 cx).objs _ (by decide)]
    exact hxv
  have hp : Keeps _ _ (firstChange Mode.standby 5 x) (settle (marginsFollow (firstChange Mode.standby 5 x))) :=
    (marginsFollow_keeps (.inl ⟨by decide, hs⟩)).settle
  have hm : (settle (effConfigurationCheck u)).get Obj.modeStatus = (firstChange Mode.standby 5 x).get Obj.modeStatus := by
    rw [he]
    exact hp.1 _ (by decide)
  refine ⟨(modeCode_congr hm).trans (firstChange_modeCode 5 cx (by decide)), ?_, ?_, ?_⟩
  · rw [hm]
    exact firstChange_cause _ cx (by decide)
  · rw [hm, firstChange_prev, rm.get]
  · rw [he, planRuns_of_keeps hp (by decide), firstChange_planRuns]
    exact changeMode_standby_planRuns 5 x

/-! A brown-out in the NVM (R495, R505). -/

/-- The objects that an operation of the NVM, done or cut short, writes. -/
def cutObjects : List Nat := [Obj.updateProgrammed, Obj.nvmRegionAge + 7]

theorem setFwSlot_keeps (ks : List Nat) (b : Bool) (f : FwSlot) (s : State) : Keeps ks [.nvm, .free, .plan] s (s.setFwSlot b f) := by
  unfold State.setFwSlot
  split_ifs
  · exact keeps_mono (nvm_keeps ks s _) (by simp) (by simp)
  · exact keeps_mono (nvm_keeps ks s _) (by simp) (by simp)

theorem setLog_keeps (l : List LogSector) (s : State) : Keeps cutObjects [.nvm, .free, .plan] s (s.setLog l) :=
  keeps_mono (nvm_keeps [] s _) (by simp) (by simp)

theorem freeSpent_keeps (ks : List Nat) (n : Nat) (s : State) : Keeps ks [.nvm, .free, .plan] s (s.freeSpent n) :=
  ⟨fun _ _ => rfl, fun b hb => by cases b <;> simp_all [Block.same, State.freeSpent]⟩

theorem tearMarker_keeps (b : Bool) (w : Nat) (s : State) : Keeps cutObjects [.nvm, .free, .plan] s (tearMarker b w s) := by
  unfold tearMarker
  dsimp only
  split
  · exact (setFwSlot_keeps _ _ _ s).trans (keeps_mono (freeUsed_keeps cutObjects _) (fun _ => id) (by simp))
  all_goals exact setFwSlot_keeps _ _ _ s

theorem nvmUpdate_keeps (s : State) (m : NvmEng) : Keeps cutObjects [.nvm, .free, .plan] s { s with nvm := m } :=
  keeps_mono (nvm_keeps cutObjects s m) (by simp) (by simp)

theorem journalWritten_keeps (r : LogRec) (s : State) : Keeps cutObjects [.nvm, .free, .plan] s (journalWritten r s) := by
  unfold journalWritten
  split
  · exact keeps_set _ s _ (by simp [cutObjects])
  · exact Keeps.refl _ _ _

theorem programRegion_keeps (s : State) : Keeps cutObjects [.nvm, .free, .plan] s (programRegion 7 s) :=
  (keeps_set _ s _ (by simp [cutObjects])).trans (nvmUpdate_keeps _ _)

theorem opDone_keeps (o : NvmOp) (s : State) : Keeps cutObjects [.nvm, .free, .plan] s (opDone o s) := by
  unfold opDone
  split
  · exact keeps_ite _ (setFwSlot_keeps _ _ _ s) (keeps_ite _ (setFwSlot_keeps _ _ _ s) (Keeps.refl _ _ _))
  · exact setFwSlot_keeps _ _ _ s
  · exact (setLog_keeps _ s).trans (journalWritten_keeps _ _)
  · split
    · exact setLog_keeps _ s
    · exact Keeps.refl _ _ _
  · exact setLog_keeps _ s
  · exact nvmUpdate_keeps s _
  · exact (nvmUpdate_keeps s _).trans (programRegion_keeps _)

theorem opCut_keeps (o : NvmOp) (s : State) : Keeps cutObjects [.nvm, .free, .plan] s (opCut o s) := by
  unfold opCut
  extract_lets torn
  have ht : ∀ r, Keeps cutObjects [.nvm, .free, .plan] s (torn r) := fun r => setLog_keeps _ s
  split
  · exact keeps_ite _ (Keeps.refl _ _ _) ((setFwSlot_keeps _ _ _ s).trans (freeSpent_keeps _ _ _))
  · exact tearMarker_keeps _ _ s
  · exact ht _
  · split
    · exact ht _
    · exact Keeps.refl _ _ _
  · exact setLog_keeps _ s
  · exact opDone_keeps o s
  · exact nvmUpdate_keeps s _

theorem writeCut_keeps (w : CutWrite) (s : State) : Keeps cutObjects [.nvm, .free, .plan] s (writeCut w s) := by
  unfold writeCut
  split
  · exact keeps_ite _ (setLog_keeps _ s) (Keeps.refl _ _ _)
  · exact tearMarker_keeps _ _ s
  · exact (freeSpent_keeps _ _ s).trans (keeps_mono (plan_keeps [] _ _) (by simp) (by simp))

theorem nvmCut_keeps (x : NvmCut) (s : State) : Keeps cutObjects [.nvm, .free, .plan] s (nvmCut x s) := by
  unfold nvmCut
  refine keeps_ite _ (Keeps.refl _ _ _) ?_
  extract_lets t
  have ht : Keeps cutObjects [.nvm, .free, .plan] s t := by
    unfold t
    split
    · exact keeps_ite _ (opDone_keeps _ s) (keeps_ite _ (opCut_keeps _ s) (Keeps.refl _ _ _))
    · exact Keeps.refl _ _ _
  split
  · exact ht.trans (writeCut_keeps _ t)
  · exact ht

/-! The loss of power (R76). -/

theorem closeOutputs_cur (s : State) : (closeOutputs s).cur = s.cur := by
  have h1 : (stopExcitation s).cur = s.cur := by
    unfold stopExcitation leaveExcite
    dsimp only
    split_ifs <;> rfl
  have h2 : ∀ x, (restStage x).cur = x.cur := by
    intro x
    unfold restStage
    split_ifs <;> rfl
  exact (h2 _).trans h1

theorem haltPlan_cur {s : State} (c : Calm s) : (haltPlan s).cur = s.cur := by
  have h0 := newWindow_stays planObjects s
  unfold haltPlan
  rw [abortSlices_calm _ (h0.calm c)]
  exact closeOutputs_cur (newWindow s)

/-- A device without power but for its AO domain (R76). -/
structure Unpowered (s : State) : Prop where
  domains : s.get Obj.domainStatus = 1
  boot : s.modeCode = 0
  core : s.get Obj.supervisorState = 1
  plan : s.planRuns = false
  port : s.port = Port.empty
  sources : s.flt.status = 0
  cen : s.safe.cenOn = false

theorem Unpowered.keeps {ks : List Nat} {bs : List Block} {s t : State} (h : Unpowered s) (hk : Keeps ks bs s t)
    (ho : ∀ k ∈ [Obj.domainStatus, Obj.modeStatus, Obj.supervisorState], k ∉ ks) (hp : Block.plan ∉ bs) (ht : Block.port ∉ bs)
    (hf : Block.flt ∉ bs) (hc : t.safe.cenOn = false) : Unpowered t := by
  have f : t.flt = s.flt := hk.2 .flt hf
  have g : ∀ k ∈ [Obj.domainStatus, Obj.modeStatus, Obj.supervisorState], t.get k = s.get k := fun k m => hk.1 k (ho k m)
  exact ⟨(g _ (by simp)).trans h.domains, (modeCode_congr (g _ (by simp))).trans h.boot, (g _ (by simp)).trans h.core,
    (planRuns_of_keeps hk hp).trans h.plan, (hk.2 .port ht : t.port = s.port).trans h.port, (congrArg FaultEng.status f).trans h.sources, hc⟩

theorem Unpowered.settle {s : State} (h : Unpowered s) : Unpowered (settle s) :=
  h.keeps (Keeps.refl [] [] s).settle (by simp) (by simp) (by simp) (by simp) (settle_cenOn h.cen)

theorem rewind_objs (s : State) : (rewind s).objs = s.objs := rfl

/-- The resets that the loss of power leaves behind, on a device whose plan has stopped (R76). -/
theorem downed {s : State} (hd : s.get Obj.domainStatus = 1) (hs : s.get Obj.supervisorState = 1) (hp : s.planRuns = false) (m : ModeEng) :
    Unpowered { (s.set Obj.modeStatus (2 ^ 24)).setBitOf Obj.powerPathStatus 5 false with
      mode := m, port := Port.empty, safe := s.safe.down, flt := FaultEng.clear } ∧
    State.get { (s.set Obj.modeStatus (2 ^ 24)).setBitOf Obj.powerPathStatus 5 false with
      mode := m, port := Port.empty, safe := s.safe.down, flt := FaultEng.clear } Obj.resetCause = s.get Obj.resetCause := by
  set v : State := { (s.set Obj.modeStatus (2 ^ 24)).setBitOf Obj.powerPathStatus 5 false with
      mode := m, port := Port.empty, safe := s.safe.down, flt := FaultEng.clear }
  have g0 : ∀ k, v.get k = ((s.set Obj.modeStatus (2 ^ 24)).setBitOf Obj.powerPathStatus 5 false).get k := get_of_objs rfl
  have g : ∀ k, k ≠ Obj.modeStatus → k ≠ Obj.powerPathStatus → v.get k = s.get k := fun k h1 h2 =>
    ((g0 k).trans (State.get_setBitOf_ne _ _ _ h2)).trans (State.get_set_ne s _ h1)
  have hm : v.get Obj.modeStatus = 2 ^ 24 := ((g0 _).trans (State.get_setBitOf_ne _ _ _ (by decide))).trans (State.get_set_self s _ _)
  refine ⟨⟨(g _ (by decide) (by decide)).trans hd, ?_, (g _ (by decide) (by decide)).trans hs, hp, rfl, rfl, rfl⟩, g _ (by decide) (by decide)⟩
  unfold State.modeCode
  rw [hm]
  decide

/-- The loss of power leaves ResetCause and the current's engine. -/
theorem powerLost_unpowered {s : State} (c : Calm s) :
    Unpowered (powerLost s) ∧ (powerLost s).get Obj.resetCause = s.get Obj.resetCause ∧ (powerLost s).cur = s.cur := by
  unfold powerLost
  extract_lets src s' t
  set y := (s'.set Obj.domainStatus 1).set Obj.supervisorState 1
  have cy : Calm y := c
  have ht : ∀ k, k ∉ planObjects → t.get k = y.get k := fun k hk => (get_of_objs (rewind_objs _) k).trans ((haltPlan_stays cy).objs k hk)
  have y1 : y.get Obj.domainStatus = 1 := (State.get_set_ne _ _ (by decide)).trans (State.get_set_self s' _ _)
  have y2 : y.get Obj.resetCause = s.get Obj.resetCause := (State.get_set_ne _ _ (by decide)).trans (State.get_set_ne s' _ (by decide))
  have hc : t.cur = s.cur := haltPlan_cur cy
  obtain ⟨h, hr⟩ := downed (s := t) ((ht _ (by decide)).trans y1) ((ht _ (by decide)).trans (State.get_set_self _ _ _)) rfl
    { t.mode with dwell := false, noImage := false }
  exact ⟨h, hr.trans ((ht _ (by decide)).trans y2), hc⟩

/-- ResetCause shows the brown-out beside what it keeps (R107). -/
theorem bit_brownOutCause (x : Nat) : bit (x * 2 ^ 12 + 2) 1 = true := by
  unfold bit
  simp only [beq_iff_eq]
  omega

theorem brownOut_down (dt : Nat) (cut : NvmCut) (s : State) (hw : Instr.wf (.brownOut ⟨dt, cut⟩) = true) (hc : Calm (s.found dt)) :
    Leads (.brownOut ⟨dt, cut⟩) dt s (fun u t =>
      t.get Obj.domainStatus = 1 ∧ t.modeCode = 0 ∧ t.get Obj.supervisorState = 1 ∧ t.planRuns = false ∧ t.port = Port.empty ∧
        t.flt.status = 0 ∧ t.safe.cenOn = false ∧ bit (t.get Obj.resetCause) 1 = true ∧ t.cur = u.cur) := by
  set u := s.found dt
  set v := u.set Obj.resetCause (bits (u.get Obj.resetCause) 12 4 * 2 ^ 12 + 2)
  have hk := nvmCut_keeps cut v
  obtain ⟨h, hr, hu⟩ := powerLost_unpowered ((hk.rests (k := Obj.resetCause) (by decide) (by decide) (by decide)).calm hc)
  have hn := h.settle
  refine leads_of hw rfl ⟨hn.domains, hn.boot, hn.core, hn.plan, hn.port, hn.sources, hn.cen, ?_, ?_⟩
  · have hg : (settle (effBrownOut cut u)).get Obj.resetCause = bits (u.get Obj.resetCause) 12 4 * 2 ^ 12 + 2 :=
      ((settle_get _ _).trans (hr.trans (hk.1 _ (by decide)))).trans (State.get_set_self u _ _)
    rw [hg]
    exact bit_brownOutCause _
  · exact (settle_cur _).trans (hu.trans (hk.2 .cur (by decide)))

/-! A reset of the AO domain (R107). -/

theorem clearAll_keeps (l : List Nat) (s : State) : Keeps l [] s (l.foldl State.clear s) := by
  induction l generalizing s with
  | nil => exact Keeps.refl _ _ _
  | cons k l ih => exact (keeps_set [] s (Dict.default k) (by simp)).trans (keeps_mono (ih _) (fun _ => List.mem_cons_of_mem _) (by simp))

theorem curMode_keeps (ks : List Nat) (s : State) (c : CurEng) (m : ModeEng) : Keeps ks [.cur, .mode] s { s with cur := c, mode := m } :=
  ⟨fun _ _ => rfl, fun b hb => by cases b <;> simp_all [Block.same]⟩

/-- The AO objects cleared on a device without power. -/
theorem aoCleared {s : State} (h : Unpowered s) (c : CurEng) (m : ModeEng) :
    Unpowered { (aoObjects.foldl State.clear s).set Obj.resetCause 1 with cur := c, mode := m } ∧
      State.get { (aoObjects.foldl State.clear s).set Obj.resetCause 1 with cur := c, mode := m } Obj.resetCause = 1 := by
  set x := aoObjects.foldl State.clear s
  have hx : Keeps aoObjects [.cur, .mode] s x := keeps_mono (clearAll_keeps aoObjects s) (fun _ => id) (by simp)
  have hy : Keeps aoObjects [.cur, .mode] x (x.set Obj.resetCause 1) := keeps_set _ x 1 (by simp)
  have ha : Apart s (x.set Obj.resetCause 1) := (Apart.foldl (.refl s) (fun t k => Apart.set t k _)).trans (.set x _ _)
  have hk := (hx.trans hy).trans (curMode_keeps aoObjects (x.set Obj.resetCause 1) c m)
  exact ⟨h.keeps hk (by decide) (by decide) (by decide) (by decide) (ha.cen.trans h.cen),
    (get_of_objs (s := x.set Obj.resetCause 1) rfl _).trans (State.get_set_self x _ _)⟩

theorem effAoReset_form (s : State) : ∃ c m, c = { CurEng.reset with volts := c.volts, next := c.next } ∧
    effAoReset s = { (aoObjects.foldl State.clear (powerLost s)).set Obj.resetCause 1 with cur := c, mode := m } := ⟨_, _, rfl, rfl⟩

theorem aoReset_down (dt : Nat) (s : State) (hc : Calm (s.found dt)) :
    Leads (.aoReset dt) dt s (fun _ t =>
      t.get Obj.domainStatus = 1 ∧ t.modeCode = 0 ∧ t.planRuns = false ∧ t.port = Port.empty ∧ t.flt.status = 0 ∧
        t.safe.cenOn = false ∧ t.get Obj.resetCause = 1 ∧ t.cur = { CurEng.reset with volts := t.cur.volts, next := t.cur.next }) := by
  refine leads_of rfl rfl ?_
  obtain ⟨c, m, ec, e⟩ := effAoReset_form (s.found dt)
  obtain ⟨h, hr⟩ := aoCleared (powerLost_unpowered hc).1 c m
  rw [e]
  have hn := h.settle
  refine ⟨hn.domains, hn.boot, hn.plan, hn.port, hn.sources, hn.cen, (settle_get _ _).trans hr, ?_⟩
  rw [settle_cur]
  exact ec

/-- Settles O54: the end of a start of the core, a power-on reset, the first mode, and the two losses of power, each by what its parts keep. -/
theorem startsRun : Obligations.StartsRun := by
  unfold Obligations.StartsRun
  refine ⟨supervisorReady_good, fun dt p stkOk xbsOk fromShip s hw _ => powerOnReset_starts dt p stkOk xbsOk fromShip s hw,
    configurationCheck_first, configurationCheck_wake, brownOut_down, aoReset_down, fun dt p stkOk xbsOk fromShip s hw => ?_,
    supervisorReady_any⟩
  obtain ⟨t, he, hm, -, hs, hp, hr, hh, hn, hc, -, -⟩ := powerOnReset_starts dt p stkOk xbsOk fromShip s hw
  exact ⟨t, he, hm, hp, hr, hh, hn, hc, .inl hs⟩

end Sys2Proof.Machine
end

section
namespace Sys2Proof.Machine

/-! An entry into TRANSFER that powers ICX up (R202, R220, R331). -/

/-- In MEASURE, with ICX off and a request for TRANSFER staged; the FET input has been converted and reads far above its limit. -/
def hotBeforeIcx : State :=
  let s := State.reset.setAll [(Obj.supervisorState, 0), (Obj.modeStatus, Mode.measure), (Obj.domainStatus, 0x2EF), (Obj.powerPathStatus, 8),
    (Obj.xbsVoltage, 65535), (Obj.xferFetTempSource, 1), (Obj.auxInputConfig + 1, 4), (Obj.axTemperature + 1, 0x7FFF)]
  { s with
    mode := { s.mode with staged := some Mode.transfer }
    aux := { s.aux with notYet := 0 }
    plan := { s.plan with bankA := ⟨List.replicate 6 0 ++ [1, 0] ++ List.replicate 347 0 ++ [0x0A], 0, true⟩, running := .bank } }

/-- The request is due, and nothing refuses it or lets it wait. -/
theorem hotBeforeIcx_due :
    Calm (hotBeforeIcx.found 1) ∧ (hotBeforeIcx.found 1).mode.shutdown = none ∧ (hotBeforeIcx.found 1).modeCode ≠ 0 ∧
      autoTarget (hotBeforeIcx.found 1) = none ∧ (hotBeforeIcx.found 1).mode.staged = some 8 ∧ requestWaits 8 (hotBeforeIcx.found 1) = false ∧
      (hotBeforeIcx.found 1).plan.switchAt = none ∧ refusal 8 false (hotBeforeIcx.found 1) = none ∧
      (hotBeforeIcx.found 1).get (faultObj Obj.faultSeverity 0x2B) ≠ 3 ∧ (hotBeforeIcx.found 1).get (faultObj Obj.faultSeverity 0x14) ≠ 3 := by
  and_intros <;> decide +kernel

theorem hotBeforeIcx_fetHot : (hotBeforeIcx.found 1).fetHot = true := by decide +kernel

/-- The change of mode powers ICX up, so that AxTemperature reads 8000h until a conversion, and the session starts in REST. -/
theorem hotBeforeIcx_rests : (settle (effModeTransition (hotBeforeIcx.found 1))).xferState = 1 := by decide +kernel

theorem exec_modeTransition (dt : Nat) (s : State) : exec (.modeTransition dt) s = .next (settle (effModeTransition (s.found dt))) := rfl

/-- Refutes O18: its second clause takes the FET temperature as the command finds it. From a state in MEASURE whose ICX domain is off, the change
to TRANSFER powers ICX up, AxTemperature reads 8000h until a conversion (R220), and the session that starts is not ended by 14h. -/
theorem not_modeTransitionsRun : ¬ Obligations.ModeTransitionsRun := by
  unfold Obligations.ModeTransitionsRun
  rintro ⟨-, h, -⟩
  obtain ⟨hc, hd, hm, ha, hs, hw, hp, hr, hv, hf⟩ := hotBeforeIcx_due
  obtain ⟨t, he, -, -, ht, -, -⟩ := h 1 8 hotBeforeIcx hc hd hm ha hs (by decide) hw (fun _ _ => hp) hr hv (fun _ => hf)
  have hx := ht rfl
  rw [if_pos hotBeforeIcx_fetHot] at hx
  rw [exec_modeTransition, Host.Outcome.next.injEq] at he
  rw [← he, hotBeforeIcx_rests] at hx
  exact absurd hx.1 (by decide)

end Sys2Proof.Machine
end

section
namespace Sys2Proof.Machine

/-! What the settling leaves of the common questions about a state. -/

@[simp] theorem settle_pathState (s : State) : (settle s).pathState = s.pathState := by simp [State.pathState]
@[simp] theorem settle_xbsValid (s : State) : (settle s).xbsValid = s.xbsValid := by simp [State.xbsValid]
@[simp] theorem settle_xbsOv (s : State) : (settle s).xbsOv = s.xbsOv := by simp [State.xbsOv]
@[simp] theorem settle_stkUv (s : State) : (settle s).stkUv = s.stkUv := by simp [State.stkUv]
@[simp] theorem settle_xferState (s : State) : (settle s).xferState = s.xferState := by simp [State.xferState]
@[simp] theorem settle_xferRuns (s : State) : (settle s).xferRuns = s.xferRuns := by simp [State.xferRuns]
@[simp] theorem settle_modeCode (s : State) : (settle s).modeCode = s.modeCode := by simp [State.modeCode]
@[simp] theorem settle_faultOn (s : State) (c : Nat) : (settle s).faultOn c = s.faultOn c := by simp [State.faultOn]

/-! The power path (R78 to R87). -/

theorem mode_keeps (ks : List Nat) (s : State) (m : ModeEng) : Keeps ks [.mode] s { s with mode := m } :=
  ⟨fun _ _ => rfl, fun b hb => by cases b <;> simp_all [Block.same]⟩

theorem Keeps.get {ks : List Nat} {bs : List Block} {s t : State} (h : Keeps ks bs s t) {k : Nat} (hk : k ∉ ks) : t.get k = s.get k := h.1 k hk

theorem Keeps.mode {ks : List Nat} {bs : List Block} {s t : State} (h : Keeps ks bs s t) (hb : Block.mode ∉ bs) : t.mode = s.mode := h.2 .mode hb

theorem Keeps.clk {ks : List Nat} {bs : List Block} {s t : State} (h : Keeps ks bs s t) (hb : Block.clk ∉ bs) : t.clk = s.clk := h.2 .clk hb

/-- States that show the same PowerPathStatus but for DWELL. -/
def PathShown (s t : State) : Prop := t.pathState = s.pathState ∧ t.xbsValid = s.xbsValid ∧ t.xbsOv = s.xbsOv

theorem PathShown.of_get {s t : State} (h : t.get Obj.powerPathStatus = s.get Obj.powerPathStatus) : PathShown s t := by
  unfold PathShown State.pathState State.xbsValid State.xbsOv
  rw [h]
  exact ⟨rfl, rfl, rfl⟩

theorem dwellFollow_keeps (s : State) : Keeps [Obj.powerPathStatus] [.mode] s (dwellFollow s) :=
  (keeps_set [.mode] s _ (by simp)).trans (mode_keeps _ (s.setBitOf Obj.powerPathStatus 5 s.dwellHolds) _)

theorem dwellFollow_mode (s : State) : (dwellFollow s).mode = { s.mode with dwell := s.dwellHolds } := rfl

theorem dwellFollow_shown (s : State) : PathShown s (dwellFollow s) := by
  have h : (dwellFollow s).get Obj.powerPathStatus = setBits (s.get Obj.powerPathStatus) 5 1 (num s.dwellHolds) := State.get_setBitOf_self s _ _ _
  unfold PathShown State.pathState State.xbsValid State.xbsOv
  rw [h, bits_setBits_below _ _ _ _ _ _ (by decide), bit_setBits_ne _ _ _ _ (by decide), bit_setBits_ne _ _ _ _ (by decide)]
  exact ⟨rfl, rfl, rfl⟩

/-- What the conditions of R79 read. -/
theorem dwellHolds_congr {s t : State} (hp : PathShown s t)
    (hg : ∀ k ∈ [Obj.powerPathPolicy, Obj.xferStatus, Obj.xferConfig, Obj.modeStatus], t.get k = s.get k)
    (hs : t.mode.shutdown = s.mode.shutdown) (hh : t.mode.handover = s.mode.handover) : t.dwellHolds = s.dwellHolds := by
  obtain ⟨h1, h2, h3⟩ := hp
  unfold State.dwellHolds State.xferRuns State.xferState State.forward State.modeCode
  rw [h1, h2, h3, hs, hh, hg _ (by simp), hg Obj.xferStatus (by simp), hg Obj.xferConfig (by simp), hg Obj.modeStatus (by simp)]

/-- The dwell runs while its conditions hold, which its own bit is none of (R79). -/
theorem dwellFollow_dwellHolds (s : State) : (dwellFollow s).dwellHolds = s.dwellHolds :=
  dwellHolds_congr (dwellFollow_shown s) (fun k hk => (dwellFollow_keeps s).get (by fin_cases hk <;> decide)) rfl rfl

theorem dwellHolds_of_handover {s : State} {h : Handover} (hh : s.mode.handover = some h) : s.dwellHolds = false := by
  unfold State.dwellHolds
  rw [hh]
  simp

theorem dwellHolds_of_invalid {s : State} (h : s.xbsValid = false) : s.dwellHolds = false := by
  unfold State.dwellHolds
  simp [h]

theorem rampIf_keeps (b : Bool) (s : State) : Keeps [Obj.xferStatus] [] s (rampIf b s) :=
  keeps_ite _ (keeps_set [] s _ (by simp)) (Keeps.refl _ _ _)

/-- A hand-over interrupts the ramp, and leaves STATE (R322). -/
theorem rampIf_xferState (b : Bool) (s : State) : (rampIf b s).xferState = s.xferState := by
  unfold rampIf
  split_ifs
  · unfold State.xferState
    rw [State.get_setBitOf_self, bits_setBits_below _ _ _ _ _ _ (by decide)]
  · rfl

/-- The objects that a hand-over writes as it starts. -/
def pathObjects : List Nat := [Obj.powerPathStatus, Obj.xferStatus]

theorem startHandover_keeps (b : Bool) (s : State) : Keeps pathObjects [.mode] s (startHandover b s) := by
  unfold startHandover
  extract_lets t
  have ht : Keeps pathObjects [.mode] s t :=
    (keeps_set _ s _ (by simp [pathObjects])).trans (keeps_mono (rampIf_keeps false _) (by simp [pathObjects]) (by simp))
  exact (ht.trans (mode_keeps _ t _)).trans (keeps_mono (dwellFollow_keeps _) (by simp [pathObjects]) (by simp))

theorem startHandover_mode (b : Bool) (s : State) :
    (startHandover b s).mode = { s.mode with handover := some ⟨b, s.clk, false⟩, dwell := false } := by
  have hr : ∀ x, (rampIf false x).mode = x.mode := fun x => (rampIf_keeps false x).mode (by simp)
  have hc : ∀ x, (rampIf false x).clk = x.clk := fun x => (rampIf_keeps false x).clk (by simp)
  unfold startHandover
  rw [dwellFollow_mode, dwellHolds_of_handover rfl]
  simp only [hr, hc, State.setField_mode, State.setField_clk]

/-- PowerPathStatus as a hand-over shows it: its STATE, the comparators as they were (R81, R87). -/
theorem startHandover_shown (b : Bool) (s : State) :
    (startHandover b s).pathState = (if b then 1 else 3) ∧ (startHandover b s).xbsValid = s.xbsValid ∧ (startHandover b s).xbsOv = s.xbsOv := by
  set x := s.setField Obj.powerPathStatus 0 2 (if b then 1 else 3)
  have hx : x.get Obj.powerPathStatus = setBits (s.get Obj.powerPathStatus) 0 2 (if b then 1 else 3) := State.get_setField_self _ _ _ _ _
  have hr : (rampIf false x).get Obj.powerPathStatus = x.get Obj.powerPathStatus := (rampIf_keeps false x).get (by decide)
  obtain ⟨h1, h2, h3⟩ := dwellFollow_shown { rampIf false x with mode := { (rampIf false x).mode with handover := some ⟨b, (rampIf false x).clk, false⟩ } }
  obtain ⟨g1, g2, g3⟩ := PathShown.of_get (t := { rampIf false x with
    mode := { (rampIf false x).mode with handover := some ⟨b, (rampIf false x).clk, false⟩ } }) hr
  refine ⟨h1.trans (g1.trans ?_), h2.trans (g2.trans ?_), h3.trans (g3.trans ?_)⟩
  · unfold State.pathState
    rw [hx, bits_setBits]
    cases b <;> rfl
  · unfold State.xbsValid bit
    rw [hx]
    exact congrArg (· == 1) (bits_setBits_above _ _ _ _ 3 1 (by decide))
  · unfold State.xbsOv
    rw [hx]
    exact congrArg (· == 1) (bits_setBits_above _ _ _ _ 4 1 (by decide))

end Sys2Proof.Machine
end

section
namespace Sys2Proof.Machine

/-! What the setting of a source leaves of the mode's engine. -/

theorem raised_mode (c : Nat) (d : State) : (raised c d).mode = d.mode := by
  unfold raised
  extract_lets lim latch sev src e
  have he : (if 1 ≤ sev then event 1 c e else e).mode = e.mode := by
    split_ifs
    · exact (event_keeps 1 c e).mode (by decide)
    · rfl
  exact ((notify_keeps _).mode (by decide)).trans he

theorem recurs_mode (c : Nat) (s : State) : (recurs c s).mode = s.mode := by
  unfold recurs
  dsimp only
  split_ifs <;> rfl

theorem stageAuto_mode (m c : Nat) (s : State) : ∃ a, (stageAuto m c s).mode = { s.mode with auto := a } := by
  unfold stageAuto
  split
  · split_ifs
    · exact ⟨_, rfl⟩
    · exact ⟨_, rfl⟩
  · exact ⟨_, rfl⟩

/-- A source that does not lead to SAFE stages a transition at most (R93, R456). -/
theorem faultOccur_mode {c : Nat} {s : State} (hr : Registers c) (h : NoEntry c s) :
    ∃ a, (faultOccur c s).mode = { s.mode with auto := a } := by
  obtain ⟨hc, hv, hm⟩ := hr
  cases hs : s.faultOn c with
  | true => exact ⟨s.mode.auto, by rw [faultOccur_again hs hc, recurs_mode]⟩
  | false =>
    have hf : (raised c (recurs c s)).mode = s.mode := (raised_mode c _).trans (recurs_mode c s)
    have hn : (if c ≤ 1 then 3 else (recurs c s).get (faultObj Obj.faultSeverity c)) = 3 →
        enterSafe (raised c (recurs c s)) = raised c (recurs c s) := by
      intro h3
      rcases h with ⟨h2, h4⟩ | hi
      · rw [if_neg (by omega), (recurs_keeps c s).get hv] at h3
        exact absurd h3 h4
      · exact enterSafe_id (by rw [modeIn_congr safeFrom (raised_modeStatus _ hm), modeIn_congr safeFrom ((recurs_keeps c s).get hm), hi])
    rw [faultOccur_raises hs]
    extract_lets f sev
    split_ifs with h3
    · exact ⟨s.mode.auto, (congrArg State.mode (hn h3)).trans hf⟩
    · obtain ⟨a, ha⟩ := stageAuto_mode Mode.measure 9 f
      exact ⟨a, by rw [ha, show f.mode = s.mode from hf]⟩
    · exact ⟨s.mode.auto, hf⟩

theorem faultPulse_mode {c : Nat} {s : State} (hr : Registers c) (h : NoEntry c s) : ∃ a, (faultPulse c s).mode = { s.mode with auto := a } :=
  faultOccur_mode hr h

/-- A source whose severity is not SAFE is set by an instant of its condition (R455, R460). -/
theorem faultPulse_on {c : Nat} {s : State} (hr : Registers c) (h2 : 2 ≤ c) (h0 : s.faultOn c = false)
    (h3 : s.get (faultObj Obj.faultSeverity c) ≠ 3) : (faultPulse c s).faultOn c = true := by
  obtain ⟨-, hv, -⟩ := hr
  exact (faultEnd_faultOn c c _).trans (faultOccur_mild h0 h2 h3 hv).2

/-! The end of a hand-over (R81 to R84). -/

theorem keeps_count {ks : List Nat} (bs : List Block) (s : State) {k : Nat} (w : Nat) (h : k ∈ ks) : Keeps ks bs s (s.count k w) :=
  keeps_set bs s _ h

/-- The objects that a hand-over writes. -/
def handoverObjects : List Nat := [Obj.powerPathStatus, Obj.handoverCount, Obj.xferStatus]

/-- The hand-over has closed its source, and counts (R81, R87). -/
def sourceClosed (h : Handover) (s : State) : State :=
  let t := rampIf true ((s.setField Obj.powerPathStatus 0 2 (if h.toXbs then 2 else 0)).count Obj.handoverCount 32)
  { t with mode := { t.mode with handover := none } }

theorem handoverEnds_eq {h : Handover} {s : State} (hh : s.mode.handover = some h) :
    handoverEnds s =
      if (h.toXbs && (h.failed || xbusBarred (sourceClosed h s))) = true then startHandover false (sourceClosed h s)
      else dwellFollow (sourceClosed h s) := by
  unfold handoverEnds
  rw [hh]
  rfl

theorem sourceClosed_keeps (h : Handover) (s : State) : Keeps handoverObjects [.mode] s (sourceClosed h s) := by
  unfold sourceClosed
  extract_lets t
  have h1 : Keeps handoverObjects [.mode] s (s.setField Obj.powerPathStatus 0 2 (if h.toXbs then 2 else 0)) :=
    keeps_set _ s _ (by simp [handoverObjects])
  have h2 := h1.trans (keeps_count [.mode] _ (k := Obj.handoverCount) 32 (by simp [handoverObjects]))
  exact (h2.trans (keeps_mono (rampIf_keeps true _) (by simp [handoverObjects]) (by simp))).trans (mode_keeps _ t _)

theorem sourceClosed_mode (h : Handover) (s : State) : (sourceClosed h s).mode = { s.mode with handover := none } := by
  unfold sourceClosed
  dsimp only
  rw [(rampIf_keeps true _).mode (by simp)]
  rfl

theorem sourceClosed_shown (h : Handover) (s : State) :
    (sourceClosed h s).pathState = (if h.toXbs then 2 else 0) ∧ (sourceClosed h s).xbsValid = s.xbsValid ∧
      (sourceClosed h s).xbsOv = s.xbsOv := by
  have hg : (sourceClosed h s).get Obj.powerPathStatus = setBits (s.get Obj.powerPathStatus) 0 2 (if h.toXbs then 2 else 0) :=
    calc (sourceClosed h s).get Obj.powerPathStatus
      _ = ((s.setField Obj.powerPathStatus 0 2 (if h.toXbs then 2 else 0)).count Obj.handoverCount 32).get Obj.powerPathStatus :=
        (rampIf_keeps true _).get (by decide)
      _ = (s.setField Obj.powerPathStatus 0 2 (if h.toXbs then 2 else 0)).get Obj.powerPathStatus := State.get_count_ne _ _ (by decide)
      _ = _ := State.get_setField_self _ _ _ _ _
  refine ⟨?_, ?_, ?_⟩
  · unfold State.pathState
    rw [hg, bits_setBits]
    split_ifs <;> rfl
  · unfold State.xbsValid bit
    rw [hg]
    exact congrArg (· == 1) (bits_setBits_above _ _ _ _ 3 1 (by decide))
  · unfold State.xbsOv bit
    rw [hg]
    exact congrArg (· == 1) (bits_setBits_above _ _ _ _ 4 1 (by decide))

theorem sourceClosed_count (h : Handover) (s : State) :
    (sourceClosed h s).get Obj.handoverCount = sat (2 ^ 32 - 1) (s.get Obj.handoverCount + 1) :=
  calc (sourceClosed h s).get Obj.handoverCount
    _ = ((s.setField Obj.powerPathStatus 0 2 (if h.toXbs then 2 else 0)).count Obj.handoverCount 32).get Obj.handoverCount :=
      (rampIf_keeps true _).get (by decide)
    _ = sat (2 ^ 32 - 1) ((s.setField Obj.powerPathStatus 0 2 (if h.toXbs then 2 else 0)).get Obj.handoverCount + 1) :=
      State.get_count_self _ _ _
    _ = _ := by rw [State.get_setField_ne _ _ _ _ (by decide)]

/-- What bars XBUS is as it was (R80, R82). -/
theorem xbusBarred_congr {s t : State} (hv : t.xbsValid = s.xbsValid) (ho : t.xbsOv = s.xbsOv)
    (hp : t.get Obj.powerPathPolicy = s.get Obj.powerPathPolicy) (hr : t.mode.reverseWait = s.mode.reverseWait)
    (hs : t.mode.shutdown = s.mode.shutdown) : xbusBarred t = xbusBarred s := by
  unfold xbusBarred
  rw [hv, ho, hp, hr, hs]

theorem sourceClosed_barred (h : Handover) (s : State) : xbusBarred (sourceClosed h s) = xbusBarred s := by
  obtain ⟨-, hv, ho⟩ := sourceClosed_shown h s
  exact xbusBarred_congr hv ho ((sourceClosed_keeps h s).get (by decide)) (by rw [sourceClosed_mode]) (by rw [sourceClosed_mode])

theorem handoverEnds_keeps {h : Handover} {s : State} (hh : s.mode.handover = some h) :
    Keeps handoverObjects [.mode] s (handoverEnds s) := by
  rw [handoverEnds_eq hh]
  have hc := sourceClosed_keeps h s
  exact keeps_ite _ (hc.trans (keeps_mono (startHandover_keeps false _) (by simp [pathObjects, handoverObjects]) (by simp)))
    (hc.trans (keeps_mono (dwellFollow_keeps _) (by simp [handoverObjects]) (by simp)))

/-- The source that has been closed carries the device (R81, R83). -/
theorem handoverEnds_stands {h : Handover} {s : State} (hh : s.mode.handover = some h)
    (hc : h.toXbs = true → h.failed = false ∧ xbusBarred s = false) :
    (handoverEnds s).pathState = (if h.toXbs then 2 else 0) ∧ (handoverEnds s).mode.handover = none ∧
      (handoverEnds s).get Obj.handoverCount = sat (2 ^ 32 - 1) (s.get Obj.handoverCount + 1) := by
  have hb : (h.toXbs && (h.failed || xbusBarred (sourceClosed h s))) = false := by
    rw [sourceClosed_barred]
    cases hx : h.toXbs with
    | false => rfl
    | true =>
      obtain ⟨h1, h2⟩ := hc hx
      rw [h1, h2]
      rfl
  rw [handoverEnds_eq hh, hb, if_neg Bool.false_ne_true]
  refine ⟨(dwellFollow_shown _).1.trans (sourceClosed_shown h s).1, ?_, ?_⟩
  · rw [dwellFollow_mode, sourceClosed_mode]
  · exact ((dwellFollow_keeps _).get (by decide)).trans (sourceClosed_count h s)

/-- A hand-over to XBS that the path may not keep is followed by the return (R82). -/
theorem handoverEnds_returns {h : Handover} {s : State} (hh : s.mode.handover = some h) (hx : h.toXbs = true)
    (hf : h.failed = true ∨ xbusBarred s = true) :
    (handoverEnds s).pathState = 3 ∧ (handoverEnds s).mode.handover = some ⟨false, s.clk, false⟩ ∧
      (handoverEnds s).get Obj.handoverCount = sat (2 ^ 32 - 1) (s.get Obj.handoverCount + 1) := by
  have hb : (h.toXbs && (h.failed || xbusBarred (sourceClosed h s))) = true := by
    rw [sourceClosed_barred, hx, Bool.true_and, Bool.or_eq_true]
    exact hf
  have hk : (sourceClosed h s).clk = s.clk := (sourceClosed_keeps h s).clk (by decide)
  rw [handoverEnds_eq hh, hb, if_pos rfl]
  refine ⟨(startHandover_shown false _).1, ?_, ?_⟩
  · rw [startHandover_mode, hk]
  · exact ((startHandover_keeps false _).get (by decide)).trans (sourceClosed_count h s)

/-- 16h, whose setting leaves the hand-over and what bars XBUS (R84). -/
theorem alarm_leaves {h : Handover} {s : State} (hh : s.mode.handover = some h) (h0 : s.faultOn 0x16 = false)
    (h3 : s.get (faultObj Obj.faultSeverity 0x16) ≠ 3) :
    Keeps (faultObjects 0x16) faultBlocks s (faultPulse 0x16 s) ∧ (faultPulse 0x16 s).mode.handover = some h ∧
      xbusBarred (faultPulse 0x16 s) = xbusBarred s ∧ (faultPulse 0x16 s).faultOn 0x16 = true := by
  have hn : NoEntry 0x16 s := .inl ⟨by decide, h3⟩
  have hk := faultPulse_keeps registers_16 hn
  obtain ⟨a, ha⟩ := faultPulse_mode registers_16 hn
  obtain ⟨-, hv, ho⟩ := PathShown.of_get (hk.get (k := Obj.powerPathStatus) (by decide))
  exact ⟨hk, by rw [ha]; exact hh, xbusBarred_congr hv ho (hk.get (by decide)) (by rw [ha]) (by rw [ha]),
    faultPulse_on registers_16 (by decide) h0 h3⟩

theorem handoverEnds_alarm {h : Handover} {s : State} (hh : s.mode.handover = some h) :
    Keeps (handoverObjects ++ faultObjects 0x16) faultBlocks s (handoverEnds s) ∧ (handoverEnds s).faultOn 0x16 = s.faultOn 0x16 := by
  have hk := handoverEnds_keeps hh
  exact ⟨keeps_mono hk (fun _ => List.mem_append_left _) (by simp [faultBlocks]), hk.faultOn (by decide) _⟩

theorem dwellComplete_starts (dt : Nat) (s : State) (h1 : (s.found dt).mode.dwell = true) (h2 : (s.found dt).dwellHolds = true) :
    Completes (.dwellComplete dt) dt s [Obj.powerPathStatus, Obj.xferStatus] [.mode] (fun u t =>
      t.pathState = 1 ∧ t.mode.handover = some ⟨true, u.clk, false⟩ ∧ t.mode.dwell = false) := by
  have he : effDwellComplete (s.found dt) = startHandover true (s.found dt) := by
    unfold effDwellComplete
    rw [h1, h2]
    rfl
  refine completes_of rfl rfl ?_ (he ▸ startHandover_keeps true _)
  rw [he, settle_pathState, settle_mode, startHandover_mode]
  exact ⟨(startHandover_shown true _).1, rfl, rfl⟩

theorem effHandoverComplete_eq {h : Handover} {s : State} (hh : s.mode.handover = some h) :
    effHandoverComplete s = handoverEnds (if (!h.toXbs && s.stkUv) = true then faultPulse 0x16 s else s) := by
  unfold effHandoverComplete
  rw [hh]

theorem effHandoverVpreTimeout_eq {h : Handover} {s : State} (hh : s.mode.handover = some h) :
    effHandoverVpreTimeout s = handoverEnds (faultPulse 0x16 s) := by
  unfold effHandoverVpreTimeout
  rw [hh]

/-- Settles O23: a hand-over closes its source and counts, and where it may not stay it turns back; 16h comes before, and leaves both. -/
theorem handoversRun : Obligations.HandoversRun := by
  unfold Obligations.HandoversRun
  refine ⟨dwellComplete_starts, fun dt h s hh hx hs => ?_, fun dt h s hh hx hs h0 h3 => ?_, fun dt h s hh hx hf => ?_,
    fun dt h s hh h0 h3 => ?_⟩
  · have he : effHandoverComplete (s.found dt) = handoverEnds (s.found dt) := by
      rw [effHandoverComplete_eq hh]
      cases hb : h.toXbs with
      | true => rfl
      | false => rw [hs hb]; rfl
    refine completes_of rfl rfl ?_ (he ▸ handoverEnds_keeps hh)
    simpa only [he, settle_pathState, settle_mode, settle_get] using handoverEnds_stands hh hx
  · have he : effHandoverComplete (s.found dt) = handoverEnds (faultPulse 0x16 (s.found dt)) := by
      rw [effHandoverComplete_eq hh, hx, hs]
      rfl
    obtain ⟨kf, hm, -, ho⟩ := alarm_leaves hh h0 h3
    obtain ⟨ke, ha⟩ := handoverEnds_alarm hm
    obtain ⟨hp, hn, -⟩ := handoverEnds_stands hm (fun g => absurd (hx.symm.trans g) Bool.false_ne_true)
    rw [hx] at hp
    refine completes_of rfl rfl ?_ (he ▸ (keeps_mono kf (fun _ => List.mem_append_right _) (fun _ => id)).trans ke)
    simp only [he, settle_pathState, settle_mode, settle_faultOn]
    exact ⟨hp, hn, ha.trans ho⟩
  · have he : effHandoverComplete (s.found dt) = handoverEnds (s.found dt) := by
      rw [effHandoverComplete_eq hh, hx]
      rfl
    refine completes_of rfl rfl ?_ (he ▸ handoverEnds_keeps hh)
    simpa only [he, settle_pathState, settle_mode, settle_get] using handoverEnds_returns hh hx hf
  · have he := effHandoverVpreTimeout_eq hh
    obtain ⟨kf, hm, hb, ho⟩ := alarm_leaves hh h0 h3
    obtain ⟨ke, ha⟩ := handoverEnds_alarm hm
    refine completes_of rfl rfl ?_ (he ▸ (keeps_mono kf (fun _ => List.mem_append_right _) (fun _ => id)).trans ke)
    simp only [he, settle_pathState, settle_mode, settle_faultOn]
    refine ⟨ha.trans ho, ?_⟩
    have hc : (faultPulse 0x16 (s.found dt)).clk = (s.found dt).clk := kf.clk (by decide)
    by_cases hr : h.toXbs = true ∧ (h.failed = true ∨ xbusBarred (s.found dt) = true)
    · obtain ⟨hx, hf⟩ := hr
      rw [if_pos ⟨hx, hf⟩, ← hc]
      exact (handoverEnds_returns hm hx (hb ▸ hf)).2.1
    · rw [if_neg hr]
      obtain ⟨hp, hn, -⟩ := handoverEnds_stands hm fun hx => by
        rw [hb, ← Bool.not_eq_true, ← Bool.not_eq_true, ← not_or]
        exact fun hf => hr ⟨hx, hf⟩
      exact ⟨hp, hn⟩

end Sys2Proof.Machine
end

section
namespace Sys2Proof.Machine

/-! A write by the host, whatever it comes to (R44, R553). -/

/-- What decides whether an answer leaves by the host port is as it was (R44, R508, R555). -/
structure CanAnswer (s u : State) : Prop where
  port : u.portUp = true
  reset : u.port.resetReq = none
  update : u.updStage ≠ 1
  address : u.address = s.address
  spi : u.onSpi = s.onSpi

/-- A write changes none of it that leaves the objects it reads. -/
theorem CanAnswer.of_keeps {s u : State} {c : Ctx} {n op index sub : Nat} {ks : List Nat} {bs : List Block} (h : Heard s c n op index sub)
    (hk : Keeps ks bs (received n s) u)
    (ho : ∀ k ∈ [Obj.domainStatus, Obj.supervisorState, Obj.updateStatus, Obj.nodeAddress, Obj.hostPortActive], k ∉ ks)
    (hb : Block.port ∉ bs) : CanAnswer s u := by
  have g : ∀ k ∈ [Obj.domainStatus, Obj.supervisorState, Obj.updateStatus, Obj.nodeAddress, Obj.hostPortActive], u.get k = s.get k :=
    fun k m => (hk.get (ho k m)).trans (received_get n k s)
  refine ⟨?_, ?_, ?_, ?_, ?_⟩
  · simpa only [State.portUp, State.on, g Obj.domainStatus (by simp), g Obj.supervisorState (by simp)] using h.up
  · have hp : u.port = (received n s).port := hk.2 .port hb
    rw [hp, received_port]
    exact h.reset
  · simpa only [State.updStage, g Obj.updateStatus (by simp)] using h.update
  · unfold State.address
    rw [g _ (by simp)]
  · unfold State.onSpi
    rw [g _ (by simp)]

/-- A write of a row that MASTER may write, with the right length, comes to its steps 10 and 11. -/
theorem host_writes {s : State} {c : Ctx} {n index sub : Nat} {r : ObjRow} (h : HeardMaster s c n 2 index sub) (data : List Nat) (aux : Nat)
    (hl : lookup index sub = .inr r)
    (ha : (received n s).writeAccess { c with src := .host (s.client n) } (objKey index sub) r = 0)
    (hk : r.kind ≠ .domain) (hn : data.length = r.size) :
    arrive ⟨c, 2, index, sub, data, aux⟩ s =
      settleUpdate (conclude ⟨{ c with src := .host (s.client n) }, 2, index, sub, data, aux⟩ []
        (writeObject { c with src := .host (s.client n) } (objKey index sub) r (ofLe data) (received n s))) := by
  rw [arrive_heard h.toHeard data aux (wop := 2) rfl rfl]
  have hr := h.ready
  have hc : (received n s).coreAbsent r = false := by simp_all [State.coreAbsent, State.supReady, received_get]
  congr 1
  show cmdWrite _ _ = _
  unfold cmdWrite
  simp only [hl, hc, ha, hn]
  simp [hk]

/-- A write that its destination accepts is answered. -/
theorem conclude_accepts {s u : State} {c : Ctx} {n op index sub : Nat} (h : Heard s c n op index sub) (data d : List Nat) (aux : Nat)
    (hu : CanAnswer s u) :
    Keeps [] [.port] u (settleUpdate (conclude ⟨{ c with src := .host (s.client n) }, op, index, sub, data, aux⟩ d (.done u))) ∧
      Answered s (settleUpdate (conclude ⟨{ c with src := .host (s.client n) }, op, index, sub, data, aux⟩ d (.done u))) c n op index sub d := by
  obtain ⟨t, rfl, hk, ha⟩ := conclude_done h data d aux hu.port hu.reset hu.update hu.address hu.spi
  exact ⟨hk, ha⟩

/-- A write that its destination refuses is answered with ABORT, and nothing else follows. -/
theorem conclude_refuses {s u : State} {c : Ctx} {n op index sub : Nat} (h : Heard s c n op index sub) (data d : List Nat)
    (aux code detail : Nat) (hu : CanAnswer s u) :
    Keeps [] [.port] u (settleUpdate (conclude ⟨{ c with src := .host (s.client n) }, op, index, sub, data, aux⟩ d (.refuse code detail u))) ∧
      Refused s (settleUpdate (conclude ⟨{ c with src := .host (s.client n) }, op, index, sub, data, aux⟩ d (.refuse code detail u)))
        c n index sub code detail := by
  obtain ⟨hp, -, hx, ha, hs⟩ := hu
  have hm : u.client (s.client n) = s.client n := by
    simp only [State.client, hs]
    split <;> rfl
  have hb : isBroadcast { c with src := Source.host (s.client n) } = false := h.single
  set pkt := packetBytes 255 c.tag (u.answerAddr c) index sub (abortData code detail) with hpkt
  have he : conclude ⟨{ c with src := .host (s.client n) }, op, index, sub, data, aux⟩ d (.refuse code detail u) =
      keepAnswer { c with src := .host (s.client n) } op index sub pkt (u.queue ⟨.response (s.client n), pkt⟩) := by
    simp only [conclude, refuse, abort, deliver, sendAnswer, hostResponse, hp, hm, hb, hpkt, State.answerAddr, if_true,
      Bool.false_eq_true, if_false]
  set w := keepAnswer { c with src := .host (s.client n) } op index sub pkt (u.queue ⟨.response (s.client n), pkt⟩) with hw
  have hk : Keeps [] [.port] u w :=
    Keeps.trans ⟨fun _ _ => State.get_queue _ _ _, fun b hb => by cases b <;> simp_all [Block.same, State.queue]⟩ (keepAnswer_keeps _ _ _ _ _ _)
  have hi : settleUpdate w = w := by
    refine settleUpdate_id ?_
    simpa only [State.updStage, hk.get (k := Obj.updateStatus) (by simp)] using hx
  rw [he, hi]
  refine ⟨hk, ?_⟩
  unfold Refused
  have haddr : u.answerAddr c = s.answerAddr c := by simp [State.answerAddr, ha]
  rw [hw, keepAnswer_outQ, hpkt, haddr]
  simp [State.queue]

/-! A write of ModeRequest (R90, R91). -/

/-- ModeRequest in its table. -/
def modeRequestRow : ObjRow := ⟨0x0200, 0x0200, 0x00, 0x00, .uint, 1, .rw, false, false, false, false, 0x0, 0xFF, .range 1 12⟩

theorem lookup_modeRequest : lookup 0x0200 0 = .inr modeRequestRow := by decide +kernel

theorem modeRequestRow_inRange (v : Nat) : modeRequestRow.inRange v = (decide (1 ≤ v) && decide (v ≤ 12)) := by
  unfold ObjRow.inRange modeRequestRow
  simp

theorem effModeRequest_eq {s : State} {c : Ctx} {n : Nat} (v : Nat) (h : HeardMaster s c n 2 0x0200 0) :
    effModeRequest c v s =
      settleUpdate (conclude ⟨{ c with src := .host (s.client n) }, 2, 0x0200, 0, [v], 0⟩ []
        (writeObject { c with src := .host (s.client n) } Obj.modeRequest modeRequestRow v (received n s))) := by
  have ho : ofLe [v] = v := by simp [ofLe]
  have hw := host_writes h [v] 0 lookup_modeRequest (received_writeAccess h.master (by decide) (.inl rfl)) (by decide) rfl
  rw [ho] at hw
  exact hw

theorem writeObject_modeRequest {v : Nat} (c : Ctx) (s : State) (hv : v < 256) :
    writeObject c Obj.modeRequest modeRequestRow v s = if v = 0 ∨ 12 < v then .refuse 9 0 s else writeModeRequest v s := by
  have hm : v &&& 0xFF = v := (Nat.and_two_pow_sub_one_eq_mod v 8).trans (Nat.mod_eq_of_lt hv)
  have hi : (!modeRequestRow.inRange v) = true ↔ v = 0 ∨ 12 < v := by
    rw [modeRequestRow_inRange, Bool.not_eq_true', Bool.and_eq_false_iff, decide_eq_false_iff_not, decide_eq_false_iff_not, not_le, not_le,
      Nat.lt_one_iff]
  have hd : writeValue c Obj.modeRequest v s = writeModeRequest v s := rfl
  unfold writeObject
  dsimp only
  rw [show modeRequestRow.mask = 0xFF from rfl, hm, hd]
  by_cases h : v = 0 ∨ 12 < v
  · rw [if_pos h, if_pos (hi.mpr h)]
  · rw [if_neg h, if_neg (fun g => h (hi.mp g))]
    cases writeModeRequest v s <;> rfl

/-- The codes of R91. -/
theorem refusal_lt {m c : Nat} {b : Bool} {s : State} (h : refusal m b s = some c) : c < 256 := by
  have hm := List.mem_of_mem_head? (Option.mem_def.mpr h)
  unfold refusalCodes at hm
  rw [List.mem_filterMap] at hm
  obtain ⟨p, hp, he⟩ := hm
  have hc : p.1 = c := by
    split_ifs at he
    exact Option.some.inj he
  rw [← hc]
  simp only [List.mem_cons, List.not_mem_nil, or_false] at hp
  rcases hp with rfl | rfl | rfl | rfl | rfl | rfl | rfl | rfl | rfl <;> norm_num

theorem overtakenCode_lt (m : Nat) (s : State) : overtakenCode m s < 256 := by
  have hc : (refusal m true s).getD 7 < 256 := by
    cases h : refusal m true s with
    | none => decide
    | some c => exact refusal_lt h
  unfold overtakenCode
  dsimp only
  split_ifs
  · decide
  · exact hc

theorem modeRefusal_lt {v c : Nat} {s : State} (h : modeRefusal v s = some c) : c < 256 := by
  unfold modeRefusal at h
  split at h
  · exact Option.some.inj h ▸ overtakenCode_lt _ _
  · split_ifs at h
    · exact Option.some.inj h ▸ overtakenCode_lt _ _
    · exact refusal_lt h

/-- Without slices the end of the foreground set writes STATE of SelftestStatus alone (R483). -/
theorem abortSlices_none (p : Slice → Bool) {s : State} (h : s.test.slices = []) : abortSlices p s = s := by
  unfold abortSlices
  simp only [h, List.filter_nil, List.foldl_nil]
  conv => rhs; rw [show s = { s with test := { s.test with slices := s.test.slices } } from rfl, h]

theorem test_keeps (ks : List Nat) (s : State) (x : TestEng) : Keeps ks [.test] s { s with test := x } :=
  ⟨fun _ _ => rfl, fun b hb => by cases b <;> simp_all [Block.same]⟩

theorem selftestEnds_only {s : State} (h : s.test.slices = []) :
    Keeps [Obj.selftestStatus] [.test] s (selftestEnds s) ∧
      bits ((selftestEnds s).get Obj.selftestStatus) 0 4 =
        (if bits (s.get Obj.selftestStatus) 0 4 = 1 then 4 else bits (s.get Obj.selftestStatus) 0 4) := by
  unfold selftestEnds
  rw [abortSlices_none _ h]
  split_ifs with hs
  · refine ⟨(keeps_set [.test] s _ (k := Obj.selftestStatus) (by simp)).trans (test_keeps _ (s.setField Obj.selftestStatus 0 4 4) _), ?_⟩
    exact (congrArg (bits · 0 4) (State.get_setField_self s Obj.selftestStatus 0 4 4)).trans (bits_setBits _ _ _ _)
  · exact ⟨Keeps.refl _ _ _, rfl⟩

theorem leaveXbus_keeps (s : State) : Keeps pathObjects [.mode] s (leaveXbus s) :=
  keeps_ite _ (startHandover_keeps false s) (Keeps.refl _ _ _)

theorem leaveXbus_staged (s : State) : (leaveXbus s).mode.staged = s.mode.staged := by
  unfold leaveXbus
  split_ifs
  · rw [startHandover_mode]
  · rfl

/-- The objects that a write of ModeRequest changes. -/
def requestObjects : List Nat :=
  [Obj.modeRequest, Obj.modeStatus, Obj.xferStatus, Obj.loupeSessionStatus, Obj.powerPathStatus, Obj.selftestStatus]

/-- A request that R91 refuses: REFUSAL shows the code (R92). -/
theorem writeModeRequest_refused {v code : Nat} {s : State} (hm : v ≠ s.modeCode) (hr : modeRefusal v s = some code) :
    ∃ t, writeModeRequest v s = .refuse 0x0A code t ∧
      Keeps [Obj.modeStatus, Obj.xferStatus, Obj.loupeSessionStatus] [] s t ∧ bits (t.get Obj.modeStatus) 16 8 = code := by
  unfold writeModeRequest
  rw [if_neg hm, hr]
  dsimp only
  set a := s.setField Obj.modeStatus 16 8 code
  have ka : Keeps [Obj.modeStatus, Obj.xferStatus, Obj.loupeSessionStatus] [] s a := keeps_set [] s _ (by simp)
  have ga : bits (a.get Obj.modeStatus) 16 8 = code := by
    rw [State.get_setField_self, bits_setBits]
    exact Nat.mod_eq_of_lt (modeRefusal_lt hr)
  refine ⟨_, rfl, ?_⟩
  split_ifs
  · exact ⟨ka.trans (keeps_set [] a _ (by simp)), by rw [State.get_setField_ne _ _ _ _ (by decide), ga]⟩
  · exact ⟨ka.trans (keeps_set [] a _ (by simp)), by rw [State.get_setField_ne _ _ _ _ (by decide), ga]⟩
  · exact ⟨ka, ga⟩

/-- ModeRequest takes the value, which is staged; a reverse session waits for STK (R86, R92). -/
def requestTaken (v : Nat) (s : State) : State :=
  { s.set Obj.modeRequest v with mode := { s.mode with staged := some v, reverseWait := v == Mode.transfer && !s.forward } }

/-- The path as a request leaves it (R86). -/
def requestPath (s : State) : State := if s.mode.reverseWait then leaveXbus s else s

theorem requestPath_keeps (s : State) : Keeps pathObjects [.mode] s (requestPath s) := keeps_ite _ (leaveXbus_keeps s) (Keeps.refl _ _ _)

theorem requestPath_staged (s : State) : (requestPath s).mode.staged = s.mode.staged := by
  unfold requestPath
  split_ifs
  · exact leaveXbus_staged s
  · rfl

theorem writeModeRequest_none {v : Nat} {s : State} (hm : v ≠ s.modeCode) (hr : modeRefusal v s = none) :
    writeModeRequest v s = .done (selftestEnds (requestPath (requestTaken v s))) := by
  unfold writeModeRequest
  rw [if_neg hm, hr]
  rfl

/-- A request that is staged ends a foreground set (R92, R483). -/
theorem requestTaken_staged {v : Nat} {s : State} (hs : s.test.slices = []) :
    Keeps [Obj.modeRequest, Obj.xferStatus, Obj.powerPathStatus, Obj.selftestStatus] [.mode, .test] s
        (selftestEnds (requestPath (requestTaken v s))) ∧
      (selftestEnds (requestPath (requestTaken v s))).get Obj.modeRequest = v ∧
      (selftestEnds (requestPath (requestTaken v s))).mode.staged = some v ∧
      bits ((selftestEnds (requestPath (requestTaken v s))).get Obj.selftestStatus) 0 4 =
        (if bits (s.get Obj.selftestStatus) 0 4 = 1 then 4 else bits (s.get Obj.selftestStatus) 0 4) := by
  have kb : Keeps [Obj.modeRequest] [.mode] s (requestTaken v s) :=
    (keeps_set [.mode] s v (by simp)).trans (mode_keeps _ (s.set Obj.modeRequest v) _)
  have gb : (requestTaken v s).get Obj.modeRequest = v := State.get_set_self s _ _
  have sb : (requestTaken v s).mode.staged = some v := rfl
  set b := requestTaken v s
  have kx := requestPath_keeps b
  have kt : Keeps [Obj.modeRequest, Obj.xferStatus, Obj.powerPathStatus] [.mode] s (requestPath b) :=
    (keeps_mono kb (by simp) (by simp)).trans (keeps_mono kx (by simp [pathObjects]) (by simp))
  obtain ⟨ke, ge⟩ := selftestEnds_only (s := requestPath b) (by rw [show (requestPath b).test = s.test from kt.2 .test (by decide)]; exact hs)
  refine ⟨(keeps_mono kt (by simp) (by simp)).trans (keeps_mono ke (by simp) (by simp)), ?_, ?_, ?_⟩
  · rw [ke.get (by decide), kx.get (by decide), gb]
  · rw [ke.mode (by decide), requestPath_staged, sb]
  · rw [ge, kt.get (by decide)]

/-- A request whose write is done is answered. -/
theorem modeRequest_answered {u y : State} {c : Ctx} {n v : Nat} {ks : List Nat} {bs : List Block} (hm : HeardMaster u c n 2 0x0200 0)
    (he : writeObject { c with src := .host (u.client n) } Obj.modeRequest modeRequestRow v (received n u) = .done y)
    (hk : Keeps ks bs (received n u) y) (hks : ∀ k ∈ ks, k ∈ requestObjects) (hbs : ∀ b ∈ bs, b ∈ [Block.mode, .test]) :
    Keeps [] [.port] y (settle (effModeRequest c v u)) ∧ Answered u (settle (effModeRequest c v u)) c n 2 0x0200 0 [] := by
  have hc : CanAnswer u y := CanAnswer.of_keeps hm.toHeard (keeps_mono hk hks hbs) (by decide) (by decide)
  obtain ⟨kt, ht⟩ := conclude_accepts hm.toHeard [v] [] 0 hc
  rw [effModeRequest_eq v hm, he]
  refine ⟨kt.settle, ?_⟩
  unfold Answered
  rw [settle_port]
  exact ht

/-- A request whose write is refused is answered with ABORT. -/
theorem modeRequest_refused {u y : State} {c : Ctx} {n v code detail : Nat} {ks : List Nat} {bs : List Block} (hm : HeardMaster u c n 2 0x0200 0)
    (he : writeObject { c with src := .host (u.client n) } Obj.modeRequest modeRequestRow v (received n u) = .refuse code detail y)
    (hk : Keeps ks bs (received n u) y) (hks : ∀ k ∈ ks, k ∈ requestObjects) (hbs : ∀ b ∈ bs, b ∈ [Block.mode, .test]) :
    Keeps [] [.port] y (settle (effModeRequest c v u)) ∧ Refused u (settle (effModeRequest c v u)) c n 0x0200 0 code detail := by
  have hc : CanAnswer u y := CanAnswer.of_keeps hm.toHeard (keeps_mono hk hks hbs) (by decide) (by decide)
  obtain ⟨kt, ht⟩ := conclude_refuses hm.toHeard [v] [] 0 code detail hc
  rw [effModeRequest_eq v hm, he]
  refine ⟨kt.settle, ?_⟩
  unfold Refused
  rw [settle_port]
  exact ht

/-- What a request keeps, from what its write and its answer keep. -/
theorem modeRequest_keeps {u y t : State} {n : Nat} {ks : List Nat} {bs : List Block} (hk : Keeps ks bs (received n u) y)
    (hks : ∀ k ∈ ks, k ∈ requestObjects) (hbs : ∀ b ∈ bs, b ∈ [Block.mode, .test]) (ht : Keeps [] [.port] y t) :
    Keeps requestObjects [.port, .bal, .flt, .mode, .test] u t :=
  ((keeps_mono (received_keeps n u) (by simp) (by simp)).trans
    (keeps_mono hk hks (fun b hb => List.mem_append_right [Block.port, .bal, .flt] (hbs b hb)))).trans (keeps_mono ht (by simp) (by simp))

/-- How a meaning completes, from what stands in the state that it leaves. -/
theorem completes_settled {i : Instr} {dt : Nat} {s : State} {ks : List Nat} {bs : List Block} {post : State → State → Prop} {eff : State → State}
    (hw : Instr.wf i = true) (he : exec i s = run (Instr.wf i) dt eff s)
    (h : post (s.found dt) (settle (eff (s.found dt))) ∧ Keeps ks bs (s.found dt) (settle (eff (s.found dt)))) : Completes i dt s ks bs post :=
  ⟨settle (eff (s.found dt)), by rw [he, hw]; rfl, h⟩

/-- Settles O17: the range comes first, then the current mode, then R91; each way the answer follows. -/
theorem modeRequestRuns : Obligations.ModeRequestRuns := by
  unfold Obligations.ModeRequestRuns
  intro dt c n v s hw hm
  have hv : v < 256 := by
    have h : (c.wf && decide (v < 256)) = true := hw
    rw [Bool.and_eq_true, decide_eq_true_eq] at h
    exact h.2
  refine completes_settled (eff := effModeRequest c v) hw rfl ?_
  generalize s.found dt = u at hm ⊢
  dsimp only
  have he := writeObject_modeRequest { c with src := .host (u.client n) } (received n u) hv
  have hg := fun k => received_get n k u
  have hmode : (received n u).mode = u.mode := (received_keeps n u).mode (by decide)
  have htest : (received n u).test = u.test := (received_keeps n u).2 .test (by decide)
  have hcode : (received n u).modeCode = u.modeCode := modeCode_congr (hg _)
  by_cases h0 : v = 0 ∨ 12 < v
  · rw [if_pos h0] at he ⊢
    have ky : Keeps [] [] (received n u) (received n u) := Keeps.refl _ _ _
    obtain ⟨kt, ht⟩ := modeRequest_refused hm he ky (by simp) (by simp)
    exact ⟨⟨ht, (kt.get (by simp)).trans (hg _), (kt.mode (by simp)).trans hmode, (kt.get (by simp)).trans (hg _),
      (kt.2 .test (by simp)).trans htest⟩, modeRequest_keeps ky (by simp) (by simp) kt⟩
  rw [if_neg h0] at he ⊢
  by_cases hsame : v = u.modeCode
  · have ky : Keeps [Obj.modeRequest] [] (received n u) ((received n u).set Obj.modeRequest v) := keeps_set [] _ v (by simp)
    rw [show writeModeRequest v (received n u) = .done ((received n u).set Obj.modeRequest v) from if_pos (hsame.trans hcode.symm)] at he
    obtain ⟨kt, ht⟩ := modeRequest_answered hm he ky (by decide) (by simp)
    rw [if_pos hsame]
    exact ⟨⟨ht, (kt.get (by simp)).trans (State.get_set_self _ _ _), ((kt.get (by simp)).trans (ky.get (by decide))).trans (hg _),
      (kt.mode (by simp)).trans hmode, ((kt.get (by simp)).trans (ky.get (by decide))).trans (hg _), (kt.2 .test (by simp)).trans htest⟩,
      modeRequest_keeps ky (by decide) (by simp) kt⟩
  rw [if_neg hsame]
  have hn : v ≠ (received n u).modeCode := fun h => hsame (h.trans hcode)
  cases hr : modeRefusal v (received n u) with
  | some code =>
    obtain ⟨y, hy, ky, gy⟩ := writeModeRequest_refused hn hr
    rw [hy] at he
    obtain ⟨kt, ht⟩ := modeRequest_refused hm he ky (by decide) (by simp)
    exact ⟨⟨ht, by rw [kt.get (by simp), gy], by rw [kt.mode (by simp), ky.mode (by simp), hmode],
      ((kt.get (by simp)).trans (ky.get (by decide))).trans (hg _), ((kt.2 .test (by simp)).trans (ky.2 .test (by simp))).trans htest⟩,
      modeRequest_keeps ky (by decide) (by simp) kt⟩
  | none =>
    rw [writeModeRequest_none hn hr] at he
    obtain ⟨ky, gy, sy, ey⟩ := requestTaken_staged (v := v) (show (received n u).test.slices = [] by rw [htest]; exact hm.slices)
    obtain ⟨kt, ht⟩ := modeRequest_answered hm he ky (by decide) (by simp)
    rw [hg] at ey
    exact ⟨⟨ht, (kt.get (by simp)).trans gy, by rw [kt.mode (by simp), sy], by rw [kt.get (by simp), ey]⟩,
      modeRequest_keeps ky (by decide) (by simp) kt⟩

end Sys2Proof.Machine
end

section
namespace Sys2Proof.Machine

/-! A comparator shows in a bit of a status object, and its source follows it (R76, R77). -/

theorem registers_15 : Registers 0x15 := by unfold Registers; decide

theorem registers_17 : Registers 0x17 := by unfold Registers; decide

theorem registers_18 : Registers 0x18 := by unfold Registers; decide

theorem registers_19 : Registers 0x19 := by unfold Registers; decide

theorem cells_keeps (ks : List Nat) (s : State) (c : CellEng) : Keeps ks [.cells] s { s with cells := c } :=
  ⟨fun _ _ => rfl, fun b hb => by cases b <;> simp_all [Block.same]⟩

/-- A source that is not set sets when its condition comes to hold. -/
theorem faultFollow_raises {c : Nat} {s : State} (h : s.faultOn c = false) : faultFollow c true s = faultOccur c s := by
  unfold faultFollow
  rw [if_pos rfl, h, Bool.and_false, if_neg Bool.false_ne_true]

/-- The condition has ended; the status stays (R459). -/
theorem faultFollow_ends (c : Nat) (s : State) :
    bit (faultFollow c false s).flt.cond c = false ∧ (faultFollow c false s).flt.status = s.flt.status := by
  unfold faultFollow
  rw [if_neg Bool.false_ne_true]
  split_ifs with h
  · exact ⟨bit_setBit_self _ _ _, rfl⟩
  · exact ⟨Bool.eq_false_iff.mpr h, rfl⟩

/-- A comparator of the supply sets, and with it its source, whose severity is not SAFE. -/
theorem comparator_sets {c : Nat} {s : State} (n : Nat) (b : Bool) (h2 : 2 ≤ c) (hr : Registers c) (hk : Obj.supplyStatus ∉ faultObjects c)
    (hv : faultObj Obj.faultSeverity c ≠ Obj.supplyStatus) (h0 : s.faultOn c = false) (h3 : s.get (faultObj Obj.faultSeverity c) ≠ 3) :
    Keeps (Obj.supplyStatus :: faultObjects c) faultBlocks s (faultFollow c true (s.setBitOf Obj.supplyStatus n b)) ∧
      (faultFollow c true (s.setBitOf Obj.supplyStatus n b)).faultOn c = true ∧
      (faultFollow c true (s.setBitOf Obj.supplyStatus n b)).get Obj.supplyStatus = (s.setBitOf Obj.supplyStatus n b).get Obj.supplyStatus := by
  have ht : Keeps (Obj.supplyStatus :: faultObjects c) faultBlocks s (s.setBitOf Obj.supplyStatus n b) := keeps_set _ s _ List.mem_cons_self
  have h3' : (s.setBitOf Obj.supplyStatus n b).get (faultObj Obj.faultSeverity c) ≠ 3 := by
    rw [State.get_setBitOf_ne _ _ _ hv]
    exact h3
  obtain ⟨kf, hf⟩ := faultOccur_mild (s := s.setBitOf Obj.supplyStatus n b) h0 h2 h3' hr.2.1
  rw [faultFollow_raises (s := s.setBitOf Obj.supplyStatus n b) h0]
  exact ⟨ht.trans (keeps_mono kf (fun _ => List.mem_cons_of_mem _) (fun _ => id)), hf, kf.get hk⟩

/-- A comparator of the supply clears: the condition of its source ends. -/
theorem comparator_clears (c n : Nat) (b : Bool) (s : State) :
    Keeps [Obj.supplyStatus] [.flt] s (faultFollow c false (s.setBitOf Obj.supplyStatus n b)) ∧
      bit ((faultFollow c false (s.setBitOf Obj.supplyStatus n b)).get Obj.supplyStatus) n = b := by
  have kf := faultFollow_false_keeps c (s.setBitOf Obj.supplyStatus n b)
  refine ⟨Keeps.trans (keeps_set _ s _ (by simp)) (keeps_mono kf (by simp) (fun _ => id)), ?_⟩
  rw [kf.get (by simp), State.get_setBitOf_self, bit_setBits_self]

theorem spoilApertures_keeps (ks : List Nat) (s : State) : Keeps ks [.cells] s (spoilApertures s) := cells_keeps ks s _

/-- The settling adds to the conduction of the apertures, and to nothing else of theirs. -/
theorem settle_spoilt (s : State) (h : ∀ x ∈ s.cells.apertures, x.spoilt = true) : ∀ x ∈ (settle s).cells.apertures, x.spoilt = true := by
  intro x hx
  obtain ⟨-, he⟩ := settle_same .cells s
  have hm : ({ x with conduct := 0 } : Aperture) ∈ s.cells.apertures.map (fun a => { a with conduct := 0 }) :=
    he ▸ List.mem_map_of_mem hx
  obtain ⟨a, ha, hax⟩ := List.mem_map.mp hm
  exact (congrArg Aperture.spoilt hax).symm.trans (h a ha)

theorem spoilApertures_spoilt (s : State) : ∀ x ∈ (spoilApertures s).cells.apertures, x.spoilt = true := by
  intro x hx
  obtain ⟨a, -, rfl⟩ := List.mem_map.mp hx
  rfl

theorem supplyUndervoltage_runs (dt : Nat) (s : State) (h0 : (s.found dt).faultOn 0x17 = false)
    (h3 : (s.found dt).get (faultObj Obj.faultSeverity 0x17) ≠ 3) :
    Completes (.supplyUndervoltage dt) dt s (Obj.supplyStatus :: faultObjects 0x17) (.cells :: faultBlocks) (fun _ t =>
      t.faultOn 0x17 = true ∧ t.stkUv = true ∧ ∀ x ∈ t.cells.apertures, x.spoilt = true) := by
  obtain ⟨k, hf, hv⟩ := comparator_sets (s := s.found dt) 0 true (by decide) registers_17 (by decide) (by decide) h0 h3
  refine completes_of rfl rfl ⟨?_, ?_, settle_spoilt _ (spoilApertures_spoilt _)⟩
    ((keeps_mono k (fun _ => id) (fun _ => List.mem_cons_of_mem _)).trans (keeps_mono (spoilApertures_keeps [] _) (by simp) (by simp)))
  · exact (settle_faultOn _ _).trans hf
  · rw [settle_stkUv]
    refine (congrArg (bit · 0) hv).trans ?_
    rw [State.get_setBitOf_self, bit_setBits_self]

theorem supplyOvervoltage_mild (dt : Nat) (s : State) (h0 : (s.found dt).faultOn 0x18 = false)
    (h3 : (s.found dt).get (faultObj Obj.faultSeverity 0x18) ≠ 3) :
    Completes (.supplyOvervoltage dt) dt s (Obj.supplyStatus :: faultObjects 0x18) faultBlocks (fun _ t =>
      t.faultOn 0x18 = true ∧ bit (t.get Obj.supplyStatus) 1 = true) := by
  obtain ⟨k, hf, hv⟩ := comparator_sets (s := s.found dt) 1 true (by decide) registers_18 (by decide) (by decide) h0 h3
  refine completes_of rfl rfl ⟨(settle_faultOn _ _).trans hf, ?_⟩ k
  rw [settle_get]
  refine (congrArg (bit · 1) hv).trans ?_
  rw [State.get_setBitOf_self, bit_setBits_self]

/-- A supply comparator clears, and the condition of its source ends (R76). -/
theorem comparator_clears_runs {i : Instr} {dt : Nat} {s : State} (c n : Nat) (hw : Instr.wf i = true)
    (he : exec i s = run (Instr.wf i) dt (fun u => faultFollow c false (u.setBitOf Obj.supplyStatus n false)) s) :
    Completes i dt s [Obj.supplyStatus] [.flt] (fun u t =>
      bit (t.get Obj.supplyStatus) n = false ∧ bit t.flt.cond c = false ∧ t.flt.status = u.flt.status) := by
  obtain ⟨k, hb⟩ := comparator_clears c n false (s.found dt)
  obtain ⟨hc, hs⟩ := faultFollow_ends c ((s.found dt).setBitOf Obj.supplyStatus n false)
  exact completes_of hw he (by rw [settle_get, settle_flt]; exact ⟨hb, hc, hs⟩) k

/-! The rails (R74). -/

theorem railOutOfWindow_runs (dt : Nat) (r : Rail) (s : State) (h0 : (s.found dt).faultOn 0x19 = false)
    (h3 : (s.found dt).get (faultObj Obj.faultSeverity 0x19) ≠ 3) :
    Completes (.railOutOfWindow dt r) dt s (Obj.supplyStatus :: faultObjects 0x19) (.cells :: faultBlocks) (fun _ t =>
      t.faultOn 0x19 = true ∧ bit (t.get Obj.supplyStatus) (railBit r) = false) := by
  set u := if r = .vana then spoilApertures (s.found dt) else s.found dt with hu
  have ku : Keeps (Obj.supplyStatus :: faultObjects 0x19) (.cells :: faultBlocks) (s.found dt) u :=
    keeps_ite _ (keeps_mono (spoilApertures_keeps [] _) (by simp) (by simp)) (Keeps.refl _ _ _)
  have hf : u.flt = (s.found dt).flt := by rw [hu]; split_ifs <;> rfl
  have he : effRailOutOfWindow r (s.found dt) = faultFollow 0x19 true (u.setBitOf Obj.supplyStatus (railBit r) false) := by
    rw [hu]
    unfold effRailOutOfWindow
    split_ifs <;> rfl
  have h3' : u.get (faultObj Obj.faultSeverity 0x19) ≠ 3 := by rw [ku.get (by decide)]; exact h3
  obtain ⟨k, ho, hv⟩ := comparator_sets (s := u) (railBit r) false (by decide) registers_19 (by decide) (by decide)
    ((congrArg (fun f : FaultEng => bit f.status 0x19) hf).trans h0) h3'
  refine completes_of rfl rfl ?_ (he ▸ ku.trans (keeps_mono k (fun _ => id) (fun _ => List.mem_cons_of_mem _)))
  rw [he, settle_faultOn, settle_get, hv, State.get_setBitOf_self, bit_setBits_self]
  exact ⟨ho, rfl⟩

/-- Five bits that are all set. -/
theorem bits_full {v : Nat} (h2 : bit v 2 = true) (h3 : bit v 3 = true) (h4 : bit v 4 = true) (h5 : bit v 5 = true) (h6 : bit v 6 = true) :
    bits v 2 5 = 31 := by
  unfold bit at h2 h3 h4 h5 h6
  unfold bits
  simp only [beq_iff_eq] at h2 h3 h4 h5 h6
  omega

/-- The last rail is back: none is outside its window (R74). -/
theorem railBad_back {r : Rail} {s : State} (h : ∀ q, q ≠ r → bit (s.get Obj.supplyStatus) (railBit q) = true)
    (hm : bit s.safe.selfFaults 5 = false) : (s.setBitOf Obj.supplyStatus (railBit r) true).railBad = false := by
  have hb : ∀ q, bit ((s.setBitOf Obj.supplyStatus (railBit r) true).get Obj.supplyStatus) (railBit q) = true := by
    intro q
    rw [State.get_setBitOf_self]
    by_cases hq : q = r
    · rw [hq, bit_setBits_self]
    · rw [bit_setBits_ne _ _ _ _ (by revert hq; cases q <;> cases r <;> decide)]
      exact h q hq
  unfold State.railBad
  rw [bits_full (hb .vpre) (hb .vcore) (hb .vana) (hb .vmir) (hb .vao), State.setBitOf_safe, hm]
  rfl

theorem railBackInWindow_runs (dt : Nat) (r : Rail) (s : State) (h : ∀ q, q ≠ r → bit ((s.found dt).get Obj.supplyStatus) (railBit q) = true)
    (hm : bit (s.found dt).safe.selfFaults 5 = false) :
    Completes (.railBackInWindow dt r) dt s [Obj.supplyStatus] [.flt] (fun u t =>
      bit (t.get Obj.supplyStatus) (railBit r) = true ∧ bit t.flt.cond 0x19 = false ∧ t.flt.status = u.flt.status) := by
  have he : effRailBackInWindow r (s.found dt) = faultFollow 0x19 false ((s.found dt).setBitOf Obj.supplyStatus (railBit r) true) := by
    unfold effRailBackInWindow
    dsimp only
    rw [railBad_back h hm]
  obtain ⟨k, hb⟩ := comparator_clears 0x19 (railBit r) true (s.found dt)
  obtain ⟨hc, hs⟩ := faultFollow_ends 0x19 ((s.found dt).setBitOf Obj.supplyStatus (railBit r) true)
  refine completes_of rfl rfl ?_ (he ▸ k)
  rw [he, settle_get, settle_flt]
  exact ⟨hb, hc, hs⟩

end Sys2Proof.Machine
end

section
namespace Sys2Proof.Machine

/-! The exchange bus fails (R80, R82). -/

theorem settle_dwellHolds (s : State) : (settle s).dwellHolds = s.dwellHolds :=
  dwellHolds_congr (PathShown.of_get (settle_get s _)) (fun k _ => settle_get s k) (by rw [settle_mode]) (by rw [settle_mode])

theorem PathShown.trans {s t u : State} (h : PathShown s t) (g : PathShown t u) : PathShown s u :=
  ⟨g.1.trans h.1, g.2.1.trans h.2.1, g.2.2.trans h.2.2⟩

theorem bit_setBitOf (s : State) (k n m : Nat) (b : Bool) :
    bit ((s.setBitOf k n b).get k) m = if m = n then b else bit (s.get k) m := by
  rw [State.get_setBitOf_self]
  split_ifs with h
  · rw [h, bit_setBits_self]
  · rw [bit_setBits_ne _ _ _ _ h]

/-- A comparator of the exchange bus leaves STATE. -/
theorem setBitOf_pathState (s : State) {n : Nat} (b : Bool) (h : 2 ≤ n) :
    (s.setBitOf Obj.powerPathStatus n b).pathState = s.pathState := by
  unfold State.pathState
  rw [State.get_setBitOf_self, bits_setBits_below _ _ _ _ _ _ (by omega)]

/-- The session of the stage and its STATE are none of the power path's. -/
structure StageSame (s t : State) : Prop where
  state : t.xferState = s.xferState
  config : t.get Obj.xferConfig = s.get Obj.xferConfig
  xfer : t.xfer = s.xfer
  clk : t.clk = s.clk

theorem StageSame.trans {s t u : State} (h : StageSame s t) (g : StageSame t u) : StageSame s u :=
  ⟨g.state.trans h.state, g.config.trans h.config, g.xfer.trans h.xfer, g.clk.trans h.clk⟩

theorem StageSame.of_keeps {ks : List Nat} {bs : List Block} {s t : State} (h : Keeps ks bs s t) (h1 : Obj.xferStatus ∉ ks)
    (h2 : Obj.xferConfig ∉ ks) (hx : Block.xfer ∉ bs) (hc : Block.clk ∉ bs) : StageSame s t :=
  ⟨congrArg (bits · 0 4) (h.get h1), h.get h2, h.2 .xfer hx, h.clk hc⟩

theorem StageSame.runs {s t : State} (h : StageSame s t) : t.xferRuns = s.xferRuns := by
  unfold State.xferRuns
  rw [h.state]

theorem StageSame.forward {s t : State} (h : StageSame s t) : t.forward = s.forward := congrArg (fun v => bits v 0 2 == 1) h.config

theorem StageSame.forwardRuns {s t : State} (h : StageSame s t) : t.forwardRuns = s.forwardRuns := by
  unfold State.forwardRuns State.sessionNow State.endsNow
  rw [h.runs, h.forward, h.xfer, h.clk]

theorem startHandover_stage (b : Bool) (s : State) : StageSame s (startHandover b s) := by
  have hk := startHandover_keeps b s
  refine ⟨?_, hk.get (by decide), hk.2 .xfer (by decide), hk.clk (by decide)⟩
  calc (startHandover b s).xferState
    _ = (rampIf false (s.setField Obj.powerPathStatus 0 2 (if b then 1 else 3))).xferState :=
      congrArg (bits · 0 4) ((dwellFollow_keeps _).get (k := Obj.xferStatus) (by decide))
    _ = (s.setField Obj.powerPathStatus 0 2 (if b then 1 else 3)).xferState := rampIf_xferState _ _
    _ = s.xferState := congrArg (bits · 0 4) (State.get_setField_ne s 0 2 _ (by decide))

theorem dwellFollow_stage (s : State) : StageSame s (dwellFollow s) :=
  .of_keeps (dwellFollow_keeps s) (by decide) (by decide) (by decide) (by decide)

theorem leaveXbus_stage (s : State) : StageSame s (leaveXbus s) := by
  unfold leaveXbus
  split_ifs
  · exact startHandover_stage false s
  · exact ⟨rfl, rfl, rfl, rfl⟩

/-- The comparators stand; STATE is TO_STACK if it was XBUS (R80). -/
theorem leaveXbus_shown (s : State) :
    (leaveXbus s).pathState = (if s.pathState = 2 then 3 else s.pathState) ∧ (leaveXbus s).xbsValid = s.xbsValid ∧
      (leaveXbus s).xbsOv = s.xbsOv := by
  unfold leaveXbus
  split_ifs with h
  · exact startHandover_shown false s
  · exact ⟨rfl, rfl, rfl⟩

/-- No hand-over is in progress: the path leaves XBUS (R80). -/
theorem xbsFails_idle {s : State} (h : s.mode.handover = none) : xbsFails s = dwellFollow (leaveXbus s) := by
  unfold xbsFails
  rw [h]

/-- A hand-over that turns back before the XBS switch closes (R82). -/
def turnedBack (h : Handover) (s : State) : State :=
  let t := s.setField Obj.powerPathStatus 0 2 3
  { t with mode := { t.mode with handover := some ⟨false, h.startAt, false⟩ } }

/-- A hand-over completes first (R82). -/
def completesFirst (h : Handover) (s : State) : State := { s with mode := { s.mode with handover := some { h with failed := h.toXbs } } }

theorem xbsFails_during {s : State} {h : Handover} (hh : s.mode.handover = some h) :
    xbsFails s = dwellFollow (if (h.toXbs && decide (s.clk < h.startAt + 64)) = true then turnedBack h s else completesFirst h s) := by
  unfold xbsFails
  rw [hh]
  dsimp only
  split_ifs <;> rfl

theorem turnedBack_keeps (h : Handover) (s : State) : Keeps [Obj.powerPathStatus] [.mode] s (turnedBack h s) :=
  Keeps.trans (keeps_set _ s _ (by simp)) (mode_keeps _ (s.setField Obj.powerPathStatus 0 2 3) _)

theorem completesFirst_keeps (h : Handover) (s : State) : Keeps [Obj.powerPathStatus] [.mode] s (completesFirst h s) := mode_keeps _ s _

theorem turnedBack_shown (h : Handover) (s : State) :
    (turnedBack h s).pathState = 3 ∧ (turnedBack h s).xbsValid = s.xbsValid ∧ (turnedBack h s).xbsOv = s.xbsOv := by
  have hg : (turnedBack h s).get Obj.powerPathStatus = setBits (s.get Obj.powerPathStatus) 0 2 3 :=
    State.get_setField_self s Obj.powerPathStatus 0 2 3
  unfold State.pathState State.xbsValid State.xbsOv bit
  rw [hg]
  exact ⟨bits_setBits _ 0 2 3, congrArg (· == 1) (bits_setBits_above _ 0 2 3 3 1 (by decide)),
    congrArg (· == 1) (bits_setBits_above _ 0 2 3 4 1 (by decide))⟩

theorem xbsFails_during_keeps {s : State} {h : Handover} (hh : s.mode.handover = some h) :
    Keeps [Obj.powerPathStatus] [.mode] s (xbsFails s) := by
  rw [xbsFails_during hh]
  exact (keeps_ite _ (turnedBack_keeps h s) (completesFirst_keeps h s)).trans (dwellFollow_keeps _)

theorem xbsFails_keeps (s : State) : Keeps pathObjects [.mode] s (xbsFails s) := by
  cases hh : s.mode.handover with
  | none => exact xbsFails_idle hh ▸ (leaveXbus_keeps s).trans (keeps_mono (dwellFollow_keeps _) (by simp [pathObjects]) (fun _ => id))
  | some h => exact keeps_mono (xbsFails_during_keeps hh) (by simp [pathObjects]) (fun _ => id)

theorem xbsFails_stage (s : State) : StageSame s (xbsFails s) := by
  cases hh : s.mode.handover with
  | none => exact xbsFails_idle hh ▸ (leaveXbus_stage s).trans (dwellFollow_stage _)
  | some h => exact .of_keeps (xbsFails_during_keeps hh) (by decide) (by decide) (by decide) (by decide)

/-- The comparators stand as the failure found them. -/
theorem xbsFails_comparators (s : State) : (xbsFails s).xbsValid = s.xbsValid ∧ (xbsFails s).xbsOv = s.xbsOv := by
  cases hh : s.mode.handover with
  | none =>
    rw [xbsFails_idle hh]
    obtain ⟨-, h1, h2⟩ := dwellFollow_shown (leaveXbus s)
    obtain ⟨-, g1, g2⟩ := leaveXbus_shown s
    exact ⟨h1.trans g1, h2.trans g2⟩
  | some h =>
    rw [xbsFails_during hh]
    split_ifs
    · obtain ⟨-, h1, h2⟩ := dwellFollow_shown (turnedBack h s)
      obtain ⟨-, g1, g2⟩ := turnedBack_shown h s
      exact ⟨h1.trans g1, h2.trans g2⟩
    · exact (dwellFollow_shown (completesFirst h s)).2

/-- No dwell runs without the exchange bus (R79). -/
theorem xbsFails_dwell {s : State} (hv : s.xbsValid = false) : (xbsFails s).mode.dwell = false := by
  have hd : ∀ t : State, xbsFails s = dwellFollow t → (xbsFails s).mode.dwell = false := fun t ht => by
    have hx : t.xbsValid = false := by
      rw [← (dwellFollow_shown t).2.1, ← ht, (xbsFails_comparators s).1, hv]
    rw [ht, dwellFollow_mode]
    exact dwellHolds_of_invalid hx
  cases hh : s.mode.handover with
  | none => exact hd _ (xbsFails_idle hh)
  | some h => exact hd _ (xbsFails_during hh)

/-- The exchange bus is no longer valid: the power path first. -/
def busInvalid (s : State) : State := xbsFails (s.setBitOf Obj.powerPathStatus 3 false)

theorem busInvalid_valid (s : State) : (s.setBitOf Obj.powerPathStatus 3 false).xbsValid = false := by
  unfold State.xbsValid
  rw [bit_setBitOf, if_pos rfl]

theorem busInvalid_keeps (s : State) : Keeps pathObjects [.mode] s (busInvalid s) :=
  Keeps.trans (keeps_set _ s _ (by simp [pathObjects])) (xbsFails_keeps _)

theorem busInvalid_stage (s : State) : StageSame s (busInvalid s) :=
  (StageSame.of_keeps (keeps_set (ks := [Obj.powerPathStatus]) [] s _ (by simp)) (by decide) (by decide) (by decide) (by decide)).trans
    (xbsFails_stage _)

/-- No forward session runs: the failure of the bus is the power path's alone. -/
theorem effExchangeBusInvalid_path {s : State} (h : s.forwardRuns = false) : effExchangeBusInvalid s = busInvalid s := by
  have hf : (busInvalid s).forwardRuns = false := (busInvalid_stage s).forwardRuns.trans h
  show (if (s.xbsValid && (busInvalid s).forwardRuns) = true then transferFault 0x15 2 (busInvalid s) else busInvalid s) = busInvalid s
  rw [hf, Bool.and_false, if_neg Bool.false_ne_true]

theorem exchangeBusValid_runs (dt : Nat) (s : State) :
    Completes (.exchangeBusValid dt) dt s [Obj.powerPathStatus] [.mode] (fun u t =>
      t.xbsValid = true ∧ t.pathState = u.pathState ∧ t.mode.dwell = t.dwellHolds) := by
  set x := (s.found dt).setBitOf Obj.powerPathStatus 3 true with hx
  obtain ⟨h1, h2, -⟩ := dwellFollow_shown x
  refine completes_of (eff := effExchangeBusValid) rfl rfl ⟨?_, ?_, ?_⟩ ((keeps_set _ (s.found dt) _ (by simp)).trans (dwellFollow_keeps x))
  · rw [settle_xbsValid]
    refine h2.trans ?_
    unfold State.xbsValid
    rw [hx, bit_setBitOf, if_pos rfl]
  · rw [settle_pathState]
    exact h1.trans (setBitOf_pathState _ _ (by decide))
  · rw [settle_mode, settle_dwellHolds]
    exact (dwellFollow_dwellHolds x).symm

theorem exchangeBusInvalid_runs (dt : Nat) (s : State) (h : (s.found dt).forwardRuns = false) :
    Completes (.exchangeBusInvalid dt) dt s [Obj.powerPathStatus, Obj.xferStatus] [.mode] (fun u t =>
      t.xbsValid = false ∧ t.mode.dwell = false ∧ (u.mode.handover = none → u.pathState = 2 → t.pathState = 3)) := by
  have he := effExchangeBusInvalid_path h
  have hv := busInvalid_valid (s.found dt)
  refine completes_of rfl rfl ?_ (he ▸ busInvalid_keeps (s.found dt))
  rw [he, settle_xbsValid, settle_mode, settle_pathState]
  refine ⟨(xbsFails_comparators _).1.trans hv, xbsFails_dwell hv, fun hh hp => ?_⟩
  have hp' : ((s.found dt).setBitOf Obj.powerPathStatus 3 false).pathState = 2 := (setBitOf_pathState _ _ (by decide)).trans hp
  calc (busInvalid (s.found dt)).pathState
    _ = (dwellFollow (leaveXbus ((s.found dt).setBitOf Obj.powerPathStatus 3 false))).pathState :=
      congrArg State.pathState (xbsFails_idle (s := (s.found dt).setBitOf Obj.powerPathStatus 3 false) hh)
    _ = (leaveXbus ((s.found dt).setBitOf Obj.powerPathStatus 3 false)).pathState := (dwellFollow_shown _).1
    _ = 3 := (leaveXbus_shown _).1.trans (if_pos hp')

theorem exchangeBusInvalid_handover (dt : Nat) (h : Handover) (s : State) (hh : (s.found dt).mode.handover = some h) (hx : h.toXbs = true)
    (hf : (s.found dt).forwardRuns = false) :
    Completes (.exchangeBusInvalid dt) dt s [Obj.powerPathStatus] [.mode] (fun u t =>
      t.xbsValid = false ∧
        if u.clk < h.startAt + 64 then t.pathState = 3 ∧ t.mode.handover = some ⟨false, h.startAt, false⟩
        else t.pathState = u.pathState ∧ t.mode.handover = some { h with failed := true }) := by
  have he := effExchangeBusInvalid_path hf
  set x := (s.found dt).setBitOf Obj.powerPathStatus 3 false with hxd
  have hd : xbsFails x = dwellFollow (if (h.toXbs && decide (x.clk < h.startAt + 64)) = true then turnedBack h x else completesFirst h x) :=
    xbsFails_during hh
  refine completes_of rfl rfl ?_ (he ▸ Keeps.trans (keeps_set _ (s.found dt) _ (by simp)) (xbsFails_during_keeps (s := x) hh))
  rw [he, settle_xbsValid, settle_mode, settle_pathState]
  refine ⟨(xbsFails_comparators _).1.trans (busInvalid_valid _), ?_⟩
  show if (s.found dt).clk < h.startAt + 64 then (xbsFails x).pathState = 3 ∧ (xbsFails x).mode.handover = some ⟨false, h.startAt, false⟩
    else (xbsFails x).pathState = (s.found dt).pathState ∧ (xbsFails x).mode.handover = some { h with failed := true }
  obtain ⟨b, at_, f⟩ := h
  obtain rfl : b = true := hx
  have hc : x.clk = (s.found dt).clk := rfl
  rw [hd, (dwellFollow_shown _).1, dwellFollow_mode, Bool.true_and, hc]
  split_ifs with h1 h2 h2
  · exact ⟨(turnedBack_shown _ x).1, rfl⟩
  · exact absurd (decide_eq_true h1) h2
  · exact absurd (of_decide_eq_true h2) h1
  · exact ⟨setBitOf_pathState _ _ (by decide), rfl⟩

/-! A forward session ends with the bus (R328, R331). -/

theorem xferPlan_keeps (ks : List Nat) (s : State) (x : XferEng) (p : PlanEng) : Keeps ks [.xfer, .plan, .mode] s { s with xfer := x, plan := p } :=
  ⟨fun _ _ => rfl, fun b hb => by cases b <;> simp_all [Block.same]⟩

/-- The objects that the end of a session writes. -/
def endObjects : List Nat := [Obj.xferStatus, Obj.xferElapsed, Obj.powerPathStatus]

/-- A session that ends as XferStatus and the stage show it, before the dwell follows (R327). -/
def ending (code : Nat) (s : State) : State :=
  let t := (((s.setField Obj.xferStatus 0 4 4).setBitOf Obj.xferStatus 4 false).setBitOf Obj.xferStatus 5 false).set
    Obj.xferElapsed s.xferElapsedMs
  { t with
    xfer := { t.xfer with
      start := none, ended := some code, stop := some (code, t.clk), haltAt := some (t.clk, s.xferState), chargeDue := true }
    plan := { t.plan with gateEnable := false, gateAt := [] } }

theorem endTransfer_running {code : Nat} {s : State} (h : s.xferRuns = true) : endTransfer code s = dwellFollow (ending code s) := by
  unfold endTransfer
  rw [h]
  rfl

theorem endTransfer_idle {code : Nat} {s : State} (h : s.xferRuns = false) : endTransfer code s = alsoEnds code s := by
  unfold endTransfer
  rw [h]
  rfl

theorem ending_keeps (code : Nat) (s : State) : Keeps endObjects [.xfer, .plan, .mode] s (ending code s) := by
  unfold ending
  extract_lets t
  have hw : ∀ (x : State) (k v : Nat), k ∈ endObjects → Keeps endObjects [.xfer, .plan, .mode] x (x.set k v) := fun x _ v h => keeps_set _ x v h
  have ht : Keeps endObjects [.xfer, .plan, .mode] s t :=
    (hw s Obj.xferStatus _ (by decide)).trans ((hw _ Obj.xferStatus _ (by decide)).trans ((hw _ Obj.xferStatus _ (by decide)).trans
      (hw _ Obj.xferElapsed _ (by decide))))
  exact ht.trans (xferPlan_keeps _ t _ _)

theorem ending_xferState (code : Nat) (s : State) : (ending code s).xferState = 4 := by
  have hg : (ending code s).get Obj.xferStatus = setBits (setBits (setBits (s.get Obj.xferStatus) 0 4 4) 4 1 0) 5 1 0 := by
    unfold ending
    refine (State.get_set_ne _ _ (by decide)).trans ?_
    rw [State.get_setBitOf_self, State.get_setBitOf_self, State.get_setField_self]
    rfl
  unfold State.xferState
  rw [hg, bits_setBits_below _ _ _ _ _ _ (by decide), bits_setBits_below _ _ _ _ _ _ (by decide), bits_setBits]
  rfl

theorem endTransfer_keeps {code : Nat} {s : State} (h : s.xferRuns = true) : Keeps endObjects [.xfer, .plan, .mode] s (endTransfer code s) := by
  rw [endTransfer_running h]
  exact (ending_keeps code s).trans (keeps_mono (dwellFollow_keeps _) (by simp [endObjects]) (by simp))

theorem endTransfer_stops {code : Nat} {s : State} (h : s.xferRuns = true) :
    (endTransfer code s).xferState = 4 ∧ (endTransfer code s).xfer.stop = some (code, s.clk) ∧ (endTransfer code s).xfer.ended = some code ∧
      (endTransfer code s).plan.gateEnable = false := by
  rw [endTransfer_running h, (dwellFollow_stage _).state]
  exact ⟨ending_xferState code s, rfl, rfl, rfl⟩

/-- A transfer source in a session whose severity is not SAFE: the session stops, and the source shows while the stop sequence lasts. -/
theorem transferFault_running {c code : Nat} {s : State} (h : s.xferRuns = true) :
    transferFault c code s =
      (if (faultOccur c (endTransfer code s)).xferState = 4 then faultOccur c (endTransfer code s)
       else gatesOff (faultOccur c (endTransfer code s))) := by
  have h4 : (endTransfer code s).xferState ≠ 5 := by rw [(endTransfer_stops h).1]; decide
  unfold transferFault
  dsimp only
  rw [if_neg h4]

theorem transferFault_stops {c code : Nat} {s : State} (h : s.xferRuns = true) (h0 : s.faultOn c = false) (h2 : 2 ≤ c) (hr : Registers c)
    (h3 : s.get (faultObj Obj.faultSeverity c) ≠ 3) (hv : faultObj Obj.faultSeverity c ∉ endObjects) (hx : Obj.xferStatus ∉ faultObjects c) :
    Keeps (endObjects ++ faultObjects c) ([.xfer, .plan] ++ faultBlocks) s (transferFault c code s) ∧
      (transferFault c code s).faultOn c = true ∧ (transferFault c code s).xferState = 4 ∧
      (transferFault c code s).xfer.stop = some (code, s.clk) ∧ (transferFault c code s).xfer.ended = some code ∧
      (transferFault c code s).plan.gateEnable = false := by
  have ke := endTransfer_keeps (code := code) h
  obtain ⟨e4, es, ee, eg⟩ := endTransfer_stops (code := code) h
  have h0' : (endTransfer code s).faultOn c = false := (ke.faultOn (by decide) c).trans h0
  obtain ⟨kf, hf⟩ := faultOccur_mild h0' h2 (by rw [ke.get hv]; exact h3) hr.2.1
  have h4 : (faultOccur c (endTransfer code s)).xferState = 4 := (congrArg (bits · 0 4) (kf.get hx)).trans e4
  have hxf : (faultOccur c (endTransfer code s)).xfer = (endTransfer code s).xfer := kf.2 .xfer (by decide)
  have hpl : (faultOccur c (endTransfer code s)).plan = (endTransfer code s).plan := kf.2 .plan (by decide)
  rw [transferFault_running h, if_pos h4, hxf, hpl]
  exact ⟨(keeps_mono ke (fun _ => List.mem_append_left _) (by simp [faultBlocks])).trans
    (keeps_mono kf (fun _ => List.mem_append_right _) (fun _ => List.mem_append_right _)), hf, h4, es, ee, eg⟩

theorem exchangeBusInvalid_session (dt : Nat) (s : State) (hs : SessionRuns (s.found dt) 0x15) (hf : (s.found dt).forward = true)
    (hv : (s.found dt).xbsValid = true) : StopsSession (.exchangeBusInvalid dt) dt 0x15 2 s := by
  obtain ⟨hr, -, h0, h3⟩ := hs
  set u := s.found dt with hu
  have kb := busInvalid_keeps u
  have hst := busInvalid_stage u
  have hfr : (busInvalid u).forwardRuns = true := by
    rw [hst.forwardRuns]
    unfold State.forwardRuns State.sessionNow
    rw [hr, hf]
    rfl
  have he : effExchangeBusInvalid u = transferFault 0x15 2 (busInvalid u) := by
    show (if (u.xbsValid && (busInvalid u).forwardRuns) = true then transferFault 0x15 2 (busInvalid u) else busInvalid u) = _
    rw [hv, hfr]
    rfl
  obtain ⟨kt, t1, t2, t3, t4, t5⟩ := transferFault_stops (c := 0x15) (code := 2) (hst.runs.trans hr)
    ((kb.faultOn (by decide) _).trans h0) (by decide) registers_15 (by rw [kb.get (by decide)]; exact h3) (by decide) (by decide)
  refine completes_of rfl rfl ?_ (he ▸ (keeps_mono kb (by decide) (by decide)).trans kt)
  rw [he, settle_faultOn, settle_xferState, settle_xfer, settle_plan, ← hst.clk]
  exact ⟨t1, t2, t3, t4, t5⟩

/-! The end of an overvoltage (R76, R332). -/

/-- The conditions that have ended: no status changes. -/
structure Ends (s t : State) : Prop where
  keeps : Keeps [] [.flt] s t
  status : t.flt.status = s.flt.status

theorem Ends.refl (s : State) : Ends s s := ⟨Keeps.refl _ _ _, rfl⟩

theorem Ends.trans {s t u : State} (h : Ends s t) (g : Ends t u) : Ends s u := ⟨h.keeps.trans g.keeps, g.status.trans h.status⟩

theorem gatesOff_ends (s : State) : Ends s (gatesOff s) := by
  unfold gatesOff
  generalize [0x12, 0x13, 0x14, 0x15] = l
  induction l generalizing s with
  | nil => exact .refl s
  | cons c l ih =>
    refine Ends.trans ?_ (ih _)
    dsimp only
    split_ifs
    · exact ⟨faultEnd_keeps c s, rfl⟩
    · exact .refl s

theorem exchangeBusOvClears_runs (dt : Nat) (s : State) :
    Completes (.exchangeBusOvClears dt) dt s [Obj.powerPathStatus] [.mode, .flt] (fun u t =>
      t.xbsOv = false ∧ t.flt.status = u.flt.status) := by
  set x := (s.found dt).setBitOf Obj.powerPathStatus 4 false with hx
  have kx : Keeps [Obj.powerPathStatus] [.mode, .flt] (s.found dt) (dwellFollow x) :=
    (keeps_set _ (s.found dt) _ (by simp)).trans (keeps_mono (dwellFollow_keeps x) (fun _ => id) (by simp))
  have hg : Ends (dwellFollow x) (if (dwellFollow x).xferState = 4 then dwellFollow x else gatesOff (dwellFollow x)) := by
    split_ifs
    · exact .refl _
    · exact gatesOff_ends _
  have hov : (dwellFollow x).xbsOv = false := by
    refine (dwellFollow_shown x).2.2.trans ?_
    unfold State.xbsOv
    rw [hx, bit_setBitOf, if_pos rfl]
  refine completes_of (eff := effExchangeBusOvClears) rfl rfl ?_ (kx.trans (keeps_mono hg.keeps (by simp) (by simp)))
  rw [settle_xbsOv, settle_flt]
  exact ⟨(PathShown.of_get (hg.keeps.get (by simp))).2.2.trans hov, hg.status⟩

end Sys2Proof.Machine
end

section
namespace Sys2Proof.Machine

/-! What a change of mode leaves of XferStatus: the plan's actions write the channels, the spares and the cycle, and of XferStatus only that a
stage in EXCITE, RUN or PAUSE comes to rest (R239, R325). -/

/-- An object above those of the cells and the plan, and below those of the Mirror channel. -/
def Above (k : Nat) : Prop := 0x060900 ≤ k ∧ k < 0x0C0000

theorem above_xferStatus : Above Obj.xferStatus := by unfold Above; decide

section
variable {k : Nat}

/-- An object, the mode's engine and what is not in progress are as they were. -/
structure Leaves (k : Nat) (s t : State) : Prop extends Rests k s t where
  mode : t.mode = s.mode

theorem Leaves.refl (k : Nat) (s : State) : Leaves k s s := ⟨.refl k s, rfl⟩

theorem Leaves.trans {s t u : State} (h : Leaves k s t) (g : Leaves k t u) : Leaves k s u := ⟨h.toRests.trans g.toRests, g.mode.trans h.mode⟩

theorem Leaves.ite {s t u : State} {p : Prop} [Decidable p] (h : Leaves k s t) (g : Leaves k s u) : Leaves k s (if p then t else u) := by
  split_ifs
  · exact h
  · exact g

theorem Leaves.set {j : Nat} (s : State) (v : Nat) (h : k ≠ j) : Leaves k s (s.set j v) := ⟨.set s v h, rfl⟩

theorem Leaves.of_eq {s t : State} (ho : t.objs = s.objs) (ht : t.test = s.test) (hl : t.loupe = s.loupe) (hm : t.mode = s.mode) : Leaves k s t :=
  ⟨⟨get_of_objs ho k, fun c => ⟨by rw [ht]; exact c.1, by rw [hl]; exact c.2⟩⟩, hm⟩

theorem setSp_leaves (j : Nat) (e : SpareEng) (s : State) : Leaves k s (s.setSp j e) := .ite (.of_eq rfl rfl rfl rfl) (.of_eq rfl rfl rfl rfl)

theorem setChannel_leaves {n : Nat} (ha : Above k) (hn : n ≤ 24) (c : Nat) (s : State) : Leaves k s (setChannel n c s) := by
  obtain ⟨h, -⟩ := ha
  unfold setChannel
  extract_lets t
  have ht : Leaves k s t := .set s _ (by simp only [Obj.channelState]; omega)
  exact .ite ht (ht.trans (.set t _ (by simp only [Obj.shadowResult]; omega)))

theorem armSpare_leaves {j : Nat} (ha : Above k) (hj : j ≤ 2) (n : Nat) (b : Bool) (s : State) : Leaves k s (armSpare j n b s) := by
  obtain ⟨h, -⟩ := ha
  unfold armSpare
  exact (Leaves.set s _ (by simp only [Obj.spareState]; omega)).trans (setSp_leaves _ _ _)

theorem freeSpare_leaves {j : Nat} (ha : Above k) (hj : j ≤ 2) (s : State) : Leaves k s (freeSpare j s) := by
  obtain ⟨h, -⟩ := ha
  unfold freeSpare
  exact (Leaves.set s _ (by simp only [Obj.spareState]; omega)).trans (setSp_leaves _ _ _)

theorem releaseSpare_leaves {j : Nat} (ha : Above k) (hj : j ≤ 2) (n : Nat) (s : State) : Leaves k s (releaseSpare j n s) :=
  .ite (armSpare_leaves ha hj _ _ s) ((freeSpare_leaves ha hj s).trans (setSp_leaves _ _ _))

theorem coverFor_le {n j : Nat} {b : Bool} {s : State} (h : s.coverFor n = some (j, b)) : j ≤ 2 := by
  have ho : ∀ x ∈ (if n ≤ 12 then [1, 2] else [2, 1]), x ≤ 2 := by
    intro x hx
    split_ifs at hx <;> fin_cases hx <;> decide
  unfold State.coverFor at h
  dsimp only at h
  split at h
  · rename_i x hx
    obtain ⟨rfl, -⟩ := Prod.mk.inj (Option.some.inj h)
    exact ho _ (List.mem_of_find?_eq_some hx)
  · obtain ⟨x, hx, he⟩ := Option.map_eq_some_iff.mp h
    obtain ⟨rfl, -⟩ := Prod.mk.inj he
    exact ho _ (List.mem_of_find?_eq_some hx)

theorem retireChannel_leaves {n : Nat} (ha : Above k) (hn : n ≤ 24) {s : State} (c : Calm s) : Leaves k s (retireChannel n s) := by
  have hm : ∀ (t : State) (m : CellEng), Leaves k t { t with cells := m } := fun t m => .of_eq rfl rfl rfl rfl
  unfold retireChannel
  dsimp only
  split
  · rw [show s.test.slices = [] from c.1]
    have h0 : Leaves k s { s with test := { s.test with slices := [] } } := ⟨⟨rfl, fun h => ⟨rfl, h.2⟩⟩, rfl⟩
    exact (h0.trans (setSp_leaves _ _ _)).trans (hm _ _)
  · split
    · rename_i j hj
      rw [abortSlices_calm _ c]
      exact (armSpare_leaves ha (coverFor_le hj) _ _ s).trans (hm _ _)
    · exact (setSp_leaves _ _ s).trans (hm _ _)
    · exact (hm s _).trans (setChannel_leaves ha hn 3 _)

/-- A list of positions of channels. -/
theorem Leaves.channels {f : State → Nat → State} (h : ∀ s i, i < 24 → Calm s → Leaves k s (f s i)) (l : List Nat) (hl : ∀ i ∈ l, i < 24)
    {s : State} (c : Calm s) : Leaves k s (l.foldl f s) := by
  induction l generalizing s with
  | nil => exact .refl k s
  | cons i l ih =>
    have hi := h s i (hl i List.mem_cons_self) c
    exact hi.trans (ih (fun j hj => hl j (List.mem_cons_of_mem _ hj)) (hi.calm c))

theorem coverAgain_leaves (ha : Above k) (xs : List Nat) {s : State} (c : Calm s) : Leaves k s (coverAgain xs s) :=
  .ite (.refl k s) (Leaves.channels (fun _ _ hi hc => .ite (retireChannel_leaves (n := _ + 1) ha (Nat.succ_le_of_lt hi) hc) (.refl k _)) _
    (fun i hi => by simp only [bitList, List.mem_filter, List.mem_range] at hi; exact hi.1) c)

theorem applyCellCount_leaves (ha : Above k) {s : State} (c : Calm s) : Leaves k s (applyCellCount s) := by
  unfold applyCellCount
  extract_lets n cnt sf t u v src
  have ht : Leaves k s t := .of_eq rfl rfl rfl rfl
  have hu : Leaves k t u :=
    Leaves.trans (.ite (releaseSpare_leaves ha (by decide) n t) (.refl k t)) (.ite (releaseSpare_leaves ha (by decide) n _) (.refl k _))
  have huv : Leaves k u v := by
    refine Leaves.channels (f := fun w i => (setChannel (i + 1) 0 w).clear (Obj.cellResult + (i + 1)))
      (fun x i hi _ => (setChannel_leaves (n := i + 1) ha (by omega) 0 x).trans (Leaves.set _ _ ?_)) _
      (fun i hi => List.mem_range.mp (List.mem_of_mem_filter hi)) (hu.calm (ht.calm c))
    have := ha.1
    simp only [Obj.cellResult]
    omega
  have h := (ht.trans hu).trans huv
  have hw : ∀ m : CellEng, Leaves k v { v with cells := m } := fun m => .of_eq rfl rfl rfl rfl
  exact (h.trans (hw _)).trans (coverAgain_leaves ha [0] ((hw _).calm (h.calm c)))

theorem mirrorCodes_leaves (ha : Above k) (s : State) : Leaves k s (mirrorCodes s) := by
  obtain ⟨-, h⟩ := ha
  unfold mirrorCodes
  have hs : ∀ a b, Leaves k s ((s.set Obj.mirrorCodes a).set Obj.mirrorGuardBand b) := fun a b =>
    (Leaves.set s a (by simp only [Obj.mirrorCodes]; omega)).trans (.set _ b (by simp only [Obj.mirrorGuardBand]; omega))
  exact (hs _ _).trans (.of_eq rfl rfl rfl rfl)

end

/-- No session runs, and none starts. -/
structure Idle (s t : State) : Prop where
  off : s.xferRuns = false → t.xferRuns = false
  calm : Calm s → Calm t

theorem Idle.refl (s : State) : Idle s s := ⟨id, id⟩

theorem Idle.trans {s t u : State} (h : Idle s t) (g : Idle t u) : Idle s u := ⟨fun x => g.off (h.off x), fun c => g.calm (h.calm c)⟩

theorem Rests.idle {s t : State} (h : Rests Obj.xferStatus s t) : Idle s t := by
  refine ⟨fun x => ?_, h.calm⟩
  unfold State.xferRuns State.xferState at x ⊢
  rw [h.get]
  exact x

theorem Idle.ite {s t u : State} {p : Prop} [Decidable p] (h : Idle s t) (g : Idle s u) : Idle s (if p then t else u) := by
  split_ifs
  · exact h
  · exact g

theorem leaveExcite_idle (s : State) : Idle s (leaveExcite s) := by
  refine ⟨fun h => ?_, (leaveExcite_stays s).calm⟩
  unfold leaveExcite
  split_ifs
  · unfold State.xferRuns State.xferState
    rw [State.get_setField_self, bits_setBits]
    rfl
  · exact h

theorem stopExcitation_idle (s : State) : Idle s (stopExcitation s) := by
  unfold stopExcitation
  extract_lets l p t
  have ht : Idle s t := ⟨id, fun c => ⟨c.1, by show s.loupe.point.map _ = none; rw [c.2]; rfl⟩⟩
  exact ht.trans (leaveExcite_idle t)

theorem restStage_id {s : State} (h : s.xferRuns = false) : restStage s = s := by
  unfold State.xferRuns at h
  unfold restStage
  rw [if_neg]
  intro hx
  simp only [Bool.or_eq_true, decide_eq_true_eq] at hx
  rcases hx with hx | hx <;> rw [hx] at h <;> exact absurd h (by decide)

theorem restStage_idle (s : State) : Idle s (restStage s) := ⟨fun h => (restStage_id h).symm ▸ h, (restStage_stays s).calm⟩

theorem closeOutputs_idle (s : State) : Idle s (closeOutputs s) :=
  ((stopExcitation_idle s).trans (restStage_idle _)).trans ⟨id, fun c => ⟨c.1, c.2⟩⟩

theorem newWindow_idle (s : State) : Idle s (newWindow s) := ⟨id, id⟩

theorem startRom_idle {s : State} (c : Calm s) : Idle s (startRom s) := by
  unfold startRom
  rw [abortSlices_calm _ ((newWindow_idle s).calm c)]
  have h1 := (newWindow_idle s).trans (closeOutputs_idle _)
  have h2 := h1.trans (applyCellCount_leaves above_xferStatus (h1.calm c)).toRests.idle
  have h3 := h2.trans (mirrorCodes_leaves above_xferStatus _).toRests.idle
  have h4 := h3.trans (Rests.set _ (mirrorCodes (applyCellCount (closeOutputs (newWindow s)))).ringTime (j := Obj.cycleStart) (by decide)).idle
  have h5 := h4.trans (Rests.set _ 0 (j := Obj.cycleCount) (by decide)).idle
  have h6 := h5.trans (Rests.set _ 16000 (j := Obj.adhocMaxGap) (by decide)).idle
  exact h6.trans ((romTail_stays [] _ _ _ _ _).rests (by simp)).idle

theorem haltPlan_idle {s : State} (c : Calm s) : Idle s (haltPlan s) := by
  unfold haltPlan
  rw [abortSlices_calm _ ((newWindow_idle s).calm c)]
  exact ((newWindow_idle s).trans (closeOutputs_idle _)).trans ⟨id, id⟩

theorem planForMode_idle (m : Nat) {s : State} (c : Calm s) : Idle s (planForMode m s) := by
  have hp : ∀ (t : State) (p : PlanEng), Idle t { t with plan := p } := fun t p => ⟨id, id⟩
  have hr : Idle s (if s.plan.running = RunningPlan.none then startRom s else s) := .ite (startRom_idle c) (.refl s)
  exact .ite (.ite (.refl s) (.ite (hr.trans (hp _ _)) (.ite (hr.trans (hp _ _)) hr)))
    (.ite (haltPlan_idle c) (.ite (hp s _) (startRom_idle c)))

/-- The state in which a change of mode comes to its plan: ModeStatus, the domains and the outputs that the mode closes are written. -/
def beforePlan (m cause : Nat) (s : State) : State :=
  let a := modeWrite m cause (selftestEnds s)
  let p := a.set Obj.domainStatus (domainsFor m a)
  let b := if !a.on .icx && p.on .icx then icxUp p else p
  let d := abortSlices (modeCuts m) (if m = Mode.safeMode || m = Mode.configHold then (disableBalancing b).set Obj.cenRequest 0 else b)
  { d with mode := { d.mode with auto := none } }

theorem changeMode_plan (m cause : Nat) (s : State) : changeMode m cause s = event 3 m (planForMode m (beforePlan m cause s)) := rfl

/-- The objects that a change of mode writes before its plan. -/
def changeObjects : List Nat := [Obj.modeStatus, Obj.domainStatus, Obj.selftestStatus, Obj.balEnable, Obj.cenRequest, Obj.counterGapCount]

theorem beforePlan_rests (m cause : Nat) {k : Nat} {s : State} (hk : k ∉ changeObjects) (c : Calm s) : Rests k s (beforePlan m cause s) := by
  have hn : ∀ {j}, j ∈ changeObjects → k ≠ j := fun hj e => hk (e ▸ hj)
  unfold beforePlan
  extract_lets a p b d
  have h1 : Rests k s (selftestEnds s) :=
    ⟨(selftestEnds_only c.1).1.get (by simpa using hn (j := Obj.selftestStatus) (by decide)), (selftestEnds_stays c).calm⟩
  have h2 : Rests k (selftestEnds s) a :=
    ((Rests.set _ _ (hn (by decide))).trans (Rests.set _ _ (hn (by decide)))).trans (Rests.set _ _ (hn (by decide)))
  have h3 : Rests k a p := .set a _ (hn (by decide))
  have h4 : Rests k p b := .ite ⟨icxUp_get p (hn (by decide)), (icxUp_stays p).calm⟩ (.refl k p)
  have h5 : Rests k b (if m = Mode.safeMode || m = Mode.configHold then (disableBalancing b).set Obj.cenRequest 0 else b) :=
    .ite ⟨closeSafe_get b (hn (by decide)) (hn (by decide)), (closeSafe_stays b).calm⟩ (.refl k b)
  have h := (((h1.trans h2).trans h3).trans h4).trans h5
  have hd : Rests k s d := by
    rw [show d = _ from abortSlices_calm _ (h.calm c)]
    exact h
  exact hd.trans ⟨rfl, id⟩

theorem mode_get (s : State) (m : ModeEng) (k : Nat) : ({ s with mode := m } : State).get k = s.get k := rfl

theorem disableBalancing_off (s : State) : (disableBalancing s).get Obj.balEnable = 0 := by
  unfold disableBalancing
  exact (get_of_objs (s := s.set Obj.balEnable 0) rfl _).trans (State.get_set_self s Obj.balEnable 0)

/-- A change into SAFE has stopped balancing and opened the contactor before its plan (R94). -/
theorem beforePlan_safe (cause : Nat) {s : State} (c : Calm s) :
    (beforePlan Mode.safeMode cause s).get Obj.balEnable = 0 ∧ (beforePlan Mode.safeMode cause s).get Obj.cenRequest = 0 := by
  unfold beforePlan
  extract_lets a p b d
  have hb : Stays modeObjects s b :=
    ((selftestEnds_stays c).trans (modeWrite_stays _ _ _)).trans ((Stays.set a _ (by decide)).trans (.ite _ (icxUp_stays p) (.refl _ p)))
  have hc : Calm ((disableBalancing b).set Obj.cenRequest 0) := (closeSafe_stays b).calm (hb.calm c)
  have hi : (if Mode.safeMode = Mode.safeMode || Mode.safeMode = Mode.configHold then (disableBalancing b).set Obj.cenRequest 0 else b) =
      (disableBalancing b).set Obj.cenRequest 0 := if_pos (by decide)
  have hd : d = (disableBalancing b).set Obj.cenRequest 0 := (congrArg (abortSlices _) hi).trans (abortSlices_calm _ hc)
  have h1 : d.get Obj.balEnable = 0 := by
    rw [hd, State.get_set_ne _ _ (by decide)]
    exact disableBalancing_off b
  have h2 : d.get Obj.cenRequest = 0 := by rw [hd, State.get_set_self]
  exact ⟨(mode_get d _ _).trans h1, (mode_get d _ _).trans h2⟩

/-- What neither the plan's actions nor the event writes is as the change of mode has it before its plan. -/
theorem changeMode_after (m cause : Nat) {k : Nat} {s : State} (c : Calm s) (hp : k ∉ planObjects)
    (he : k ∉ [Obj.eventsLost, Obj.ringEventsLost]) : (changeMode m cause s).get k = (beforePlan m cause s).get k := by
  rw [changeMode_plan, event_get 3 m _ he]
  exact (planForMode_stays m ((beforePlan_rests (k := Obj.xferStatus) m cause (by decide) c).calm c)).objs k hp

/-- A change of mode starts no session. -/
theorem changeMode_idle (m cause : Nat) {s : State} (c : Calm s) : Idle s (changeMode m cause s) := by
  have hb := (beforePlan_rests (k := Obj.xferStatus) m cause (by decide) c).idle
  rw [changeMode_plan]
  exact (hb.trans (planForMode_idle m (hb.calm c))).trans ((event_keeps 3 m _).rests (by decide) (by decide) (by decide)).idle

/-! The entry into SAFE: sessions end, and the comparators of the power path stand. -/

/-- No session runs after the end of one, whether or not one ran (R327, R328). -/
theorem endTransfer_off (code : Nat) (s : State) : (endTransfer code s).xferRuns = false := by
  cases h : s.xferRuns with
  | true =>
    unfold State.xferRuns
    rw [(endTransfer_stops h).1]
    rfl
  | false =>
    rw [endTransfer_idle h]
    exact ((alsoEnds_stays [] code s).rests (by simp)).idle.off h

theorem ending_shown (code : Nat) (s : State) : PathShown s (ending code s) := by
  refine .of_get ?_
  unfold ending
  extract_lets t
  show t.get Obj.powerPathStatus = s.get Obj.powerPathStatus
  refine (State.get_set_ne _ _ (by decide)).trans ?_
  rw [State.get_setBitOf_ne _ _ _ (by decide), State.get_setBitOf_ne _ _ _ (by decide), State.get_setField_ne _ _ _ _ (by decide)]

theorem endTransfer_shown (code : Nat) (s : State) : PathShown s (endTransfer code s) := by
  cases h : s.xferRuns with
  | true => rw [endTransfer_running h]; exact (ending_shown code s).trans (dwellFollow_shown _)
  | false => rw [endTransfer_idle h]; exact .of_get ((alsoEnds_stays [] code s).objs _ (by simp))

theorem endTransfer_calm (code : Nat) {s : State} (c : Calm s) : Calm (endTransfer code s) := (endTransfer_stays code s).calm c

theorem endLoupe_rests {k : Nat} {s : State} (c : Calm s) (h1 : k ≠ Obj.loupeSessionStatus) (h2 : k ≠ Obj.xferElapsed) :
    Rests k s (endLoupe s) := by
  refine ⟨?_, (endLoupe_stays c).calm⟩
  unfold endLoupe loupeEndPoint stageEnds
  simp only [c.2]
  split_ifs
  · rfl
  · exact (State.get_set_ne _ _ h2).trans (State.get_setBitOf_ne _ _ _ h1)
  · exact State.get_setBitOf_ne _ _ _ h1

theorem overtake_rests {k : Nat} (s : State) (h : k ≠ Obj.modeStatus) : Rests k s (overtake s) := by
  refine ⟨?_, (overtake_stays s).1.calm⟩
  unfold overtake
  split
  · rfl
  · exact State.get_setField_ne _ _ _ _ h

/-- The cause of a mode stands beside the refusal of a request that it overtakes (R95). -/
theorem overtake_cause (s : State) : bits ((overtake s).get Obj.modeStatus) 24 8 = bits (s.get Obj.modeStatus) 24 8 := by
  unfold overtake
  split
  · rfl
  · rw [State.get_setField_self, bits_setBits_above _ _ _ _ _ _ (by decide)]
    rfl

/-- SAFE, from the modes that lead to it: no session runs, balancing and the contactor are off (R94). -/
structure SafeNow (s : State) : Prop where
  mode : s.modeCode = Mode.safeMode
  cause : bits (s.get Obj.modeStatus) 24 8 = 3
  balancing : s.get Obj.balEnable = 0
  contactor : s.get Obj.cenRequest = 0
  session : s.xferRuns = false

theorem enterSafe_get {s : State} (h : s.modeIn safeFrom = true) (k : Nat) :
    (enterSafe s).get k = (overtake (changeMode Mode.safeMode 3 (endLoupe (endTransfer 5 s)))).get k := by
  have e : enterSafe s = { overtake (changeMode Mode.safeMode 3 (endLoupe (endTransfer 5 s))) with
      mode := { (overtake (changeMode Mode.safeMode 3 (endLoupe (endTransfer 5 s)))).mode with autoTaken := true } } := if_pos h
  rw [e, mode_get]

theorem enterSafe_now {s : State} (c : Calm s) (h : s.modeIn safeFrom = true) : SafeNow (enterSafe s) := by
  have hm := (enterSafe_eq c h).2
  have ce := endTransfer_calm 5 c
  have hl := endLoupe_rests (k := Obj.xferStatus) ce (by decide) (by decide)
  set a := endLoupe (endTransfer 5 s) with ha
  have ca : Calm a := hl.calm ce
  have hg : ∀ k, (enterSafe s).get k = (overtake (changeMode Mode.safeMode 3 a)).get k := enterSafe_get h
  obtain ⟨hb, hc⟩ := beforePlan_safe 3 ca
  refine ⟨hm, ?_, ?_, ?_, ?_⟩
  · rw [hg, overtake_cause, changeMode_cause _ ca (by decide)]
  · rw [hg, (overtake_rests _ (by decide)).get, changeMode_after _ _ ca (by decide) (by decide), hb]
  · rw [hg, (overtake_rests _ (by decide)).get, changeMode_after _ _ ca (by decide) (by decide), hc]
  · have ho : (overtake (changeMode Mode.safeMode 3 a)).xferRuns = false :=
      (overtake_rests _ (by decide)).idle.off ((changeMode_idle _ _ ca).off (hl.idle.off (endTransfer_off 5 s)))
    unfold State.xferRuns State.xferState at ho ⊢
    rw [hg]
    exact ho

theorem enterSafe_shown {s : State} (c : Calm s) : PathShown s (enterSafe s) := by
  cases h : s.modeIn safeFrom with
  | false => rw [enterSafe_id h]; exact ⟨rfl, rfl, rfl⟩
  | true =>
    have ce := endTransfer_calm 5 c
    have hl := endLoupe_rests (k := Obj.powerPathStatus) ce (by decide) (by decide)
    have ha := hl.calm ce
    refine (endTransfer_shown 5 s).trans (.of_get ?_)
    calc (enterSafe s).get Obj.powerPathStatus
      _ = (overtake (changeMode Mode.safeMode 3 (endLoupe (endTransfer 5 s)))).get Obj.powerPathStatus := enterSafe_get h _
      _ = (changeMode Mode.safeMode 3 (endLoupe (endTransfer 5 s))).get Obj.powerPathStatus := (overtake_rests _ (by decide)).get
      _ = (endLoupe (endTransfer 5 s)).get Obj.powerPathStatus := (changeMode_eq Mode.safeMode 3 ha).1.objs _ (by decide)
      _ = (endTransfer 5 s).get Obj.powerPathStatus := hl.get

theorem enterSafe_idle {s : State} (c : Calm s) : Idle s (enterSafe s) := by
  cases h : s.modeIn safeFrom with
  | false => rw [enterSafe_id h]; exact .refl s
  | true => exact ⟨fun _ => (enterSafe_now c h).session, (enterSafe_eq c h).1.calm⟩

end Sys2Proof.Machine
end

section
namespace Sys2Proof.Machine

/-! A source whose severity is SAFE, and one of any severity. -/

theorem enterSafe_stays {s : State} (c : Calm s) : Stays safeObjects s (enterSafe s) := by
  cases h : s.modeIn safeFrom with
  | false => rw [enterSafe_id h]; exact .refl _ s
  | true => exact (enterSafe_eq c h).1

/-- A source of the severity SAFE: its registers, then the entry into SAFE, then the collision window (R455, R463). -/
theorem faultOccur_enters {c : Nat} {s : State} (h1 : s.faultOn c = false) (hr : Registers c) (h3 : s.get (faultObj Obj.faultSeverity c) = 3) :
    ∃ f g, Keeps (faultObjects c) faultBlocks s f ∧ f.faultOn c = true ∧ faultOccur c s = { enterSafe f with flt := g } ∧
      g.status = (enterSafe f).flt.status := by
  obtain ⟨f, kf, hf, e⟩ := faultOccur_form h1 hr.2.1
  have hs : (if c ≤ 1 then 3 else s.get (faultObj Obj.faultSeverity c)) = 3 := by
    split_ifs
    · rfl
    · exact h3
  rw [if_pos hs] at e
  exact ⟨f, _, kf, hf, e, rfl⟩

/-- A source, whether it is set or not, and whatever its severity: it leads to SAFE or it does not. -/
theorem faultOccur_either {c : Nat} (s : State) (hr : Registers c) :
    ∃ f, Keeps (faultObjects c) faultBlocks s f ∧ f.faultOn c = true ∧
      (faultOccur c s = f ∨ ∃ g, faultOccur c s = { enterSafe f with flt := g } ∧ g.status = (enterSafe f).flt.status) := by
  obtain ⟨h24, hv, -⟩ := hr
  cases h1 : s.faultOn c with
  | true =>
    refine ⟨recurs c s, recurs_keeps c s, ?_, .inl (faultOccur_again h1 h24)⟩
    exact (congrArg (bit · c) (recurs_status c s)).trans h1
  | false =>
    obtain ⟨f, kf, hf, e⟩ := faultOccur_form h1 hv
    generalize (if c ≤ 1 then 3 else s.get (faultObj Obj.faultSeverity c)) = sev at e
    split_ifs at e
    · exact ⟨f, kf, hf, .inr ⟨_, e, rfl⟩⟩
    · refine ⟨stageAuto Mode.measure 9 f, kf.trans (keeps_mono (stageAuto_keeps _ _ f) (by simp) (by simp [faultBlocks])), ?_, .inl e⟩
      exact (congrArg (fun x : FaultEng => bit x.status c) (stageAuto_flt _ _ f)).trans hf
    · exact ⟨f, kf, hf, .inl e⟩

theorem Keeps.calm {c : Nat} {s f : State} (h : Keeps (faultObjects c) faultBlocks s f) (hc : Calm s) : Calm f := by
  obtain ⟨h1, h2⟩ := hc
  exact ⟨by rw [show f.test = s.test from h.2 .test (by decide)]; exact h1, by rw [show f.loupe = s.loupe from h.2 .loupe (by decide)]; exact h2⟩

theorem SafeNow.sources {s : State} (h : SafeNow s) (g : FaultEng) : SafeNow { s with flt := g } :=
  ⟨h.mode, h.cause, h.balancing, h.contactor, h.session⟩

theorem SafeNow.settled {s : State} (h : SafeNow s) : SafeNow (settle s) := by
  obtain ⟨h1, h2, h3, h4, h5⟩ := h
  exact ⟨(settle_modeCode s).trans h1, by rwa [settle_get], by rwa [settle_get], by rwa [settle_get], (settle_xferRuns s).trans h5⟩

theorem supplyOvervoltage_safe (dt : Nat) (s : State) (h0 : (s.found dt).faultOn 0x18 = false)
    (h3 : (s.found dt).get (faultObj Obj.faultSeverity 0x18) = 3) (hc : Calm (s.found dt)) :
    Leads (.supplyOvervoltage dt) dt s (fun u t =>
      t.faultOn 0x18 = true ∧ bit (t.get Obj.supplyStatus) 1 = true ∧
        (u.modeIn safeFrom = true → t.modeCode = 11 ∧ bits (t.get Obj.modeStatus) 24 8 = 3 ∧ t.get Obj.balEnable = 0 ∧
          t.get Obj.cenRequest = 0 ∧ t.xferRuns = false)) := by
  set x := (s.found dt).setBitOf Obj.supplyStatus 1 true with hx
  have hx3 : x.get (faultObj Obj.faultSeverity 0x18) = 3 := (State.get_setBitOf_ne _ _ _ (by decide)).trans h3
  have hxm : x.get Obj.modeStatus = (s.found dt).get Obj.modeStatus := State.get_setBitOf_ne _ _ _ (by decide)
  obtain ⟨f, g, kf, hf, e, hg⟩ := faultOccur_enters (s := x) h0 registers_18 hx3
  have cf : Calm f := kf.calm ⟨hc.1, hc.2⟩
  have he : effSupplyOvervoltage (s.found dt) = { enterSafe f with flt := g } := (faultFollow_raises (s := x) h0).trans e
  have hst := enterSafe_stays cf
  refine leads_of rfl rfl ?_
  rw [he]
  refine ⟨?_, ?_, fun hm => ?_⟩
  · rw [settle_faultOn]
    exact (congrArg (bit · 0x18) hg).trans ((hst.faultOn 0x18).trans hf)
  · rw [settle_get]
    have hk : (enterSafe f).get Obj.supplyStatus = x.get Obj.supplyStatus := (hst.objs _ (by decide)).trans (kf.get (by decide))
    refine (congrArg (bit · 1) hk).trans ?_
    rw [hx, bit_setBitOf, if_pos rfl]
  · have hn := ((enterSafe_now cf ((modeIn_congr safeFrom ((kf.get (by decide)).trans hxm)).trans hm)).sources g).settled
    exact ⟨hn.mode, hn.cause, hn.balancing, hn.contactor, hn.session⟩

/-! The overvoltage of the exchange bus (R76, R331). -/

/-- No session runs and the comparators of the path stand, whether or not a session ran before. -/
structure Stopped (s t : State) : Prop where
  shown : PathShown s t
  off : t.xferRuns = false
  calm : Calm t

/-- 15h to 12h sets in any state: no session is left, and the comparators of the path stand (R328, R331). -/
theorem faultOccur_stopped {c : Nat} {s t : State} (h : Stopped s t) (hr : Registers c) (hx : Obj.xferStatus ∉ faultObjects c)
    (hp : Obj.powerPathStatus ∉ faultObjects c) : Stopped s (faultOccur c t) ∧ (faultOccur c t).faultOn c = true := by
  obtain ⟨hs, ho, hc⟩ := h
  obtain ⟨f, kf, hf, e⟩ := faultOccur_either t hr
  have cf := kf.calm hc
  have fs : PathShown s f := hs.trans (.of_get (kf.get hp))
  have fo : f.xferRuns = false := (kf.rests hx (by decide) (by decide)).idle.off ho
  rcases e with e | ⟨g, e, hg⟩
  · exact e ▸ ⟨⟨fs, fo, cf⟩, hf⟩
  · have hi := enterSafe_idle cf
    rw [e]
    exact ⟨⟨fs.trans (enterSafe_shown cf), hi.off fo, hi.calm cf⟩, (congrArg (bit · c) hg).trans (((enterSafe_stays cf).faultOn c).trans hf)⟩

/-- The excitation of a stage that no session runs stops; a Loupe point is not in progress. -/
theorem exciteEnds_stopped {s t : State} (h : Stopped s t) (x : XferEng) :
    Stopped s (loupeEndPoint 2 (stopExcitation { t with xfer := x })) := by
  obtain ⟨hs, ho, hc⟩ := h
  have h0 : Idle t { t with xfer := x } := ⟨id, id⟩
  have h1 := h0.trans (stopExcitation_idle { t with xfer := x })
  have c1 := h1.calm hc
  have hl : loupeEndPoint 2 (stopExcitation { t with xfer := x }) = stopExcitation { t with xfer := x } := by
    unfold loupeEndPoint
    rw [c1.2]
  rw [hl]
  exact ⟨hs.trans (.of_get ((stopExcitation_stays { t with xfer := x }).objs _ (by decide))), h1.off ho, c1⟩

theorem transferFault_stopped {c : Nat} (code : Nat) {s : State} (hc : Calm s) (hr : Registers c) (hx : Obj.xferStatus ∉ faultObjects c)
    (hp : Obj.powerPathStatus ∉ faultObjects c) :
    PathShown s (transferFault c code s) ∧ (transferFault c code s).xferRuns = false ∧ (transferFault c code s).faultOn c = true := by
  unfold transferFault
  extract_lets a x b d
  have ha : Stopped s a := ⟨endTransfer_shown code s, endTransfer_off code s, endTransfer_calm code hc⟩
  have hb : Stopped s b := by
    show Stopped s (if a.xferState = 5 then _ else _)
    split_ifs
    · exact exciteEnds_stopped ha _
    · exact ha
  obtain ⟨hd, ho⟩ := faultOccur_stopped hb hr hx hp
  split_ifs
  · exact ⟨hd.shown, hd.off, ho⟩
  · obtain ⟨kg, hg⟩ := gatesOff_ends d
    exact ⟨hd.shown.trans (.of_get (kg.get (by simp))), (kg.rests (by simp) (by decide) (by decide)).idle.off hd.off,
      (congrArg (bit · c) hg).trans ho⟩

theorem exchangeBusOvervoltage_runs (dt : Nat) (s : State) (hc : Calm (s.found dt)) :
    Leads (.exchangeBusOvervoltage dt) dt s (fun _ t =>
      t.xbsOv = true ∧ t.xbsValid = false ∧ t.faultOn 0x15 = true ∧ t.xferRuns = false) := by
  set y := (s.found dt).setBitOf Obj.powerPathStatus 3 false with hy
  set x := y.setBitOf Obj.powerPathStatus 4 true with hx
  have cx : Calm (xbsFails x) := ((xbsFails_keeps x).rests (k := Obj.xferElapsed) (by decide) (by decide) (by decide)).calm ⟨hc.1, hc.2⟩
  obtain ⟨⟨-, hv, ho⟩, hr, hf⟩ := transferFault_stopped 2 cx registers_15 (by decide) (by decide)
  obtain ⟨gv, go⟩ := xbsFails_comparators x
  refine leads_of rfl rfl ?_
  rw [settle_xbsOv, settle_xbsValid, settle_faultOn, settle_xferRuns]
  refine ⟨ho.trans (go.trans ?_), hv.trans (gv.trans ?_), hf, hr⟩
  · unfold State.xbsOv
    rw [hx, bit_setBitOf, if_pos rfl]
  · unfold State.xbsValid
    rw [hx, bit_setBitOf, if_neg (by decide), hy, bit_setBitOf, if_pos rfl]

/-- Settles O55: a comparator shows in its bit, and its source, the power path or the session follows. -/
theorem supplyRuns : Obligations.SupplyRuns := by
  unfold Obligations.SupplyRuns
  exact ⟨supplyUndervoltage_runs, fun dt s => comparator_clears_runs 0x17 0 rfl rfl, supplyOvervoltage_mild, supplyOvervoltage_safe,
    fun dt s => comparator_clears_runs 0x18 1 rfl rfl, exchangeBusValid_runs, exchangeBusInvalid_runs, exchangeBusInvalid_handover,
    exchangeBusInvalid_session, exchangeBusOvervoltage_runs, exchangeBusOvClears_runs, railOutOfWindow_runs, railBackInWindow_runs⟩

end Sys2Proof.Machine
end

section
namespace Sys2Proof.Machine

/-! The bits of a mask. -/

theorem bit_eq_testBit (v n : Nat) : bit v n = v.testBit n := by
  unfold bit
  rw [Nat.testBit_eq_decide_div_mod_eq]
  rfl

theorem bit_or (v w n : Nat) : bit (v ||| w) n = (bit v n || bit w n) := by
  simp only [bit_eq_testBit, Nat.testBit_or]

theorem bit_two_pow (n : Nat) : bit (2 ^ n) n = true := by
  rw [bit_eq_testBit, Nat.testBit_two_pow_self]

/-- A mask of one bit, of which another mask lets the bit through or not. -/
theorem two_pow_and_bit (n v : Nat) : 2 ^ n &&& v = if bit v n = true then 2 ^ n else 0 := by
  rw [Nat.and_comm, Nat.and_two_pow, ← bit_eq_testBit]
  cases bit v n <;> simp

/-! What the later steps of a start leave: the mode machine has started, and its pins and what woke it stand (R105, R106). -/

/-- The pins that the mode's engine has, and its count of the tones. -/
structure PinsStand (s t : State) : Prop where
  low : t.mode.nrstLow = s.mode.nrstLow
  out : t.mode.wakeOut = s.mode.wakeOut
  tones : t.mode.tones = s.mode.tones

theorem PinsStand.of_eq {s t : State} (h : t.mode = s.mode) : PinsStand s t := by
  refine ⟨?_, ?_, ?_⟩ <;> rw [h]

theorem PinsStand.trans {s t u : State} (h : PinsStand s t) (g : PinsStand t u) : PinsStand s u :=
  ⟨g.low.trans h.low, g.out.trans h.out, g.tones.trans h.tones⟩

/-- An update of the other blocks. -/
theorem PinsStand.after {s t : State} (h : PinsStand s t) {pending clk ringTime freeCtr objs latest staged notifyQ port time cells cur aux facet plan
    bal loupe xfer ring safe flt check test nvm} : PinsStand s ⟨pending, clk, ringTime, freeCtr, objs, latest, staged, notifyQ, port, t.mode, time,
      cells, cur, aux, facet, plan, bal, loupe, xfer, ring, safe, flt, check, test, nvm⟩ :=
  ⟨h.low, h.out, h.tones⟩

theorem PinsStand.refl (s : State) : PinsStand s s := ⟨rfl, rfl, rfl⟩

theorem PinsStand.set (s : State) (k v : Nat) : PinsStand s (s.set k v) := ⟨rfl, rfl, rfl⟩

theorem PinsStand.ite {s t u : State} {p : Prop} [Decidable p] (h : PinsStand s t) (g : PinsStand s u) : PinsStand s (if p then t else u) := by
  split_ifs
  · exact h
  · exact g

/-- The objects that show where a start is. -/
def startObjects : List Nat :=
  [Obj.modeStatus, Obj.nodeAddress, Obj.supervisorState, Obj.resetCause, Obj.wakeCause, Obj.domainStatus]

/-- A step of a start that leaves them, the pins, CEN and what is not in progress. -/
structure Stands (s t : State) : Prop where
  get : ∀ k ∈ startObjects, t.get k = s.get k
  pins : PinsStand s t
  cen : t.safe.cenOn = s.safe.cenOn
  calm : Calm s → Calm t

theorem Stands.refl (s : State) : Stands s s := ⟨fun _ _ => rfl, .of_eq rfl, rfl, id⟩

theorem Stands.trans {s t u : State} (h : Stands s t) (g : Stands t u) : Stands s u :=
  ⟨fun k hk => (g.get k hk).trans (h.get k hk), h.pins.trans g.pins, g.cen.trans h.cen, fun c => g.calm (h.calm c)⟩

theorem Stands.ite {s t u : State} {p : Prop} [Decidable p] (h : Stands s t) (g : Stands s u) : Stands s (if p then t else u) := by
  split_ifs
  · exact h
  · exact g

theorem Stands.modeCode {s t : State} (h : Stands s t) : t.modeCode = s.modeCode := modeCode_congr (h.get _ (by decide))

theorem Stands.of_keeps {ks : List Nat} {bs : List Block} {s t : State} (h : Keeps ks bs s t) (ho : ∀ k ∈ startObjects, k ∉ ks)
    (ht : Block.test ∉ bs) (hl : Block.loupe ∉ bs) (hp : PinsStand s t) (hc : t.safe.cenOn = s.safe.cenOn) : Stands s t :=
  ⟨fun k hk => h.get (ho k hk), hp, hc, (h.rests (ho _ (by decide : Obj.modeStatus ∈ startObjects)) ht hl).calm⟩

theorem Stands.set {k : Nat} (s : State) (v : Nat) (h : k ∉ startObjects) : Stands s (s.set k v) :=
  ⟨fun _ hj => State.get_set_ne s v (fun e => h (e ▸ hj)), .of_eq rfl, rfl, id⟩

/-- Another source that sets in a start. -/
theorem faultOccur_stands {c : Nat} {s : State} (hr : Registers c) (ho : ∀ k ∈ startObjects, k ∉ faultObjects c) (h : s.modeCode = 0) :
    Stands s (faultOccur c s) := by
  have hn : NoEntry c s := noEntry_of_start h
  obtain ⟨a, ha⟩ := faultOccur_mode hr hn
  exact .of_keeps (faultOccur_keeps hr hn) ho (by decide) (by decide) (⟨by rw [ha], by rw [ha], by rw [ha]⟩) (faultOccur_apart c s).cen

theorem faultEnd_stands (c : Nat) (s : State) : Stands s (faultEnd c s) := ⟨fun _ _ => rfl, .of_eq rfl, rfl, id⟩

theorem faultFollow_stands {c : Nat} (b : Bool) {s : State} (hr : Registers c) (ho : ∀ k ∈ startObjects, k ∉ faultObjects c)
    (h : s.modeCode = 0) : Stands s (faultFollow c b s) :=
  .ite (.ite (.refl s) (faultOccur_stands hr ho h)) (.ite (faultEnd_stands c s) (.refl s))

theorem marginsFollow_stands {s : State} (h : s.modeCode = 0) : Stands s (marginsFollow s) := by
  have hm : Stands s (s.setField Obj.marginStatus 0 40 (ofLe s.marginList)) := .set s _ (by decide)
  have h0 := hm.modeCode.trans h
  have ho : ∀ k ∈ startObjects, k ∉ faultObjects 0x2B := by decide
  have hc : Stands (s.setField Obj.marginStatus 0 40 (ofLe s.marginList))
      ((s.setField Obj.marginStatus 0 40 (ofLe s.marginList)).set Obj.ageingMarginCause s.marginCause) := .set _ _ (by decide)
  exact .ite (.refl s) (.ite (hm.trans (faultFollow_stands false registers_2B ho h0))
    (.ite hm (hm.trans (hc.trans (faultOccur_stands registers_2B ho (hc.modeCode.trans h0))))))

theorem adoptShuntSource_stands (s : State) : Stands s (adoptShuntSource s) :=
  have hk := adoptShuntSource_keeps s
  .of_keeps hk (by decide) (by decide) (by decide) (.of_eq (hk.mode (by decide))) (adoptShuntSource_apart s).cen

theorem dwellFollow_stands (s : State) : Stands s (dwellFollow s) :=
  .of_keeps (dwellFollow_keeps s) (by decide) (by decide) (by decide) ⟨rfl, rfl, rfl⟩ (dwellFollow_apart s).cen

theorem startHoldover_stands (s : State) : Stands s (startHoldover s) :=
  have hr : Obj.ringTimeStatus ∉ startObjects := by decide
  ⟨fun k hk => (get_of_objs (s := s.setField Obj.ringTimeStatus 0 3 3) rfl k).trans (State.get_setField_ne s _ _ _ (fun e => hr (e ▸ hk))),
    .of_eq rfl, rfl, id⟩

theorem leaveExcite_mode (s : State) : (leaveExcite s).mode = s.mode := by
  unfold leaveExcite
  split_ifs <;> rfl

theorem closeOutputs_mode (s : State) : (closeOutputs s).mode = s.mode := by
  have hr : ∀ x, (restStage x).mode = x.mode := fun x => by
    unfold restStage
    split_ifs <;> rfl
  exact (hr _).trans (leaveExcite_mode _)

theorem romStart_mode (t : State) : (((t.set Obj.cycleStart t.ringTime).set Obj.cycleCount 0).set Obj.adhocMaxGap 16000).mode = t.mode := rfl

theorem romTail_mode (a : Nat) (p : PlanEng) (c : CellEng) (m : TimeEng) (t : State) :
    ({ recordAt a t with plan := p, cells := c, time := m } : State).mode = t.mode := rfl

theorem startRom_mode {s : State} (c : Calm s) : (startRom s).mode = s.mode := by
  have h0 := (newWindow_idle s).calm c
  have hc := (closeOutputs_idle (newWindow s)).calm h0
  have ha := (applyCellCount_leaves above_xferStatus hc).mode
  unfold startRom
  rw [abortSlices_calm _ h0]
  exact ((romTail_mode _ _ _ _ _).trans (romStart_mode _)).trans
    (((mirrorCodes_leaves above_xferStatus _).mode.trans ha).trans (closeOutputs_mode _))

theorem startRom_stands {s : State} (c : Calm s) : Stands s (startRom s) :=
  have h := startRom_stays c
  ⟨fun k hk => h.objs k (by revert k; decide), .of_eq (startRom_mode c), (startRom_apart s).cen, h.calm⟩

/-! The ROM boot (R506). -/

theorem setFwSlot_mode (b : Bool) (f : FwSlot) (s : State) : (s.setFwSlot b f).mode = s.mode := by
  unfold State.setFwSlot
  split_ifs <;> rfl

theorem bootTrials_mode (l : List Bool) (s : State) : (bootTrials l s).1.mode = s.mode := by
  induction l generalizing s with
  | nil => rfl
  | cons b bs ih =>
    unfold bootTrials
    dsimp only
    split_ifs
    · exact setFwSlot_mode _ _ s
    · exact (ih _).trans (setFwSlot_mode _ _ s)
    · exact ih s

theorem bootRollback_mode (s : State) : (bootRollback s).1.mode = s.mode := by
  have h : ∀ (r : State × Bool) (b : Bool), ((if ((r.1.fwSlot b).trialBooted && !(r.1.fwSlot b).confirmed && !(r.1.fwSlot b).revoked) = true
      then (r.1.setFwSlot b { r.1.fwSlot b with revokedM := .zero }, true) else r) : State × Bool).1.mode = r.1.mode := by
    intro r b
    split_ifs
    · exact setFwSlot_mode _ _ _
    · rfl
  exact (h _ true).trans (h (s, false) false)

theorem bootImageFault_pins (b : Bool) {s : State} (h : s.modeCode = 0) : PinsStand s (bootImageFault b s) := by
  have ht : (s.set Obj.nvmLastFault (4 * 2 ^ 24 + (if b then 0x18000 else 0))).modeCode = 0 :=
    (modeCode_congr (State.get_set_ne s _ (by decide))).trans h
  exact (PinsStand.set s _ _).trans (faultOccur_stands registers_27 (by decide) ht).pins

theorem bootConfirmed_pins (l : List Bool) {s : State} (h : s.modeCode = 0) : PinsStand s (bootConfirmed l s).1 := by
  induction l generalizing s with
  | nil => exact .of_eq rfl
  | cons b bs ih =>
    unfold bootConfirmed
    dsimp only
    split_ifs
    · exact .of_eq rfl
    · exact (bootImageFault_pins b h).trans (ih ((bootImageFault_boots b h).start h))
    · exact ih h

theorem startImage_pins (b trial rolled : Bool) (s : State) : PinsStand s (startImage b trial rolled s) := by
  unfold startImage
  extract_lets t src src' u
  have h : PinsStand s u := ⟨rfl, rfl, rfl⟩
  exact .ite (h.trans (.set u _ _)) (.ite (h.trans (.set u _ _)) h)

theorem bootFirmware_pins {s : State} (h : s.modeCode = 0) : PinsStand s (bootFirmware s) := by
  have m1 := bootTrials_mode [false, true] s
  have b1 := bootTrials_boots [false, true] s
  unfold bootFirmware
  split
  case h_1 t b ht =>
    rw [ht] at m1
    exact (PinsStand.of_eq m1).trans (startImage_pins _ _ _ t)
  case h_2 t ht =>
    rw [ht] at m1 b1
    have p2 : PinsStand s (bootRollback t).1 := .of_eq ((bootRollback_mode t).trans m1)
    have h3 := fun l => p2.trans (bootConfirmed_pins l ((b1.trans (bootRollback_boots t)).start h))
    dsimp only
    split
    case h_1 v b hv =>
      have h4 := h3 (if (bootRollback t).1.nvm.slotA.seq < (bootRollback t).1.nvm.slotB.seq then [true, false] else [false, true])
      rw [hv] at h4
      exact h4.trans (startImage_pins _ _ _ v)
    case h_2 v hv =>
      have h4 := h3 (if (bootRollback t).1.nvm.slotA.seq < (bootRollback t).1.nvm.slotB.seq then [true, false] else [false, true])
      rw [hv] at h4
      exact h4.trans ⟨rfl, rfl, rfl⟩

theorem bootFirmware_stands {s : State} (h : s.modeCode = 0) : Stands s (bootFirmware s) :=
  have hb := bootFirmware_boots h
  .of_keeps hb.keeps (by decide) (by decide) (by decide) (bootFirmware_pins h) hb.apart.cen

theorem settle_stands {s : State} (h : s.safe.cenOn = false) : Stands s (settle s) :=
  .of_keeps (ks := []) (bs := []) (Keeps.refl _ _ s).settle (fun _ _ => List.not_mem_nil) (by decide) (by decide) (.of_eq (settle_mode s))
    ((settle_cenOn h).trans h.symm)

end Sys2Proof.Machine
end

section
namespace Sys2Proof.Machine

/-! The store after a start (R29, R105): what is kept of it is what it held. -/

/-- A store holds a key with one value. -/
def Sole (l : List (Nat × Nat)) (k v : Nat) : Prop := (∀ x ∈ l, x.1 = k → x.2 = v) ∧ ∃ x ∈ l, x.1 = k

theorem storeInsert_mem (l : List (Nat × Nat)) (k v : Nat) : (k, v) ∈ storeInsert l k v := by
  induction l with
  | nil => exact List.mem_cons_self
  | cons p rest ih =>
    unfold storeInsert
    split_ifs
    · exact List.mem_cons_self
    · exact List.mem_cons_of_mem _ ih

theorem storeSet_sole (l : List (Nat × Nat)) {k v : Nat} (h : v ≠ Dict.default k) : Sole (storeSet l k v) k v := by
  have he : storeSet l k v = storeInsert (storeErase l k) k v := if_neg h
  rw [he]
  refine ⟨fun x hx hk => ?_, (k, v), storeInsert_mem _ k v, rfl⟩
  rcases mem_storeInsert hx with rfl | hx
  · rfl
  · exact absurd hk (not_mem_storeErase l k x hx)

/-- The entries of a list that are put in a store one after the other. -/
theorem storeGet_foldl {l : List (Nat × Nat)} {k v : Nat} (p : List (Nat × Nat)) (h : ∀ x ∈ l, x.1 = k → x.2 = v)
    (hp : storeGet p k = v ∨ ∃ x ∈ l, x.1 = k) : storeGet (l.foldl (fun l x => storeSet l x.1 x.2) p) k = v := by
  induction l generalizing p with
  | nil => exact hp.resolve_right (fun ⟨_, hx, _⟩ => List.not_mem_nil hx)
  | cons y l ih =>
    refine ih _ (fun x hx => h x (List.mem_cons_of_mem _ hx)) ?_
    by_cases hy : y.1 = k
    · left
      dsimp only
      rw [hy, storeGet_storeSet_self, h y List.mem_cons_self hy]
    · rcases hp with hp | ⟨x, hx, hk⟩
      · left
        exact (storeGet_storeSet_ne _ (Ne.symm hy)).trans hp
      · right
        rcases List.mem_cons.mp hx with rfl | hx
        · exact absurd hk hy
        · exact ⟨x, hx, hk⟩

/-- A key that a start keeps has its value, whatever NVM holds. -/
theorem coldObjects_kept {kept : List Nat} {s : State} {k v : Nat} (hk : k ∈ kept) (h : Sole s.objs k v) : storeGet (coldObjects kept s) k = v := by
  obtain ⟨h1, x, hx, hxk⟩ := h
  refine storeGet_foldl _ (fun y hy => h1 y (List.mem_of_mem_filter hy)) (.inr ⟨x, List.mem_filter.mpr ⟨hx, ?_⟩, hxk⟩)
  rw [hxk]
  exact List.contains_iff_mem.mpr hk

/-! A start from the domains' resets (R105). -/

/-- The objects that a start writes after it has restored the store. -/
def coldWritten : List Nat :=
  [Obj.cellCount, Obj.ringRole, Obj.hostPortActive, Obj.watchdogConfig, Obj.linkStatus + sideSub .north, Obj.linkStatus + sideSub .south,
    Obj.modeStatus]

theorem coldStart_get (kept : List Nat) (cause : Nat) (s : State) {k : Nat} (h : k ∉ coldWritten) :
    (coldStart kept cause s).get k = storeGet (coldObjects kept s) k := by
  have hn : ∀ {j}, j ∈ coldWritten → k ≠ j := fun hj e => h (e ▸ hj)
  unfold coldStart
  extract_lets cells cur plan bal ring port test a held b c cells' ring' enm d e cur' f
  have hb : b.get k = a.get k := by
    unfold b
    split_ifs
    · rfl
    · exact State.get_set_ne a _ (hn (by decide))
  calc (watchdogStart (startupMode cause (if cause = 5 then s.modeCode else 0) f)).get k
    _ = f.get k := startupMode_get_ne _ _ _ (hn (by decide))
    _ = e.get k := get_of_objs (t := f) (s := e) rfl _
    _ = (d.setLink .north 1 1).get k := setLink_get _ .south 1 1 (hn (by decide))
    _ = d.get k := setLink_get d .north 1 1 (hn (by decide))
    _ = c.get k := get_of_objs (t := d) (s := c) rfl _
    _ = _ := startDefaults_get _ (hn (by decide)) (hn (by decide))
    _ = b.get k := State.get_set_ne b _ (hn (by decide))
    _ = a.get k := hb

/-- Another mode's engine with the same pins. -/
theorem PinsStand.engine {s : State} (t : State) {m : ModeEng} (h1 : m.nrstLow = s.mode.nrstLow) (h2 : m.wakeOut = s.mode.wakeOut)
    (h3 : m.tones = s.mode.tones) : PinsStand s { t with mode := m } := ⟨h1, h2, h3⟩

theorem startupMode_pins (cause prev : Nat) (s : State) : PinsStand s (startupMode cause prev s) :=
  .engine (s.set Obj.modeStatus (cause * 2 ^ 24 + prev * 2 ^ 8)) rfl rfl rfl

theorem coldStart_pins (kept : List Nat) (cause : Nat) (s : State) : PinsStand s (coldStart kept cause s) := by
  unfold coldStart
  extract_lets cells cur plan bal ring port test a held b c cells' ring' enm d e cur' f
  have ha : PinsStand s a := (PinsStand.refl s).after
  have hb : PinsStand s b := .ite ha (ha.trans (.set a _ _))
  have hc : PinsStand s c := (((hb.trans (.set b _ _)).trans (.set _ _ _)).trans (.set _ _ _)).after
  have hd : PinsStand s d := hc.after
  have he : PinsStand s e := (hd.trans (.set d _ _)).trans (.set _ _ _)
  have hf : PinsStand s f := he.after
  exact (hf.trans (startupMode_pins _ _ f)).after

/-- A wake starts the mode machine, with the mode that was left as PREVIOUS (R89). -/
theorem coldStart_wake (kept : List Nat) (s : State) : (coldStart kept 5 s).modeCode = 0 := by
  unfold coldStart State.modeCode
  extract_lets cells cur plan bal ring port test a held b c cells' ring' enm d e cur' f
  rw [startupMode_modeStatus]
  unfold bits
  omega

/-- A device that has woken from SLEEP: its core is in the ROM boot, with the domains of STANDBY (R105). -/
structure Woken (s t : State) : Prop where
  boot : t.modeCode = 0
  domains : t.get Obj.domainStatus = 0x2E3
  core : t.get Obj.supervisorState = 1
  pins : PinsStand s t

theorem Woken.stands {s t u : State} (h : Woken s t) (g : Stands t u) : Woken s u :=
  ⟨g.modeCode.trans h.boot, (g.get _ (by decide)).trans h.domains, (g.get _ (by decide)).trans h.core, h.pins.trans g.pins⟩

/-- The core starts in a device whose domains show it already (R14). -/
theorem coreStarts {s : State} (h : s.get Obj.domainStatus = 0x2E3) :
    ((s.set Obj.supervisorState 1).power .sup true).get Obj.domainStatus = 0x2E3 := by
  unfold State.power
  rw [State.get_setBitOf_self, State.get_set_ne s _ (by decide), h]
  decide

/-- The last part of a wake: the temperature of the shunt, the core and the dwell. -/
theorem wakeTail {s : State} (h0 : s.modeCode = 0) (hd : s.get Obj.domainStatus = 0x2E3) :
    Woken s (dwellFollow (startSup (adoptShuntSource s))) ∧
      (dwellFollow (startSup (adoptShuntSource s))).get Obj.wakeCause = s.get Obj.wakeCause := by
  have ha := adoptShuntSource_stands s
  set a := adoptShuntSource s
  set b := (a.set Obj.supervisorState 1).power .sup true with hb
  have bg : ∀ k, k ≠ Obj.domainStatus → k ≠ Obj.supervisorState → b.get k = a.get k := fun k h1 h2 =>
    (State.get_setBitOf_ne _ _ _ h1).trans (State.get_set_ne a _ h2)
  have b0 : b.modeCode = 0 := (modeCode_congr (bg _ (by decide) (by decide))).trans (ha.modeCode.trans h0)
  have hw : Woken s b :=
    ⟨b0, coreStarts ((ha.get _ (by decide)).trans hd), (State.get_setBitOf_ne _ _ _ (by decide)).trans (State.get_set_self a _ _),
      ha.pins.trans ⟨rfl, rfl, rfl⟩⟩
  have hs : Stands b (dwellFollow (startSup a)) := (bootFirmware_stands b0).trans (dwellFollow_stands _)
  exact ⟨hw.stands hs, ((hs.get _ (by decide)).trans (bg _ (by decide) (by decide))).trans (ha.get _ (by decide))⟩

theorem wakeFromSleep_woken (s : State) :
    Woken s (wakeFromSleep s) ∧ ∀ v, Sole s.objs Obj.wakeCause v → (wakeFromSleep s).get Obj.wakeCause = v := by
  unfold wakeFromSleep
  extract_lets a keep enm ring flt safe b
  have a0 : a.modeCode = 0 := coldStart_wake _ s
  have ap : PinsStand s a := coldStart_pins _ 5 s
  have aw : ∀ v, Sole s.objs Obj.wakeCause v → a.get Obj.wakeCause = v := fun v h =>
    (coldStart_get _ 5 s (by decide)).trans (coldObjects_kept (by decide) h)
  have hbg : ∀ k, b.get k = a.get k := fun k => get_of_objs (t := b) (s := a) rfl k
  have hbm : PinsStand a b := (PinsStand.refl a).after
  clear_value b
  set c := (b.set Obj.domainStatus 0x2E3).set Obj.watchdogConfig (s.get Obj.watchdogConfig) with hc
  have cg : ∀ k, k ≠ Obj.watchdogConfig → k ≠ Obj.domainStatus → c.get k = a.get k := fun k h1 h2 =>
    ((State.get_set_ne _ _ h1).trans (State.get_set_ne b _ h2)).trans (hbg k)
  have cd : c.get Obj.domainStatus = 0x2E3 := (State.get_set_ne _ _ (by decide)).trans (State.get_set_self b _ _)
  obtain ⟨hw, hv⟩ := wakeTail ((modeCode_congr (cg _ (by decide) (by decide))).trans a0) cd
  have cp : PinsStand s c := (ap.trans hbm).trans (.of_eq rfl)
  exact ⟨⟨hw.boot, hw.domains, hw.core, cp.trans hw.pins⟩, fun v h => (hv.trans (cg _ (by decide) (by decide))).trans (aw v h)⟩

end Sys2Proof.Machine
end

section
namespace Sys2Proof.Machine

/-! The wake sources (R99, R100, R103). -/

/-- A wake shows in WakeCause, and WAKE_OUT rises (R99, R103). -/
def wakeShown (m : Nat) (s : State) : State :=
  raiseWakeOut ((s.set Obj.wakeCause (s.get Obj.wakeCause ||| m)).setBitOf Obj.wakeCause 6 (s.modeCode == Mode.ship))

theorem wakeShown_keeps (m : Nat) (s : State) : Keeps [Obj.wakeCause] [.mode] s (wakeShown m s) := by
  have h1 : Keeps [Obj.wakeCause] [.mode] s (s.set Obj.wakeCause (s.get Obj.wakeCause ||| m)) := keeps_set _ s _ (by simp)
  have h2 := h1.trans (keeps_set _ _ (k := Obj.wakeCause) (setBits ((s.set Obj.wakeCause (s.get Obj.wakeCause ||| m)).get Obj.wakeCause) 6 1
    (num (s.modeCode == Mode.ship))) (by simp))
  exact h2.trans (mode_keeps _ _ _)

theorem wakeShown_mode (m : Nat) (s : State) : (wakeShown m s).mode = { s.mode with wakeOut := true, wakeOutAt := s.clk } := rfl

theorem wakeShown_cause (m : Nat) (s : State) :
    (wakeShown m s).get Obj.wakeCause = setBits (s.get Obj.wakeCause ||| m) 6 1 (num (s.modeCode == Mode.ship)) :=
  (State.get_setBitOf_self _ _ _ _).trans (by rw [State.get_set_self])

/-- The source shows, and whether the wake is from SHIP (R99). -/
theorem wakeShown_bits {b : Nat} (s : State) (h : b ≠ 6) :
    bit ((wakeShown (2 ^ b) s).get Obj.wakeCause) b = true ∧
      bit ((wakeShown (2 ^ b) s).get Obj.wakeCause) 6 = (s.modeCode == Mode.ship) := by
  rw [wakeShown_cause, bit_setBits_ne _ _ _ _ h, bit_setBits_self, bit_or, bit_two_pow, Bool.or_true]
  exact ⟨rfl, rfl⟩

/-- WakeCause is not at its default, and the store holds it with one value. -/
theorem wakeShown_sole {b : Nat} (s : State) (h : b ≠ 6) :
    Sole (wakeShown (2 ^ b) s).objs Obj.wakeCause ((wakeShown (2 ^ b) s).get Obj.wakeCause) := by
  have hv : (wakeShown (2 ^ b) s).get Obj.wakeCause ≠ Dict.default Obj.wakeCause := by
    intro he
    have hb := (wakeShown_bits s h).1
    rw [he, show Dict.default Obj.wakeCause = 0 by decide, bit_eq_testBit, Nat.zero_testBit] at hb
    exact Bool.false_ne_true hb
  have hc := wakeShown_cause (2 ^ b) s
  rw [hc] at hv ⊢
  have ho : (wakeShown (2 ^ b) s).objs = storeSet (s.set Obj.wakeCause (s.get Obj.wakeCause ||| 2 ^ b)).objs Obj.wakeCause
      (setBits ((s.set Obj.wakeCause (s.get Obj.wakeCause ||| 2 ^ b)).get Obj.wakeCause) 6 1 (num (s.modeCode == Mode.ship))) := rfl
  rw [ho, State.get_set_self]
  exact storeSet_sole _ hv

theorem wake_awake {b : Nat} {s : State} (hs : s.mode.shutdown = none) : wake b s = wakeOn (2 ^ b) s := by
  unfold wake
  rw [hs]
  rfl

/-- A source that WakeEnable has wakes the device from SLEEP. -/
theorem wake_sleep {b : Nat} {s : State} (hs : s.mode.shutdown = none) (hm : s.modeCode = 2) (he : bit (s.get Obj.wakeEnable) b = true) :
    wake b s = wakeFromSleep (wakeShown (2 ^ b) s) := by
  have hw : s.waking (2 ^ b) = 2 ^ b := by
    unfold State.waking
    rw [if_pos hm, two_pow_and_bit, if_pos he]
  rw [wake_awake hs]
  unfold wakeOn
  rw [hw, if_neg (by positivity), if_pos hm]
  rfl

/-- A source that WakeEnable does not have leaves SLEEP as it is. -/
theorem wake_sleep_off {b : Nat} {s : State} (hs : s.mode.shutdown = none) (hm : s.modeCode = 2) (he : bit (s.get Obj.wakeEnable) b = false) :
    wake b s = s := by
  have hw : s.waking (2 ^ b) = 0 := by
    unfold State.waking
    rw [if_pos hm, two_pow_and_bit, he, if_neg Bool.false_ne_true]
  rw [wake_awake hs]
  unfold wakeOn
  rw [hw, if_pos rfl]

/-- A pin or a tone wakes the device from SHIP always. -/
theorem wake_ship {b : Nat} {s : State} (hs : s.mode.shutdown = none) (hm : s.modeCode = 1) (hb : b < 4) : wake b s = wakeShown (2 ^ b) s := by
  have hn : s.modeCode ≠ Mode.sleep := by rw [hm]; decide
  have hw : s.waking (2 ^ b) = 2 ^ b := by
    unfold State.waking
    rw [if_neg hn, if_pos hm]
    exact Nat.mod_eq_of_lt (Nat.pow_lt_pow_right (by decide) hb)
  rw [wake_awake hs]
  unfold wakeOn
  rw [hw, if_neg (by positivity), if_neg hn]
  rfl

/-- What a wake from SLEEP shows of the pins, of the mode and of the source. -/
structure WokenBy (b : Nat) (s t : State) : Prop where
  low : t.mode.nrstLow = s.mode.nrstLow
  out : t.mode.wakeOut = true
  tones : t.mode.tones = s.mode.tones
  boot : t.modeCode = 0
  domains : t.get Obj.domainStatus = 0x2E3
  core : t.get Obj.supervisorState = 1
  cause : bit (t.get Obj.wakeCause) b = true

theorem wake_sleep_woken {b : Nat} {s : State} (hs : s.mode.shutdown = none) (hm : s.modeCode = 2) (he : bit (s.get Obj.wakeEnable) b = true)
    (hb : b ≠ 6) : WokenBy b s (wake b s) := by
  rw [wake_sleep hs hm he]
  obtain ⟨⟨h1, h2, h3, hl, ho, ht⟩, hv⟩ := wakeFromSleep_woken (wakeShown (2 ^ b) s)
  exact ⟨hl, ho, ht, h1, h2, h3, by rw [hv _ (wakeShown_sole s hb)]; exact (wakeShown_bits s hb).1⟩

theorem WokenBy.settled {b : Nat} {s t : State} (h : WokenBy b s t) : WokenBy b s (settle t) := by
  obtain ⟨h1, h2, h3, h4, h5, h6, h7⟩ := h
  exact ⟨by rwa [settle_mode], by rwa [settle_mode], by rwa [settle_mode], (settle_modeCode t).trans h4, by rwa [settle_get], by rwa [settle_get],
    by rwa [settle_get]⟩

/-- What a wake from SHIP shows; the power-on sequence follows. -/
structure ShipWake (b : Nat) (s t : State) : Prop where
  low : t.mode.nrstLow = s.mode.nrstLow
  out : t.mode.wakeOut = true
  tones : t.mode.tones = s.mode.tones
  boot : t.modeCode = 1
  cause : bit (t.get Obj.wakeCause) b = true
  ship : bit (t.get Obj.wakeCause) 6 = true

theorem wake_ship_shown {b : Nat} {s : State} (hs : s.mode.shutdown = none) (hm : s.modeCode = 1) (hb : b < 4) :
    Keeps [Obj.wakeCause] [.mode] s (wake b s) ∧ ShipWake b s (settle (wake b s)) := by
  rw [wake_ship hs hm hb]
  have hk := wakeShown_keeps (2 ^ b) s
  obtain ⟨h1, h2⟩ := wakeShown_bits (b := b) s (by omega)
  have hm' : (wakeShown (2 ^ b) s).modeCode = 1 := (modeCode_congr (hk.get (by decide))).trans hm
  refine ⟨hk, ?_, ?_, ?_, (settle_modeCode _).trans hm', by rwa [settle_get], ?_⟩
  · rw [settle_mode, wakeShown_mode]
  · rw [settle_mode, wakeShown_mode]
  · rw [settle_mode, wakeShown_mode]
  · rw [settle_get, h2, hm]
    rfl

/-! nRST (R106, R108). -/

/-- The pin is low. -/
def pinLow (s : State) : State := { s with mode := { s.mode with nrstLow := true } }

theorem effNrstLow_asleep {s : State} (h1 : s.mode.nrstStuck = false) (h2 : s.mode.shutdown = none) (hm : s.modeCode = 2 ∨ s.modeCode = 1) :
    effNrstLow s = wake 3 (pinLow s) := by
  have hb : (s.mode.shutdown.isNone && (decide (s.modeCode = Mode.sleep) || decide (s.modeCode = Mode.ship))) = true := by
    rw [h2]
    rcases hm with hm | hm <;> rw [hm] <;> rfl
  unfold effNrstLow
  rw [h1, if_neg Bool.false_ne_true]
  dsimp only
  rw [if_pos hb]
  rfl

theorem nrstLow_stuck (dt : Nat) (s : State) (h : (s.found dt).mode.nrstStuck = true) : Completes (.nrstLow dt) dt s [] [] (fun _ _ => True) :=
  completes_idle rfl rfl (by unfold effNrstLow; rw [h, if_pos rfl])

theorem nrstLow_wakes (dt : Nat) (s : State) (h1 : (s.found dt).mode.nrstStuck = false) (h2 : (s.found dt).mode.shutdown = none)
    (hm : (s.found dt).modeCode = 2) (he : bit ((s.found dt).get Obj.wakeEnable) 3 = true) :
    Leads (.nrstLow dt) dt s (fun _ t =>
      t.mode.nrstLow = true ∧ t.mode.wakeOut = true ∧ bit (t.get Obj.wakeCause) 3 = true ∧ t.modeCode = 0 ∧
        t.get Obj.domainStatus = 0x2E3 ∧ t.get Obj.supervisorState = 1) := by
  have hw := (wake_sleep_woken (b := 3) (s := pinLow (s.found dt)) h2 hm he (by decide)).settled
  refine leads_of rfl rfl ?_
  rw [effNrstLow_asleep h1 h2 (.inl hm)]
  exact ⟨hw.low, hw.out, hw.cause, hw.boot, hw.domains, hw.core⟩

theorem nrstLow_noted (dt : Nat) (s : State) (h1 : (s.found dt).mode.nrstStuck = false) (h2 : (s.found dt).mode.shutdown = none)
    (hm : (s.found dt).modeCode = 2) (he : bit ((s.found dt).get Obj.wakeEnable) 3 = false) :
    Completes (.nrstLow dt) dt s [] [.mode] (fun u t => t.mode = { u.mode with nrstLow := true }) := by
  have hw : effNrstLow (s.found dt) = pinLow (s.found dt) :=
    (effNrstLow_asleep h1 h2 (.inl hm)).trans (wake_sleep_off (s := pinLow (s.found dt)) h2 hm he)
  refine completes_of rfl rfl ?_ (hw ▸ mode_keeps _ _ _)
  rw [hw, settle_mode]
  rfl

theorem nrstLow_ship (dt : Nat) (s : State) (h1 : (s.found dt).mode.nrstStuck = false) (h2 : (s.found dt).mode.shutdown = none)
    (hm : (s.found dt).modeCode = 1) :
    Completes (.nrstLow dt) dt s [Obj.wakeCause] [.mode] (fun _ t =>
      t.mode.nrstLow = true ∧ t.mode.wakeOut = true ∧ t.modeCode = 1 ∧ bit (t.get Obj.wakeCause) 3 = true ∧
        bit (t.get Obj.wakeCause) 6 = true) := by
  obtain ⟨hk, hw⟩ := wake_ship_shown (b := 3) (s := pinLow (s.found dt)) h2 hm (by decide)
  have he := effNrstLow_asleep h1 h2 (.inr hm)
  have hp : Keeps [Obj.wakeCause] [.mode] (s.found dt) (pinLow (s.found dt)) := mode_keeps _ _ _
  refine completes_of rfl rfl ?_ (he ▸ hp.trans hk)
  rw [he]
  exact ⟨hw.low, hw.out, hw.boot, hw.cause, hw.ship⟩

/-- The end of the reset: the times of the ROM boot and of the watchdog count from it (R30, R106). -/
theorem endReset_running {s : State} (h : s.mode.resetting = true) :
    endReset s = watchdogStart { s with mode := { s.mode with resetting := false, supResetAt := s.clk } } := if_pos h

theorem modeSafe_keeps (ks : List Nat) (s : State) (m : ModeEng) (x : SafetyEng) : Keeps ks [.mode, .safe] s { s with mode := m, safe := x } :=
  ⟨fun _ _ => rfl, fun b hb => by cases b <;> simp_all [Block.same]⟩

theorem endReset_keeps (s : State) : Keeps [] [.mode, .safe] s (endReset s) := by
  unfold endReset
  exact keeps_ite _ (modeSafe_keeps _ s _ _) (Keeps.refl _ _ _)

theorem endReset_resetting (s : State) : (endReset s).mode.resetting = false := by
  unfold endReset
  split_ifs with h
  · rfl
  · exact Bool.eq_false_iff.mpr h

theorem endReset_stuck (s : State) : (endReset s).mode.nrstStuck = s.mode.nrstStuck := by
  unfold endReset
  split_ifs <;> rfl

theorem nrstRelease_runs (dt : Nat) (s : State) (h : (s.found dt).mode.resetting = true) :
    Completes (.nrstRelease dt) dt s [] [.mode, .safe] (fun u t =>
      t.mode.nrstLow = false ∧ t.mode.resetting = false ∧ t.mode.supResetAt = u.clk ∧ t.safe.wdStart = u.clk) := by
  set x : State := { s.found dt with mode := { (s.found dt).mode with nrstLow := false } } with hx
  have he : effNrstRelease (s.found dt) = watchdogStart { x with mode := { x.mode with resetting := false, supResetAt := x.clk } } :=
    endReset_running (s := x) h
  refine completes_of rfl rfl ?_ (he ▸ modeSafe_keeps _ (s.found dt) _ _)
  rw [he, settle_mode, settle_safe_wdStart]
  exact ⟨rfl, rfl, rfl, rfl⟩

theorem registers_2C : Registers 0x2C := by unfold Registers; decide

theorem nrstStuck_runs (dt : Nat) (s : State) (h1 : (s.found dt).mode.nrstLow = true) (h2 : (s.found dt).mode.nrstStuck = false)
    (h0 : (s.found dt).faultOn 0x2C = false) (h3 : (s.found dt).get (faultObj Obj.faultSeverity 0x2C) ≠ 3) :
    Completes (.nrstStuck dt) dt s (Obj.resetCause :: faultObjects 0x2C) (.safe :: faultBlocks) (fun _ t =>
      t.mode.nrstStuck = true ∧ t.mode.resetting = false ∧ t.faultOn 0x2C = true ∧ bit (t.get Obj.resetCause) 5 = true) := by
  set u := s.found dt with hu
  set x : State := { u with mode := { u.mode with nrstStuck := true } } with hx
  set y := (endReset x).setBitOf Obj.resetCause 5 true with hy
  have he : effNrstStuck u = faultOccur 0x2C y := by
    unfold effNrstStuck
    rw [h1, h2]
    rfl
  have kx : Keeps (Obj.resetCause :: faultObjects 0x2C) (.safe :: faultBlocks) u x := keeps_mono (mode_keeps [] u _) (by simp) (by simp [faultBlocks])
  have ke : Keeps (Obj.resetCause :: faultObjects 0x2C) (.safe :: faultBlocks) x (endReset x) :=
    keeps_mono (endReset_keeps x) (by simp) (by simp [faultBlocks])
  have ky : Keeps (Obj.resetCause :: faultObjects 0x2C) (.safe :: faultBlocks) u y := (kx.trans ke).trans (keeps_set _ _ _ List.mem_cons_self)
  have y0 : y.faultOn 0x2C = false := ((endReset_keeps x).faultOn (by decide) _).trans h0
  have y3 : y.get (faultObj Obj.faultSeverity 0x2C) ≠ 3 := by rw [ky.get (by decide)]; exact h3
  obtain ⟨kf, hf⟩ := faultOccur_mild y0 (by decide) y3 registers_2C.2.1
  obtain ⟨a, ha⟩ := faultOccur_mode registers_2C (.inl ⟨by decide, y3⟩)
  refine completes_of rfl rfl ?_ (he ▸ ky.trans (keeps_mono kf (fun _ => List.mem_cons_of_mem _) (fun _ => List.mem_cons_of_mem _)))
  rw [he, settle_mode, settle_faultOn, settle_get, ha, kf.get (by decide), hy, bit_setBitOf, if_pos rfl]
  exact ⟨endReset_stuck x, endReset_resetting x, hf, rfl⟩

theorem nrstHigh10Ms_runs (dt : Nat) (s : State) :
    Completes (.nrstHigh10Ms dt) dt s [] [.mode, .flt] (fun u t =>
      t.mode.nrstStuck = false ∧ t.mode.nrstLow = false ∧ bit t.flt.cond 0x2C = false ∧ t.flt.status = u.flt.status) := by
  set x : State := { s.found dt with mode := { (s.found dt).mode with nrstStuck := false, nrstLow := false } } with hx
  have kf := faultFollow_false_keeps 0x2C x
  obtain ⟨hc, hs⟩ := faultFollow_ends 0x2C x
  have kx : Keeps [] [.mode, .flt] (s.found dt) x := keeps_mono (mode_keeps [] (s.found dt) _) (fun _ => id) (by simp)
  refine completes_of (eff := effNrstHigh10Ms) rfl rfl ?_ (kx.trans (keeps_mono kf (fun _ => id) (by simp)))
  rw [settle_mode, settle_flt]
  refine ⟨?_, ?_, hc, hs⟩
  · exact congrArg ModeEng.nrstStuck (kf.mode (by simp))
  · exact congrArg ModeEng.nrstLow (kf.mode (by simp))

/-! WAKE_IN, the tones and WAKE_OUT (R100 to R103). -/

theorem sendTone_keeps (ks : List Nat) (s : State) : Keeps ks [.mode] s (sendTone s) := mode_keeps ks s _

theorem wakeIn_wakes (dt : Nat) (s : State) (h2 : (s.found dt).mode.shutdown = none) (hm : (s.found dt).modeCode = 2)
    (he : bit ((s.found dt).get Obj.wakeEnable) 2 = true) :
    Leads (.wakeIn dt) dt s (fun u t =>
      t.mode.wakeOut = true ∧ t.mode.tones = u.mode.tones + 1 ∧ t.modeCode = 0 ∧ t.get Obj.domainStatus = 0x2E3 ∧
        t.get Obj.supervisorState = 1) := by
  have ha : (s.found dt).asleep 2 = true := by
    unfold State.asleep
    rw [h2, hm, he]
    rfl
  have hw := (wake_sleep_woken (b := 2) (s := sendTone (s.found dt)) h2 hm he (by decide)).settled
  refine leads_of rfl rfl ?_
  unfold effWakeIn
  rw [if_pos ha]
  exact ⟨hw.out, hw.tones, hw.boot, hw.domains, hw.core⟩

theorem wakeIn_ignored (dt : Nat) (s : State) (h2 : (s.found dt).mode.shutdown = none) (hm : (s.found dt).modeCode = 2)
    (he : bit ((s.found dt).get Obj.wakeEnable) 2 = false) : Completes (.wakeIn dt) dt s [] [] (fun _ _ => True) := by
  have ha : (s.found dt).asleep 2 = false := by
    unfold State.asleep
    rw [h2, hm, he]
    rfl
  refine completes_idle rfl rfl ?_
  unfold effWakeIn
  rw [ha, if_neg Bool.false_ne_true]
  exact wake_sleep_off h2 hm he

theorem wakeIn_ship (dt : Nat) (s : State) (h2 : (s.found dt).mode.shutdown = none) (hm : (s.found dt).modeCode = 1) :
    Completes (.wakeIn dt) dt s [Obj.wakeCause] [.mode] (fun u t =>
      bit (t.get Obj.wakeCause) 2 = true ∧ bit (t.get Obj.wakeCause) 6 = true ∧ t.mode.wakeOut = true ∧
        t.mode.tones = u.mode.tones + 1) := by
  have ha : (s.found dt).asleep 2 = true := by
    unfold State.asleep
    rw [h2, hm]
    rfl
  obtain ⟨hk, hw⟩ := wake_ship_shown (b := 2) (s := sendTone (s.found dt)) h2 hm (by decide)
  have he : effWakeIn (s.found dt) = wake 2 (sendTone (s.found dt)) := by
    unfold effWakeIn
    rw [if_pos ha]
  refine completes_of rfl rfl ?_ (he ▸ (sendTone_keeps _ _).trans hk)
  rw [he]
  exact ⟨hw.cause, hw.ship, hw.out, hw.tones⟩

/-- The bit of a port's tone in WakeCause. -/
def toneBit : Side → Nat
  | .north => 0
  | .south => 1

theorem toneBit_lt (p : Side) : toneBit p < 4 := by cases p <;> decide

theorem effWakeTone_passes (p : Side) {s : State} (h1 : s.on .rng = false) (h2 : s.toneGuard = false) :
    effWakeTone p s = wake (toneBit p) (sendTone s) := by
  unfold effWakeTone
  rw [h1, h2]
  cases p <;> rfl

theorem wakeTone_ship (dt : Nat) (p : Side) (s : State) (h2 : (s.found dt).mode.shutdown = none) (hm : (s.found dt).modeCode = 1)
    (hr : (s.found dt).on .rng = false) (hg : (s.found dt).toneGuard = false) :
    Completes (.wakeTone dt p) dt s [Obj.wakeCause] [.mode] (fun u t =>
      bit (t.get Obj.wakeCause) (toneBit p) = true ∧ t.mode.wakeOut = true ∧ t.mode.tones = u.mode.tones + 1) := by
  obtain ⟨hk, hw⟩ := wake_ship_shown (b := toneBit p) (s := sendTone (s.found dt)) h2 hm (toneBit_lt p)
  have he := effWakeTone_passes p hr hg
  refine completes_of rfl rfl ?_ (he ▸ (sendTone_keeps _ _).trans hk)
  rw [he]
  exact ⟨hw.cause, hw.out, hw.tones⟩

theorem wakeTone_wakes (dt : Nat) (p : Side) (s : State) (h2 : (s.found dt).mode.shutdown = none) (hm : (s.found dt).modeCode = 2)
    (hr : (s.found dt).on .rng = false) (hg : (s.found dt).toneGuard = false) (he : bit ((s.found dt).get Obj.wakeEnable) (toneBit p) = true) :
    Leads (.wakeTone dt p) dt s (fun u t =>
      bit (t.get Obj.wakeCause) (toneBit p) = true ∧ t.mode.wakeOut = true ∧ t.mode.tones = u.mode.tones + 1 ∧ t.modeCode = 0 ∧
        t.get Obj.domainStatus = 0x2E3 ∧ t.get Obj.supervisorState = 1) := by
  have hw := (wake_sleep_woken (b := toneBit p) (s := sendTone (s.found dt)) h2 hm he (by have := toneBit_lt p; omega)).settled
  refine leads_of rfl rfl ?_
  rw [effWakeTone_passes p hr hg]
  exact ⟨hw.cause, hw.out, hw.tones, hw.boot, hw.domains, hw.core⟩

theorem wakeTone_passed (dt : Nat) (p : Side) (s : State) (h2 : (s.found dt).mode.shutdown = none) (hm : (s.found dt).modeCode = 2)
    (hr : (s.found dt).on .rng = false) (hg : (s.found dt).toneGuard = false) (he : bit ((s.found dt).get Obj.wakeEnable) (toneBit p) = false) :
    Completes (.wakeTone dt p) dt s [] [.mode] (fun u t => t.mode = { u.mode with toneSentAt := some u.clk, tones := u.mode.tones + 1 }) := by
  have hw : effWakeTone p (s.found dt) = sendTone (s.found dt) :=
    (effWakeTone_passes p hr hg).trans (wake_sleep_off (s := sendTone (s.found dt)) h2 hm he)
  refine completes_of rfl rfl ?_ (hw ▸ sendTone_keeps _ _)
  rw [hw, settle_mode]
  rfl

theorem wakeTone_idle (dt : Nat) (p : Side) (s : State)
    (h : (s.found dt).toneGuard = true ∨ ((s.found dt).on .rng = true ∧ (s.found dt).linkState p = 2)) :
    Completes (.wakeTone dt p) dt s [] [] (fun _ _ => True) := by
  have hb : (((s.found dt).on .rng && (s.found dt).linkState p == 2) || (s.found dt).toneGuard) = true := by
    rcases h with h | ⟨h1, h2⟩
    · rw [h, Bool.or_true]
    · rw [h1, h2]
      rfl
  refine completes_idle rfl rfl ?_
  unfold effWakeTone
  rw [hb, if_pos rfl]

theorem wakeOutRelease_runs (dt : Nat) (s : State) : Completes (.wakeOutRelease dt) dt s [] [.mode] (fun u t =>
    t.mode.wakeOut = (u.mode.wakeOut && !u.wakeOutDone)) := by
  refine completes_of (eff := effWakeOutRelease) rfl rfl ?_ (keeps_ite _ (mode_keeps _ _ _) (Keeps.refl _ _ _))
  rw [settle_mode]
  unfold effWakeOutRelease settleWakeOut
  cases h : (s.found dt).wakeOutDone with
  | true => rw [if_pos rfl, Bool.not_true, Bool.and_false]
  | false => rw [if_neg Bool.false_ne_true, Bool.not_false, Bool.and_true]

end Sys2Proof.Machine
end

section
namespace Sys2Proof.Machine

/-! The SLEEP check (R104, R202). -/

theorem cur_keeps (ks : List Nat) (s : State) (c : CurEng) : Keeps ks [.cur] s { s with cur := c } :=
  ⟨fun _ _ => rfl, fun b hb => by cases b <;> simp_all [Block.same]⟩

theorem sleepCounter_keeps (n : Nat) (s : State) : Keeps [Obj.counterGapCount] [.cur] s (sleepCounter n s) := by
  unfold sleepCounter
  extract_lets t e u x
  have ht : Keeps [Obj.counterGapCount] [.cur] s t := keeps_count _ s 16 (by simp)
  exact (ht.trans (cur_keeps _ t _)).trans (cur_keeps _ u _)

theorem sleepCounter_gap (n : Nat) (s : State) :
    (sleepCounter n s).get Obj.counterGapCount = sat 65535 (s.get Obj.counterGapCount + 1) := State.get_count_self s _ 16

theorem sleepCounter_retained (n : Nat) (s : State) : (sleepCounter n s).cur.retained = (sleepCounter n s).cur.counter := rfl

/-- An entry finds what it reads of the plan, of the Mirror channel and of the readings. -/
theorem sleepCrossing_congr {s t : State} (hp : t.plan = s.plan) (hs : t.safe = s.safe)
    (hg : ∀ k ∈ [Obj.mirrorDeglitch, Obj.mirrorOvTripped, Obj.mirrorUvTripped], t.get k = s.get k) (i : Nat) (x : SleepReading) :
    t.sleepCrossing i x = s.sleepCrossing i x := by
  have ht : ∀ ov, t.sleepTripped i ov = s.sleepTripped i ov := by
    intro ov
    have hv : t.get (if ov then Obj.mirrorOvTripped else Obj.mirrorUvTripped) = s.get (if ov then Obj.mirrorOvTripped else Obj.mirrorUvTripped) :=
      hg _ (by cases ov <;> simp)
    unfold State.sleepTripped State.sleepEntry
    rw [hp, hs, hg Obj.mirrorDeglitch (by simp), hv]
  unfold State.sleepCrossing
  rw [ht, ht]
  unfold State.sleepEntry
  rw [hp]

theorem sleepCounter_crossing (n i : Nat) (x : SleepReading) (s : State) : (sleepCounter n s).sleepCrossing i x = s.sleepCrossing i x :=
  sleepCrossing_congr (s := s) (t := sleepCounter n s) rfl rfl
    (fun k hk => (sleepCounter_keeps n s).get (fun he => absurd (List.mem_singleton.mp he ▸ hk) (by decide))) i x

theorem sleepEntriesRun_none (m : SleepMeas) {l : List Nat} {s : State} (h : ∀ i ∈ l, s.sleepCrossing i (sleepReading m.first i) = false) :
    sleepEntriesRun m l s = s := by
  induction l with
  | nil => rfl
  | cons i l ih =>
    unfold sleepEntriesRun
    rw [h i List.mem_cons_self]
    exact ih (fun j hj => h j (List.mem_cons_of_mem _ hj))

theorem effSleepCheck_empty {s : State} (m : SleepMeas) (h : s.sleepCount = 0) : effSleepCheck m s = s := by
  unfold effSleepCheck
  rw [h]
  exact if_pos (by simp)

theorem effSleepCheck_runs {s : State} (m : SleepMeas) (hm : s.modeCode = 2) (h : s.sleepCount ≠ 0) :
    effSleepCheck m s = sleepEntriesRun m (List.range s.sleepCount) (sleepCounter m.icxTicks s) := by
  have hc : (s.modeCode != Mode.sleep || decide (s.sleepCount = 0)) = false := by
    rw [hm, decide_eq_false h]
    rfl
  unfold effSleepCheck
  rw [hc, if_neg Bool.false_ne_true]

theorem sleepCheck_empty (dt : Nat) (m : SleepMeas) (s : State) (hw : Instr.wf (.sleepCheck dt m) = true) (h : (s.found dt).sleepCount = 0) :
    Completes (.sleepCheck dt m) dt s [] [] (fun _ _ => True) := completes_idle hw rfl (effSleepCheck_empty m h)

theorem sleepCheck_quiet (dt : Nat) (m : SleepMeas) (s : State) (hw : Instr.wf (.sleepCheck dt m) = true) (hm : (s.found dt).modeCode = 2)
    (h : (s.found dt).sleepCount ≠ 0) (hn : ∀ i, i < (s.found dt).sleepCount → (s.found dt).sleepCrossing i (sleepReading m.first i) = false) :
    Completes (.sleepCheck dt m) dt s [Obj.counterGapCount] [.cur] (fun u t =>
      t.get Obj.counterGapCount = sat 65535 (u.get Obj.counterGapCount + 1) ∧ t.cur.retained = t.cur.counter) := by
  have he : effSleepCheck m (s.found dt) = sleepCounter m.icxTicks (s.found dt) :=
    (effSleepCheck_runs m hm h).trans (sleepEntriesRun_none m (fun i hi => by rw [sleepCounter_crossing]; exact hn i (List.mem_range.mp hi)))
  refine completes_of hw rfl ?_ (he ▸ sleepCounter_keeps _ _)
  rw [he, settle_get, settle_cur]
  exact ⟨sleepCounter_gap _ _, sleepCounter_retained _ _⟩

theorem sleepCheck_transient (dt : Nat) (m : SleepMeas) (s : State) (hw : Instr.wf (.sleepCheck dt m) = true) (hm : (s.found dt).modeCode = 2)
    (h : (s.found dt).sleepCount = 1) (h1 : (s.found dt).sleepCrossing 0 (sleepReading m.first 0) = true)
    (h2 : (s.found dt).sleepCrossing 0 (sleepReading m.again 0) = false) :
    Completes (.sleepCheck dt m) dt s [Obj.counterGapCount, Obj.sleepTransients] [.cur] (fun u t =>
      t.get Obj.sleepTransients = sat 65535 (u.get Obj.sleepTransients + 1)) := by
  set c := sleepCounter m.icxTicks (s.found dt) with hc
  have kc : Keeps [Obj.counterGapCount] [.cur] (s.found dt) c := sleepCounter_keeps _ _
  have c1 : c.sleepCrossing 0 (sleepReading m.first 0) = true := (sleepCounter_crossing _ _ _ _).trans h1
  have c2 : c.sleepCrossing 0 (sleepReading m.again 0) = false := (sleepCounter_crossing _ _ _ _).trans h2
  have he : effSleepCheck m (s.found dt) = c.count Obj.sleepTransients 16 := by
    rw [effSleepCheck_runs m hm (by rw [h]; decide), h]
    show sleepEntriesRun m [0] c = _
    unfold sleepEntriesRun
    rw [c1, c2]
    rfl
  refine completes_of hw rfl ?_ (he ▸ (keeps_mono kc (by simp) (fun _ => id)).trans (keeps_count _ c 16 (by simp)))
  rw [he, settle_get, State.get_count_self, kc.get (by decide)]
  rfl

/-! A crossing that repeats wakes the device (R99, R104, R105). -/

theorem registers_0 : Registers 0 := by unfold Registers; decide

theorem registers_1 : Registers 1 := by unfold Registers; decide

/-- The comparators that have caused a wake set their sources in a device that starts (R105). -/
theorem mirrorWoke_stands (ov uv : Bool) {s : State} (h : s.modeCode = 0) : Stands s (mirrorWoke ov uv s) := by
  unfold mirrorWoke
  extract_lets t
  have ht : Stands s t := .ite (faultFollow_stands true registers_0 (by decide) h) (.refl s)
  exact .ite (ht.trans (faultFollow_stands true registers_1 (by decide) (ht.modeCode.trans h))) ht

theorem WokenBy.stands {b : Nat} {s t u : State} (h : WokenBy b s t) (g : Stands t u) : WokenBy b s u := by
  obtain ⟨h1, h2, h3, h4, h5, h6, h7⟩ := h
  exact ⟨g.pins.low.trans h1, g.pins.out.trans h2, g.pins.tones.trans h3, g.modeCode.trans h4, (g.get _ (by decide)).trans h5,
    (g.get _ (by decide)).trans h6, by rw [g.get _ (by decide)]; exact h7⟩

theorem sleepConfirmed_wakes (i : Nat) {s : State} (hs : s.mode.shutdown = none) (hm : s.modeCode = 2) (he : bit (s.get Obj.wakeEnable) 4 = true) :
    WokenBy 4 (sendTone (s.setField Obj.resetCause 12 4 i)) (sleepConfirmed i s) := by
  unfold sleepConfirmed
  extract_lets t
  have tm : t.modeCode = 2 := (modeCode_congr (State.get_setField_ne s 12 4 i (by decide))).trans hm
  have te : bit (t.get Obj.wakeEnable) 4 = true := (congrArg (bit · 4) (State.get_setField_ne s 12 4 i (by decide))).trans he
  have hw : WokenBy 4 t (wake 4 t) := wake_sleep_woken hs tm te (by decide)
  rw [he, Bool.not_true, if_neg Bool.false_ne_true]
  split_ifs
  · exact hw.stands (mirrorWoke_stands _ _ hw.boot)
  · exact hw

theorem sleepCheck_wakes (dt : Nat) (m : SleepMeas) (s : State) (hw : Instr.wf (.sleepCheck dt m) = true) (hs : (s.found dt).mode.shutdown = none)
    (hm : (s.found dt).modeCode = 2) (h : (s.found dt).sleepCount ≠ 0) (h1 : (s.found dt).sleepCrossing 0 (sleepReading m.first 0) = true)
    (h2 : (s.found dt).sleepCrossing 0 (sleepReading m.again 0) = true) (he : bit ((s.found dt).get Obj.wakeEnable) 4 = true) :
    Leads (.sleepCheck dt m) dt s (fun u t =>
      t.mode.wakeOut = true ∧ t.mode.tones = u.mode.tones + 1 ∧ t.modeCode = 0 ∧ t.get Obj.supervisorState = 1 ∧
        bit (t.get Obj.wakeCause) 4 = true) := by
  set c := sleepCounter m.icxTicks (s.found dt) with hc
  have kc : Keeps [Obj.counterGapCount] [.cur] (s.found dt) c := sleepCounter_keeps _ _
  have c1 : c.sleepCrossing 0 (sleepReading m.first 0) = true := (sleepCounter_crossing _ _ _ _).trans h1
  have c2 : c.sleepCrossing 0 (sleepReading m.again 0) = true := (sleepCounter_crossing _ _ _ _).trans h2
  have ce : bit (c.get Obj.wakeEnable) 4 = true := by rw [kc.get (by decide)]; exact he
  have cm : c.mode = (s.found dt).mode := kc.mode (by decide)
  obtain ⟨n, hn⟩ := Nat.exists_eq_succ_of_ne_zero h
  have hf : effSleepCheck m (s.found dt) = sleepConfirmed 0 c := by
    rw [effSleepCheck_runs m hm h, hn, Nat.succ_eq_add_one, List.range_succ_eq_map]
    unfold sleepEntriesRun
    rw [← hc, c1, c2, ce]
    rfl
  have hk := (sleepConfirmed_wakes 0 (by rw [cm]; exact hs) ((modeCode_congr (kc.get (by decide))).trans hm) ce).settled
  have ht : (sendTone (c.setField Obj.resetCause 12 4 0)).mode.tones = (s.found dt).mode.tones + 1 := congrArg (fun x : ModeEng => x.tones + 1) cm
  refine leads_of hw rfl ?_
  rw [hf]
  exact ⟨hk.out, hk.tones.trans ht, hk.boot, hk.core, hk.cause⟩

end Sys2Proof.Machine
end

section
namespace Sys2Proof.Machine

/-! The reset of the SUP domain, and of the device (R30, R106). -/

/-- The pins stand, and what is not in progress does not begin. -/
structure PinsRest (s t : State) : Prop where
  pins : PinsStand s t
  calm : Calm s → Calm t

theorem PinsRest.refl (s : State) : PinsRest s s := ⟨.refl s, id⟩

theorem PinsRest.trans {s t u : State} (h : PinsRest s t) (g : PinsRest t u) : PinsRest s u := ⟨h.pins.trans g.pins, fun c => g.calm (h.calm c)⟩

theorem PinsRest.set (s : State) (k v : Nat) : PinsRest s (s.set k v) := ⟨.set s k v, id⟩

theorem PinsRest.ite {s t u : State} {p : Prop} [Decidable p] (h : PinsRest s t) (g : PinsRest s u) : PinsRest s (if p then t else u) := by
  split_ifs
  · exact h
  · exact g

/-- An update of the other blocks. -/
theorem PinsRest.after {s t : State} (h : PinsRest s t) {pending clk ringTime freeCtr objs latest staged notifyQ port time cells cur aux facet plan
    bal xfer ring safe flt check nvm} : PinsRest s ⟨pending, clk, ringTime, freeCtr, objs, latest, staged, notifyQ, port, t.mode, time, cells, cur,
      aux, facet, plan, bal, t.loupe, xfer, ring, safe, flt, check, t.test, nvm⟩ :=
  ⟨h.pins.after, fun c => ⟨(h.calm c).1, (h.calm c).2⟩⟩

theorem PinsRest.foldl {α : Type} {f : State → α → State} (h : ∀ s x, PinsRest s (f s x)) (l : List α) (s : State) :
    PinsRest s (l.foldl f s) := by
  induction l generalizing s with
  | nil => exact .refl s
  | cons x l ih => exact (h s x).trans (ih _)

theorem applyStored_rest (s : State) : PinsRest s (applyStored s) :=
  (PinsRest.foldl (fun t (p : Nat × Nat) => .set t p.1 p.2) s.staged s).after

theorem alsoEnds_mode (n : Nat) (s : State) : (alsoEnds n s).mode = s.mode := by
  unfold alsoEnds
  split
  · split_ifs <;> rfl
  · rfl

theorem ending_pins (code : Nat) (s : State) : PinsStand s (ending code s) := by
  unfold ending
  extract_lets t
  have ht : PinsStand s t := ((PinsStand.set s _ _).trans (.set _ _ _)).trans ((PinsStand.set _ _ _).trans (.set _ _ _))
  exact ht.after

theorem endTransfer_rest (code : Nat) (s : State) : PinsRest s (endTransfer code s) := by
  refine ⟨?_, (endTransfer_stays code s).calm⟩
  cases h : s.xferRuns with
  | true => rw [endTransfer_running h]; exact (ending_pins code s).trans (dwellFollow_stands _).pins
  | false => rw [endTransfer_idle h]; exact .of_eq (alsoEnds_mode code s)

theorem selftestEnds_rest {s : State} (c : Calm s) : PinsRest s (selftestEnds s) :=
  ⟨.of_eq ((selftestEnds_only c.1).1.mode (by decide)), (selftestEnds_stays c).calm⟩

theorem interruptUpdate_rest (s : State) : PinsRest s (interruptUpdate s) := by
  unfold interruptUpdate
  extract_lets nvm x st done t
  have hx : PinsRest s x := (PinsRest.refl s).after
  have ht : PinsRest s t := hx.trans (.set x _ _)
  exact .ite (.ite (ht.trans (.set t _ _)).after (ht.trans (.set t _ _)).after) hx

/-- A core in reset: SupervisorState shows it (R29, R30). -/
structure CoreReset (s t : State) : Prop where
  rest : PinsRest s t
  core : t.get Obj.supervisorState = 3

theorem CoreReset.rests {s t u : State} (h : CoreReset s t) (g : PinsRest t u) (hs : u.get Obj.supervisorState = t.get Obj.supervisorState) :
    CoreReset s u := ⟨h.rest.trans g, hs.trans h.core⟩

theorem supReset_core {s : State} (c : Calm s) : CoreReset s (supReset s) := by
  unfold supReset
  have he := endTransfer_rest 7 s
  have ce := he.calm c
  have hf := he.trans (selftestEnds_rest ce)
  rw [abortSlices_calm _ ce]
  extract_lets a b d test mode
  have hb : PinsRest s b := (hf.trans (interruptUpdate_rest _)).trans (PinsRest.foldl (fun t k => .set t k _) _ a)
  have hd : PinsRest s d := (hb.trans (.set b _ _)).trans (.set _ _ _)
  have gd : d.get Obj.supervisorState = 3 := (State.get_setBitOf_ne _ _ _ (by decide)).trans (State.get_set_self b _ _)
  clear_value d
  refine ⟨?_, (State.get_set_ne _ _ (by decide)).trans ((get_of_objs (s := d) rfl _).trans gd)⟩
  refine (hd.trans ?_).trans (.set _ _ _)
  exact ⟨⟨rfl, rfl, rfl⟩, fun h => ⟨h.1, h.2⟩⟩

theorem endLoupe_rest {s : State} (c : Calm s) : PinsRest s (endLoupe s) := by
  refine ⟨?_, (endLoupe_stays c).calm⟩
  unfold endLoupe loupeEndPoint stageEnds
  simp only [c.2]
  split_ifs
  · exact .refl s
  · exact ((PinsStand.set s _ _).trans (.set _ _ _)).after.after
  · exact (PinsStand.set s _ _).after

theorem writeEnd_rest (s : State) : PinsRest s (writeEnd s) := by
  unfold writeEnd
  split
  · exact ((PinsRest.set s _ _).trans (.set _ _ _)).after
  · exact .refl s

theorem xfer_get (s : State) (x : XferEng) (k : Nat) : ({ s with xfer := x } : State).get k = s.get k := rfl

theorem writeEnd_get (s : State) {k : Nat} (h : k ≠ Obj.xferStatus) : (writeEnd s).get k = s.get k := by
  unfold writeEnd
  split
  · extract_lets t
    exact (xfer_get t _ k).trans ((State.get_setField_ne _ _ _ _ h).trans (State.get_setField_ne s _ _ _ h))
  · rfl

theorem sessionsEnd_core {s : State} (c : Calm s) : CoreReset s (writeEnd (endLoupe (supReset (applyStored s)))) := by
  have ha := applyStored_rest s
  obtain ⟨hr, hc⟩ := supReset_core (ha.calm c)
  have cr := hr.calm (ha.calm c)
  have hl := endLoupe_rest cr
  have h1 : CoreReset s (supReset (applyStored s)) := ⟨ha.trans hr, hc⟩
  have h2 : CoreReset s (endLoupe (supReset (applyStored s))) := h1.rests hl (endLoupe_rests cr (by decide) (by decide)).get
  exact h2.rests (writeEnd_rest _) (writeEnd_get _ (by decide))

/-- What survives is read as it was (R106). -/
theorem storeGet_filter (l : List (Nat × Nat)) {p : Nat → Bool} {k : Nat} (h : p k = true) :
    storeGet (l.filter (fun x => p x.1)) k = storeGet l k := by
  induction l with
  | nil => rfl
  | cons x l ih =>
    obtain ⟨j, v⟩ := x
    by_cases hj : j = k
    · rw [List.filter_cons_of_pos (p := fun x : Nat × Nat => p x.1) (by dsimp only; rw [hj]; exact h), storeGet, storeGet, if_pos hj, if_pos hj]
    · by_cases hp : p j = true
      · rw [List.filter_cons_of_pos (p := fun x : Nat × Nat => p x.1) hp, storeGet, storeGet, if_neg hj, if_neg hj, ih]
      · rw [List.filter_cons_of_neg (p := fun x : Nat × Nat => p x.1) hp, ih, storeGet, if_neg hj]

theorem clearAll_cleared {l : List Nat} {k : Nat} (h : k ∈ l) (s : State) : (l.foldl State.clear s).get k = Dict.default k := by
  induction l generalizing s with
  | nil => exact absurd h List.not_mem_nil
  | cons j l ih =>
    by_cases hk : k ∈ l
    · exact ih hk _
    · obtain rfl : k = j := (List.mem_cons.mp h).resolve_right hk
      exact ((clearAll_keeps l _).get hk).trans (State.get_set_self s k _)

/-- A device that nRST has reset: its core is in reset, it has no mode and no address, and CEN is open (R106). -/
structure Restarted (s : State) : Prop where
  boot : s.modeCode = 0
  address : s.get Obj.nodeAddress = 0
  core : s.get Obj.supervisorState = 3
  cause : bit (s.get Obj.resetCause) 3 = true
  low : s.mode.nrstLow = true
  cen : s.safe.cenOn = false
  calm : Calm s

theorem Restarted.stands {s t : State} (h : Restarted s) (g : Stands s t) : Restarted t :=
  ⟨g.modeCode.trans h.boot, (g.get _ (by decide)).trans h.address, (g.get _ (by decide)).trans h.core,
    by rw [g.get _ (by decide)]; exact h.cause, g.pins.low.trans h.low, g.cen.trans h.cen, g.calm h.calm⟩

theorem ring_get (s : State) (r : RingEng) (k : Nat) : ({ s with ring := r } : State).get k = s.get k := rfl

/-- The ring's part of a reset. -/
theorem resetRing_get (s : State) {k : Nat} (h1 : k ≠ Obj.linkStatus + sideSub .north) (h2 : k ≠ Obj.linkStatus + sideSub .south) :
    (resetRing s).get k = s.get k := by
  unfold resetRing
  extract_lets t
  exact (ring_get t _ k).trans ((State.get_set_ne _ _ h2).trans (State.get_set_ne s _ h1))

theorem resetRing_rest (s : State) : PinsRest s (resetRing s) := ((PinsRest.set s _ _).trans (.set _ _ _)).after

theorem icxUp_rest (s : State) : PinsRest s (icxUp s) := (PinsRest.set s _ _).after

theorem safe_get (s : State) (x : SafetyEng) (k : Nat) : ({ s with safe := x } : State).get k = s.get k := rfl

theorem watchdogDefault_get (s : State) {k : Nat} (h : k ≠ Obj.watchdogConfig) : (watchdogDefault s).get k = s.get k := by
  unfold watchdogDefault
  extract_lets t
  exact (safe_get t _ k).trans (State.get_set_ne s _ h)

theorem watchdogDefault_rest (s : State) : PinsRest s (watchdogDefault s) := (PinsRest.set s _ _).after

theorem PinsRest.engine {s t : State} {m : ModeEng} (hc : Calm s → Calm t) (h : PinsStand s { t with mode := m }) :
    PinsRest s { t with mode := m } := ⟨h, hc⟩

theorem startupMode_rest (cause prev : Nat) (s : State) : PinsRest s (startupMode cause prev s) :=
  .engine (t := s.set Obj.modeStatus (cause * 2 ^ 24 + prev * 2 ^ 8)) (PinsRest.set s _ _).calm (startupMode_pins cause prev s)

theorem startupMode_get (cause prev : Nat) (s : State) (k : Nat) :
    (startupMode cause prev s).get k = (s.set Obj.modeStatus (cause * 2 ^ 24 + prev * 2 ^ 8)).get k := mode_get (s.set _ _) _ k

/-- The reset's bit among those of ResetCause. -/
theorem bit_resetCause (x : Nat) : bit (x * 2 ^ 12 + 2 ^ 3) 3 = true := by
  unfold bit
  rw [beq_iff_eq]
  omega

/-- The ROM plan and the core start in a device that has been reset. -/
theorem restartTail {s : State} (h : Restarted s) (b : Bool) :
    Restarted (dwellFollow (bootFirmware (marginsFollow (adoptShuntSource
      (if b then startRom (s.setField Obj.xferStatus 0 4 0) else startHoldover (startRom (s.setField Obj.xferStatus 0 4 0))))))) := by
  have h1 := h.stands (.set s (setBits (s.get Obj.xferStatus) 0 4 0) (by decide : Obj.xferStatus ∉ startObjects))
  have h2 := h1.stands (startRom_stands h1.calm)
  have h3 := h2.stands (.ite (p := b = true) (.refl _) (startHoldover_stands _))
  have h4 := h3.stands (adoptShuntSource_stands _)
  have h5 := h4.stands (marginsFollow_stands h4.boot)
  have h6 := h5.stands (bootFirmware_stands h5.boot)
  exact h6.stands (dwellFollow_stands _)

theorem deviceReset_restarted {s : State} (c : Calm s) (hl : s.mode.nrstLow = true) : Restarted (deviceReset 3 s) := by
  obtain ⟨ra, ga⟩ := sessionsEnd_core c
  unfold deviceReset
  generalize writeEnd (endLoupe (supReset (applyStored s))) = a at ra ga
  extract_lets wasFree icx a' b c' d e aux plan bal safe flt f g
  have gb : b.get Obj.supervisorState = 3 := (storeGet_filter a.objs (p := survives) (by decide)).trans ga
  have rb : PinsRest s b := ra.after
  have gc : c'.get Obj.supervisorState = 3 := ((clearAll_keeps _ b).get (by decide)).trans gb
  have gn : c'.get Obj.nodeAddress = 0 := clearAll_cleared (by decide) b
  have rc : PinsRest s c' := rb.trans (PinsRest.foldl (fun t k => .set t k _) _ b)
  clear_value c'
  have gd : ∀ k ∈ [Obj.nodeAddress, Obj.supervisorState], d.get k = c'.get k := fun k hk => by
    have hn : k ≠ Obj.ringRole ∧ k ≠ Obj.domainStatus ∧ k ≠ Obj.resetCause ∧ k ≠ Obj.modeStatus := by fin_cases hk <;> decide
    obtain ⟨h1, h2, h3, h4⟩ := hn
    exact (startupMode_get _ _ _ k).trans ((State.get_set_ne _ _ h4).trans ((State.get_set_ne _ _ h3).trans ((State.get_set_ne _ _ h2).trans
      (State.get_set_ne c' _ h1))))
  have gm : d.get Obj.modeStatus = 1 * 2 ^ 24 + 0 * 2 ^ 8 := (startupMode_get _ _ _ _).trans (State.get_set_self _ _ _)
  have gr : d.get Obj.resetCause = bits (c'.get Obj.resetCause) 12 4 * 2 ^ 12 + 2 ^ 3 :=
    (startupMode_get _ _ _ _).trans ((State.get_set_ne _ _ (by decide)).trans (State.get_set_self _ _ _))
  have rd : PinsRest s d := (((rc.trans (.set c' _ _)).trans (.set _ _ _)).trans (.set _ _ _)).trans (startupMode_rest _ _ _)
  clear_value d
  have ge : ∀ k ∈ [Obj.nodeAddress, Obj.supervisorState, Obj.modeStatus, Obj.resetCause], e.get k = d.get k := fun k hk => by
    have hn : k ≠ Obj.watchdogConfig ∧ k ≠ Obj.linkStatus + sideSub .north ∧ k ≠ Obj.linkStatus + sideSub .south ∧
        k ≠ Obj.counterGapCount := by
      fin_cases hk <;> decide
    obtain ⟨h1, h2, h3, h4⟩ := hn
    have hi : (if icx = true then d else icxUp d).get k = d.get k := by
      split_ifs
      · rfl
      · exact icxUp_get d h4
    exact ((watchdogDefault_get _ h1).trans (resetRing_get _ h2 h3)).trans hi
  have re : PinsRest s e :=
    ((rd.trans (.ite (.refl d) (icxUp_rest d))).trans (resetRing_rest _)).trans (watchdogDefault_rest _)
  clear_value e
  have gf : ∀ k, f.get k = e.get k := get_of_objs (t := f) (s := e) rfl
  have rf : PinsRest s f := re.after
  have hf : Restarted f := by
    have hm : f.modeCode = 0 := by
      unfold State.modeCode
      rw [gf, ge _ (by decide), gm]
      unfold bits
      omega
    refine ⟨hm, ?_, ?_, ?_, rf.pins.low.trans hl, rfl, rf.calm c⟩
    · rw [gf, ge _ (by decide), gd _ (by decide), gn]
    · rw [gf, ge _ (by decide), gd _ (by decide), gc]
    · rw [gf, ge _ (by decide), gr, bit_resetCause]
  clear_value f
  exact restartTail hf wasFree

theorem nrstLow_resets (dt : Nat) (s : State) (h1 : (s.found dt).mode.nrstStuck = false)
    (h2 : (s.found dt).mode.shutdown.isSome = true ∨ (s.found dt).modeIn [1, 2] = false) (hc : Calm (s.found dt)) :
    Leads (.nrstLow dt) dt s (fun _ t =>
      t.mode.nrstLow = true ∧ t.mode.resetting = true ∧ t.modeCode = 0 ∧ t.address = 0 ∧ t.get Obj.supervisorState = 3 ∧
        bit (t.get Obj.resetCause) 3 = true ∧ t.safe.cenOn = false) := by
  set u := s.found dt
  have hb : (u.mode.shutdown.isNone && (decide (u.modeCode = Mode.sleep) || decide (u.modeCode = Mode.ship))) = false := by
    rcases h2 with h2 | h2
    · rw [← Option.not_isSome, h2]
      rfl
    · unfold State.modeIn at h2
      simp only [List.contains_cons, List.contains_nil, Bool.or_false, Bool.or_eq_false_iff, beq_eq_false_iff_ne] at h2
      obtain ⟨n1, n2⟩ := h2
      rw [decide_eq_false n1, decide_eq_false n2, Bool.or_false, Bool.and_false]
  have he : effNrstLow u = { deviceReset 3 (pinLow u) with mode := { (deviceReset 3 (pinLow u)).mode with resetting := true } } := by
    unfold effNrstLow
    rw [h1, if_neg Bool.false_ne_true]
    dsimp only
    rw [hb, if_neg Bool.false_ne_true]
    rfl
  have hr : Restarted (deviceReset 3 (pinLow u)) := deviceReset_restarted ⟨hc.1, hc.2⟩ rfl
  generalize deviceReset 3 (pinLow u) = d at he hr
  have ht : Restarted (settle { d with mode := { d.mode with resetting := true } }) := by
    have hd : Restarted { d with mode := { d.mode with resetting := true } } := ⟨hr.boot, hr.address, hr.core, hr.cause, hr.low, hr.cen, hr.calm⟩
    exact hd.stands (settle_stands hd.cen)
  refine leads_of rfl rfl ?_
  rw [he]
  refine ⟨ht.low, ?_, ht.boot, ?_, ht.core, ht.cause, ht.cen⟩
  · rw [settle_mode]
  · unfold State.address
    rw [ht.address]
    rfl

/-- Settles O56: each pin, tone and check either wakes or resets the device, or does no more than it says. -/
theorem pinsRun : Obligations.PinsRun := by
  unfold Obligations.PinsRun
  refine ⟨fun dt s h1 h2 _ hc => nrstLow_resets dt s h1 h2 hc, nrstLow_stuck,
    fun dt s h1 h2 hm => ⟨fun he _ _ => nrstLow_wakes dt s h1 h2 hm he, nrstLow_noted dt s h1 h2 hm⟩, nrstLow_ship,
    nrstRelease_runs, nrstStuck_runs, nrstHigh10Ms_runs, fun dt s h2 hm => ⟨fun he _ _ => wakeIn_wakes dt s h2 hm he, wakeIn_ignored dt s h2 hm⟩, wakeIn_ship, wakeTone_ship,
    fun dt p s h2 hm hr hg => ⟨fun he _ _ => wakeTone_wakes dt p s h2 hm hr hg he, wakeTone_passed dt p s h2 hm hr hg⟩, wakeTone_idle,
    wakeOutRelease_runs, fun dt m s hw _ h => sleepCheck_empty dt m s hw h, sleepCheck_quiet, sleepCheck_transient,
    fun dt m s hw hs hm h h1 h2 he _ _ => sleepCheck_wakes dt m s hw hs hm h h1 h2 he⟩

end Sys2Proof.Machine
end

section
namespace Sys2Proof.Machine

/-! A step on an empty queue (log entry 1). -/

theorem ite_clk {s t u : State} (p : Prop) [Decidable p] (h : t.clk = s.clk) (g : u.clk = s.clk) : (if p then t else u).clk = s.clk := by
  split_ifs
  · exact h
  · exact g

theorem elapse_clk (dt : Nat) (s : State) : (elapse dt s).clk = s.clk := by
  have h1 : (standbyWindow dt s).clk = s.clk := by
    unfold standbyWindow
    split_ifs <;> rfl
  have h2 : (integrate dt (standbyWindow dt s)).clk = (standbyWindow dt s).clk := by
    unfold integrate
    extract_lets t
    split_ifs <;> rfl
  unfold elapse
  extract_lets u test r xfer t
  have hr : r.clk = u.clk := ite_clk (u.supReady = true) rfl rfl
  have ht : t.clk = r.clk := ite_clk _ rfl rfl
  exact (ht.trans hr).trans (h2.trans h1)

theorem bootStarts_clk (s : State) : (bootStarts s).clk = s.clk := by
  unfold bootStarts
  split_ifs <;> rfl

/-- The clock has moved by the ticks of the command (log entry 1). -/
theorem found_clk (dt : Nat) (s : State) : (s.found dt).clk = s.clk + dt := by
  unfold State.found advance
  rw [bootStarts_clk]
  exact congrArg (· + dt) (elapse_clk dt s)

theorem runWaiting_none {s : State} (h : s.port.waiting = []) : runWaiting s = s := by
  unfold runWaiting
  rw [h]
  rfl

theorem step_empty {s : State} (h : s.pending = []) : step s = .next (settle (runWaiting (s.found 1))) := by
  unfold step
  rw [h]
  rfl

/-- Settles O2: the tick runs no command that waits, so that only the settling follows the passing of time. -/
theorem emptyQueueTicks : Obligations.EmptyQueueTicks := by
  unfold Obligations.EmptyQueueTicks
  intro s hp hw
  refine ⟨settle (s.found 1), ?_, (Keeps.refl [] [] _).settle, ?_, settle_guarded _⟩
  · rw [step_empty hp, runWaiting_none hw]
  · rw [settle_clk, found_clk]

end Sys2Proof.Machine
end

section
namespace Sys2Proof.Machine

/-! The holdover (R121, R122, R125). -/

theorem startHoldover_keeps (s : State) : Keeps [Obj.ringTimeStatus] [.time, .cells] s (startHoldover s) :=
  (keeps_mono (setTimeState_keeps 3 s) (by simp) (by simp)).trans (keeps_mono (timeUpdate_keeps [] (setTimeState 3 s) _) (by simp) (by simp))

/-- The settling adds to the conduction of the apertures, and leaves their flag of R121. -/
theorem settle_holdover (s : State) (h : ∀ x ∈ s.cells.apertures, x.holdover = true) : ∀ x ∈ (settle s).cells.apertures, x.holdover = true := by
  intro x hx
  obtain ⟨-, he⟩ := settle_same .cells s
  have hm : ({ x with conduct := 0 } : Aperture) ∈ s.cells.apertures.map (fun a => { a with conduct := 0 }) :=
    he ▸ List.mem_map_of_mem hx
  obtain ⟨a, ha, hax⟩ := List.mem_map.mp hm
  exact (congrArg Aperture.holdover hax).symm.trans (h a ha)

/-- On a node that is not head every aperture in progress is flagged from the start of a holdover on (R121). -/
theorem startHoldover_flags {s : State} (h : s.isHead = false) : ∀ x ∈ (startHoldover s).cells.apertures, x.holdover = true := by
  intro x hx
  obtain ⟨a, -, rfl⟩ := List.mem_map.mp hx
  show ((_ && _) || (unsynced 3 && !s.isHead)) = true
  rw [h]
  exact Bool.or_true _

@[simp] theorem settle_timeState (s : State) : (settle s).timeState = s.timeState := by simp [State.timeState]

theorem markSilence_runs (dt : Nat) (s : State) (h : (s.found dt).timeState = 2) :
    Completes (.markSilence dt) dt s [Obj.ringTimeStatus] [.time, .cells] (fun u t =>
      t.timeState = 3 ∧ t.time.holdStart = some u.clk ∧ (u.isHead = false → ∀ x ∈ t.cells.apertures, x.holdover = true)) := by
  have he : effMarkSilence (s.found dt) = startHoldover (s.found dt) := if_pos h
  refine completes_of rfl rfl ?_ (he ▸ startHoldover_keeps _)
  rw [he, settle_timeState, settle_time]
  exact ⟨setTimeState_timeState 3 _, rfl, fun hh => settle_holdover _ (startHoldover_flags hh)⟩

theorem holdoverLimit_runs (dt : Nat) (s : State) (h : (s.found dt).timeState = 3) (hs : (s.found dt).time.holdStart.isSome = true)
    (h0 : (s.found dt).faultOn 0x1B = false) (h3 : (s.found dt).get (faultObj Obj.faultSeverity 0x1B) ≠ 3) :
    Completes (.holdoverLimit dt) dt s (faultObjects 0x1B) faultBlocks (fun _ t => t.faultOn 0x1B = true) := by
  have he : effHoldoverLimit (s.found dt) = faultOccur 0x1B (s.found dt) := by
    unfold effHoldoverLimit
    rw [if_pos (by rw [h, hs]; rfl), faultFollow_raises h0]
  obtain ⟨hk, hf⟩ := faultOccur_mild h0 (by decide) h3 (by decide)
  refine completes_of rfl rfl ?_ (he ▸ hk)
  rw [he, settle_faultOn]
  exact hf

/-! The lane state at V (R382 to R386). -/

/-- The objects that a change of the lane state writes. -/
def laneObjects : List Nat := [Obj.laneService, Obj.singleLaneCount, Obj.requeuedSets]

theorem safe_keeps (ks : List Nat) (s : State) (x : SafetyEng) : Keeps ks [.safe] s { s with safe := x } :=
  ⟨fun _ _ => rfl, fun b hb => by cases b <;> simp_all [Block.same]⟩

theorem putLane_keeps (st : Nat) (s : State) : Keeps laneObjects [.ring, .safe] s (putLane st s) :=
  (keeps_set _ s (k := Obj.laneService) _ (by decide)).trans (keeps_mono (ringUpdate_keeps [] (s.setField Obj.laneService 0 2 st) _) (by simp) (by simp))

theorem retainSent_keeps (s : State) : Keeps laneObjects [.ring, .safe] s (retainSent s) := keeps_mono (ringUpdate_keeps [] s _) (by simp) (by simp)

theorem requeue_keeps (st : Nat) (s : State) : Keeps laneObjects [.ring, .safe] s (requeue st s) := by
  unfold requeue
  extract_lets l n t
  exact (keeps_set _ s _ (by decide)).trans (keeps_mono (ringUpdate_keeps [] t _) (by simp) (by simp))

/-- A change of the lane state: LaneService STATE is written, and the other bits of LaneService are left. -/
theorem setLaneState_keeps {st : Nat} (h : st < 4) (s : State) :
    Keeps laneObjects [.ring, .safe] s (setLaneState st s) ∧ (setLaneState st s).laneState = st ∧
      ∀ n, 2 ≤ n → bit ((setLaneState st s).get Obj.laneService) n = bit (s.get Obj.laneService) n := by
  unfold setLaneState
  by_cases h0 : s.laneState = st
  · rw [if_pos h0]
    exact ⟨Keeps.refl _ _ _, h0, fun _ _ => rfl⟩
  rw [if_neg h0]
  extract_lets t u x v w
  have ht : Keeps laneObjects [.ring, .safe] s t := keeps_ite _ (keeps_count _ s 16 (by decide)) (Keeps.refl _ _ _)
  have gt : t.get Obj.laneService = s.get Obj.laneService := by
    show (if s.laneState = 0 then s.count Obj.singleLaneCount 16 else s).get Obj.laneService = _
    split_ifs
    · exact State.get_count_ne _ _ (by decide)
    · rfl
  have hw : Keeps laneObjects [.ring, .safe] u w := (keeps_mono (safe_keeps [] u _) (by simp) (by simp)).trans (retainSent_keeps v)
  have gu : u.get Obj.laneService = setBits (s.get Obj.laneService) 0 2 st := gt ▸ State.get_setField_self t _ _ _ _
  have key : ∀ y : State, y.get Obj.laneService = u.get Obj.laneService →
      y.laneState = st ∧ ∀ n, 2 ≤ n → bit (y.get Obj.laneService) n = bit (s.get Obj.laneService) n := by
    intro y hy
    unfold State.laneState
    rw [hy, gu, bits_setBits]
    refine ⟨Nat.mod_eq_of_lt h, fun n hn => ?_⟩
    have := bits_setBits_above (s.get Obj.laneService) 0 2 st n 1 (by omega)
    simp only [bits, pow_one] at this
    simp only [bit, this]
  have hall : Keeps laneObjects [.ring, .safe] s w := ht.trans ((putLane_keeps st t).trans hw)
  have gr : (requeue st w).get Obj.laneService = w.get Obj.laneService := State.get_set_ne w _ (by decide)
  split_ifs
  · exact ⟨hall.trans (requeue_keeps st w), key _ gr⟩
  · exact ⟨hall, key w rfl⟩

theorem laneState_lt (s : State) : s.laneState < 4 := Nat.mod_lt _ (by decide)

theorem laneAtV_lt (s : State) (cw ccw : Bool) : laneAtV s cw ccw < 4 := by
  have := laneState_lt s
  unfold laneAtV
  split_ifs <;> omega

theorem missedMark_keeps (cw ccw : Bool) (s : State) : Keeps [Obj.ringTimeStatus] [.time, .cells] s (missedMark cw ccw s) := by
  unfold missedMark
  extract_lets mine other borne t u
  have ht : Keeps [Obj.ringTimeStatus] [.time, .cells] s t := keeps_ite _ (startHoldover_keeps s) (Keeps.refl _ _ _)
  have hu : Keeps [Obj.ringTimeStatus] [.time, .cells] t u := keeps_set _ t _ (by simp)
  exact keeps_ite _ (Keeps.refl _ _ _)
    (keeps_ite _ ((ht.trans hu).trans (keeps_mono (timeUpdate_keeps [] u _) (by simp) (by simp))) ht)

/-- The objects that a V writes. -/
def vObjects : List Nat := [Obj.laneService, Obj.singleLaneCount, Obj.requeuedSets, Obj.ringTimeStatus]

/-- The state once the copies of the last MARK are recorded: they show in LaneService, and the sets that one has carried are released (R385). -/
def copiesShown (s : State) : State :=
  let a := (s.setBitOf Obj.laneService 2 s.ring.markCw).setBitOf Obj.laneService 3 s.ring.markCcw
  { a with ring := { a.ring with slots := a.ring.slots.filter (fun x => !released s.ring.markCw s.ring.markCcw x) } }

theorem copiesShown_keeps (s : State) : Keeps laneObjects [.ring, .safe] s (copiesShown s) :=
  ((keeps_set _ s _ (by decide)).trans (keeps_set _ (s.setBitOf Obj.laneService 2 s.ring.markCw) _ (by decide))).trans
    (keeps_mono (ringUpdate_keeps [] _ _) (by simp) (by simp))

theorem copiesShown_laneService (s : State) : (copiesShown s).get Obj.laneService =
    setBits (setBits (s.get Obj.laneService) 2 1 (num s.ring.markCw)) 3 1 (num s.ring.markCcw) := by
  show ((s.setBitOf Obj.laneService 2 s.ring.markCw).setBitOf Obj.laneService 3 s.ring.markCcw).get Obj.laneService = _
  rw [State.get_setBitOf_self, State.get_setBitOf_self]

theorem copiesShown_copies (s : State) : bit ((copiesShown s).get Obj.laneService) 2 = s.ring.markCw ∧
    bit ((copiesShown s).get Obj.laneService) 3 = s.ring.markCcw := by
  rw [copiesShown_laneService]
  exact ⟨(bit_setBits_ne _ _ _ _ (by decide)).trans (bit_setBits_self _ _ _), bit_setBits_self _ _ _⟩

theorem copiesShown_laneState (s : State) : (copiesShown s).laneState = s.laneState := by
  unfold State.laneState
  rw [copiesShown_laneService, bits_setBits_below _ _ _ _ _ _ (by decide), bits_setBits_below _ _ _ _ _ _ (by decide)]

theorem copiesShown_serving (s : State) (p : Side) : (copiesShown s).serving p = s.serving p := by
  unfold State.serving
  rw [copiesShown_laneService]
  cases p <;> exact (bit_setBits_ne _ _ _ _ (by decide)).trans (bit_setBits_ne _ _ _ _ (by decide))

theorem copiesShown_laneAtV (s : State) (cw ccw : Bool) : laneAtV (copiesShown s) cw ccw = laneAtV s cw ccw := by
  have hc : (copiesShown s).clk = s.clk := rfl
  have hr : (copiesShown s).ring.stopAt = s.ring.stopAt ∧ (copiesShown s).ring.prevCw = s.ring.prevCw ∧
      (copiesShown s).ring.prevCcw = s.ring.prevCcw := ⟨rfl, rfl, rfl⟩
  unfold laneAtV
  rw [hc, hr.1, hr.2.1, hr.2.2, copiesShown_laneState, copiesShown_serving, copiesShown_serving]

theorem copiesShown_isHead (s : State) : (copiesShown s).isHead = s.isHead := by
  unfold State.isHead
  rw [(copiesShown_keeps s).get (by decide)]

/-- The lane state that a V leads to (R382, R384). -/
def laneAfterV (s : State) : Nat :=
  if s.isHead then (if s.ring.markCw && s.ring.markCcw && s.ring.prevCw && s.ring.prevCcw then 0 else 1)
  else laneAtV s s.ring.markCw s.ring.markCcw

theorem laneAfterV_lt (s : State) : laneAfterV s < 4 := by
  have := laneAtV_lt s s.ring.markCw s.ring.markCcw
  unfold laneAfterV
  split_ifs <;> omega

/-- The V at the head (R384, R388): in DUAL again it asks for a VERIFY where that closes a ring. -/
def headV (both : Bool) (s : State) : State :=
  let t := setLaneState (if both then 0 else 1) s
  let closed := s.laneState != 0 && (s.safe.leftDual.isSome || bits (s.get Obj.enumStatus) 24 8 = 1)
  if both && closed then { t with ring := { t.ring with enm := { t.ring.enm with due := some true } } } else t

/-- What follows the recording of the copies: the V at the head, or at another node, which notes what it has missed (R122). -/
def afterCopies (s : State) : State :=
  if (copiesShown s).isHead then headV (s.ring.markCw && s.ring.markCcw && s.ring.prevCw && s.ring.prevCcw) (copiesShown s)
  else missedMark s.ring.markCw s.ring.markCcw (setLaneState (laneAtV (copiesShown s) s.ring.markCw s.ring.markCcw) (copiesShown s))

theorem effLaneServiceEvaluation_eq {s : State} (h1 : s.on .rng = true) (h2 : s.address ≠ 0) :
    effLaneServiceEvaluation s = { afterCopies s with
      ring := { (afterCopies s).ring with prevCw := s.ring.markCw, prevCcw := s.ring.markCcw, markCw := false, markCcw := false }
      time := { (afterCopies s).time with selE := none, otherE := none } } := by
  have hi : (!s.on .rng || decide (s.address = 0)) = false := by simp [h1, h2]
  unfold effLaneServiceEvaluation
  rw [hi, if_neg Bool.false_ne_true]
  rfl

/-- The lane state is that of the V, at the head and at another node (R382, R384). -/
theorem afterCopies_keeps (s : State) :
    Keeps [Obj.ringTimeStatus] [.ring, .time, .cells] (setLaneState (laneAfterV s) (copiesShown s)) (afterCopies s) := by
  unfold afterCopies laneAfterV
  rw [copiesShown_isHead]
  split_ifs with hh hb
  · unfold headV
    rw [hb]
    exact keeps_ite _ (keeps_mono (ringUpdate_keeps [] (setLaneState 0 (copiesShown s)) _) (by simp) (by simp)) (Keeps.refl _ _ _)
  · unfold headV
    rw [Bool.eq_false_of_not_eq_true hb]
    exact Keeps.refl _ _ _
  · rw [← copiesShown_laneAtV]
    exact keeps_mono (missedMark_keeps _ _ _) (by simp) (by simp)

theorem laneServiceEvaluation_runs (dt : Nat) (s : State) (h1 : (s.found dt).on .rng = true) (h2 : (s.found dt).address ≠ 0) :
    Completes (.laneServiceEvaluation dt) dt s vObjects [.ring, .safe, .time, .cells] (fun u t =>
      t.laneState = laneAfterV u ∧ bit (t.get Obj.laneService) 2 = u.ring.markCw ∧ bit (t.get Obj.laneService) 3 = u.ring.markCcw ∧
        t.ring.prevCw = u.ring.markCw ∧ t.ring.prevCcw = u.ring.markCcw ∧ t.ring.markCw = false ∧ t.ring.markCcw = false) := by
  generalize hu : s.found dt = u at *
  have he := effLaneServiceEvaluation_eq h1 h2
  have hc := afterCopies_keeps u
  obtain ⟨hk, hl, hb⟩ := setLaneState_keeps (laneAfterV_lt u) (copiesShown u)
  obtain ⟨b2, b3⟩ := copiesShown_copies u
  have hg : (effLaneServiceEvaluation u).get Obj.laneService = (setLaneState (laneAfterV u) (copiesShown u)).get Obj.laneService := by
    rw [he]
    exact hc.get (by decide)
  have hall : Keeps vObjects [.ring, .safe, .time, .cells] u (effLaneServiceEvaluation u) := by
    have h0 := keeps_mono ((copiesShown_keeps u).trans hk) (js := vObjects) (cs := [.ring, .safe, .time, .cells]) (by decide) (by decide)
    refine (h0.trans (keeps_mono hc (by decide) (by decide))).trans (he ▸ ?_)
    exact ⟨fun _ _ => rfl, fun b hb => by cases b <;> simp_all [Block.same]⟩
  refine completes_of rfl rfl ?_ (hu.symm ▸ hall)
  rw [hu, settle_get]
  unfold State.laneState at hl ⊢
  rw [settle_get, hg]
  refine ⟨hl, (hb 2 (by decide)).trans b2, (hb 3 (by decide)).trans b3, ?_⟩
  rw [settle_ring_prevCw, settle_ring_prevCcw, settle_ring_markCw, settle_ring_markCcw, he]
  exact ⟨rfl, rfl, rfl, rfl⟩

/-! The edges of SYNC at the head (R129, R131). -/

/-- The objects that an edge writes. -/
def syncObjects : List Nat := [Obj.syncStatus, Obj.syncPeriod]

theorem syncOn_congr {s t : State} (h : Keeps syncObjects [.time] s t) : syncOn t = syncOn s := by
  have hp : t.plan = s.plan := h.2 .plan (by decide)
  unfold syncOn State.on State.isHead State.tracks State.active
  rw [hp, h.get (by decide), h.get (by decide)]

theorem syncState_congr {s t : State} (h : Keeps syncObjects [.time] s t) (hg : t.get Obj.syncStatus = s.get Obj.syncStatus) :
    t.syncState = s.syncState := by
  unfold State.syncState
  rw [syncOn_congr h, hg]

theorem settle_syncOn (s : State) : syncOn (settle s) = syncOn s := by
  unfold syncOn State.tracks State.active State.isHead
  rw [settle_on, settle_plan, settle_get]

@[simp] theorem settle_syncState (s : State) : (settle s).syncState = s.syncState := by
  unfold State.syncState
  rw [settle_syncOn, settle_get]

/-- SyncStatus shows what is written while SYNC is taken in (R131). -/
theorem syncState_set {s : State} (h : syncOn s = true) {v : Nat} (hv : v < 4) : (s.set Obj.syncStatus v).syncState = v := by
  unfold State.syncState
  rw [syncOn_congr (keeps_set _ s v (by decide)), h, if_pos rfl, State.get_set_self]
  unfold bits
  omega

/-- An edge missed: the third in a row loses the track. -/
theorem edgeMissed_keeps {s : State} (h : syncOn s = true) :
    Keeps [Obj.syncStatus] [.time] s (edgeMissed s) ∧ (edgeMissed s).time.edgeRun = 0 ∧
      (edgeMissed s).time.missRun = min 3 (s.time.missRun + 1) ∧
      (edgeMissed s).syncState = if 2 ≤ s.time.missRun ∧ (s.syncState = 1 ∨ s.syncState = 2) then 3 else s.syncState := by
  unfold edgeMissed
  extract_lets n m t
  have ht : Keeps [Obj.syncStatus] [.time] s t := timeUpdate_keeps _ s _
  have ho : syncOn t = true := (syncOn_congr (keeps_mono ht (by decide) (by simp))).trans h
  have hs : t.syncState = s.syncState := syncState_congr (keeps_mono ht (by decide) (by simp)) rfl
  have hc : (decide (3 ≤ n) && (decide (s.syncState = 1) || decide (s.syncState = 2))) = true ↔
      2 ≤ s.time.missRun ∧ (s.syncState = 1 ∨ s.syncState = 2) := by
    simp only [Bool.and_eq_true, Bool.or_eq_true, decide_eq_true_eq]
    exact and_congr_left' Nat.succ_le_succ_iff
  by_cases hx : 2 ≤ s.time.missRun ∧ (s.syncState = 1 ∨ s.syncState = 2)
  · rw [if_pos (hc.mpr hx), if_pos hx]
    exact ⟨ht.trans (keeps_set _ t 3 (by simp)), rfl, rfl, syncState_set ho (by decide)⟩
  · rw [if_neg (fun y => hx (hc.mp y)), if_neg hx]
    exact ⟨ht, rfl, rfl, hs⟩

theorem syncEdgeMissing_runs (dt : Nat) (s : State) (h : syncOn (s.found dt) = true) :
    Completes (.syncEdgeMissing dt) dt s [Obj.syncStatus] [.time] (fun u t =>
      t.time.edgeRun = 0 ∧ t.time.missRun = min 3 (u.time.missRun + 1) ∧
        t.syncState = if 2 ≤ u.time.missRun ∧ (u.syncState = 1 ∨ u.syncState = 2) then 3 else u.syncState) := by
  have he : effSyncEdgeMissing (s.found dt) = edgeMissed (s.found dt) := if_pos h
  obtain ⟨hk, hr⟩ := edgeMissed_keeps h
  refine completes_of rfl rfl ?_ (he ▸ hk)
  rw [he, settle_time, settle_syncState]
  exact hr

/-- The first edge leads from inactive to ACQUIRING (log entry 136). -/
def acquires (s : State) : State := if s.syncState = 0 then s.set Obj.syncStatus 1 else s

theorem acquires_keeps (s : State) : Keeps [Obj.syncStatus] [.time] s (acquires s) :=
  keeps_ite _ (keeps_set _ s 1 (by simp)) (Keeps.refl _ _ _)

theorem acquires_time (s : State) : (acquires s).time = s.time := by
  unfold acquires
  split_ifs <;> rfl

theorem acquires_syncState {s : State} (h : syncOn s = true) : (acquires s).syncState = if s.syncState = 0 then 1 else s.syncState := by
  unfold acquires
  split_ifs
  · exact syncState_set h (by decide)
  · rfl

theorem acquires_edgeFits (s : State) (d : Nat) : edgeFits (acquires s) d = edgeFits s d := by
  have hp : (acquires s).plan = s.plan := (acquires_keeps s).2 .plan (by decide)
  unfold edgeFits State.planLc State.active
  rw [hp, (acquires_keeps s).get (by decide)]

/-- An edge that does not fit: it is missed, and outside TRACKING it is the new reference. -/
def misfit (t : State) : State :=
  let u := edgeMissed t
  if u.syncState = 2 then u else { u with time := { u.time with edgeAt := some u.ringTime, edges := [] } }

section
variable {s : State} {rising : Bool} (h : syncOn s = true) (hp : (bits (s.get Obj.syncConfig) 0 1 == 0) = rising)
include h hp

/-- An edge of the selected polarity while SYNC is taken in (R129). -/
theorem effSyncEdge_taken : effSyncEdge rising s =
    (match (acquires s).time.edgeAt with
     | none => { acquires s with time := { (acquires s).time with edgeAt := some (acquires s).ringTime } }
     | some e =>
       if edgeFits (acquires s) (since48 (acquires s).ringTime e) then edgeAccepted (since48 (acquires s).ringTime e) (acquires s)
       else misfit (acquires s)) := by
  unfold effSyncEdge
  rw [h, hp, bne_self_eq_false, Bool.not_true, Bool.or_false, if_neg Bool.false_ne_true]
  rfl

theorem effSyncEdge_first (he : s.time.edgeAt = none) :
    effSyncEdge rising s = { acquires s with time := { s.time with edgeAt := some s.ringTime } } := by
  have hr : (acquires s).ringTime = s.ringTime := (acquires_keeps s).2 .ringTime (by decide)
  rw [effSyncEdge_taken h hp, acquires_time, he, hr]

theorem effSyncEdge_judged {e : Nat} (he : s.time.edgeAt = some e) :
    effSyncEdge rising s =
      if edgeFits s (since48 s.ringTime e) then edgeAccepted (since48 s.ringTime e) (acquires s) else misfit (acquires s) := by
  have hr : (acquires s).ringTime = s.ringTime := (acquires_keeps s).2 .ringTime (by decide)
  rw [effSyncEdge_taken h hp, acquires_time, he, hr]
  dsimp only
  rw [acquires_edgeFits]

end

theorem syncEdge_first (dt : Nat) (rising : Bool) (s : State) (h : syncOn (s.found dt) = true)
    (hp : (bits ((s.found dt).get Obj.syncConfig) 0 1 == 0) = rising) (he : (s.found dt).time.edgeAt = none) :
    Completes (.syncEdge dt rising) dt s [Obj.syncStatus] [.time] (fun u t =>
      t.time.edgeAt = some u.ringTime ∧ t.syncState = if u.syncState = 0 then 1 else u.syncState) := by
  generalize hu : s.found dt = u at *
  have hf := effSyncEdge_first h hp he
  have hk : Keeps [Obj.syncStatus] [.time] (acquires u) (effSyncEdge rising u) := hf ▸ timeUpdate_keeps _ (acquires u) _
  have hs : (effSyncEdge rising u).syncState = (acquires u).syncState := by
    refine syncState_congr (keeps_mono hk (by decide) (by simp)) ?_
    rw [hf]
    rfl
  refine completes_of rfl rfl ?_ (hu.symm ▸ (acquires_keeps u).trans hk)
  rw [hu, settle_time, settle_syncState, hs, acquires_syncState h, hf]
  exact ⟨rfl, rfl⟩

/-- An accepted edge (R129, R131). -/
theorem edgeAccepted_keeps {s : State} (h : syncOn s = true) (d : Nat) :
    Keeps syncObjects [.time] s (edgeAccepted d s) ∧ (edgeAccepted d s).time.edges = (d :: s.time.edges).take 16 ∧
      (edgeAccepted d s).time.edgeAt = some s.ringTime ∧
      (edgeAccepted d s).get Obj.syncPeriod =
        roundNat (((d :: s.time.edges).take 16).sum * 16) ((d :: s.time.edges).take 16).length % 2 ^ 32 ∧
      (7 ≤ s.time.edgeRun → (edgeAccepted d s).syncState = 2) := by
  unfold edgeAccepted
  extract_lets n l phi t u
  have hu : Keeps syncObjects [.time] s u := (timeUpdate_keeps _ s _).trans (keeps_set _ t _ (by decide))
  have hp : u.get Obj.syncPeriod = roundNat (l.sum * 16) l.length % 2 ^ 32 := State.get_set_self t _ _
  split_ifs with hn
  · refine ⟨hu.trans (keeps_set _ u 2 (by decide)), rfl, rfl, (State.get_set_ne u _ (by decide)).trans hp, fun _ => ?_⟩
    exact syncState_set ((syncOn_congr hu).trans h) (by decide)
  · exact ⟨hu, rfl, rfl, hp, fun h7 => absurd (le_min (le_refl 8) (Nat.succ_le_succ h7)) hn⟩

/-- An edge that does not fit breaks the run of those that do, and the third in a row loses the track (R129). -/
theorem misfit_keeps {s : State} (h : syncOn s = true) :
    Keeps [Obj.syncStatus] [.time] s (misfit s) ∧ (misfit s).time.edgeRun = 0 ∧
      (s.syncState = 2 → 2 ≤ s.time.missRun → (misfit s).syncState = 3) := by
  obtain ⟨hk, hr, -, hs⟩ := edgeMissed_keeps h
  unfold misfit
  extract_lets u
  have hu : u.syncState = if 2 ≤ s.time.missRun ∧ (s.syncState = 1 ∨ s.syncState = 2) then 3 else s.syncState := hs
  split_ifs with h2
  · refine ⟨hk, hr, fun a b => ?_⟩
    rw [if_pos ⟨b, .inr a⟩] at hu
    exact absurd (hu.symm.trans h2) (by decide)
  · have ht : Keeps [Obj.syncStatus] [.time] u { u with time := { u.time with edgeAt := some u.ringTime, edges := [] } } :=
      timeUpdate_keeps _ u _
    refine ⟨hk.trans ht, hr, fun a b => ?_⟩
    rw [if_pos ⟨b, .inr a⟩] at hu
    exact (syncState_congr (keeps_mono ht (by decide) (by simp)) rfl).trans hu

theorem syncEdge_judged (dt e : Nat) (rising : Bool) (s : State) (h : syncOn (s.found dt) = true)
    (hp : (bits ((s.found dt).get Obj.syncConfig) 0 1 == 0) = rising) (he : (s.found dt).time.edgeAt = some e) :
    Completes (.syncEdge dt rising) dt s syncObjects [.time] (fun u t =>
      let d := since48 u.ringTime e
      let l := (d :: u.time.edges).take 16
      if edgeFits u d then
        t.time.edges = l ∧ t.time.edgeAt = some u.ringTime ∧ t.get Obj.syncPeriod = roundNat (l.sum * 16) l.length % 2 ^ 32 ∧
          (7 ≤ u.time.edgeRun → t.syncState = 2)
      else t.time.edgeRun = 0 ∧ (u.syncState = 2 → 2 ≤ u.time.missRun → t.syncState = 3)) := by
  generalize hu : s.found dt = u at *
  have hf := effSyncEdge_judged h hp he
  have hq := acquires_keeps u
  have ha : Keeps syncObjects [.time] u (acquires u) := keeps_mono hq (by decide) (by simp)
  have ho : syncOn (acquires u) = true := (syncOn_congr ha).trans h
  have hr : (acquires u).ringTime = u.ringTime := ha.2 .ringTime (by decide)
  have ht := acquires_time u
  by_cases hx : edgeFits u (since48 u.ringTime e) = true
  · rw [if_pos hx] at hf
    obtain ⟨hk, h1, h2, h3, h4⟩ := edgeAccepted_keeps ho (since48 u.ringTime e)
    rw [ht] at h1 h3 h4
    rw [hr] at h2
    refine completes_of rfl rfl ?_ (hu.symm ▸ hf ▸ ha.trans hk)
    dsimp only
    rw [hu, if_pos hx, settle_time, settle_get, settle_syncState, hf]
    exact ⟨h1, h2, h3, h4⟩
  · rw [if_neg hx] at hf
    obtain ⟨hk, h1, h2⟩ := misfit_keeps ho
    refine completes_of rfl rfl ?_ (hu.symm ▸ hf ▸ ha.trans (keeps_mono hk (by decide) (by simp)))
    dsimp only
    rw [hu, if_neg hx, settle_time, settle_syncState, hf]
    rw [ht, acquires_syncState h] at h2
    refine ⟨h1, fun a => h2 ?_⟩
    rw [a]
    rfl

theorem syncEdge_none {s : State} {rising : Bool} (h : syncOn s = false ∨ (bits (s.get Obj.syncConfig) 0 1 == 0) ≠ rising) :
    effSyncEdge rising s = s := by
  rcases h with h | h
  · exact syncEdge_idle rising h
  · unfold effSyncEdge
    rw [bne_iff_ne.mpr h, Bool.or_true, if_pos rfl]

/-- Settles O46: the holdover and its limit, the lane state at V, and the edges of SYNC: the first one, one judged by its interval, one that is
missing, one that is none. -/
theorem ringTimeEventsRun : Obligations.RingTimeEventsRun := by
  unfold Obligations.RingTimeEventsRun
  exact ⟨markSilence_runs, holdoverLimit_runs, laneServiceEvaluation_runs, syncEdge_first, syncEdge_judged, syncEdgeMissing_runs,
    fun dt rising s h => completes_idle rfl rfl (syncEdge_none h)⟩

end Sys2Proof.Machine
end

section
namespace Sys2Proof.Machine

/-! The staged writes wait for their boundary: no action of a plan, of a mode or of a source takes them (R21). -/

/-- The staged writes wait as they did. -/
structure Untaken (s t : State) : Prop where
  staged : t.staged = s.staged

theorem Untaken.refl (s : State) : Untaken s s := ⟨rfl⟩

theorem Untaken.trans {s t u : State} (h : Untaken s t) (g : Untaken t u) : Untaken s u := ⟨g.staged.trans h.staged⟩

/-- An update of anything but the staged writes. -/
theorem Untaken.after {s t : State} (h : Untaken s t) {pending clk ringTime freeCtr objs latest notifyQ port mode time cells cur aux facet plan bal
    loupe xfer ring safe flt check test nvm} : Untaken s ⟨pending, clk, ringTime, freeCtr, objs, latest, t.staged, notifyQ, port, mode, time,
      cells, cur, aux, facet, plan, bal, loupe, xfer, ring, safe, flt, check, test, nvm⟩ := ⟨h.staged⟩

theorem Untaken.set (s : State) (k v : Nat) : Untaken s (s.set k v) := ⟨rfl⟩

theorem Untaken.ite {s t u : State} {p : Prop} [Decidable p] (h : Untaken s t) (g : Untaken s u) : Untaken s (if p then t else u) := by
  split_ifs
  · exact h
  · exact g

theorem Untaken.foldl {α : Type} {f : State → α → State} {s t : State} {l : List α} (h : Untaken s t) (hf : ∀ s x, Untaken s (f s x)) :
    Untaken s (l.foldl f t) := by
  induction l generalizing t with
  | nil => exact h
  | cons x l ih => exact ih (h.trans (hf t x))

theorem Keeps.untaken {ks : List Nat} {bs : List Block} {s t : State} (h : Keeps ks bs s t) (hb : Block.staged ∉ bs) : Untaken s t :=
  ⟨h.2 .staged hb⟩

theorem closeOutputs_untaken (s : State) : Untaken s (closeOutputs s) := by
  have h1 : Untaken s (stopExcitation s) := .trans (.after (.after (.refl s))) (.ite (.set _ _ _) (.refl _))
  have h2 : ∀ t, Untaken t (restStage t) := fun t => .ite (.after (.trans (.trans (.set t _ _) (.set _ _ _)) (.set _ _ _))) (.refl t)
  exact (h1.trans (h2 _)).after

theorem setChannel_untaken (n c : Nat) (s : State) : Untaken s (setChannel n c s) := .ite (.set _ _ _) (.trans (.set _ _ _) (.set _ _ _))

theorem setSp_untaken (k : Nat) (e : SpareEng) (s : State) : Untaken s (s.setSp k e) := .ite (.after (.refl s)) (.after (.refl s))

theorem armSpare_untaken (k n : Nat) (b : Bool) (s : State) : Untaken s (armSpare k n b s) := .trans (.set s _ _) (setSp_untaken _ _ _)

theorem freeSpare_untaken (k : Nat) (s : State) : Untaken s (freeSpare k s) := .trans (.set s _ _) (setSp_untaken _ _ _)

theorem keep_untaken (k v : Nat) (s : State) : Untaken s (s.keep k v) := keep_eq k v s ▸ .after (.set s k v)

theorem coverHere_untaken (k n : Nat) (s : State) : Untaken s (coverHere k n s) := by
  unfold coverHere
  dsimp only
  refine .after (.trans ?_ (setSp_untaken _ _ _))
  exact .trans (.trans (.set s _ _) (setChannel_untaken _ _ _)) (keep_untaken _ _ _)

theorem handBack_untaken (k : Nat) (s : State) : Untaken s (handBack k s) := by
  unfold handBack
  dsimp only
  split_ifs
  · exact .refl s
  · exact coverHere_untaken _ _ _
  · exact .trans (armSpare_untaken _ _ _ _) (setSp_untaken _ _ _)
  · exact setSp_untaken _ _ _

theorem sliceResult_untaken (k n r : Nat) (b : Bool) (s : State) : Untaken s (sliceResult k n r b s) := by
  unfold sliceResult
  refine .trans ?_ (.ite (.set _ _ _) (.ite (.set _ _ _) (.refl _)))
  exact .ite (.trans (.set _ _ _) (.set _ _ _)) (.set _ _ _)

theorem sliceRelease_untaken (x : Slice) (s : State) : Untaken s (sliceRelease x s) := by
  unfold sliceRelease
  refine .trans ?_ (.ite (handBack_untaken _ _) (.refl _))
  refine .trans ?_ (.ite (.after (.refl _)) (.refl _))
  exact .ite (.after (.after (.refl s))) (.refl s)

theorem abortSlices_untaken (p : Slice → Bool) (s : State) : Untaken s (abortSlices p s) :=
  .foldl (.after (.refl s)) (fun t x => .trans (.ite (.refl t) (sliceResult_untaken _ _ _ _ t)) (sliceRelease_untaken x _))

theorem retireChannel_untaken (n : Nat) (s : State) : Untaken s (retireChannel n s) := by
  unfold retireChannel
  dsimp only
  split
  · exact .after (.trans (.foldl (.after (.refl s)) (fun t x => sliceResult_untaken _ _ _ _ t)) (setSp_untaken _ _ _))
  · split
    · exact .after (.trans (abortSlices_untaken _ s) (armSpare_untaken _ _ _ _))
    · exact .after (setSp_untaken _ _ s)
    · exact .trans (.after (.refl s)) (setChannel_untaken _ _ _)

theorem restoreCovers_untaken (s : State) : Untaken s (restoreCovers s) :=
  .ite (.refl s) (.foldl (.refl s) (fun t _ => .ite (retireChannel_untaken _ t) (.refl t)))

theorem releaseSpare_untaken (k n : Nat) (s : State) : Untaken s (releaseSpare k n s) :=
  .ite (armSpare_untaken _ _ _ s) (.trans (freeSpare_untaken _ s) (setSp_untaken _ _ _))

theorem applyCellCount_untaken (s : State) : Untaken s (applyCellCount s) := by
  unfold applyCellCount
  refine .trans ?_ (restoreCovers_untaken _)
  refine .after (.foldl (.foldl (.after (.refl s)) ?_) ?_)
  · exact fun t k => .ite (releaseSpare_untaken _ _ t) (.refl t)
  · exact fun t i => .trans (setChannel_untaken _ _ t) (.set _ _ _)

theorem mirrorCodes_untaken (s : State) : Untaken s (mirrorCodes s) := .after (.trans (.set s _ _) (.set _ _ _))

theorem planEnds_untaken (s : State) : Untaken s (closeOutputs (abortSlices (fun _ => true) (newWindow s))) :=
  .trans (.trans (.after (.refl s)) (abortSlices_untaken _ _)) (closeOutputs_untaken _)

theorem startRom_untaken (s : State) : Untaken s (startRom s) := by
  refine .after (.after (.trans (.trans (.trans ?_ (.set _ _ _)) (.set _ _ _)) (.set _ _ _)))
  exact .trans (.trans (planEnds_untaken s) (applyCellCount_untaken _)) (mirrorCodes_untaken _)

theorem planForMode_untaken (m : Nat) (s : State) : Untaken s (planForMode m s) := by
  unfold planForMode
  have hr : Untaken s (if s.plan.running = RunningPlan.none then startRom s else s) := .ite (startRom_untaken s) (.refl s)
  have hh : Untaken s (haltPlan s) := .after (.after (planEnds_untaken s))
  exact .ite (.ite (.refl s) (.ite (.after hr) (.ite (.after hr) hr))) (.ite hh (.ite (.after (.refl s)) (startRom_untaken s)))

theorem event_untaken (a b : Nat) (s : State) : Untaken s (event a b s) := (event_keeps a b s).untaken (by decide)

theorem changeMode_untaken (m c : Nat) (s : State) : Untaken s (changeMode m c s) := by
  unfold changeMode
  refine .trans (.trans (.after (.trans ?_ (abortSlices_untaken _ _))) (planForMode_untaken _ _)) (event_untaken _ _ _)
  refine .trans (.trans ?_ (.ite (.after (.set _ _ _)) (.refl _))) (.ite (.trans (.after (.set _ _ _)) (.set _ _ _)) (.refl _))
  refine .trans (.trans (.trans (.trans ?_ (.set _ _ _)) (.set _ _ _)) (.set _ _ _)) (.set _ _ _)
  exact .ite (.after (.trans (abortSlices_untaken _ s) (.set _ _ _))) (.refl s)

theorem overtake_untaken (s : State) : Untaken s (overtake s) := by
  unfold overtake
  split
  · exact .refl s
  · exact .trans (.after (.refl s)) (.set _ _ _)

theorem endTransfer_untaken (n : Nat) (s : State) : Untaken s (endTransfer n s) := by
  have ha : Untaken s (alsoEnds n s) := by
    unfold alsoEnds
    split
    · exact .ite (.after (.refl s)) (.refl s)
    · exact .refl s
  refine .ite ha (.after (.trans (.after ?_) (.set _ _ _)))
  exact .trans (.trans (.trans (.set s _ _) (.set _ _ _)) (.set _ _ _)) (.set _ _ _)

theorem loupeEndPoint_untaken (c : Nat) (s : State) : Untaken s (loupeEndPoint c s) := by
  have hf : ∀ p, Untaken s (loupeFinish p c s) := fun p =>
    .ite (.trans (.set _ _ _) (.set _ _ _)) (.foldl (.trans (.set _ _ _) (.set _ _ _)) (fun t i => .trans (.set t _ _) (.set _ _ _)))
  unfold loupeEndPoint
  split
  · exact .refl s
  · exact .after (.after (.trans (hf _) (.ite (.set _ _ _) (.refl _))))

theorem endLoupe_untaken (s : State) : Untaken s (endLoupe s) :=
  .ite (.refl s) (.after (.trans (.trans (loupeEndPoint_untaken 2 s) (.set _ _ _)) (.ite (.after (.set _ _ _)) (.refl _))))

theorem enterSafe_untaken (s : State) : Untaken s (enterSafe s) :=
  .ite (.after (.trans (.trans (.trans (endTransfer_untaken 5 s) (endLoupe_untaken _)) (changeMode_untaken _ _ _)) (overtake_untaken _))) (.refl s)

theorem faultOccur_untaken {c : Nat} (hr : Registers c) (s : State) : Untaken s (faultOccur c s) := by
  obtain ⟨f, k, -, e | ⟨g, e, -⟩⟩ := faultOccur_either s hr
  · exact e ▸ k.untaken (by decide)
  · exact e ▸ .after (.trans (k.untaken (by decide)) (enterSafe_untaken f))

theorem faultFollow_untaken {c : Nat} (hr : Registers c) (b : Bool) (s : State) : Untaken s (faultFollow c b s) :=
  .ite (.ite (.refl s) (faultOccur_untaken hr s)) (.ite (.after (.refl s)) (.refl s))

end Sys2Proof.Machine
end

section
namespace Sys2Proof.Machine

/-! What the evaluations of a boundary touch: results, spares, channels, records and sources (R152, R426, R446, R491). -/

/-- The objects that the cycle of a plan is read by, and a staged one. -/
def boundaryReads : List Nat :=
  [Obj.cycleStart, Obj.cycleCount, Obj.planSkipCount, Obj.ringRole, Obj.supervisorState, Obj.modeStatus, Obj.cellOvThreshold]

/-- The sources that the evaluations of a boundary may set: 08h, 20h, 27h and 2Bh. -/
def boundarySources : List Nat := [8, 0x20, 0x27, 0x2B]

/-- A property that the evaluations of a boundary cannot end: it holds on after a write of another object, after an update of their blocks, and
after the setting of their sources, which may lead to SAFE. -/
structure Endures (P : State → Prop) : Prop where
  set : ∀ {s k} (v : Nat), k ∉ boundaryReads → P s → P (s.set k v)
  blocks : ∀ {s} n c x f m, P s → P { s with freeCtr := n, cells := c, safe := x, flt := f, nvm := m }
  occur : ∀ {s c}, c ∈ boundarySources → P s → P (faultOccur c s)

/-- An object of the channels and the spares, or one above those of the plan, is none of those read. -/
theorem notRead_of_range {k : Nat} (h : (0x041000 ≤ k ∧ k < 0x045000) ∨ 0x0C0000 ≤ k) : k ∉ boundaryReads := by
  simp only [boundaryReads, Obj.cycleStart, Obj.cycleCount, Obj.planSkipCount, Obj.ringRole, Obj.supervisorState, Obj.modeStatus,
    Obj.cellOvThreshold, List.mem_cons, List.not_mem_nil, or_false]
  omega

theorem coveredBy_le {s : State} {n k : Nat} (h : s.coveredBy n = some k) : k ≤ 2 := by
  have hk := List.mem_of_find?_eq_some h
  fin_cases hk <;> decide

theorem bits_lt (v lo w : Nat) : bits v lo w < 2 ^ w := Nat.mod_lt _ (by positivity)

section
variable {P : State → Prop} (h : Endures P) {s : State}
include h

theorem Endures.follow {c : Nat} (hc : c ∈ boundarySources) (b : Bool) (hs : P s) : P (faultFollow c b s) :=
  iteInduction (fun _ => iteInduction (fun _ => hs) (fun _ => h.occur hc hs)) (fun _ => iteInduction (fun _ => h.blocks _ _ _ _ _ hs) (fun _ => hs))

theorem Endures.margins (hs : P s) : P (margins s) := by
  have ht : P (s.setField Obj.marginStatus 0 40 (ofLe s.marginList)) := h.set _ (by decide) hs
  exact iteInduction (fun _ => h.follow (by decide) _ ht) (fun _ => iteInduction (fun _ => ht) (fun _ => h.occur (by decide) (h.set _ (by decide) ht)))

theorem Endures.marginsFollow (hs : P s) : P (marginsFollow s) := iteInduction (fun _ => hs) (fun _ => h.margins hs)

/-! Table words (R446, R496). -/

theorem Endures.slotFault (kind addr : Nat) (hs : P s) : P (slotFault kind addr s) := h.occur (by decide) (h.set _ (by decide) hs)

theorem Endures.readEnds (ok again : Bool) (addr : Nat) (hs : P s) : P (readEnds ok again addr s) :=
  iteInduction (fun _ => hs) (fun _ => iteInduction (fun _ => h.set _ (by decide) hs) (fun _ => h.slotFault 1 addr hs))

theorem Endures.scrubWord (x : TableWord) (hs : P s) : P (scrubWord x s) := by
  unfold Machine.scrubWord
  extract_lets l c t
  have ht : P t := h.blocks _ _ _ _ _ (h.slotFault 1 _ hs)
  refine iteInduction (fun _ => h.readEnds _ _ _ (h.set _ (by decide) (h.blocks _ _ _ _ _ hs))) (fun _ => ?_)
  exact h.set _ (by decide) (h.set _ (by decide) (h.blocks _ _ _ _ _ ht))

theorem Endures.scrubWords (words : List TableWord) (hs : P s) : P (scrubWords words s) :=
  iteInduction (fun _ => hs) (fun _ => h.follow (by decide) _ (List.foldlRecOn words _ hs (fun _ ht x _ => h.scrubWord x ht)))

/-! Spares that go back (R150, R152, R154). -/

theorem Endures.setSp (k : Nat) (e : SpareEng) (hs : P s) : P (s.setSp k e) :=
  iteInduction (fun _ => h.blocks _ _ _ _ _ hs) (fun _ => h.blocks _ _ _ _ _ hs)

theorem Endures.setSpare {k : Nat} (hk : k ≤ 2) (v : Nat) (hs : P s) : P (s.set (Obj.spareState + k) v) :=
  h.set v (notRead_of_range (.inl (by simp only [Obj.spareState]; omega))) hs

theorem Endures.setChannel {n : Nat} (hn : n < 256) (c : Nat) (hs : P s) : P (setChannel n c s) := by
  have ht : P (s.set (Obj.channelState + n) c) := h.set c (notRead_of_range (.inl (by simp only [Obj.channelState]; omega))) hs
  exact iteInduction (fun _ => ht) (fun _ => h.set _ (notRead_of_range (.inl (by simp only [Obj.shadowResult]; omega))) ht)

theorem Endures.keep {k : Nat} (hk : k ∉ boundaryReads) (v : Nat) (hs : P s) : P (s.keep k v) := by
  rw [keep_eq]
  exact h.blocks _ _ _ _ _ (h.set v hk hs)

theorem Endures.coverHere {k n : Nat} (hk : k ≤ 2) (hn : n < 256) (hs : P s) : P (coverHere k n s) := by
  unfold Machine.coverHere
  extract_lets o t u
  have ht : P t := h.keep (by decide) _ (h.setChannel hn 2 (h.setSpare hk _ hs))
  exact h.blocks _ _ _ _ _ (h.setSp _ _ ht)

theorem Endures.handBack {k : Nat} (hk : k ≤ 2) (hs : P s) : P (handBack k s) := by
  unfold Machine.handBack
  extract_lets e n t
  have ht : P t := h.setSp _ _ (h.setSpare hk _ hs)
  have hn : n < 256 := bits_lt _ 8 8
  exact iteInduction (fun _ => hs) (fun _ => iteInduction (fun _ => h.coverHere hk hn hs)
    (fun _ => iteInduction (fun _ => h.setSp _ _ ht) (fun _ => h.setSp _ _ hs)))

theorem Endures.reinstateAll (hs : P s) : P (reinstateAll s) := by
  refine h.blocks _ _ _ _ _ (List.foldlRecOn _ _ hs (fun t ht i _ => ?_))
  split
  · rename_i k hk
    exact h.handBack (coveredBy_le hk) ht
  · exact ht

/-! The comparison of the safety records (R426, R427). -/

theorem Endures.compareNode (k : Nat) {a : Nat} (ha : a < 63) (hs : P s) : P (compareNode k a s) := by
  unfold Machine.compareNode
  extract_lets n l o good key old count alive t x u
  have ht : P t := h.set _ (notRead_of_range (.inr (by simp only [key, Obj.safeNodeStatus]; omega))) hs
  have hu : P u := iteInduction (fun _ => h.blocks _ _ _ _ _ ht) (fun _ => ht)
  exact iteInduction (fun _ => h.occur (by decide) (iteInduction (fun _ => hu) (fun _ => h.set _ (by decide) hu))) (fun _ => hu)

theorem Endures.compareSafety (k : Nat) (hs : P s) : P (compareSafety k s) := by
  unfold Machine.compareSafety
  refine iteInduction (fun _ => hs) (fun _ => ?_)
  extract_lets as t u
  have ha : ∀ a ∈ as, a < 63 := fun a hm => by
    simp only [as, bitList, List.mem_filter, List.mem_range] at hm
    exact hm.1.1
  have ht : P t := List.foldlRecOn as _ hs (fun _ hx a hm => h.compareNode k (ha a hm) hx)
  have hu : P u := iteInduction (fun _ => h.follow (by decide) false ht) (fun _ => ht)
  exact h.blocks _ _ _ _ _ hu

end

end Sys2Proof.Machine
end

section
namespace Sys2Proof.Machine

/-! The course of a bank that stays in MEASURE, or goes to SAFE: the cycle is as it was (R94, R126, R264). -/

/-- The objects that the cycle of a bank is read by. -/
def courseObjects : List Nat := [Obj.cycleStart, Obj.cycleCount, Obj.planSkipCount, Obj.ringRole, Obj.supervisorState]

/-- A bank runs as in a state before: with the same cycle, nothing staged, and no transition due. -/
structure Runs (u s : State) : Prop where
  running : s.plan.running = RunningPlan.bank
  withdraw : s.plan.withdraw = none
  auto : s.mode.auto = none
  staged : s.staged = []
  calm : Calm s
  active : s.active = u.active
  time : s.time = u.time
  ringTime : s.ringTime = u.ringTime
  gets : ∀ k ∈ courseObjects, s.get k = u.get k

section
variable {u s : State}

theorem Runs.set (h : Runs u s) {k : Nat} (v : Nat) (hk : k ∉ courseObjects) : Runs u (s.set k v) := by
  refine ⟨h.running, h.withdraw, h.auto, h.staged, h.calm, h.active, h.time, h.ringTime, fun j hj => ?_⟩
  have hn : j ≠ k := fun e => hk (e ▸ hj)
  rw [State.get_set_ne s v hn, h.gets j hj]

/-- An update of blocks that a course does not read. -/
theorem Runs.beside (h : Runs u s) {pending clk freeCtr latest notifyQ port cells cur aux facet bal xfer ring safe flt check nvm} :
    Runs u ⟨pending, clk, s.ringTime, freeCtr, s.objs, latest, s.staged, notifyQ, port, s.mode, s.time, cells, cur, aux, facet, s.plan, bal,
      s.loupe, xfer, ring, safe, flt, check, s.test, nvm⟩ :=
  ⟨h.running, h.withdraw, h.auto, h.staged, h.calm, h.active, h.time, h.ringTime, h.gets⟩

/-- An update that keeps the plan but for its gate, and leaves no transition, slice or point. -/
theorem Runs.after (h : Runs u s) {xfer bal mode plan loupe test} (hm : mode.auto = none) (hp : ∃ g a, plan = { s.plan with gateEnable := g, gateAt := a })
    (ht : test.slices = []) (hl : loupe.point = none) :
    Runs u { s with xfer := xfer, bal := bal, mode := mode, plan := plan, loupe := loupe, test := test } := by
  obtain ⟨g, a, rfl⟩ := hp
  exact ⟨h.running, h.withdraw, hm, h.staged, ⟨ht, hl⟩, h.active, h.time, h.ringTime, h.gets⟩

theorem Runs.keeps (h : Runs u s) {t : State} {ks : List Nat} {bs : List Block} (k : Keeps ks bs s t) (hk : ∀ j ∈ courseObjects, j ∉ ks)
    (hb : ∀ b ∈ [Block.plan, .staged, .test, .loupe, .time, .ringTime], b ∉ bs) (hm : t.mode.auto = s.mode.auto) : Runs u t := by
  have hp : t.plan = s.plan := k.2 .plan (hb _ (by decide))
  have ht : t.test = s.test := k.2 .test (hb _ (by decide))
  have hl : t.loupe = s.loupe := k.2 .loupe (hb _ (by decide))
  have hs : t.staged = s.staged := k.2 .staged (hb _ (by decide))
  have hti : t.time = s.time := k.2 .time (hb _ (by decide))
  have hr : t.ringTime = s.ringTime := k.2 .ringTime (hb _ (by decide))
  refine ⟨by rw [hp, h.running], by rw [hp, h.withdraw], hm.trans h.auto, hs.trans h.staged, ?_, ?_, hti.trans h.time, hr.trans h.ringTime,
    fun j hj => (k.1 j (hk j hj)).trans (h.gets j hj)⟩
  · exact ⟨by rw [ht]; exact h.calm.1, by rw [hl]; exact h.calm.2⟩
  · unfold State.active
    rw [hp]
    exact h.active

theorem dwellFollow_runs (h : Runs u s) : Runs u (dwellFollow s) := by
  have ht : Runs u (s.setBitOf Obj.powerPathStatus 5 s.dwellHolds) := h.set _ (by decide)
  exact ht.after h.auto ⟨_, _, rfl⟩ h.calm.1 h.calm.2

theorem endTransfer_runs (code : Nat) (h : Runs u s) : Runs u (endTransfer code s) := by
  cases hx : s.xferRuns with
  | true =>
    have h1 : Runs u (s.setField Obj.xferStatus 0 4 4) := h.set _ (by decide)
    have h2 : Runs u ((s.setField Obj.xferStatus 0 4 4).setBitOf Obj.xferStatus 4 false) := h1.set _ (by decide)
    have h3 : Runs u (((s.setField Obj.xferStatus 0 4 4).setBitOf Obj.xferStatus 4 false).setBitOf Obj.xferStatus 5 false) := h2.set _ (by decide)
    rw [endTransfer_running hx]
    unfold ending
    exact dwellFollow_runs ((h3.set _ (by decide)).after h.auto ⟨_, _, rfl⟩ h.calm.1 h.calm.2)
  | false =>
    rw [endTransfer_idle hx]
    unfold alsoEnds
    split
    · exact iteInduction (fun _ => h.beside) (fun _ => h)
    · exact h

theorem endLoupe_runs (h : Runs u s) : Runs u (endLoupe s) := by
  have hp : loupeEndPoint 2 s = s := by
    unfold loupeEndPoint
    rw [h.calm.2]
  unfold endLoupe
  rw [hp]
  refine iteInduction (fun _ => h) (fun _ => ?_)
  extract_lets t
  have hb : Runs u (s.setBitOf Obj.loupeSessionStatus 16 false) := h.set _ (by decide)
  have ht : Runs u t := by
    simp only [t]
    unfold stageEnds
    exact iteInduction (fun _ => (hb.set _ (by decide)).beside) (fun _ => hb)
  exact ht.after ht.auto ⟨_, _, rfl⟩ ht.calm.1 ht.calm.2

theorem overtake_runs (h : Runs u s) : Runs u (overtake s) := by
  unfold overtake
  split
  · exact h
  · extract_lets m t
    have ht : Runs u t := h.after h.auto ⟨_, _, rfl⟩ h.calm.1 h.calm.2
    exact ht.set _ (by decide)

theorem abortSlices_runs (p : Slice → Bool) (h : Runs u s) : Runs u (abortSlices p s) := (abortSlices_calm p h.calm).symm ▸ h

theorem selftestEnds_runs (h : Runs u s) : Runs u (selftestEnds s) := by
  unfold selftestEnds
  refine iteInduction (fun _ => ?_) (fun _ => h)
  extract_lets t
  have ht : Runs u t := (abortSlices_runs _ h).set _ (by decide)
  exact ht.after ht.auto ⟨_, _, rfl⟩ ht.calm.1 ht.calm.2

theorem modeWrite_runs (m cause : Nat) (h : Runs u s) : Runs u (modeWrite m cause s) := by
  have h1 : Runs u (s.setField Obj.modeStatus 8 8 s.modeCode) := h.set _ (by decide)
  have h2 : Runs u ((s.setField Obj.modeStatus 8 8 s.modeCode).setField Obj.modeStatus 0 8 m) := h1.set _ (by decide)
  exact h2.set _ (by decide)

theorem beforePlan_runs (m cause : Nat) (h : Runs u s) : Runs u (beforePlan m cause s) := by
  unfold beforePlan
  extract_lets a p b d
  have hp : Runs u p := (modeWrite_runs m cause (selftestEnds_runs h)).set _ (by decide)
  have hb : Runs u b := iteInduction (fun _ => (hp.set _ (by decide)).beside) (fun _ => hp)
  have hx : Runs u (disableBalancing b) := (hb.set _ (by decide)).beside
  have hd : Runs u d := abortSlices_runs _ (iteInduction (fun _ => hx.set _ (by decide)) (fun _ => hb))
  exact hd.after rfl ⟨_, _, rfl⟩ hd.calm.1 hd.calm.2

/-- A bank that runs goes on in SAFE (R264). -/
theorem planForMode_runs (h : Runs u s) : planForMode Mode.safeMode s = s := by
  unfold planForMode
  rw [if_pos (by decide), if_pos h.running]

theorem event_runs (a b : Nat) (h : Runs u s) : Runs u (event a b s) :=
  h.keeps (event_keeps a b s) (by decide) (by decide) (congrArg ModeEng.auto ((event_keeps a b s).mode (by decide)))

theorem changeMode_runs (cause : Nat) (h : Runs u s) : Runs u (changeMode Mode.safeMode cause s) := by
  have hb := beforePlan_runs Mode.safeMode cause h
  rw [changeMode_plan, planForMode_runs hb]
  exact event_runs 3 Mode.safeMode hb

theorem Runs.taken (h : Runs u s) : Runs u { s with mode := { s.mode with autoTaken := true } } := h.after h.auto ⟨_, _, rfl⟩ h.calm.1 h.calm.2

theorem enterSafe_runs (h : Runs u s) : Runs u (enterSafe s) :=
  iteInduction (fun _ => (overtake_runs (changeMode_runs 3 (endLoupe_runs (endTransfer_runs 5 h)))).taken) (fun _ => h)

end

/-- The registers of a source that is raised (R455). -/
theorem raised_keeps (c : Nat) (d : State) : Keeps (faultObjects c) faultBlocks d (raised c d) := by
  unfold raised
  extract_lets lim latch sev src e
  have he : Keeps (faultObjects c) faultBlocks d e := (flt_keeps _ d _).trans (faultLog_keeps c _ _)
  have hv : Keeps (faultObjects c) faultBlocks e (event 1 c e) := keeps_mono (event_keeps 1 c e) (by simp [faultObjects]) (by decide)
  exact (he.trans (keeps_ite _ hv (.refl _ _ _))).trans (keeps_mono (notify_keeps _) (by simp [faultObjects]) (by decide))

/-- A source that sets outside the modes with an output stages no transition: its registers change, and SAFE may follow (R455, R456). -/
theorem faultOccur_measured {c : Nat} {s : State} (hr : Registers c) (hm : s.modeIn outputModes = false) :
    ∃ f, Keeps (faultObjects c) faultBlocks s f ∧ f.mode = s.mode ∧ (faultOccur c s = f ∨ ∃ g, faultOccur c s = { enterSafe f with flt := g }) := by
  obtain ⟨h24, -, hx⟩ := hr
  have kr := recurs_keeps c s
  cases hs : s.faultOn c with
  | true => exact ⟨recurs c s, kr, recurs_mode c s, .inl (faultOccur_again hs h24)⟩
  | false =>
    have hf : (raised c (recurs c s)).modeIn outputModes = false := by
      rw [modeIn_congr outputModes (raised_modeStatus _ hx), modeIn_congr outputModes (kr.get hx), hm]
    refine ⟨raised c (recurs c s), kr.trans (raised_keeps c _), (raised_mode c _).trans (recurs_mode c s), ?_⟩
    rw [faultOccur_raises hs]
    extract_lets f sev
    rw [show f.modeIn outputModes = false from hf, Bool.and_false, if_neg Bool.false_ne_true]
    split_ifs
    · exact .inr ⟨_, rfl⟩
    · exact .inl rfl

/-- A bank runs as before in MEASURE or SAFE. -/
structure OnCourse (u s : State) : Prop extends Runs u s where
  mode : s.modeCode = Mode.measure ∨ s.modeCode = Mode.safeMode

theorem OnCourse.outputs {u s : State} (h : OnCourse u s) : s.modeIn outputModes = false := by
  unfold State.modeIn
  rcases h.mode with e | e <;> rw [e] <;> decide

theorem OnCourse.congr {u s t : State} (h : OnCourse u s) (ht : Runs u t) (hm : t.get Obj.modeStatus = s.get Obj.modeStatus) : OnCourse u t :=
  ⟨ht, modeCode_congr hm ▸ h.mode⟩

theorem courseObjects_read : ∀ k ∈ courseObjects, k ∈ boundaryReads := by decide

theorem boundarySources_registers {c : Nat} (h : c ∈ boundarySources) : Registers c := by
  unfold Registers
  fin_cases h <;> decide

theorem boundarySources_course {c : Nat} (h : c ∈ boundarySources) : ∀ j ∈ boundaryReads, j ∉ faultObjects c := by
  fin_cases h <;> decide

/-- The evaluations of a boundary may lead from MEASURE to SAFE, and leave the cycle. -/
theorem onCourse_endures (u : State) : Endures (OnCourse u) where
  set v hk h := h.congr (h.toRuns.set v (fun hj => hk (courseObjects_read _ hj))) (State.get_set_ne _ v (fun e => hk (e ▸ by decide)))
  blocks _ _ _ _ _ h := h.congr h.toRuns.beside rfl
  occur {s c} hc h := by
    have hr := boundarySources_registers hc
    have ho := boundarySources_course hc
    obtain ⟨f, kf, hf, e⟩ := faultOccur_measured hr h.outputs
    have rf : Runs u f := h.toRuns.keeps kf (fun j hj => ho j (courseObjects_read j hj)) (by decide) (congrArg ModeEng.auto hf)
    have cf := h.congr rf (kf.get hr.2.2)
    rcases e with e | ⟨g, e⟩
    · exact e ▸ cf
    · rw [e]
      refine ⟨(enterSafe_runs rf).beside, ?_⟩
      cases hs : f.modeIn safeFrom with
      | true => exact .inr (enterSafe_eq rf.calm hs).2
      | false => exact (enterSafe_id hs).symm ▸ cf.mode

end Sys2Proof.Machine
end

section
namespace Sys2Proof.Machine

/-! A boundary of a bank in MEASURE: the entries not fired count as skipped, and the next cycle starts (R126, R127, R280). -/

/-- The state in which the next cycle starts, from the one in which the last one ends. -/
def boundaryReached (s : State) : State := compareSafety s.cycle (reinstateAll (applyStaged (endCycle (countSkipped s))))

theorem effPlanCycleBoundary_runs (words : List TableWord) {s : State} (hr : s.planRuns = true) (hg : s.on .rng = true) :
    effPlanCycleBoundary words s =
      marginsFollow (cycleRecord (boundaryModes (syncRest (nextPlanCycle (boundaryReached (scrubWords words s)))))) := by
  unfold effPlanCycleBoundary
  rw [hr, hg, if_neg (by decide)]
  rfl

section
variable {u s : State}

/-- What a course is read by later, from a state in it. -/
theorem Runs.anew (h : Runs u s) {t : State} (hp : t.plan = s.plan) (hm : t.mode.auto = s.mode.auto) (hs : t.staged = s.staged)
    (ht : t.test.slices = s.test.slices) (hl : t.loupe = s.loupe) : Runs t t :=
  ⟨by rw [hp, h.running], by rw [hp, h.withdraw], hm.trans h.auto, hs.trans h.staged, ⟨ht.trans h.calm.1, by rw [hl, h.calm.2]⟩, rfl, rfl, rfl,
    fun _ _ => rfl⟩

theorem OnCourse.anew (h : OnCourse u s) {t : State} (hp : t.plan = s.plan) (hm : t.mode.auto = s.mode.auto) (hs : t.staged = s.staged)
    (ht : t.test.slices = s.test.slices) (hl : t.loupe = s.loupe) (hc : t.get Obj.modeStatus = s.get Obj.modeStatus) : OnCourse t t :=
  ⟨h.toRuns.anew hp hm hs ht hl, modeCode_congr hc ▸ h.mode⟩

theorem entryActs_course (h : OnCourse u s) (hu : OnCourse u u) (e : List Nat) : s.entryActs e = u.entryActs e := by
  have hm : ∀ {x}, OnCourse u x → x.modeIn outputModes = false ∧ x.modeIn (Mode.safeMode :: bankModes) = true ∧
      x.modeIn [Mode.transfer] = false ∧ x.modeIn [Mode.loupe] = false := fun hx => by
    unfold State.modeIn
    rcases hx.mode with e | e <;> rw [e] <;> decide
  obtain ⟨s1, s2, s3, s4⟩ := hm h
  obtain ⟨u1, u2, u3, u4⟩ := hm hu
  have hh : s.isHead = u.isHead := congrArg (bit · 1) (h.gets Obj.ringRole (by decide))
  have hr : s.supReady = u.supReady := congrArg (· == 0) (h.gets Obj.supervisorState (by decide))
  unfold State.entryActs
  rw [s1, s2, s3, s4, u1, u2, u3, u4, hh, hr]

theorem entriesAfter_course (h : OnCourse u s) (hu : OnCourse u u) (t : Nat) : s.entriesAfter t = u.entriesAfter t := by
  unfold State.entriesAfter
  rw [h.running, hu.running, h.active]
  simp only [entryActs_course h hu]

/-- The count of the entries that a boundary skips. -/
def skipCount (s : State) : Nat :=
  if s.time.counted then s.get Obj.planSkipCount
  else sat (2 ^ 32 - 1) (s.get Obj.planSkipCount + s.entriesAfter (since48 s.ringTime (s.get Obj.cycleStart) - 1))

theorem skipCount_course (h : OnCourse u s) (hu : OnCourse u u) : skipCount s = skipCount u := by
  unfold skipCount
  rw [h.time, h.ringTime, h.gets Obj.planSkipCount (by decide), h.gets Obj.cycleStart (by decide), entriesAfter_course h hu]

theorem countSkipped_get (h : Runs u s) : (countSkipped s).get Obj.planSkipCount = skipCount s := by
  unfold countSkipped skipCount
  rw [h.running]
  cases s.time.counted with
  | true => rfl
  | false => exact State.get_set_self s _ _

theorem countSkipped_ne {k : Nat} (s : State) (hk : k ≠ Obj.planSkipCount) : (countSkipped s).get k = s.get k :=
  iteInduction (motive := fun t : State => t.get k = s.get k) (fun _ => rfl) (fun _ => State.get_set_ne s _ hk)

theorem nextCycle_course (h : Runs u s) (hu : Runs u u) : s.nextCycle = u.nextCycle := by
  have hl : s.planLc = u.planLc := by
    unfold State.planLc
    rw [h.running, hu.running, h.active]
  have hc : s.cycle = u.cycle := h.gets Obj.cycleCount (by decide)
  unfold State.nextCycle
  rw [h.running, hu.running, h.time, h.ringTime, hl, hc]

theorem countSkipped_nextCycle (s : State) : (countSkipped s).nextCycle = s.nextCycle ∧ (countSkipped s).ringTime = s.ringTime := by
  have hc : (countSkipped s).cycle = s.cycle := countSkipped_ne s (by decide)
  refine iteInduction (motive := fun t : State => t.cycle = s.cycle → t.nextCycle = s.nextCycle ∧ t.ringTime = s.ringTime) (fun _ _ => ⟨rfl, rfl⟩)
    (fun _ h => ?_) hc
  unfold State.nextCycle
  rw [h]
  exact ⟨rfl, rfl⟩

theorem autoTarget_course (h : OnCourse u s) : autoTarget s = none := by
  unfold autoTarget
  rw [h.auto, h.outputs]
  rcases h.mode with e | e <;> simp [e, Mode.measure, Mode.safeMode, Mode.update, Mode.transfer, Mode.loupe, Mode.configHold]

theorem boundaryModes_course (h : OnCourse u s) : boundaryModes s = s := by
  unfold boundaryModes
  rw [autoTarget_course h]

theorem cycleRecord_course (h : OnCourse u s) : OnCourse u (cycleRecord s) :=
  iteInduction (fun _ => h.congr h.toRuns.beside rfl) (fun _ => h.congr h.toRuns.beside rfl)

theorem nextPlanCycle_course (h : Runs u s) : nextPlanCycle s = startCycle s := by
  unfold nextPlanCycle
  rw [h.withdraw, h.running]

theorem countSkipped_course (h : OnCourse u s) : OnCourse (countSkipped s) (countSkipped s) := by
  have hm := countSkipped_ne (k := Obj.modeStatus) s (by decide)
  refine iteInduction (motive := fun t : State => t.get Obj.modeStatus = s.get Obj.modeStatus → OnCourse t t) (fun _ => ?_) (fun _ => ?_) hm
  · exact h.anew rfl rfl rfl rfl rfl
  · exact h.anew rfl rfl rfl rfl rfl

theorem endCycle_course (h : OnCourse u s) : OnCourse u (endCycle s) := by
  have ht : (endCycle s).test.slices = [] := by
    unfold endCycle
    dsimp only
    split_ifs <;> exact h.calm.1
  exact h.congr ⟨h.running, h.withdraw, h.auto, h.staged, ⟨ht, h.calm.2⟩, h.active, h.time, h.ringTime, h.gets⟩ rfl

/-- Nothing staged takes effect. -/
theorem applyStaged_course (h : OnCourse u s) : OnCourse u (applyStaged s) := by
  have hs := h.staged
  have he : applyStaged s = { s with staged := s.staged, cur := { s.cur with gainDrift := s.cur.gainNext } } := by
    unfold applyStaged
    rw [hs]
    rfl
  exact he ▸ h.congr h.toRuns.beside rfl

theorem boundaryReached_course (h : OnCourse u s) : OnCourse (countSkipped s) (boundaryReached s) := by
  have he := onCourse_endures (countSkipped s)
  exact he.compareSafety _ (he.reinstateAll (applyStaged_course (endCycle_course (countSkipped_course h))))

/-- A boundary starts a cycle. -/
structure Cycled (p : Nat × Nat) (start : Nat) (s : State) : Prop where
  count : s.get Obj.cycleCount = p.1
  length : s.time.cycleLen = p.2
  start : s.get Obj.cycleStart = start

theorem startCycle_cycled (s : State) : Cycled s.nextCycle s.ringTime (startCycle s) :=
  ⟨State.get_set_self _ _ _, rfl, (State.get_set_ne _ _ (by decide)).trans (State.get_set_self _ _ _)⟩

theorem startCycle_get {k : Nat} (s : State) (h1 : k ≠ Obj.cycleStart) (h2 : k ≠ Obj.cycleCount) : (startCycle s).get k = s.get k :=
  (State.get_set_ne _ _ h2).trans (State.get_set_ne _ _ h1)

theorem startCycle_course (h : OnCourse u s) : OnCourse (startCycle s) (startCycle s) :=
  h.anew rfl rfl rfl rfl rfl (startCycle_get s (by decide) (by decide))

theorem syncRest_get {k : Nat} (s : State) (hk : k ≠ Obj.syncStatus) : (syncRest s).get k = s.get k :=
  iteInduction (motive := fun t : State => t.get k = s.get k) (fun _ => rfl) (fun _ => State.get_set_ne s 0 hk)

theorem syncRest_length (s : State) : (syncRest s).time.cycleLen = s.time.cycleLen :=
  iteInduction (motive := fun t : State => t.time.cycleLen = s.time.cycleLen) (fun _ => rfl) (fun _ => rfl)

theorem syncRest_course (h : OnCourse u s) : OnCourse (syncRest s) (syncRest s) := by
  have hm := syncRest_get (k := Obj.modeStatus) s (by decide)
  refine iteInduction (motive := fun t : State => t.get Obj.modeStatus = s.get Obj.modeStatus → OnCourse t t) (fun _ => ?_) (fun _ => ?_) hm
  · exact h.anew rfl rfl rfl rfl rfl
  · exact h.anew rfl rfl rfl rfl rfl

/-- What follows the start of a cycle leaves it. -/
theorem boundaryEnds_course (h : OnCourse u s) : OnCourse (syncRest s) (marginsFollow (cycleRecord (boundaryModes (syncRest s)))) := by
  have hs := syncRest_course h
  rw [boundaryModes_course hs]
  exact (onCourse_endures _).marginsFollow (cycleRecord_course hs)

end

/-- A plan-cycle boundary of a bank in MEASURE (R126, R280). -/
theorem planCycleBoundary_measure (words : List TableWord) {s : State} (hg : s.on .rng = true) (h : OnCourse s s) :
    OnCourse (syncRest (startCycle (boundaryReached (scrubWords words s)))) (effPlanCycleBoundary words s) := by
  have hc := (onCourse_endures s).scrubWords words h
  have hr : s.planRuns = true := by
    unfold State.planRuns
    rw [h.running]
    decide
  have hb := boundaryReached_course hc
  rw [effPlanCycleBoundary_runs words hr hg, nextPlanCycle_course hb.toRuns]
  exact boundaryEnds_course (startCycle_course hb)

/-- The cycle that such a boundary starts, and its skipped entries. -/
theorem boundaryReached_cycled (words : List TableWord) {s : State} (h : OnCourse s s) :
    let x := syncRest (startCycle (boundaryReached (scrubWords words s)))
    Cycled s.nextCycle s.ringTime x ∧ x.get Obj.planSkipCount = skipCount s := by
  have hc := (onCourse_endures s).scrubWords words h
  have hb := boundaryReached_course hc
  obtain ⟨h1, h2, h3⟩ := startCycle_cycled (boundaryReached (scrubWords words s))
  obtain ⟨n1, n2⟩ := countSkipped_nextCycle (scrubWords words s)
  have hn : (boundaryReached (scrubWords words s)).nextCycle = s.nextCycle :=
    (nextCycle_course hb.toRuns (countSkipped_course hc).toRuns).trans (n1.trans (nextCycle_course hc.toRuns h.toRuns))
  have ht : (boundaryReached (scrubWords words s)).ringTime = s.ringTime := hb.ringTime.trans (n2.trans hc.ringTime)
  have hk : (boundaryReached (scrubWords words s)).get Obj.planSkipCount = skipCount s :=
    (hb.gets _ (by decide)).trans ((countSkipped_get hc.toRuns).trans (skipCount_course hc h))
  refine ⟨⟨?_, ?_, ?_⟩, ?_⟩
  · rw [syncRest_get _ (by decide), h1, hn]
  · rw [syncRest_length, h2, hn]
  · rw [syncRest_get _ (by decide), h3, ht]
  · rw [syncRest_get _ (by decide), startCycle_get _ (by decide) (by decide), hk]

/-- A boundary of a bank in MEASURE, with nothing staged and no transition due (R126, R280). -/
theorem cycleBoundary_measure (dt : Nat) (words : List TableWord) (s : State) (hw : Instr.wf (.planCycleBoundary dt words) = true)
    (hg : (s.found dt).on .rng = true) (h : OnCourse (s.found dt) (s.found dt)) :
    Leads (.planCycleBoundary dt words) dt s (fun u t =>
      t.cycle = u.nextCycle.1 ∧ t.time.cycleLen = u.nextCycle.2 ∧ t.get Obj.cycleStart = u.ringTime ∧
        t.plan.running = RunningPlan.bank ∧ t.get Obj.planSkipCount = skipCount u) := by
  have hx := planCycleBoundary_measure words hg h
  obtain ⟨⟨h1, h2, h3⟩, h4⟩ := boundaryReached_cycled words h
  refine leads_of hw rfl ⟨?_, ?_, ?_, ?_, ?_⟩
  · exact (settle_get _ _).trans ((hx.gets Obj.cycleCount (by decide)).trans h1)
  · rw [settle_time, hx.time, h2]
  · rw [settle_get, hx.gets Obj.cycleStart (by decide), h3]
  · rw [settle_plan, hx.running]
  · rw [settle_get, hx.gets Obj.planSkipCount (by decide), h4]

end Sys2Proof.Machine
end

section
namespace Sys2Proof.Machine

/-! A staged write takes effect at the boundary, whatever follows there (R21). -/

/-- CellOvThreshold reads a value, writes wait, and no slice or point is under way. -/
structure Waiting (v : Nat) (l : List (Nat × Nat)) (s : State) : Prop where
  get : s.get Obj.cellOvThreshold = v
  staged : s.staged = l
  calm : Calm s

theorem registers_25 : Registers 0x25 := by unfold Registers; decide

section
variable {v : Nat} {l : List (Nat × Nat)} {s t : State}

theorem Waiting.rests (h : Waiting v l s) (hr : Rests Obj.cellOvThreshold s t) (hu : Untaken s t) : Waiting v l t :=
  ⟨hr.get.trans h.get, hu.staged.trans h.staged, hr.calm h.calm⟩

theorem Waiting.stays {ks : List Nat} (h : Waiting v l s) (hs : Stays ks s t) (hk : Obj.cellOvThreshold ∉ ks) (hu : Untaken s t) : Waiting v l t :=
  h.rests (hs.rests hk) hu

theorem Waiting.set (h : Waiting v l s) {k : Nat} (x : Nat) (hk : Obj.cellOvThreshold ≠ k) : Waiting v l (s.set k x) :=
  h.rests (.set s x hk) (.set s k x)

/-- An update that leaves the objects, the staged writes, the slices and the point. -/
theorem Waiting.after (h : Waiting v l s) {pending clk ringTime freeCtr latest notifyQ port mode time cells cur aux facet plan bal xfer ring safe flt check
    nvm} : Waiting v l ⟨pending, clk, ringTime, freeCtr, s.objs, latest, s.staged, notifyQ, port, mode, time, cells, cur, aux, facet, plan, bal,
      s.loupe, xfer, ring, safe, flt, check, s.test, nvm⟩ := ⟨h.get, h.staged, h.calm⟩

theorem Waiting.occur (h : Waiting v l s) {c : Nat} (hr : Registers c) (hk : Obj.cellOvThreshold ∉ faultObjects c) : Waiting v l (faultOccur c s) :=
  h.rests (faultOccur_rests hr hk (by decide) h.calm) (faultOccur_untaken hr s)

theorem Waiting.follow (h : Waiting v l s) {c : Nat} (b : Bool) (hr : Registers c) (hk : Obj.cellOvThreshold ∉ faultObjects c) :
    Waiting v l (faultFollow c b s) := h.rests (faultFollow_rests b hr hk (by decide) h.calm) (faultFollow_untaken hr b s)

theorem waiting_endures (v : Nat) (l : List (Nat × Nat)) : Endures (Waiting v l) where
  set x hk h := h.set x (fun e => hk (e ▸ by decide))
  blocks _ _ _ _ _ h := h.after
  occur hc h := h.occur (boundarySources_registers hc) (boundarySources_course hc _ (by decide))

theorem Waiting.event (h : Waiting v l s) (a b : Nat) : Waiting v l (event a b s) :=
  h.rests ((event_keeps a b s).rests (by decide) (by decide) (by decide)) (event_untaken a b s)

/-! The plan (R239, R264, R276, R277). -/

theorem Waiting.startRom (h : Waiting v l s) : Waiting v l (startRom s) := h.stays (startRom_stays h.calm) (by decide) (startRom_untaken s)

theorem Waiting.overtake (h : Waiting v l s) : Waiting v l (overtake s) := h.stays (overtake_stays s).1 (by decide) (overtake_untaken s)

theorem Waiting.endLoupe (h : Waiting v l s) : Waiting v l (endLoupe s) := h.stays (endLoupe_stays h.calm) (by decide) (endLoupe_untaken s)

theorem Waiting.endTransfer (h : Waiting v l s) (c : Nat) : Waiting v l (endTransfer c s) :=
  h.stays (endTransfer_stays c s) (by decide) (endTransfer_untaken c s)

theorem Waiting.endTransferOpen (h : Waiting v l s) : Waiting v l (endTransferOpen s) :=
  iteInduction (fun _ => (h.endTransfer _).after) (fun _ => h)

theorem Waiting.changeMode (h : Waiting v l s) (m c : Nat) : Waiting v l (changeMode m c s) :=
  h.stays (changeMode_eq m c h.calm).1 (by decide) (changeMode_untaken m c s)

theorem Waiting.abortSlices (h : Waiting v l s) (p : Slice → Bool) : Waiting v l (abortSlices p s) := (abortSlices_calm p h.calm).symm ▸ h

theorem Waiting.showVerdict (h : Waiting v l s) (x : Option (Nat × Nat)) : Waiting v l (showVerdict x s) := by
  unfold Machine.showVerdict
  split
  · exact h.set _ (by decide)
  · rename_i c i
    have hx : Waiting v l (s.setField Obj.planStatus 24 8 c) := h.set _ (by decide)
    exact hx.set _ (by decide)

theorem Waiting.startCycle (h : Waiting v l s) : Waiting v l (startCycle s) := ((h.set _ (by decide)).set _ (by decide)).after

theorem Waiting.rejectBank (h : Waiting v l s) (code index : Nat) : Waiting v l (rejectBank code index s) := by
  unfold Machine.rejectBank
  extract_lets bank a plan b c d
  have ha : Waiting v l a := .showVerdict (iteInduction (fun _ => h.after) (fun _ => h.after)) _
  have hb : Waiting v l b := ha.after
  have hc : Waiting v l c := .occur (iteInduction (fun _ => hb.set _ (by decide)) (fun _ => hb)) registers_2E (by decide)
  have hd : Waiting v l d := iteInduction (fun _ => hc.startRom) (fun _ => hc)
  exact iteInduction (fun _ => (hd.endTransferOpen.endLoupe.changeMode _ _).overtake) (fun _ => hd)

theorem Waiting.settleCoverage (h : Waiting v l s) (start : Bool) : Waiting v l (settleCoverage start s) := by
  unfold Machine.settleCoverage
  refine iteInduction (fun _ => h) (fun _ => ?_)
  extract_lets t
  have ht : Waiting v l t := by
    simp only [t]
    unfold settleMargin
    split
    · exact h
    · exact h.set _ (by decide)
  split
  · rename_i n _ _
    exact (ht.set (k := Obj.planRequestStatus) _ (by decide)).event 6 1
  · exact iteInduction (fun _ => ht.set _ (by decide)) (fun _ => ht)

theorem Waiting.runBank (h : Waiting v l s) : Waiting v l (runBank s) := by
  have hn : Waiting v l (newWindow s) := h.after
  have hv := (hn.abortSlices (fun _ => true)).showVerdict none
  unfold Machine.runBank
  extract_lets a b c r time cells plan d new
  have ha : Waiting v l a := by
    simp only [a]
    unfold loupeEndPoint
    rw [hv.calm.2]
    exact hv
  have hc : Waiting v l (closeOutputs a) := ha.stays (closeOutputs_stays a) (by decide) (closeOutputs_untaken a)
  have hk := hc.stays (applyCellCount_stays hc.calm) (by decide) (applyCellCount_untaken _)
  have hb : Waiting v l b := (hk.stays (mirrorCodes_stays _) (by decide) (mirrorCodes_untaken _)).after
  have hs : Waiting v l (b.set Obj.cycleStart b.ringTime) := hb.set _ (by decide)
  have hz : Waiting v l ((b.set Obj.cycleStart b.ringTime).set Obj.cycleCount 0) := hs.set 0 (by decide)
  have hx : Waiting v l c := hz.set _ (by decide)
  have hr : Waiting v l r := hx.after
  have hd : Waiting v l d := hr.after
  have hp : Waiting v l { d with plan := { d.plan with rejected := false } } := hd.after
  refine (waiting_endures v l).marginsFollow (.settleCoverage (iteInduction (fun _ => ?_) (fun _ => hd)) true)
  exact (hp.set 0 (by decide)).follow false registers_2E (by decide)

theorem Waiting.startBank (h : Waiting v l s) : Waiting v l (startBank s) := by
  unfold Machine.startBank
  split
  · exact h.rejectBank _ _
  · exact h.runBank

theorem Waiting.withdrawBank (h : Waiting v l s) (e : Nat) : Waiting v l (withdrawBank e s) := by
  unfold Machine.withdrawBank
  extract_lets plan
  have hp : Waiting v l { s with plan := { s.plan with withdraw := none, refetch := [] } } := h.after
  exact (hp.rejectBank 0x1A e).follow false registers_25 (by decide)

theorem Waiting.startFromRom (h : Waiting v l s) : Waiting v l (startFromRom s) :=
  iteInduction (fun _ => h.startCycle.startBank) (fun _ => h.startBank)

theorem Waiting.nextPlanCycle (h : Waiting v l s) : Waiting v l (nextPlanCycle s) := by
  unfold Machine.nextPlanCycle
  split
  · exact (h.withdrawBank _).startCycle
  · exact h.withdrawBank _
  · exact iteInduction (fun _ => h.startFromRom) (fun _ => h.startCycle)
  · exact h.startCycle

theorem Waiting.syncRest (h : Waiting v l s) : Waiting v l (syncRest s) := iteInduction (fun _ => h) (fun _ => (h.set 0 (by decide)).after)

/-! The mode (R93, R95). -/

theorem Waiting.autoMove (h : Waiting v l s) (m c : Nat) : Waiting v l (autoMove m c s) := by
  unfold Machine.autoMove
  extract_lets a b x
  have ha : Waiting v l a := iteInduction (fun _ => h.endTransferOpen) (fun _ => iteInduction (fun _ => h.endTransfer 12) (fun _ => h))
  have hb : Waiting v l { b with xfer := { b.xfer with ended := none } } := ha.endLoupe.after
  exact (hb.changeMode m c).overtake

theorem Waiting.boundaryModes (h : Waiting v l s) : Waiting v l (boundaryModes s) := by
  unfold Machine.boundaryModes
  split
  · exact h.autoMove _ _
  · exact h

theorem Waiting.cycleRecord (h : Waiting v l s) : Waiting v l (cycleRecord s) := iteInduction (fun _ => h.after) (fun _ => h.after)

/-! The boundary. -/

theorem Waiting.countSkipped (h : Waiting v l s) : Waiting v l (countSkipped s) := iteInduction (fun _ => h) (fun _ => h.set _ (by decide))

theorem Waiting.endCycle (h : Waiting v l s) : Waiting v l (endCycle s) := by
  refine ⟨h.get, h.staged, ?_, h.calm.2⟩
  unfold Machine.endCycle
  dsimp only
  split_ifs <;> exact h.calm.1

/-- The write that waits takes effect. -/
theorem Waiting.applyStaged {w : Nat} (h : Waiting w [(Obj.cellOvThreshold, v)] s) : Waiting v [] (applyStaged s) := by
  have hx : Waiting v [] { s.set Obj.cellOvThreshold v with staged := [], cur := { s.cur with gainDrift := s.cur.gainNext } } :=
    ⟨State.get_set_self s _ v, rfl, h.calm⟩
  have hs := h.staged
  unfold Machine.applyStaged
  rw [hs]
  exact (waiting_endures v []).margins hx

/-- A staged write takes effect at a boundary, and nothing that follows there changes it (R21). -/
theorem boundary_applies (words : List TableWord) {w : Nat} (hr : s.planRuns = true) (hg : s.on .rng = true)
    (h : Waiting w [(Obj.cellOvThreshold, v)] s) : Waiting v [] (effPlanCycleBoundary words s) := by
  have he := waiting_endures v []
  have hc := (waiting_endures w _).scrubWords words h
  have hb : Waiting v [] (boundaryReached (scrubWords words s)) := he.compareSafety _ (he.reinstateAll hc.countSkipped.endCycle.applyStaged)
  rw [effPlanCycleBoundary_runs words hr hg]
  exact he.marginsFollow hb.nextPlanCycle.syncRest.boundaryModes.cycleRecord

end

/-- Settles O41: a bank keeps its course through the evaluations of the boundary, which may lead to SAFE but not end its cycle; a write that waits
takes effect before the plan goes on, which leaves its object. -/
theorem cycleBoundaryRuns : Obligations.CycleBoundaryRuns := by
  unfold Obligations.CycleBoundaryRuns
  refine ⟨fun dt words s hw hg hm ha hp hd hs hc => ?_, fun dt v words s hw hg hr hs hc => ?_⟩
  · exact cycleBoundary_measure dt words s hw hg ⟨⟨hp, hd, ha, hs, hc, rfl, rfl, rfl, fun _ _ => rfl⟩, .inl hm⟩
  · have h := boundary_applies words hr hg ⟨rfl, hs, hc⟩
    exact leads_of hw rfl ⟨(settle_get _ _).trans h.get, (settle_staged _).trans h.staged⟩

end Sys2Proof.Machine
end

section
namespace Sys2Proof.Machine

/-! The run of the coulomb counter (R198, R199): however the time is cut, it adds the same. -/

theorem integral_zero (s : State) (t : Nat) (v : Int) (l : List (Nat × Int)) : s.integral t 0 v l = 0 := by
  induction l generalizing t v with
  | nil => simp [State.integral]
  | cons p l ih => simp [State.integral, ih]

/-- The voltage that is added from some ticks on, and the later ones that are left then. -/
theorem integral_add (s : State) (l : List (Nat × Int)) (t n m : Nat) (v : Int) :
    s.integral t (n + m) v l = s.integral t n v l +
      s.integral (t + n) m ((l.takeWhile (fun p => p.1 ≤ t + n)).foldl (fun _ p => p.2) v) (l.dropWhile (fun p => p.1 ≤ t + n)) := by
  induction l generalizing t n v with
  | nil =>
    simp only [State.integral, List.takeWhile_nil, List.foldl_nil, List.dropWhile_nil]
    push_cast
    ring
  | cons p l ih =>
    obtain ⟨u, w⟩ := p
    by_cases h : u ≤ t + n
    · have e1 : n + m - (u - t) = n - (u - t) + m := by omega
      have e2 : max t u + (n - (u - t)) = t + n := by omega
      have e3 : min (n + m) (u - t) = min n (u - t) := by omega
      simp only [State.integral, List.takeWhile_cons, List.dropWhile_cons, h, decide_true, if_true, List.foldl_cons]
      rw [e1, e3, ih, e2]
      ring
    · have e1 : n - (u - t) = 0 := by omega
      have e2 : max (t + n) u = max t u := by omega
      have e3 : m - (u - (t + n)) = n + m - (u - t) := by omega
      have e4 : min (n + m) (u - t) = min n (u - t) + min m (u - (t + n)) := by omega
      simp only [State.integral, List.takeWhile_cons, List.dropWhile_cons, h, decide_false, Bool.false_eq_true, if_false, List.foldl_nil]
      rw [e1, integral_zero, e2, e3, e4]
      push_cast
      ring

/-- The first ticks of a run, at most `e` of which count. -/
theorem integral_min_add (s : State) (l : List (Nat × Int)) (t n m e : Nat) (v : Int) :
    s.integral t (min (n + m) e) v l = s.integral t (min n e) v l +
      s.integral (t + n) (min m (e - n)) ((l.takeWhile (fun p => p.1 ≤ t + n)).foldl (fun _ p => p.2) v)
        (l.dropWhile (fun p => p.1 ≤ t + n)) := by
  by_cases h : n ≤ e
  · rw [show min (n + m) e = n + min m (e - n) by omega, show min n e = n by omega, integral_add]
  · rw [show min (n + m) e = e by omega, show min n e = e by omega, show e - n = 0 by omega, Nat.min_zero, integral_zero, add_zero]

theorem modulator_congr {s t : State} (h : t.objs = s.objs) (v : Int) : t.modulator v = s.modulator v := by
  unfold State.modulator State.getInt
  rw [get_of_objs h]

theorem integral_congr {s t : State} (h : t.objs = s.objs) (l : List (Nat × Int)) (k n : Nat) (v : Int) :
    t.integral k n v l = s.integral k n v l := by
  induction l generalizing k n v with
  | nil => simp only [State.integral, modulator_congr h]
  | cons p l ih => simp only [State.integral, modulator_congr h, ih]

/-- The state in which a run has come to an end. -/
def ranOn (n : Nat) (s : State) : State := { integrate n s with clk := s.clk + n }

theorem integrate_objs (n : Nat) (s : State) : (integrate n s).objs = s.objs := by
  unfold integrate
  dsimp only
  split_ifs <;> rfl

theorem integrate_volts (n : Nat) (s : State) : (integrate n s).cur.volts = s.voltsAfter n := by
  unfold integrate
  dsimp only
  split_ifs <;> rfl

theorem integrate_next (n : Nat) (s : State) :
    (integrate n s).cur.next = s.cur.next.dropWhile (fun p => p.1 ≤ s.clk + n) := by
  unfold integrate
  dsimp only
  split_ifs <;> rfl

theorem integrate_mutedAt (n : Nat) (s : State) : (integrate n s).cur.mutedAt = s.cur.mutedAt := by
  unfold integrate
  dsimp only
  split_ifs <;> rfl

/-- While ICX is on, the counter and its residue run. -/
theorem integrate_cur_on {s : State} (n : Nat) (h : s.on .icx = true) :
    (integrate n s).cur = { s.cur with
      volts := s.voltsAfter n, next := s.cur.next.dropWhile (fun p => p.1 ≤ s.clk + n), counter := (s.counterAfter n).1,
      residue := (s.counterAfter n).2 } := by
  unfold integrate
  rw [h, if_neg (by decide)]

theorem integrate_cur_off {s : State} (n : Nat) (h : s.on .icx = false) :
    (integrate n s).cur = { s.cur with
      volts := s.voltsAfter n, next := s.cur.next.dropWhile (fun p => p.1 ≤ s.clk + n) } := by
  unfold integrate
  rw [h, if_pos (by decide)]

theorem ranOn_on (n : Nat) (s : State) (d : Domain) : (ranOn n s).on d = s.on d := by
  unfold State.on
  rw [get_of_objs (show (ranOn n s).objs = s.objs from integrate_objs n s)]

/-- What is added in a run is what is added in its parts. -/
theorem charge_add (s : State) (n m : Nat) : s.charge (n + m) = s.charge n + (ranOn n s).charge m := by
  have key : ∀ e, s.integral s.clk (min (n + m) e) s.cur.volts s.cur.next =
      s.integral s.clk (min n e) s.cur.volts s.cur.next +
        (ranOn n s).integral (ranOn n s).clk (min m (e - n)) (ranOn n s).cur.volts (ranOn n s).cur.next := fun e => by
    have hv : (ranOn n s).cur.volts = s.voltsAfter n := integrate_volts n s
    have hl : (ranOn n s).cur.next = s.cur.next.dropWhile (fun p => p.1 ≤ s.clk + n) := integrate_next n s
    rw [integral_min_add, integral_congr (s := s) (t := ranOn n s) (integrate_objs n s), hv, hl]
    rfl
  have hm : (ranOn n s).cur.mutedAt = s.cur.mutedAt := integrate_mutedAt n s
  have hk : (ranOn n s).clk = s.clk + n := rfl
  have hs := key (n + m)
  rw [Nat.min_self, Nat.min_eq_left (Nat.le_add_right n m), Nat.add_sub_cancel_left, Nat.min_self] at hs
  unfold State.charge
  rw [hm]
  cases s.cur.mutedAt with
  | none => simpa only [Nat.min_self] using hs
  | some k =>
    simp only [Nat.min_self]
    rw [hs, key (k + 2 * ms - s.clk), key (k - s.clk), hk, Nat.sub_sub, Nat.sub_sub]
    ring

theorem ofInt_cast (w : Nat) (i : Int) : (ofInt w i : Int) = i % (2 ^ w : Nat) := by
  unfold ofInt
  exact Int.toNat_of_nonneg (Int.emod_nonneg _ (by positivity))

/-- The counter and its residue after a run are those after its parts. -/
theorem counterAfter_add {s : State} (n m : Nat) (h : s.on .icx = true) : (ranOn n s).counterAfter m = s.counterAfter (n + m) := by
  have hc : (ranOn n s).cur.counter = (s.counterAfter n).1 := congrArg CurEng.counter (integrate_cur_on n h)
  have hr : (ranOn n s).cur.residue = (s.counterAfter n).2 := congrArg CurEng.residue (integrate_cur_on n h)
  have hx : ((((s.charge n + s.cur.residue) % (second : Nat)).toNat : Nat) : Int) = (s.charge n + s.cur.residue) % (second : Nat) :=
    Int.toNat_of_nonneg (Int.emod_nonneg _ (by norm_num))
  unfold State.counterAfter at hc hr ⊢
  simp only at hc hr ⊢
  rw [hc, hr, hx, ofInt_cast, charge_add]
  generalize (ranOn n s).charge m = y
  generalize hz : s.charge n + (s.cur.residue : Int) = x
  rw [show s.charge n + y + (s.cur.residue : Int) = x + y by rw [← hz]; ring]
  have hd : (x + y) / (second : Nat) = x / (second : Nat) + (y + x % (second : Nat)) / (second : Nat) := by
    rw [Nat.cast_ofNat]
    omega
  have hq : (y + x % (second : Nat)) % (second : Nat) = (x + y) % (second : Nat) := by
    rw [Int.add_emod_emod, Int.add_comm]
  rw [hq, hd]
  unfold ofInt
  rw [Int.emod_add_emod, add_assoc]

/-- What a list begins with up to a later tick, from what it begins with up to an earlier one. -/
theorem takeWhile_later (l : List (Nat × Int)) {a b : Nat} (h : a ≤ b) :
    l.takeWhile (fun p => p.1 ≤ b) = l.takeWhile (fun p => p.1 ≤ a) ++ (l.dropWhile (fun p => p.1 ≤ a)).takeWhile (fun p => p.1 ≤ b) := by
  induction l with
  | nil => rfl
  | cons p l ih =>
    by_cases hp : p.1 ≤ a
    · simp [hp, hp.trans h, ih]
    · simp [hp]

theorem dropWhile_later (l : List (Nat × Int)) {a b : Nat} (h : a ≤ b) :
    (l.dropWhile (fun p => p.1 ≤ a)).dropWhile (fun p => p.1 ≤ b) = l.dropWhile (fun p => p.1 ≤ b) := by
  induction l with
  | nil => rfl
  | cons p l ih =>
    by_cases hp : p.1 ≤ a
    · simp [hp, hp.trans h, ih]
    · simp [hp]

theorem voltsAfter_add (s : State) (n m : Nat) : (ranOn n s).voltsAfter m = s.voltsAfter (n + m) := by
  have hv : (ranOn n s).cur.volts = s.voltsAfter n := integrate_volts n s
  have hl : (ranOn n s).cur.next = s.cur.next.dropWhile (fun p => p.1 ≤ s.clk + n) := integrate_next n s
  unfold State.voltsAfter at hv ⊢
  rw [hv, hl, show (ranOn n s).clk = s.clk + n from rfl, add_assoc, takeWhile_later s.cur.next (Nat.add_le_add_left (Nat.le_add_right n m) s.clk),
    List.foldl_append]

theorem nextAfter_add (s : State) (n m : Nat) :
    (ranOn n s).cur.next.dropWhile (fun p => p.1 ≤ (ranOn n s).clk + m) = s.cur.next.dropWhile (fun p => p.1 ≤ s.clk + (n + m)) := by
  have hl : (ranOn n s).cur.next = s.cur.next.dropWhile (fun p => p.1 ≤ s.clk + n) := integrate_next n s
  rw [hl, show (ranOn n s).clk = s.clk + n from rfl, add_assoc, dropWhile_later s.cur.next (Nat.add_le_add_left (Nat.le_add_right n m) s.clk)]

/-- However the time is cut, the current channel comes to the same (R199). -/
theorem integrate_add (n m : Nat) (s : State) : (integrate m (ranOn n s)).cur = (integrate (n + m) s).cur := by
  have hd := ranOn_on n s .icx
  cases h : s.on .icx with
  | true =>
    have hc : (ranOn n s).cur = _ := integrate_cur_on n h
    rw [integrate_cur_on m (hd.trans h), integrate_cur_on (n + m) h, voltsAfter_add, nextAfter_add, counterAfter_add n m h, hc]
  | false =>
    have hc : (ranOn n s).cur = _ := integrate_cur_off n h
    rw [integrate_cur_off m (hd.trans h), integrate_cur_off (n + m) h, voltsAfter_add, nextAfter_add, hc]

/-- The counter at a steady voltage (R198). -/
theorem counter_steady {s : State} (n : Nat) (hd : s.on .icx = true) (hm : s.cur.mutedAt = none) (hl : s.cur.next = []) :
    (integrate n s).cur.counter = ofInt 48 ((s.cur.counter : Int) + (s.modulator s.cur.volts * n + s.cur.residue) / 16000000) := by
  rw [integrate_cur_on n hd]
  unfold State.counterAfter State.charge
  rw [hm, hl]
  dsimp only
  rw [Nat.min_self]
  rfl

/-- The counter follows a voltage 28 ticks after it has come (R199). -/
theorem counter_follows {s : State} (n : Nat) (w : Int) (hd : s.on .icx = true) (hm : s.cur.mutedAt = none)
    (hl : s.cur.next = [(s.clk + 28, w)]) :
    (integrate (28 + n) s).cur.counter =
      ofInt 48 ((s.cur.counter : Int) + (s.modulator s.cur.volts * 28 + s.modulator w * n + s.cur.residue) / 16000000) := by
  have h1 : min (28 + n) (s.clk + 28 - s.clk) = 28 := by omega
  have h2 : 28 + n - (s.clk + 28 - s.clk) = n := by omega
  rw [integrate_cur_on _ hd]
  unfold State.counterAfter State.charge
  rw [hm, hl]
  dsimp only
  rw [Nat.min_self]
  simp only [State.integral, h1, h2]
  rfl

/-- A loop-back that has begun adds nothing for 2 ms (R483). -/
theorem counter_muted {s : State} {n : Nat} (hd : s.on .icx = true) (hm : s.cur.mutedAt = some s.clk) (hn : n ≤ 2 * ms) :
    (integrate n s).cur.counter = ofInt 48 ((s.cur.counter : Int) + s.cur.residue / 16000000) := by
  have h0 : s.charge n = 0 := by
    unfold State.charge
    rw [hm]
    dsimp only
    rw [show min n n = n by omega, show min n (s.clk + 2 * ms - s.clk) = n by omega, show min n (s.clk - s.clk) = 0 by omega, integral_zero]
    ring
  rw [integrate_cur_on _ hd]
  unfold State.counterAfter
  rw [h0, zero_add]
  rfl

end Sys2Proof.Machine
end

section
namespace Sys2Proof.Machine

/-! The start of an aperture (R143, R200). -/

/-- The settling keeps the apertures in their places, and adds to their conduction alone. -/
theorem settle_apertures_length (s : State) : (settle s).cells.apertures.length = s.cells.apertures.length := by
  obtain ⟨-, he⟩ := settle_same .cells s
  simpa only [List.length_map] using congrArg List.length he

theorem settle_aperture_mem {s : State} {x : Aperture} (h : x ∈ s.cells.apertures) :
    ∃ y ∈ (settle s).cells.apertures, ({ y with conduct := 0 } : Aperture) = { x with conduct := 0 } := by
  obtain ⟨-, he⟩ := settle_same .cells s
  exact List.mem_map.mp (he ▸ List.mem_map_of_mem h)

/-- The state in which CONVERT opens its aperture: the counter is latched, and the gap of a loop-back that begins is counted. -/
def convertStart (volts : Int) (s : State) : State :=
  let t := (latchCounter volts s).2
  if s.loopInput = 1 then muteCounter t else t

theorem latchCounter_keeps (ks : List Nat) (volts : Int) (s : State) : Keeps ks [.cur] s (latchCounter volts s).2 := cur_keeps ks s _

theorem muteCounter_keeps (s : State) : Keeps [Obj.counterGapCount] [.cur] s (muteCounter s) :=
  (cur_keeps _ s _).trans (keeps_count _ _ 16 (by simp))

theorem convertStart_keeps (volts : Int) (s : State) : Keeps [Obj.counterGapCount] [.cur] s (convertStart volts s) :=
  keeps_ite _ ((latchCounter_keeps _ volts s).trans (muteCounter_keeps _)) (latchCounter_keeps _ volts s)

theorem convertStart_counter (volts : Int) (s : State) : (convertStart volts s).cur.counter = s.cur.counter := by
  unfold convertStart
  dsimp only
  split_ifs <;> rfl

theorem convertStart_next (volts : Int) (s : State) : (convertStart volts s).cur.next = s.cur.next ++ [(s.clk + 28, volts)] := by
  unfold convertStart
  dsimp only
  split_ifs <;> rfl

theorem convertStart_gaps (volts : Int) (s : State) :
    (convertStart volts s).get Obj.counterGapCount =
      if s.loopInput = 1 then sat 65535 (s.get Obj.counterGapCount + 1) else s.get Obj.counterGapCount := by
  unfold convertStart
  dsimp only
  split_ifs
  · exact State.get_count_self _ _ _
  · rfl

/-- The aperture that CONVERT opens, by what its operands and the state before it give. -/
structure Opens (cells osr : Nat) (through : Bool) (volts : Int) (s : State) (x : Aperture) : Prop where
  a : x.a = s.apertureA.1
  mask : x.mask = cells
  osr : x.osr = osr
  through : x.through = through
  cycle : x.cycle = s.cycle
  calib : x.calib = s.loopInput
  latch : x.latch = (latchCounter volts s).1

theorem Opens.congr {cells osr : Nat} {through : Bool} {volts : Int} {s : State} {x y : Aperture} (h : Opens cells osr through volts s x)
    (e : ({ y with conduct := 0 } : Aperture) = { x with conduct := 0 }) : Opens cells osr through volts s y :=
  ⟨(congrArg Aperture.a e).trans h.a, (congrArg Aperture.mask e).trans h.mask, (congrArg Aperture.osr e).trans h.osr,
    (congrArg Aperture.through e).trans h.through, (congrArg Aperture.cycle e).trans h.cycle, (congrArg Aperture.calib e).trans h.calib,
    (congrArg Aperture.latch e).trans h.latch⟩

theorem setSp_apertures (k : Nat) (e : SpareEng) (s : State) : (s.setSp k e).cells.apertures = s.cells.apertures := by
  unfold State.setSp
  split_ifs <;> rfl

theorem setSp_keeps (ks : List Nat) (k : Nat) (e : SpareEng) (s : State) : Keeps ks [.cells] s (s.setSp k e) :=
  keeps_ite _ (cells_keeps ks s _) (cells_keeps ks s _)

theorem convertStart_apertures (volts : Int) (s : State) : (convertStart volts s).cells.apertures = s.cells.apertures := by
  unfold convertStart
  dsimp only
  split_ifs <;> rfl

/-- A spare converts its overlap aperture, or not. -/
def overlapTaken (k : Nat) (o : Bool) (s : State) : State := if o then s.setSp k { s.sp k with overlapDue := false } else s

theorem overlapTaken_keeps (k : Nat) (o : Bool) (s : State) : Keeps [] [.cells] s (overlapTaken k o s) :=
  keeps_ite _ (setSp_keeps [] _ _ _) (.refl _ _ _)

theorem overlapTaken_apertures (k : Nat) (o : Bool) (s : State) : (overlapTaken k o s).cells.apertures = s.cells.apertures := by
  unfold overlapTaken
  split_ifs
  · exact setSp_apertures _ _ _
  · rfl

/-- What CONVERT does while a plan runs: it opens one aperture, in which a spare may take its overlap. -/
theorem effConvert_opens (cells osr : Nat) (through : Bool) (volts : Int) {s : State} (h : s.planRuns = true) :
    ∃ x o1 o2, Opens cells osr through volts s x ∧
      effConvert cells osr through volts s = overlapTaken 2 o2 (overlapTaken 1 o1 { convertStart volts s with
        cells := { (convertStart volts s).cells with apertures := (convertStart volts s).cells.apertures ++ [x] } }) := by
  have k := convertStart_keeps volts s
  have hr : (convertStart volts s).planRuns = true := (planRuns_of_keeps k (by decide)).trans h
  have ha : (convertStart volts s).apertureA = s.apertureA := by
    unfold State.apertureA
    rw [show (convertStart volts s).ringTime = s.ringTime from k.2 .ringTime (by decide), k.clk (by decide)]
  have hc : (convertStart volts s).cycle = s.cycle := k.get (by decide)
  have hl : (latchCounter volts s).2.loopInput = s.loopInput := rfl
  have hs : (if (latchCounter volts s).2.loopInput = 1 then muteCounter (latchCounter volts s).2 else (latchCounter volts s).2) =
      convertStart volts s := rfl
  unfold effConvert
  generalize hp : latchCounter volts s = p at hl hs
  obtain ⟨latch, s1⟩ := p
  dsimp only at hl hs ⊢
  rw [hs, hr, if_neg (by decide)]
  refine ⟨_, _, _, ?_, rfl⟩
  exact ⟨congrArg Prod.fst ha, rfl, rfl, rfl, hc, hl, (congrArg Prod.fst hp).symm⟩

/-- CONVERT while a plan runs. -/
theorem convert_runs (dt cells osr : Nat) (through : Bool) (volts : Int) (s : State) (hw : Instr.wf (.convert dt cells osr through volts) = true)
    (h : (s.found dt).planRuns = true) :
    Completes (.convert dt cells osr through volts) dt s [Obj.counterGapCount] [.cells, .cur] (fun u t =>
      t.cur = (convertStart volts u).cur ∧ t.get Obj.counterGapCount = (convertStart volts u).get Obj.counterGapCount ∧
        t.cells.apertures.length = u.cells.apertures.length + 1 ∧ ∃ x ∈ t.cells.apertures, Opens cells osr through volts u x) := by
  obtain ⟨x, o1, o2, hx, he⟩ := effConvert_opens cells osr through volts h
  set v := convertStart volts (s.found dt)
  set y : State := { v with cells := { v.cells with apertures := v.cells.apertures ++ [x] } }
  have ky : Keeps [] [.cells] v (overlapTaken 2 o2 (overlapTaken 1 o1 y)) :=
    (cells_keeps [] v _).trans ((overlapTaken_keeps 1 o1 y).trans (overlapTaken_keeps 2 o2 _))
  have ha : (overlapTaken 2 o2 (overlapTaken 1 o1 y)).cells.apertures = (s.found dt).cells.apertures ++ [x] := by
    rw [overlapTaken_apertures, overlapTaken_apertures]
    exact congrArg (· ++ [x]) (convertStart_apertures volts (s.found dt))
  have hk : Keeps [Obj.counterGapCount] [.cells, .cur] (s.found dt) (effConvert cells osr through volts (s.found dt)) := by
    rw [he]
    exact (keeps_mono (convertStart_keeps volts _) (by simp) (by simp)).trans (keeps_mono ky (by simp) (by simp))
  refine completes_of hw rfl ?_ hk
  rw [he]
  refine ⟨?_, ?_, ?_, ?_⟩
  · rw [settle_cur]
    exact ky.2 .cur (by decide)
  · rw [settle_get]
    exact ky.get (by simp)
  · rw [settle_apertures_length, ha, List.length_append, List.length_singleton]
  · obtain ⟨z, hz, e⟩ := settle_aperture_mem (ha ▸ List.mem_append_right _ (List.mem_singleton_self x))
    exact ⟨z, hz, hx.congr e⟩

/-! SNAP_CURRENT (R200). -/

theorem snapCurrent_runs (dt : Nat) (volts : Int) (s : State) (h : (s.found dt).planRuns = true) :
    Completes (.snapCurrent dt volts) dt s [Obj.coulombSnapshot + 1, Obj.coulombSnapshot + 2, Obj.coulombSnapshot + 3] [.cur] (fun u t =>
      t.get (Obj.coulombSnapshot + 1) = (latchCounter volts u).1 ∧ t.get (Obj.coulombSnapshot + 2) = u.apertureA.1 ∧
        t.get (Obj.coulombSnapshot + 3) = (u.get (Obj.coulombSnapshot + 3) + 1) % 2 ^ 32) := by
  have hk := latchCounter_keeps [Obj.coulombSnapshot + 1, Obj.coulombSnapshot + 2, Obj.coulombSnapshot + 3] volts (s.found dt)
  have he : effSnapCurrent volts (s.found dt) = (((latchCounter volts (s.found dt)).2.set (Obj.coulombSnapshot + 1)
      (latchCounter volts (s.found dt)).1).set (Obj.coulombSnapshot + 2) (s.found dt).apertureA.1).wrap (Obj.coulombSnapshot + 3) 32 := by
    have hr : (latchCounter volts (s.found dt)).2.planRuns = true := h
    unfold effSnapCurrent
    dsimp only
    rw [hr, if_neg (by decide)]
    rfl
  refine completes_of rfl rfl ?_ ?_
  · rw [he]
    simp only [settle_get]
    refine ⟨?_, ?_, ?_⟩
    · rw [State.get_wrap_ne _ _ (by decide), State.get_set_ne _ _ (by decide), State.get_set_self]
    · rw [State.get_wrap_ne _ _ (by decide), State.get_set_self]
    · rw [State.get_wrap_self, State.get_set_ne _ _ (by decide), State.get_set_ne _ _ (by decide)]
      rfl
  · rw [he]
    exact ((hk.trans (keeps_set _ _ _ (by simp))).trans (keeps_set _ _ _ (by simp))).trans (keeps_set _ _ _ (by simp))

/-- The value of a latch: two latches of one aperture start take the same (R200). -/
theorem latchCounter_first (volts : Int) {s : State} (h : s.cur.latched = none) :
    (latchCounter volts s).1 = (s.counterAfter (s.apertureA.2 - s.clk)).1 := by
  unfold latchCounter
  rw [h]
  rfl

theorem latchCounter_again (volts : Int) {s : State} {p : Nat × Nat} (h : s.cur.latched = some p) :
    (latchCounter volts s).1 = if p.1 = s.apertureA.2 then p.2 else (s.counterAfter (s.apertureA.2 - s.clk)).1 := by
  unfold latchCounter
  rw [h]
  by_cases hp : p.1 = s.apertureA.2
  · simp only [Option.filter, hp, decide_true, if_true]
  · simp only [Option.filter, hp, decide_false, Bool.false_eq_true, if_false]

/-- A meaning completes with what follows from what it completes with. -/
theorem completes_imp {i : Instr} {dt : Nat} {s : State} {ks : List Nat} {bs : List Block} {post post' : State → State → Prop}
    (h : Completes i dt s ks bs post) (hp : ∀ t, post (s.found dt) t → post' (s.found dt) t) : Completes i dt s ks bs post' := by
  obtain ⟨t, he, ht, hk⟩ := h
  exact ⟨t, he, hp t ht, hk⟩

/-- Settles O33: CONVERT and SNAP_CURRENT by the latch that they share, and the run of the counter by what its parts add. -/
theorem convertRuns : Obligations.ConvertRuns := by
  unfold Obligations.ConvertRuns
  refine ⟨fun dt cells osr through volts s hw hr hl => ?_, fun dt cells osr through volts p s hw hr hl => ?_,
    fun dt volts s hr => snapCurrent_runs dt volts s hr, fun m n s => integrate_add n m s,
    fun n s hd hm hl => counter_steady n hd hm hl, fun n w s hd hm hl => counter_follows n w hd hm hl,
    fun n s hd hm hn => counter_muted hd hm hn⟩
  · refine completes_imp (convert_runs dt cells osr through volts s hw hr) (fun t ⟨hc, hg, hn, x, hx, ho⟩ => ⟨?_, ?_, ?_, hn, x, hx, ?_⟩)
    · rw [hc, convertStart_counter]
    · rw [hc, convertStart_next]
    · rw [hg, convertStart_gaps]
    · exact ⟨ho.a, ho.mask, ho.osr, ho.through, ho.cycle, ho.calib, ho.latch.trans (latchCounter_first volts hl)⟩
  · refine completes_imp (convert_runs dt cells osr through volts s hw hr) (fun t ⟨_, _, _, x, hx, ho⟩ => ⟨x, hx, ho.a, ho.mask, ?_⟩)
    exact ho.latch.trans (latchCounter_again volts hl)

end Sys2Proof.Machine
end

section
namespace Sys2Proof.Machine

/-! A unit that waits with a shadow record of no channel (R153, R443, R447). -/

/-- A unit whose only record, of a channel number far beyond 24, has its place where ShadowResult would reach IntegrityLasting. -/
def strayUnit : CellUnit :=
  { a := 0, clkEnd := 0, osr := 0, mask := 0, planId := 0, cycle := 0, diag := false, latch := 0, loupe := false, holdover := false,
    conduct := 0, cells := [], cur := 0, curSat := false, shadow := [(Obj.integrityLasting - Obj.shadowResult, 5)], terms := [],
    waits := [1], clkA := 0, s1 := 0, s2 := 0, ovl := [], sense := [], ref := [], part := 0 }

/-- After a reset, with that unit waiting for the recomputation of converter 1. -/
def strayWaits : State := { State.reset with cells := { State.reset.cells with unit := [strayUnit] } }

theorem strayWaits_found :
    (strayWaits.found 1).cells.unit.find? (fun y => y.a = 0 && y.waits.contains 1) = some strayUnit ∧ Calm (strayWaits.found 1) ∧
      (strayWaits.found 1).cells.reports = [] ∧ (strayWaits.found 1).get Obj.integrityLasting = 0 := by
  and_intros <;> decide +kernel

/-- The recomputation succeeds, the unit is written, and its shadow record overwrites the count of lasting faults. -/
theorem strayWaits_written :
    (settle (effRecomputationComplete 0 1 true (strayWaits.found 1))).get Obj.integrityLasting = 5 := by
  decide +kernel

theorem exec_recomputationComplete (dt a k : Nat) {ok : Bool} {s : State} (hw : Instr.wf (.recomputationComplete dt a k ok) = true) :
    exec (.recomputationComplete dt a k ok) s = .next (settle (effRecomputationComplete a k ok (s.found dt))) := by
  show run (Instr.wf (.recomputationComplete dt a k ok)) dt (effRecomputationComplete a k ok) s = _
  rw [hw]
  rfl

/-- Refutes O43: its second clause says of every state what IntegrityLasting reads after a recomputation, and asks nothing of the unit that waits.
A shadow record of a channel number outside 1 to 24, which no aperture brings but the statement admits, is written beyond ShadowResult: there it
overwrites IntegrityLasting, which a recomputation that succeeds should leave. -/
theorem not_aperturesEnd : ¬ Obligations.AperturesEnd := by
  unfold Obligations.AperturesEnd
  rintro ⟨-, h, -⟩
  obtain ⟨hu, hc, hr, h0⟩ := strayWaits_found
  obtain ⟨t, he, -, -, ht⟩ := h 1 0 1 true strayUnit strayWaits (by decide) hu hc hr
  rw [exec_recomputationComplete 1 0 1 (by decide), Host.Outcome.next.injEq] at he
  rw [← he, strayWaits_written, if_pos rfl, h0] at ht
  exact absurd ht (by decide)

end Sys2Proof.Machine
end

section
namespace Sys2Proof.Machine

/-! The states of the spares, and 06h SPARE_EXHAUSTED that follows them (R148, R155). -/

theorem registers_6 : Registers 6 := by unfold Registers; decide

@[simp] theorem settle_spare (s : State) (k : Nat) : (settle s).spare k = s.spare k := by simp [State.spare, State.on]

@[simp] theorem settle_spareCell (s : State) (k : Nat) : (settle s).spareCell k = s.spareCell k := by simp [State.spareCell]

theorem spare_congr {s t : State} {k : Nat} (hd : t.get Obj.domainStatus = s.get Obj.domainStatus)
    (hs : t.get (Obj.spareState + k) = s.get (Obj.spareState + k)) : t.spare k = s.spare k := by
  unfold State.spare State.on
  rw [hd, hs]

theorem spareCell_congr {s t : State} {k : Nat} (hs : t.get (Obj.spareState + k) = s.get (Obj.spareState + k)) : t.spareCell k = s.spareCell k := by
  unfold State.spareCell
  rw [hs]

/-- A spare reads a state other than UNPOWERED while its half has power. -/
theorem spareDomain_on {s : State} {k : Nat} (h : s.spare k ≤ 5) : s.on (spareDomain k) = true := by
  by_contra hn
  have h6 : s.spare k = 6 := by
    unfold State.spare
    rw [Bool.not_eq_true] at hn
    rw [hn]
    rfl
  omega

theorem spare_powered {s : State} {k : Nat} (h : s.on (spareDomain k) = true) : s.spare k = bits (s.get (Obj.spareState + k)) 0 3 := by
  unfold State.spare
  rw [h, if_neg (by decide)]

/-- The object of a spare is no register of a source or a margin, and none of those that say where power stands. -/
theorem spareState_fresh {k : Nat} (hk : k = 1 ∨ k = 2) :
    Obj.spareState + k ∉ marginObjects ∧ Obj.spareState + k ∉ faultObjects 6 ++ marginObjects ∧ Obj.domainStatus ≠ Obj.spareState + k ∧
      Obj.modeStatus ≠ Obj.spareState + k ∧ Obj.retiredMask ≠ Obj.spareState + k ∧ faultObj Obj.faultSeverity 0x2B ≠ Obj.spareState + k := by
  rcases hk with rfl | rfl <;> decide

/-- A spare that neither covers a cell nor is FAULTY leaves 06h without its condition (R155). -/
theorem exhausted_of_spare {s : State} {k : Nat} (hk : k = 1 ∨ k = 2) (h3 : s.spare k ≠ 3) (h5 : s.spare k ≠ 5) : s.exhausted = false := by
  unfold State.exhausted
  rcases hk with rfl | rfl <;> simp [h3, h5]

/-- While a spare is left, the spares set no source but 2Bh. -/
theorem exhaustion_spared {s : State} (he : s.exhausted = false) (h : NoEntry 0x2B s) : Keeps marginObjects faultBlocks s (exhaustion s) := by
  unfold exhaustion
  rw [he, if_neg Bool.false_ne_true]
  have hf : Keeps [] [.flt] s (if (s.spare 1 = 0 || s.spare 2 = 0) = true then faultFollow 6 false s else s) :=
    keeps_ite _ (faultFollow_false_keeps 6 s) (.refl _ _ _)
  exact (keeps_mono hf (by simp) (by decide)).trans (marginsFollow_keeps (h.congr (hf.get (by simp)) (hf.get (by simp))))

/-- What the spares set where neither 06h nor 2Bh leads to SAFE. -/
theorem exhaustion_keeps {s : State} (h6 : NoEntry 6 s) (h : NoEntry 0x2B s) :
    Keeps (faultObjects 6 ++ marginObjects) faultBlocks s (exhaustion s) := by
  unfold exhaustion
  have ho := faultFollow_keeps true registers_6 h6
  have hf : Keeps (faultObjects 6) faultBlocks s
      (if s.exhausted = true then faultFollow 6 true s else if (s.spare 1 = 0 || s.spare 2 = 0) = true then faultFollow 6 false s else s) :=
    keeps_ite _ ho (keeps_ite _ (keeps_mono (faultFollow_false_keeps 6 s) (by simp) (by decide)) (.refl _ _ _))
  have hm := marginsFollow_keeps (h.congr (hf.get (by decide)) (hf.get (by decide)))
  exact (keeps_mono hf (fun _ => List.mem_append_left _) (fun _ => id)).trans (keeps_mono hm (fun _ => List.mem_append_right _) (fun _ => id))

/-! A channel and its spare change places (R149, R150). -/

theorem keep_keeps {ks : List Nat} (s : State) {k : Nat} (v : Nat) (h : k ∈ ks) : Keeps ks [.nvm] s (s.keep k v) := by
  rw [keep_eq]
  exact (keeps_set [.nvm] s v h).trans (nvm_keeps ks _ _)

theorem setChannel_keeps (n c : Nat) (s : State) : Keeps [Obj.channelState + n, Obj.shadowResult + n] [] s (setChannel n c s) := by
  have h : Keeps [Obj.channelState + n, Obj.shadowResult + n] [] s (s.set (Obj.channelState + n) c) := keeps_set [] s c (by simp)
  exact keeps_ite _ h (h.trans (keeps_set [] _ _ (by simp)))

theorem setChannel_get (n c : Nat) (s : State) : (setChannel n c s).get (Obj.channelState + n) = c := by
  have hn : Obj.channelState + n ≠ Obj.shadowResult + n := by
    simp only [Obj.channelState, Obj.shadowResult]
    omega
  unfold setChannel
  dsimp only
  split_ifs
  · exact State.get_set_self _ _ _
  · exact (State.get_set_ne _ _ hn).trans (State.get_set_self _ _ _)

/-- The objects that the input of channel n writes as it opens or serves again. -/
def channelObjects (n : Nat) : List Nat := [Obj.channelState + n, Obj.shadowResult + n, Obj.retiredMask]

theorem channelActive_keeps (n : Nat) (s : State) : Keeps (channelObjects n) [.cells, .nvm] s (channelActive n s) := by
  unfold channelActive
  extract_lets t src u
  have ht : Keeps (channelObjects n) [.cells, .nvm] s t := keeps_mono (setChannel_keeps n 0 s) (by simp [channelObjects]) (by simp)
  have hu : Keeps (channelObjects n) [.cells, .nvm] s u := ht.trans (keeps_mono (cells_keeps _ t _) (fun _ => id) (by simp))
  exact keeps_ite _ (hu.trans (keeps_mono (keep_keeps u _ (by simp [channelObjects])) (fun _ => id) (by simp))) hu

/-- The channel is ACTIVE, and not retired (R150, R154). -/
theorem channelActive_get {n : Nat} (s : State) (h : n ≤ 24) :
    (channelActive n s).get (Obj.channelState + n) = 0 ∧ bit ((channelActive n s).get Obj.retiredMask) (n - 1) = false := by
  have hm : Obj.channelState + n ≠ Obj.retiredMask := by
    simp only [Obj.channelState, Obj.retiredMask]
    omega
  have hg : (setChannel n 0 s).get (Obj.channelState + n) = 0 := setChannel_get n 0 s
  unfold channelActive
  extract_lets t src u
  split_ifs with hb
  · rw [keep_eq]
    exact ⟨(State.get_set_ne u _ hm).trans hg, (congrArg (bit · (n - 1)) (State.get_set_self u _ _)).trans (bit_setBit_self _ _ _)⟩
  · exact ⟨hg, Bool.not_eq_true _ ▸ hb⟩

/-- The objects that an input writes as it opens. -/
def openObjects (n : Nat) : List Nat := Obj.substitutionCount :: channelObjects n

theorem openInput_keeps (n : Nat) (s : State) : Keeps (openObjects n) [.cells, .nvm, .test] s (openInput n s) := by
  unfold openInput
  extract_lets t src u v src' w
  have ht : Keeps (openObjects n) [.cells, .nvm, .test] s t := keeps_count _ s 32 (by simp [openObjects])
  have hu : Keeps (openObjects n) [.cells, .nvm, .test] s u := ht.trans (keeps_mono (cells_keeps _ t _) (fun _ => id) (by simp))
  have hx : ∀ c, Keeps (openObjects n) [.cells, .nvm, .test] s (setChannel n c u) := fun c =>
    hu.trans (keeps_mono (setChannel_keeps n c u) (by simp [openObjects, channelObjects]) (by simp))
  have hv : Keeps (openObjects n) [.cells, .nvm, .test] s v :=
    (hx 2).trans (keeps_mono (keep_keeps _ _ (by simp [openObjects, channelObjects])) (fun _ => id) (by simp))
  exact keeps_ite _ (hv.trans (keeps_mono (cells_keeps _ v _) (fun _ => id) (by simp)))
    ((hx 1).trans (keeps_mono (test_keeps _ w _) (fun _ => id) (by simp)))

theorem faultLapse_keeps (c : Nat) (s : State) : Keeps [] [.flt] s (faultLapse c s) :=
  keeps_ite _ ⟨fun _ _ => rfl, fun b hb => by cases b <;> simp_all [Block.same]⟩ (.refl _ _ _)

theorem converterFault_keeps (s : State) : Keeps [] [.cells, .flt] s (converterFault s) := by
  unfold converterFault
  extract_lets c src t
  have ht : Keeps [] [.cells, .flt] s t := keeps_mono (cells_keeps [] s _) (fun _ => id) (by simp)
  exact keeps_ite _ (ht.trans (keeps_mono (faultFollow_false_keeps 5 t) (fun _ => id) (by simp)))
    (ht.trans (keeps_mono (faultLapse_keeps 5 t) (fun _ => id) (by simp)))

/-- The objects that the inputs write as they open. -/
def inputObjects : List Nat := (List.range 25).flatMap openObjects

theorem openInputs_keeps (s : State) : Keeps inputObjects [.cells, .nvm, .test, .flt] s (openInputs s) := by
  have hf : Keeps inputObjects [.cells, .nvm, .test, .flt] s
      ((bitList s.cells.releasing 24).foldl (fun t i => if t.channelServes (i + 1) then t else openInput (i + 1) t) s) := by
    refine List.foldlRecOn _ _ (Keeps.refl _ _ s) (fun t ht i hi => ?_)
    have hi : i < 24 := List.mem_range.mp (List.mem_filter.mp hi).1
    have hm : ∀ j ∈ openObjects (i + 1), j ∈ inputObjects := fun j hj => List.mem_flatMap.mpr ⟨i + 1, List.mem_range.mpr (by omega), hj⟩
    exact keeps_ite _ ht (ht.trans (keeps_mono (openInput_keeps (i + 1) t) hm (by simp)))
  exact hf.trans (keeps_mono (converterFault_keeps _) (by simp) (by simp))

/-! The spares arm, and hand back (R148 to R150). -/

theorem spareOperand {k : Nat} (h : (decide (k = 1) || decide (k = 2)) = true) : k = 1 ∨ k = 2 := by
  simpa only [Bool.or_eq_true, decide_eq_true_eq] using h

/-- A spare that has armed serves its cell (R149). -/
theorem spareArming_serves {k : Nat} (hk : k = 1 ∨ k = 2) {s : State} (h1 : s.spare k = 1) (hr : (s.sp k).returning = false)
    (h6 : s.get (faultObj Obj.faultSeverity 6) ≠ 3) (hb : s.get (faultObj Obj.faultSeverity 0x2B) ≠ 3) :
    (effSpareArmingComplete k s).spare k = (if (s.sp k).cover then 3 else 2) ∧ (effSpareArmingComplete k s).spareCell k = s.spareCell k := by
  unfold effSpareArmingComplete
  rw [h1, hr, if_pos (by decide)]
  extract_lets t n
  set c := if (s.sp k).cover = true then 3 else 2 with hc
  have ht : Keeps [Obj.spareState + k] [] s t := keeps_set [] s _ (by simp)
  have gt : t.get (Obj.spareState + k) = setBits (s.get (Obj.spareState + k)) 0 3 c := State.get_setField_self _ _ _ _ _
  set u : State := { t with cells := { t.cells with releasing := setBit t.cells.releasing (n - 1) true } }
  have ku : Keeps inputObjects [.cells, .nvm, .test, .flt] u (openInputs u) := openInputs_keeps u
  have g : ∀ j, j ∉ inputObjects → j ≠ Obj.spareState + k → (openInputs u).get j = s.get j := fun j hi hj =>
    (ku.get hi).trans (ht.get (by simpa using hj))
  have ks := exhaustion_keeps (s := openInputs u)
    (.inl ⟨by decide, by rw [g _ (by decide +kernel) (by rcases hk with rfl | rfl <;> decide)]; exact h6⟩)
    (.inl ⟨by decide, by rw [g _ (by decide +kernel) (by rcases hk with rfl | rfl <;> decide)]; exact hb⟩)
  have gs : (exhaustion (openInputs u)).get (Obj.spareState + k) = setBits (s.get (Obj.spareState + k)) 0 3 c :=
    (ks.get (spareState_fresh hk).2.1).trans ((ku.get (by rcases hk with rfl | rfl <;> decide +kernel)).trans gt)
  have gd : (exhaustion (openInputs u)).get Obj.domainStatus = s.get Obj.domainStatus :=
    (ks.get (by decide)).trans (g _ (by decide +kernel) (by rcases hk with rfl | rfl <;> decide))
  have hd : (exhaustion (openInputs u)).on (spareDomain k) = true := by
    unfold State.on
    rw [gd]
    exact spareDomain_on (by omega)
  refine ⟨?_, ?_⟩
  · rw [spare_powered hd, gs, bits_setBits, hc]
    split_ifs <;> rfl
  · unfold State.spareCell
    rw [gs, bits_setBits_above _ _ _ _ _ _ (by decide)]

theorem freeSpare_keeps (k : Nat) (s : State) : Keeps [Obj.spareState + k] [.cells] s (freeSpare k s) :=
  (keeps_set [.cells] s _ (by simp)).trans (setSp_keeps _ _ _ _)

/-- The result of the last check of a spare stands apart from its STATE and CELL (R157). -/
theorem bits_spareCheck {b : Nat} (h : b < 2) : bits (b * 2 ^ 7) 0 3 = 0 ∧ bits (b * 2 ^ 7) 8 8 = 0 := by
  interval_cases b <;> decide

theorem freeSpare_get (k : Nat) (s : State) :
    (freeSpare k s).get (Obj.spareState + k) = bits (s.get (Obj.spareState + k)) 7 1 * 2 ^ 7 := by
  unfold freeSpare State.setSp
  dsimp only
  split_ifs <;> exact State.get_set_self _ _ _

/-- A spare without a CONVERT of its cell in time is FREE (R150). -/
theorem freeSpare_exhaustion {k : Nat} (hk : k = 1 ∨ k = 2) {s : State} (h5 : s.spare k ≤ 5) (hb : s.get (faultObj Obj.faultSeverity 0x2B) ≠ 3) :
    Keeps ((Obj.spareState + k) :: marginObjects) (.cells :: faultBlocks) s (exhaustion (freeSpare k s)) ∧
      (exhaustion (freeSpare k s)).spare k = 0 ∧ (exhaustion (freeSpare k s)).spareCell k = 0 := by
  obtain ⟨hm, -, hd, -, -, hs⟩ := spareState_fresh hk
  have kf := freeSpare_keeps k s
  obtain ⟨hst, hcl⟩ := bits_spareCheck (bits_lt (s.get (Obj.spareState + k)) 7 1)
  have hon : (freeSpare k s).on (spareDomain k) = true := by
    unfold State.on
    rw [kf.get (by simpa using hd)]
    exact spareDomain_on h5
  have h0 : (freeSpare k s).spare k = 0 := by
    rw [spare_powered hon, freeSpare_get, hst]
  have hc : (freeSpare k s).spareCell k = 0 := by
    unfold State.spareCell
    rw [freeSpare_get, hcl]
  have ke := exhaustion_spared (s := freeSpare k s) (exhausted_of_spare hk (by omega) (by omega))
    (.inl ⟨by decide, by rw [kf.get (by simpa using hs)]; exact hb⟩)
  refine ⟨(keeps_mono kf (by simp) (by simp)).trans (keeps_mono ke (fun _ => List.mem_cons_of_mem _) (fun _ => List.mem_cons_of_mem _)), ?_, ?_⟩
  · rw [spare_congr (ke.get (by decide)) (ke.get hm), h0]
  · rw [spareCell_congr (ke.get hm), hc]

/-- The channel of a spare on its way back is ACTIVE, and the spare converts its overlap aperture (R150). -/
theorem handBack_active {k : Nat} (hk : k = 1 ∨ k = 2) {s : State} (h5 : s.spare k ≤ 5) (hn : s.spareCell k ≤ 24)
    (hb : s.get (faultObj Obj.faultSeverity 0x2B) ≠ 3) (e : SpareEng) :
    let t := exhaustion (((channelActive (s.spareCell k) s).setField (Obj.spareState + k) 0 3 4).setSp k e)
    Keeps ([Obj.channelState + s.spareCell k, Obj.shadowResult + s.spareCell k, Obj.retiredMask, Obj.spareState + k] ++ marginObjects)
        ([.cells, .nvm] ++ faultBlocks) s t ∧
      t.get (Obj.channelState + s.spareCell k) = 0 ∧ t.spare k = 4 ∧ bit (t.get Obj.retiredMask) (s.spareCell k - 1) = false := by
  obtain ⟨hm, -, hd, -, hr, hs⟩ := spareState_fresh hk
  generalize hc : s.spareCell k = n at hn ⊢
  have ka := channelActive_keeps n s
  obtain ⟨ga, gr⟩ := channelActive_get s hn
  set a := channelActive n s
  set b := (a.setField (Obj.spareState + k) 0 3 4).setSp k e with hbdef
  have kb : Keeps [Obj.spareState + k] [.cells] a b := (keeps_set [.cells] a _ (by simp)).trans (setSp_keeps _ _ _ _)
  have gb : b.get (Obj.spareState + k) = setBits (a.get (Obj.spareState + k)) 0 3 4 :=
    ((setSp_keeps [] k e _).get (by simp)).trans (State.get_setField_self _ _ _ _ _)
  have hx : Obj.channelState + n ≠ Obj.spareState + k := by
    simp only [Obj.channelState, Obj.spareState]
    omega
  have hon : b.on (spareDomain k) = true := by
    have hna : Obj.domainStatus ∉ channelObjects n := by
      simp only [channelObjects, List.mem_cons, List.not_mem_nil, or_false, Obj.domainStatus, Obj.channelState, Obj.shadowResult, Obj.retiredMask]
      omega
    unfold State.on
    rw [kb.get (by simpa using hd), ka.get hna]
    exact spareDomain_on h5
  have h4 : b.spare k = 4 := by
    rw [spare_powered hon, gb, bits_setBits]
    rfl
  have hsev : b.get (faultObj Obj.faultSeverity 0x2B) ≠ 3 := by
    have hna : faultObj Obj.faultSeverity 0x2B ∉ channelObjects n := by
      simp only [channelObjects, List.mem_cons, List.not_mem_nil, or_false, Obj.channelState, Obj.shadowResult, Obj.retiredMask, faultObj,
        Obj.faultSeverity]
      omega
    rw [kb.get (by simpa using hs), ka.get hna]
    exact hb
  have ke := exhaustion_spared (exhausted_of_spare hk (by omega) (by omega)) (.inl ⟨by decide, hsev⟩)
  have hcm : Obj.channelState + n ∉ marginObjects := by
    have : ∀ i : Fin 25, Obj.channelState + i.val ∉ marginObjects := by decide
    exact this ⟨n, by omega⟩
  refine ⟨?_, ?_, ?_, ?_⟩
  · refine ((keeps_mono ka ?_ ?_).trans (keeps_mono kb ?_ ?_)).trans (keeps_mono ke (fun _ => List.mem_append_right _) (fun _ => List.mem_append_right _))
    all_goals simp [channelObjects]
  · rw [ke.get hcm, kb.get (by simpa using hx), ga]
  · rw [spare_congr (ke.get (by decide)) (ke.get hm), h4]
  · rw [ke.get (by decide), kb.get (by simpa using hr), gr]

/-- Settles O44: each of the three commands writes the spare's own object, and what follows the spares leaves it. -/
theorem sparesRun : Obligations.SparesRun := by
  unfold Obligations.SparesRun
  refine ⟨fun dt k s hw h1 hr h6 _ hb => ?_, fun dt k s hw h4 ho hb => ?_, fun dt k s hw h0 hr h5 _ hn hc hb => ?_, fun dt k s hw h => ?_⟩
  · obtain ⟨hs, hc⟩ := spareArming_serves (spareOperand hw) h1 hr h6 hb
    exact leads_of hw rfl ⟨(settle_spare _ _).trans hs, (settle_spareCell _ _).trans hc⟩
  · have he : effHandBackTimeout k (s.found dt) = exhaustion (freeSpare k (s.found dt)) := by
      unfold effHandBackTimeout
      rw [h4, ho, if_pos (by decide)]
    obtain ⟨hk, hs, hc⟩ := freeSpare_exhaustion (spareOperand hw) (h4.le.trans (by decide)) hb
    refine completes_of (eff := effHandBackTimeout k) hw rfl ?_ (he ▸ hk)
    rw [he]
    exact ⟨(settle_spare _ _).trans hs, (settle_spareCell _ _).trans hc⟩
  · have he : effHandBackChannelActive k (s.found dt) =
        exhaustion (((channelActive ((s.found dt).spareCell k) (s.found dt)).setField (Obj.spareState + k) 0 3 4).setSp k
          { (s.found dt).sp k with returning := false }) := by
      have hx : ¬((decide ((s.found dt).channel ((s.found dt).spareCell k) = 2) && ((s.found dt).spare k != 3)) = true) := by
        rw [Bool.and_eq_true, decide_eq_true_eq, bne_iff_ne]
        exact fun ⟨h2, h3⟩ => h3 (hc h2)
      unfold effHandBackChannelActive
      dsimp only
      rw [h0, hr, if_neg (by decide), if_neg (by decide), if_neg hx]
    obtain ⟨hk, hg, hs, hm⟩ := handBack_active (spareOperand hw) h5 hn hb { (s.found dt).sp k with returning := false }
    refine completes_of (eff := effHandBackChannelActive k) hw rfl ?_ (he ▸ hk)
    rw [he]
    exact ⟨(settle_get _ _).trans hg, (settle_spare _ _).trans hs, (congrArg (bit · _) (settle_get _ _)).trans hm⟩
  · refine completes_idle (eff := effSpareArmingComplete k) hw rfl ?_
    unfold effSpareArmingComplete
    refine if_neg ?_
    rw [Bool.and_eq_true, decide_eq_true_eq, Bool.not_eq_true', not_and_or, Bool.not_eq_false]
    exact h

end Sys2Proof.Machine
end

section
namespace Sys2Proof.Machine

/-! A source that sets leaves a request for a reset as it was (R106, R455). -/

theorem event_reset (a b : Nat) (s : State) : (event a b s).port.resetReq = s.port.resetReq := by
  unfold event ringEvent portEvent
  split_ifs <;> rfl

theorem recurs_reset (c : Nat) (s : State) : (recurs c s).port.resetReq = s.port.resetReq := by
  unfold recurs
  dsimp only
  split_ifs <;> rfl

theorem raised_reset (c : Nat) (d : State) : (raised c d).port.resetReq = d.port.resetReq := by
  unfold raised
  extract_lets lim latch sev src e
  have hn : ∀ x : State, (notify x).port = x.port := fun x => (notify_keeps x).2 .port (by decide)
  rw [hn]
  split_ifs
  · exact event_reset 1 c e
  · rfl

theorem stageAuto_reset (m c : Nat) (s : State) : (stageAuto m c s).port.resetReq = s.port.resetReq :=
  congrArg Port.resetReq ((stageAuto_keeps m c s).2 .port (by decide))

theorem faultOccur_reset {c : Nat} {s : State} (hr : Registers c) (h : NoEntry c s) :
    (faultOccur c s).port.resetReq = s.port.resetReq := by
  obtain ⟨hc, hv, hm⟩ := hr
  cases hs : s.faultOn c with
  | true => rw [faultOccur_again hs hc, recurs_reset]
  | false =>
    have hf : (raised c (recurs c s)).port.resetReq = s.port.resetReq := (raised_reset c _).trans (recurs_reset c s)
    have hn : (if c ≤ 1 then 3 else (recurs c s).get (faultObj Obj.faultSeverity c)) = 3 →
        enterSafe (raised c (recurs c s)) = raised c (recurs c s) := fun h3 => by
      rcases h with ⟨h2, h4⟩ | hi
      · rw [if_neg (by omega), (recurs_keeps c s).get hv] at h3
        exact absurd h3 h4
      · exact enterSafe_id (by rw [modeIn_congr safeFrom (raised_modeStatus _ hm), modeIn_congr safeFrom ((recurs_keeps c s).get hm), hi])
    rw [faultOccur_raises hs]
    extract_lets f sev
    split_ifs with h3
    · exact (congrArg (fun x : State => x.port.resetReq) (hn h3)).trans hf
    · exact (stageAuto_reset _ _ _).trans hf
    · exact hf

theorem faultFollow_false_reset (c : Nat) (s : State) : (faultFollow c false s).port.resetReq = s.port.resetReq :=
  congrArg Port.resetReq ((faultFollow_false_keeps c s).2 .port (by decide))

theorem marginsFollow_reset {s : State} (h : NoEntry 0x2B s) : (marginsFollow s).port.resetReq = s.port.resetReq := by
  unfold marginsFollow margins
  dsimp only
  set t := s.setField Obj.marginStatus 0 40 (ofLe s.marginList)
  have hn : NoEntry 0x2B (t.set Obj.ageingMarginCause s.marginCause) := by
    refine h.congr ?_ ?_
    · exact (State.get_set_ne _ _ (by decide)).trans (State.get_set_ne _ _ (by decide))
    · exact (State.get_set_ne _ _ (by decide)).trans (State.get_set_ne _ _ (by decide))
  split_ifs
  · rfl
  · exact faultFollow_false_reset 0x2B t
  · rfl
  · exact faultOccur_reset registers_2B hn

theorem exhaustion_spared_reset {s : State} (he : s.exhausted = false) (h : NoEntry 0x2B s) :
    (exhaustion s).port.resetReq = s.port.resetReq := by
  unfold exhaustion
  rw [he, if_neg Bool.false_ne_true]
  split_ifs
  · have kf := faultFollow_false_keeps 6 s
    exact (marginsFollow_reset (h.congr (kf.get (by simp)) (kf.get (by simp)))).trans (faultFollow_false_reset 6 s)
  · exact marginsFollow_reset h

/-- What decides whether an answer leaves, where a write has set sources too. -/
theorem CanAnswer.of_reset {s u : State} {c : Ctx} {n op index sub : Nat} {ks : List Nat} {bs : List Block} (h : Heard s c n op index sub)
    (hk : Keeps ks bs (received n s) u)
    (ho : ∀ k ∈ [Obj.domainStatus, Obj.supervisorState, Obj.updateStatus, Obj.nodeAddress, Obj.hostPortActive], k ∉ ks)
    (hr : u.port.resetReq = (received n s).port.resetReq) : CanAnswer s u := by
  have hp : CanAnswer s { received n s with objs := u.objs } := by
    refine .of_keeps (ks := ks) (bs := []) h ⟨fun k hx => hk.get hx, fun b _ => ?_⟩ ho (by simp)
    cases b <;> simp [Block.same]
  exact ⟨hp.port, hr.trans hp.reset, hp.update, hp.address, hp.spi⟩

/-! The decision to retire a channel (R152). -/

/-- The two spares, in the order in which a half looks for a cover. -/
theorem coverFor_spare {s : State} {n k : Nat} {b : Bool} (h : s.coverFor n = some (k, b)) :
    (k = 1 ∨ k = 2) ∧ s.spare k = if b then 2 else 0 := by
  have ho : ∀ j ∈ (if n ≤ 12 then [1, 2] else [2, 1]), j = 1 ∨ j = 2 := by
    split_ifs <;> simp [or_comm]
  unfold State.coverFor at h
  dsimp only at h
  split at h
  · rename_i j hj
    obtain ⟨rfl, rfl⟩ := Prod.mk.inj (Option.some.inj h)
    exact ⟨ho _ (List.mem_of_find?_eq_some hj), by simpa using List.find?_some hj⟩
  · obtain ⟨j, hj, he⟩ := Option.map_eq_some_iff.mp h
    obtain ⟨rfl, rfl⟩ := Prod.mk.inj he
    have hs := List.find?_some hj
    simp only [Bool.and_eq_true, decide_eq_true_eq] at hs
    exact ⟨ho _ (List.mem_of_find?_eq_some hj), hs.1.1⟩

theorem coincides_spare {s : State} {n k : Nat} (h : s.coincides n = some k) : (k = 1 ∨ k = 2) ∧ s.spare k = 1 := by
  have hs := List.find?_some h
  simp only [Bool.and_eq_true, decide_eq_true_eq] at hs
  exact ⟨by simpa using List.mem_of_find?_eq_some h, hs.1.1.1.1⟩

/-- The retirement of channel n waits: its bit is set, and one of the spares, which serves or arms, will cover it. -/
structure RetireWaits (n : Nat) (s t : State) : Prop where
  keeps : Keeps [Obj.spareState + 1, Obj.spareState + 2] [.cells] s t
  retiring : bit t.cells.retiring (n - 1) = true
  spared : t.exhausted = false

/-- The state with channel n marked as retiring. -/
def retiringMarked (n : Nat) (t : State) : State := { t with cells := { t.cells with retiring := setBit t.cells.retiring (n - 1) true } }

theorem RetireWaits.marked {n k : Nat} {s t : State} (hk : k = 1 ∨ k = 2)
    (ht : Keeps [Obj.spareState + 1, Obj.spareState + 2] [.cells] s t) (h3 : t.spare k ≠ 3) (h5 : t.spare k ≠ 5) :
    RetireWaits n s (retiringMarked n t) :=
  ⟨ht.trans (keeps_mono (cells_keeps [] t _) (by simp) (by simp)), bit_setBit_self _ _ _,
    exhausted_of_spare (s := retiringMarked n t) hk h3 h5⟩

theorem setSp_spare (k j : Nat) (e : SpareEng) (s : State) : (s.setSp k e).spare j = s.spare j :=
  have h := setSp_keeps [] k e s
  spare_congr (h.get (by simp)) (h.get (by simp))

theorem armSpare_keeps (k n : Nat) (b : Bool) (s : State) : Keeps [Obj.spareState + k] [.cells] s (armSpare k n b s) :=
  (keeps_set [.cells] s _ (by simp)).trans (setSp_keeps _ _ _ _)

/-- A powered spare that starts a take-over arms (R149). -/
theorem armSpare_spare {k : Nat} (hk : k = 1 ∨ k = 2) (n : Nat) (b : Bool) {s : State} (h5 : s.spare k ≤ 5) : (armSpare k n b s).spare k = 1 := by
  obtain ⟨-, -, hd, -⟩ := spareState_fresh hk
  have hon : (armSpare k n b s).on (spareDomain k) = true := by
    unfold State.on
    rw [(armSpare_keeps k n b s).get (by simpa using hd)]
    exact spareDomain_on h5
  rw [spare_powered hon]
  unfold armSpare
  rw [(setSp_keeps [] k _ _).get (by simp), State.get_set_self, bits_setBits_below _ _ _ _ _ _ (by decide), bits_setBits]
  rfl

theorem retireChannel_waits {n : Nat} {s : State} (hs : s.test.slices = [])
    (h : ((s.coverFor n).isNone && (s.coincides n).isNone) = false) : RetireWaits n s (retireChannel n s) := by
  have hw : ({ s with test := { s.test with slices := [] } } : State) = s := by
    conv => rhs; rw [show s = { s with test := { s.test with slices := s.test.slices } } from rfl, hs]
  have hm : ∀ {k}, k = 1 ∨ k = 2 → ∀ j ∈ [Obj.spareState + k], j ∈ [Obj.spareState + 1, Obj.spareState + 2] := by
    rintro k (rfl | rfl) <;> simp
  unfold retireChannel
  dsimp only
  split
  · rename_i k hk
    obtain ⟨hk2, h1⟩ := coincides_spare hk
    simp only [hs, List.filter_nil, List.foldl_nil, hw]
    exact .marked hk2 (keeps_mono (setSp_keeps [] k _ s) (by simp) (by simp)) (by rw [setSp_spare]; omega) (by rw [setSp_spare]; omega)
  · rename_i hn
    split
    · rename_i k hk
      obtain ⟨hk2, h0⟩ := coverFor_spare hk
      have ha := armSpare_spare hk2 n true (s := s) (by rw [h0]; decide)
      rw [abortSlices_none _ hs]
      exact .marked hk2 (keeps_mono (armSpare_keeps k n true s) (hm hk2) (by simp)) (by omega) (by omega)
    · rename_i k hk
      obtain ⟨hk2, h2⟩ := coverFor_spare hk
      rw [if_pos rfl] at h2
      exact .marked hk2 (keeps_mono (setSp_keeps [] k _ s) (by simp) (by simp)) (by rw [setSp_spare]; omega) (by rw [setSp_spare]; omega)
    · rename_i hc
      rw [hc, hn] at h
      exact absurd h (by decide)

/-! A write of ChannelControl (R154, R157). -/

/-- ChannelControl in its table. -/
def channelControlRow : ObjRow := ⟨0x0422, 0x0422, 0x00, 0x00, .uint, 2, .wo, false, false, false, false, 0x0, 0xFFFF, .fields [(0, 8, 1, 2)]⟩

theorem lookup_channelControl : lookup 0x0422 0 = .inr channelControlRow := by decide +kernel

/-- A request for a cell, RETIRE (1) or REINSTATE (2), comes to its destination. -/
theorem writeObject_channelControl {op cell : Nat} (c : Ctx) (s : State) (h1 : 1 ≤ op) (h2 : op ≤ 2) (hc : cell ≤ 24) :
    writeObject c Obj.channelControl channelControlRow (ofLe [op, cell]) s = writeChannelControl (op + 256 * cell) s := by
  have hv : ofLe [op, cell] &&& 0xFFFF = op + 256 * cell := by
    rw [show ofLe [op, cell] = op + 256 * cell by simp [ofLe]]
    exact (Nat.and_two_pow_sub_one_eq_mod _ 16).trans (Nat.mod_eq_of_lt (by omega))
  have hb : bits (op + 256 * cell) 0 8 = op := by
    simp only [bits, pow_zero, Nat.div_one]
    omega
  have hi : (!channelControlRow.inRange (op + 256 * cell)) = false := by
    unfold ObjRow.inRange channelControlRow
    simp [hb, h1, h2]
  have hd : writeValue c Obj.channelControl (op + 256 * cell) s = writeChannelControl (op + 256 * cell) s := rfl
  unfold writeObject
  dsimp only
  rw [show channelControlRow.mask = 0xFFFF from rfl, hv, hi, if_neg Bool.false_ne_true, hd]
  cases writeChannelControl (op + 256 * cell) s <;> rfl

/-- What ChannelControl does for a cell from 1 to 24. -/
theorem writeChannelControl_cell {op cell : Nat} (s : State) (h1 : 1 ≤ op) (h2 : op ≤ 2) (hc1 : 1 ≤ cell) (hc2 : cell ≤ 24) :
    writeChannelControl (op + 256 * cell) s =
      if channelRefusal (op == 2) cell s != 0 then rejected (channelRefusal (op == 2) cell s) s
      else if op = 1 then .done (exhaustion (retireChannel cell s))
      else .done { s with cells := { s.cells with reinstate := setBit s.cells.reinstate (cell - 1) true } } := by
  have hq : (op + 256 * cell) / 256 = cell := by omega
  have hr : (op + 256 * cell) % 256 = op := by omega
  have hk : (!([1, 2].contains op) || decide (cell = 0) || decide (24 < cell)) = false := by
    have h : op = 1 ∨ op = 2 := by omega
    rcases h with rfl | rfl <;> simp <;> omega
  unfold writeChannelControl
  dsimp only
  rw [hq, hr, hk, if_neg Bool.false_ne_true]

/-- A request reaches ChannelControl as its destination writes it. -/
theorem channelRequest_eq {s : State} {c : Ctx} {n op cell : Nat} (h : HeardMaster s c n 2 0x0422 0) (h1 : 1 ≤ op) (h2 : op ≤ 2)
    (hc1 : 1 ≤ cell) (hc2 : cell ≤ 24) :
    arrive ⟨c, 2, 0x0422, 0, [op, cell], 0⟩ s =
      settleUpdate (conclude ⟨{ c with src := .host (s.client n) }, 2, 0x0422, 0, [op, cell], 0⟩ []
        (if channelRefusal (op == 2) cell (received n s) != 0 then rejected (channelRefusal (op == 2) cell (received n s)) (received n s)
         else if op = 1 then .done (exhaustion (retireChannel cell (received n s)))
         else .done { received n s with
           cells := { (received n s).cells with reinstate := setBit (received n s).cells.reinstate (cell - 1) true } })) := by
  have hw := host_writes h [op, cell] 0 lookup_channelControl (received_writeAccess h.master (by decide) (.inr rfl)) (by decide) rfl
  rw [hw, show objKey 0x0422 0 = Obj.channelControl from rfl, writeObject_channelControl _ _ h1 h2 hc2,
    writeChannelControl_cell _ h1 h2 hc1 hc2]

/-- The rule of a refusal reads the objects, the cell channels and the clock (R154). -/
theorem channelRefusal_congr {s t : State} (b : Bool) (n : Nat) (ho : ∀ k, t.get k = s.get k) (hc : t.cells = s.cells) (hk : t.clk = s.clk) :
    channelRefusal b n t = channelRefusal b n s := by
  simp only [channelRefusal, State.cellCount, State.channel, State.coverFor, State.coincides, State.spare, State.spareCell, State.sp, State.on,
    ho, hc, hk]
  rfl

theorem received_cells (m : Nat) (s : State) : (received m s).cells = s.cells := by
  unfold received touchSession ringActivity faultEnd
  dsimp only
  split_ifs <;> rfl

theorem channelRefusal_received (b : Bool) (n m : Nat) (s : State) : channelRefusal b n (received m s) = channelRefusal b n s :=
  channelRefusal_congr b n (fun k => received_get m k s) (received_cells m s) ((received_keeps m s).clk (by decide))

/-- RETIRE is accepted while a spare covers or coincides. -/
theorem cover_of_accepted {n : Nat} {s : State} (h : channelRefusal false n s = 0) :
    ((s.coverFor n).isNone && (s.coincides n).isNone) = false := by
  unfold channelRefusal at h
  by_contra hx
  rw [Bool.not_eq_false] at hx
  rw [hx] at h
  simp only [Bool.false_eq_true, if_false, if_true] at h
  split_ifs at h

theorem Keeps.retiring {ks : List Nat} {bs : List Block} {s t : State} (h : Keeps ks bs s t) (hb : Block.cells ∉ bs) :
    t.cells.retiring = s.cells.retiring := by
  rw [(h.2 .cells hb).1]

theorem Keeps.reinstate {ks : List Nat} {bs : List Block} {s t : State} (h : Keeps ks bs s t) (hb : Block.cells ∉ bs) :
    t.cells.reinstate = s.cells.reinstate := by
  rw [(h.2 .cells hb).1]

/-- A request that is refused is answered with the DETAIL of the rule. -/
theorem channelRequest_refused {s : State} {c : Ctx} {n op cell : Nat} (h : HeardMaster s c n 2 0x0422 0) (h1 : 1 ≤ op) (h2 : op ≤ 2)
    (hc1 : 1 ≤ cell) (hc2 : cell ≤ 24) (hr : channelRefusal (op == 2) cell s ≠ 0) :
    Keeps [] [.port, .bal, .flt] s (settle (arrive ⟨c, 2, 0x0422, 0, [op, cell], 0⟩ s)) ∧
      Refused s (settle (arrive ⟨c, 2, 0x0422, 0, [op, cell], 0⟩ s)) c n 0x0422 0 0x0A (channelRefusal (op == 2) cell s) := by
  rw [channelRequest_eq h h1 h2 hc1 hc2, channelRefusal_received, if_pos (bne_iff_ne.mpr hr)]
  obtain ⟨kt, ht⟩ := conclude_refuses h.toHeard [op, cell] [] 0 0x0A (channelRefusal (op == 2) cell s)
    (.of_keeps h.toHeard (.refl [] [] (received n s)) (by simp) (by simp))
  refine ⟨((received_keeps n s).trans (keeps_mono kt (by simp) (by simp))).settle, ?_⟩
  unfold Refused
  rw [settle_port]
  exact ht

/-- A request that is done is answered; the marks of the channels stay as it leaves them. -/
theorem channelRequest_answered {s y : State} {c : Ctx} {n op cell : Nat} (h : HeardMaster s c n 2 0x0422 0) (hy : CanAnswer s y) :
    let t := settle (settleUpdate (conclude ⟨{ c with src := .host (s.client n) }, 2, 0x0422, 0, [op, cell], 0⟩ [] (.done y)))
    Keeps [] [.port] y t ∧ t.cells.retiring = y.cells.retiring ∧ t.cells.reinstate = y.cells.reinstate ∧ Answered s t c n 2 0x0422 0 [] := by
  intro t
  obtain ⟨kt, ht⟩ := conclude_accepts h.toHeard [op, cell] [] 0 hy
  refine ⟨kt.settle, ?_, ?_, ?_⟩
  · exact (settle_cells_retiring _).trans (kt.retiring (by decide))
  · exact (settle_cells_reinstate _).trans (kt.reinstate (by decide))
  · unfold Answered
    rw [settle_port]
    exact ht

/-- RETIRE that is accepted: the channel waits, and while its spare is left the margins follow without 06h (R152, R491). -/
theorem retire_accepted {s : State} {c : Ctx} {n cell : Nat} (h : HeardMaster s c n 2 0x0422 0) (hc1 : 1 ≤ cell) (hc2 : cell ≤ 24)
    (hv : s.get (faultObj Obj.faultSeverity 0x2B) ≠ 3) (hr : channelRefusal false cell s = 0) :
    Keeps ([Obj.spareState + 1, Obj.spareState + 2] ++ marginObjects) ([.bal, .cells] ++ faultBlocks) s (settle (effRetire c cell s)) ∧
      bit (settle (effRetire c cell s)).cells.retiring (cell - 1) = true ∧ Answered s (settle (effRetire c cell s)) c n 2 0x0422 0 [] := by
  have hw : RetireWaits cell (received n s) (retireChannel cell (received n s)) :=
    retireChannel_waits (by rw [(received_keeps n s).2 .test (by decide)]; exact h.slices)
      (cover_of_accepted ((channelRefusal_received _ _ _ _).trans hr))
  obtain ⟨kw, hb, he⟩ := hw
  set w := retireChannel cell (received n s)
  have hn : NoEntry 0x2B w := .inl ⟨by decide, by rw [kw.get (by decide), received_get]; exact hv⟩
  have ke := exhaustion_spared he hn
  have ky : Keeps ([Obj.spareState + 1, Obj.spareState + 2] ++ marginObjects) ([.cells] ++ faultBlocks) (received n s) (exhaustion w) :=
    (keeps_mono kw (fun k hk => List.mem_append_left _ hk) (fun b hb => List.mem_append_left _ hb)).trans
      (keeps_mono ke (fun k hk => List.mem_append_right _ hk) (fun b hb => List.mem_append_right _ hb))
  have hp : (exhaustion w).port.resetReq = (received n s).port.resetReq :=
    (exhaustion_spared_reset he hn).trans (congrArg Port.resetReq (kw.2 .port (by decide)))
  have hq : effRetire c cell s =
      settleUpdate (conclude ⟨{ c with src := .host (s.client n) }, 2, 0x0422, 0, [1, cell], 0⟩ [] (.done (exhaustion w))) := by
    show arrive ⟨c, 2, 0x0422, 0, [1, cell], 0⟩ s = _
    rw [channelRequest_eq h (by decide) (by decide) hc1 hc2, channelRefusal_received, show ((1 : Nat) == 2) = false from rfl, hr]
    rfl
  rw [hq]
  obtain ⟨kt, ht, -, ha⟩ := channelRequest_answered (op := 1) (cell := cell) h (.of_reset h.toHeard ky (by decide) hp)
  refine ⟨((keeps_mono (received_keeps n s) (by simp) (by decide)).trans (keeps_mono ky (fun _ hk => hk) (by decide))).trans
    (keeps_mono kt (by simp) (by decide)), ?_, ha⟩
  rw [ht, ke.retiring (by decide)]
  exact hb

/-- REINSTATE that is accepted: the channel waits for the boundary at which it returns (R154). -/
theorem reinstate_accepted {s : State} {c : Ctx} {n cell : Nat} (h : HeardMaster s c n 2 0x0422 0) (hc1 : 1 ≤ cell) (hc2 : cell ≤ 24)
    (hr : channelRefusal true cell s = 0) :
    Keeps [] [.port, .bal, .flt, .cells] s (settle (effReinstate c cell s)) ∧
      bit (settle (effReinstate c cell s)).cells.reinstate (cell - 1) = true ∧
      Answered s (settle (effReinstate c cell s)) c n 2 0x0422 0 [] := by
  set r := received n s
  set y : State := { r with cells := { r.cells with reinstate := setBit r.cells.reinstate (cell - 1) true } }
  have ky : Keeps [] [.cells] r y := cells_keeps [] r _
  have hq : effReinstate c cell s =
      settleUpdate (conclude ⟨{ c with src := .host (s.client n) }, 2, 0x0422, 0, [2, cell], 0⟩ [] (.done y)) := by
    show arrive ⟨c, 2, 0x0422, 0, [2, cell], 0⟩ s = _
    rw [channelRequest_eq h (by decide) (by decide) hc1 hc2, channelRefusal_received, show ((2 : Nat) == 2) = true from rfl, hr]
    rfl
  rw [hq]
  obtain ⟨kt, -, ht, ha⟩ := channelRequest_answered (op := 2) (cell := cell) h (.of_keeps h.toHeard ky (by simp) (by decide))
  refine ⟨((keeps_mono (received_keeps n s) (by simp) (by simp)).trans (keeps_mono ky (by simp) (by simp))).trans
    (keeps_mono kt (by simp) (by simp)), ?_, ha⟩
  rw [ht]
  exact bit_setBit_self _ _ _

/-- Settles O19: the rule of the request refuses it, or its write is done and answered, with the mark of the channel set. -/
theorem channelRequestsRun : Obligations.ChannelRequestsRun := by
  unfold Obligations.ChannelRequestsRun
  refine ⟨fun dt c n cell s hc1 hc2 hw hm hv => completes_settled (eff := effRetire c cell) hw rfl ?_,
    fun dt c n cell s hc1 hc2 hw hm => completes_settled (eff := effReinstate c cell) hw rfl ?_⟩
  · by_cases hr : channelRefusal false cell (s.found dt) = 0
    · obtain ⟨hk, hb, ha⟩ := retire_accepted hm hc1 hc2 hv hr
      rw [if_pos hr]
      exact ⟨⟨hb, ha⟩, hk⟩
    · obtain ⟨hk, ha⟩ := channelRequest_refused (op := 1) hm (by decide) (by decide) hc1 hc2 hr
      rw [if_neg hr]
      exact ⟨ha, keeps_mono hk (by simp) (by decide)⟩
  · by_cases hr : channelRefusal true cell (s.found dt) = 0
    · obtain ⟨hk, hb, ha⟩ := reinstate_accepted hm hc1 hc2 hr
      rw [if_pos hr]
      exact ⟨⟨hb, ha⟩, hk⟩
    · obtain ⟨hk, ha⟩ := channelRequest_refused (op := 2) hm (by decide) (by decide) hc1 hc2 hr
      rw [if_neg hr]
      exact ⟨ha, keeps_mono hk (by simp) (by simp)⟩

end Sys2Proof.Machine
end

section
namespace Sys2Proof.Machine

/-! A write of PowerPathPolicy whose configuration check leads to SAFE, while a Loupe point of no such number is in progress (R93, R97, R312). -/

/-- A Loupe point of a number far beyond 15, whose LoupePointStatus would stand where PowerPathPolicy stands. -/
def strayPoint : LoupePoint :=
  { point := Obj.powerPathPolicy - Obj.loupePointStatus - 1, t0 := 0, period := 0, settle := 0, m := 0, chopped := 0, exciting := false,
    samples := [], badCells := 0 }

/-- In LOUPE with that point in progress, without a boot plan, and with 2Eh leading to SAFE; client 0 is MASTER. -/
def strayLoupe : State :=
  let s := State.reset.setAll [(Obj.supervisorState, 0), (Obj.modeStatus, Mode.loupe), (Obj.domainStatus, modeDomains Mode.loupe),
    (Obj.hostPortActive, 1), (Obj.loupeSessionStatus, 2 ^ 16), (faultObj Obj.faultSeverity 0x2E, 3)]
  { s with
    port := { s.port with sessions := [⟨0, 2, 1, 0⟩] }
    loupe := { s.loupe with point := some strayPoint } }

/-- A packet of client 0, LOCAL. -/
def policyHost : Ctx := ⟨.host 0, 7, 64, true⟩

theorem strayLoupe_heard : HeardMaster (strayLoupe.found 1) policyHost 0 2 0x0940 0 := by
  refine ⟨⟨rfl, ?_, ?_, ?_, ?_, ?_, ?_, ?_, ?_, ?_⟩, ?_, ?_⟩ <;> decide +kernel

theorem strayLoupe_takes : (strayLoupe.found 1).logTakes Obj.powerPathPolicy (1 == 0) = true := by decide +kernel

/-- The check that follows the commit sets 2Eh, the entry into SAFE ends the point, and INCOMPLETE is written over the policy. -/
theorem strayLoupe_written : (settle (effPowerPathPolicyWrite policyHost 1 (strayLoupe.found 1))).get Obj.powerPathPolicy = 2 * 2 ^ 28 := by
  decide +kernel

theorem exec_powerPathPolicyWrite (dt : Nat) {c : Ctx} {v : Nat} (s : State) (hw : Instr.wf (.powerPathPolicyWrite dt c v) = true) :
    exec (.powerPathPolicyWrite dt c v) s = .next (settle (effPowerPathPolicyWrite c v (s.found dt))) := by
  show run (Instr.wf (.powerPathPolicyWrite dt c v)) dt (effPowerPathPolicyWrite c v) s = _
  rw [hw]
  rfl

/-- Refutes O22: its fourth clause says of every state what PowerPathPolicy reads after its write, and asks nothing of the Loupe point in progress.
The configuration check that follows the commit (R97) may lead to SAFE, which ends the point INCOMPLETE (R313). A point of a number outside 0 to
15, which no mask brings but the statement admits, has its status written beyond LoupePointStatus: there it overwrites PowerPathPolicy. -/
theorem not_busRequestsRun : ¬ Obligations.BusRequestsRun := by
  unfold Obligations.BusRequestsRun
  rintro ⟨-, -, -, h, -⟩
  obtain ⟨t, he, ht, -⟩ := h 1 policyHost 0 1 strayLoupe (by decide) (by decide) strayLoupe_heard rfl strayLoupe_takes
  rw [exec_powerPathPolicyWrite 1 strayLoupe (by decide), Host.Outcome.next.injEq] at he
  rw [← he, strayLoupe_written] at ht
  exact absurd ht (by decide)

end Sys2Proof.Machine
end

section
namespace Sys2Proof.Machine

/-! What the small operations of the Facet bus write (R228 to R235). -/

theorem facet_keeps (ks : List Nat) (s : State) (x : FacetEng) : Keeps ks [.facet] s { s with facet := x } :=
  ⟨fun _ _ => rfl, fun b hb => by cases b <;> simp_all [Block.same]⟩

/-- A FacetValue is none of the other objects of the bus. -/
theorem facetValue_ne {k j : Nat} (hk : k < 8) (h : j ≤ Obj.facetValue ∨ Obj.facetStamp ≤ j) : Obj.facetValue + (k + 1) ≠ j := by
  simp only [Obj.facetValue, Obj.facetStamp] at h ⊢
  omega

theorem facetState_congr {s t : State} {k : Nat} (h : t.get (Obj.facetValue + (k + 1)) = s.get (Obj.facetValue + (k + 1))) :
    t.facetState k = s.facetState k := by
  unfold State.facetState
  rw [h]

@[simp] theorem settle_facetState (s : State) (k : Nat) : (settle s).facetState k = s.facetState k := facetState_congr (settle_get s _)

/-- The bus runs while its domain, its power phase and FacetEnable stand. -/
theorem facetRuns_congr {s t : State} (hd : t.get Obj.domainStatus = s.get Obj.domainStatus) (he : t.get Obj.facetEnable = s.get Obj.facetEnable)
    (hp : t.facet.powered = s.facet.powered) : t.facetRuns = s.facetRuns := by
  unfold State.facetRuns State.on
  rw [hd, he, hp]

@[simp] theorem settle_facetRuns (s : State) : (settle s).facetRuns = s.facetRuns :=
  facetRuns_congr (settle_get s _) (settle_get s _) (by rw [settle_facet])

theorem showPresent_keeps (s : State) : Keeps [Obj.facetStatus] [] s (showPresent s) := keeps_set [] s _ (by simp)

theorem facetLimitEnds_keeps (s : State) : Keeps [] [.flt] s (facetLimitEnds s) :=
  keeps_ite _ (faultFollow_false_keeps 0x0E s) (.refl _ _ _)

/-- A window that is PRESENT or LOSING keeps its limit condition (R233). -/
theorem facetLimitsGone_occupied {k : Nat} {s : State} (h : 2 ≤ s.facetState k) : facetLimitsGone k s = s := if_pos h

theorem facetLimitsGone_keeps (k : Nat) (s : State) : Keeps [Obj.facetLimitStatus] [.facet, .flt] s (facetLimitsGone k s) := by
  unfold facetLimitsGone
  extract_lets o
  refine keeps_ite _ (.refl _ _ _) ?_
  set t := s.set Obj.facetLimitStatus (setBit (setBit o k false) (8 + k) false)
  have ht : Keeps [Obj.facetLimitStatus] [.facet, .flt] s t := keeps_set _ s _ (by simp)
  have hw : Keeps [Obj.facetLimitStatus] [.facet, .flt] t (t.setFacetWin k { s.facetWin k with limitRun := 0 }) :=
    keeps_mono (facet_keeps [] t _) (by simp) (by simp)
  exact (ht.trans hw).trans (keeps_mono (facetLimitEnds_keeps _) (by simp) (by simp))

/-! The start of the bus (R229, R231). -/

/-- Window k is EMPTY, and has no limit condition (R231, R233). -/
def windowEmptied (s : State) (k : Nat) : State := facetLimitsGone k (s.setField (Obj.facetValue + (k + 1)) 1 2 0)

theorem facetEmpty_eq (s : State) : facetEmpty s = showPresent ((List.range 8).foldl windowEmptied s) := rfl

theorem windowEmptied_get {k j : Nat} (s : State) (hj : j ≠ Obj.facetLimitStatus) :
    (windowEmptied s k).get j =
      if j = Obj.facetValue + (k + 1) then setBits (s.get j) 1 2 0 else s.get j := by
  refine ((facetLimitsGone_keeps k _).get (by simpa using hj)).trans ?_
  split_ifs with h
  · rw [h, State.get_setField_self]
  · exact State.get_setField_ne s _ _ _ h

/-- A window that has been emptied stays so. -/
theorem windowEmptied_state {k j : Nat} (s : State) (hj : j < 8) (h : j = k ∨ s.facetState j = 0) : (windowEmptied s k).facetState j = 0 := by
  unfold State.facetState at h ⊢
  rw [windowEmptied_get s (facetValue_ne hj (.inr (by decide)))]
  split_ifs with hk
  · exact bits_setBits _ _ _ _
  · exact h.resolve_left (fun e => hk (e ▸ rfl))

theorem windowsEmptied_state {j : Nat} (hj : j < 8) (l : List Nat) (s : State) (h : j ∈ l ∨ s.facetState j = 0) :
    (l.foldl windowEmptied s).facetState j = 0 := by
  induction l generalizing s with
  | nil => exact h.resolve_left (List.not_mem_nil)
  | cons k l ih =>
    refine ih _ ?_
    rcases h with h | h
    · rcases List.mem_cons.mp h with h | h
      · exact .inr (windowEmptied_state s hj (.inl h))
      · exact .inl h
    · exact .inr (windowEmptied_state s hj (.inr h))

/-- The objects that a start of the bus writes. -/
def facetStartObjects : List Nat :=
  [Obj.facetStatus, Obj.facetLimitStatus] ++ (List.range 8).map (fun k => Obj.facetValue + (k + 1))

theorem windowsEmptied_keeps {l : List Nat} (hl : ∀ k ∈ l, k < 8) (s : State) :
    Keeps facetStartObjects [.facet, .flt] s (l.foldl windowEmptied s) := by
  induction l generalizing s with
  | nil => exact .refl _ _ _
  | cons k l ih =>
    have hk : Obj.facetValue + (k + 1) ∈ facetStartObjects :=
      List.mem_append_right _ (List.mem_map_of_mem (List.mem_range.mpr (hl k List.mem_cons_self)))
    have hs : Keeps facetStartObjects [.facet, .flt] s (s.setField (Obj.facetValue + (k + 1)) 1 2 0) := keeps_set _ s _ hk
    have hw : Keeps facetStartObjects [.facet, .flt] s (windowEmptied s k) :=
      hs.trans (keeps_mono (facetLimitsGone_keeps k _) (by decide) (fun _ => id))
    exact hw.trans (ih (fun j hj => hl j (List.mem_cons_of_mem _ hj)) _)

theorem facetEmpty_keeps (s : State) : Keeps facetStartObjects [.facet, .flt] s (facetEmpty s) := by
  rw [facetEmpty_eq]
  exact (windowsEmptied_keeps (fun k hk => List.mem_range.mp hk) s).trans (keeps_mono (showPresent_keeps _) (by decide) (by simp))

theorem facetEmpty_state (s : State) {k : Nat} (hk : k < 8) : (facetEmpty s).facetState k = 0 := by
  rw [facetEmpty_eq, facetState_congr ((showPresent_keeps _).get (by simpa using facetValue_ne hk (.inl (by decide))))]
  exact windowsEmptied_state hk _ s (.inl (List.mem_range.mpr hk))

/-- A search that waits starts with the frame (R231). -/
theorem facetSearchStart_waiting {s : State} (h : s.facet.searchWait = true) :
    Keeps [Obj.facetStatus] [.facet] s (facetSearchStart s) ∧
      (facetSearchStart s).facet = { s.facet with searchWait := false, searchFrames := some 0 } ∧
      bit ((facetSearchStart s).get Obj.facetStatus) 0 = bit (s.get Obj.facetStatus) 0 ∧
      bit ((facetSearchStart s).get Obj.facetStatus) 2 = true := by
  unfold facetSearchStart
  rw [h, Bool.not_true, if_neg Bool.false_ne_true]
  set x : State := { s with facet := { s.facet with searchWait := false, searchFrames := some 0 } }
  have kx : Keeps [Obj.facetStatus] [.facet] s x := facet_keeps _ s _
  have ky : Keeps [Obj.facetStatus] [.facet] x (x.setBitOf Obj.facetStatus 3 false) := keeps_set _ x _ (by simp)
  refine ⟨(kx.trans ky).trans (keeps_set _ _ _ (by simp)), rfl, ?_, ?_⟩
  · rw [bit_setBitOf, if_neg (by decide), bit_setBitOf, if_neg (by decide)]
    rfl
  · rw [bit_setBitOf, if_pos rfl]

/-- The bus powered, with the first search waiting. -/
def busPowered (t : State) : State :=
  { t with facet := { FacetEng.empty with powered := true, searchWait := true, frameAt := t.clk } }.setBitOf Obj.facetStatus 0 true

theorem effFacetPowerPhaseEnd_starts {s : State} (hd : s.on .icx = true) (he : s.get Obj.facetEnable = 1) (hp : s.facet.powered = false) :
    effFacetPowerPhaseEnd s = facetSearchStart (busPowered (facetEmpty s)) := by
  have hn : (!s.on .icx || s.get Obj.facetEnable != 1 || s.facet.powered) = false := by rw [hd, he, hp]; rfl
  unfold effFacetPowerPhaseEnd
  rw [hn, if_neg Bool.false_ne_true]
  rfl

theorem busPowered_facet (t : State) :
    (busPowered t).facet = { FacetEng.empty with powered := true, searchWait := true, frameAt := t.clk } := rfl

theorem busPowered_keeps (t : State) : Keeps [Obj.facetStatus] [.facet] t (busPowered t) :=
  (facet_keeps _ t _).trans (keeps_set _ _ _ (by simp))

theorem busPowered_shown (s : State) : bit ((busPowered s).get Obj.facetStatus) 0 = true := by
  unfold busPowered
  rw [bit_setBitOf, if_pos rfl]

theorem facetPowerPhaseEnd_runs (dt : Nat) (s : State) (hd : (s.found dt).on .icx = true) (he : (s.found dt).get Obj.facetEnable = 1)
    (hp : (s.found dt).facet.powered = false) :
    Completes (.facetPowerPhaseEnd dt) dt s
      ([Obj.facetStatus, Obj.facetLimitStatus] ++ (List.range 8).map (fun k => Obj.facetValue + (k + 1))) [.facet, .flt] (fun _ t =>
      t.facetRuns = true ∧ t.facet.searchFrames = some 0 ∧ bit (t.get Obj.facetStatus) 0 = true ∧ bit (t.get Obj.facetStatus) 2 = true ∧
        ∀ k, k < 8 → t.facetState k = 0) := by
  refine completes_settled (eff := effFacetPowerPhaseEnd) rfl rfl ?_
  generalize s.found dt = u at hd he hp ⊢
  rw [effFacetPowerPhaseEnd_starts hd he hp]
  have ke := facetEmpty_keeps u
  have he0 := fun k => facetEmpty_state (k := k) u
  generalize facetEmpty u = e at ke he0 ⊢
  have kb := busPowered_keeps e
  obtain ⟨ks, hf, h0, h2⟩ := facetSearchStart_waiting (s := busPowered e) (by rw [busPowered_facet])
  have kes := kb.trans ks
  have kt : Keeps facetStartObjects [.facet, .flt] u (facetSearchStart (busPowered e)) := ke.trans (keeps_mono kes (by decide) (by simp))
  refine ⟨⟨?_, ?_, ?_, ?_, fun k hk => ?_⟩, kt.settle⟩
  · have hon : (facetSearchStart (busPowered e)).on .icx = true := by
      unfold State.on at hd ⊢
      rw [kt.get (by decide), hd]
    rw [settle_facetRuns]
    unfold State.facetRuns
    rw [hon, hf, kt.get (by decide), he, busPowered_facet]
    rfl
  · rw [settle_facet, hf]
  · rw [settle_get, h0, busPowered_shown]
  · rw [settle_get, h2]
  · rw [settle_facetState, facetState_congr (kes.get (by simpa using facetValue_ne hk (.inl (by decide)))), he0 k hk]

/-! Windows (R227, R228, R230). -/

/-- What a window leaves in the bus beside its word. -/
def windowRead (k : Nat) (l : FacetLine) (s : State) : State :=
  { s with facet := { s.facet with
    done := setBit s.facet.done k true
    faulty := s.facet.faulty || (slotFaults k l).any id
    lastFault := (slotFaults k l).getLastD false } }

theorem windowRead_keeps (k : Nat) (l : FacetLine) (s : State) : Keeps [] [.facet] s (windowRead k l s) := facet_keeps [] s _

/-- A window but the last, in a frame that no line fault stops. -/
theorem effFacetWindowEnd_reads {k : Nat} {l : FacetLine} {s : State} (hk : k ≤ 6) (hr : s.facetRuns = true) (hs : s.facet.stopped = false)
    (hf : twoFaults (s.facet.lastFault :: slotFaults k l) = false) :
    effFacetWindowEnd k l s = facetWindow k (lineWord l) (windowRead k l s) := by
  have ho : facetFrameOver s = s := by
    unfold facetFrameOver
    rw [hs, Bool.false_and, if_neg Bool.false_ne_true]
  unfold effFacetWindowEnd
  rw [hr, Bool.not_true, if_neg Bool.false_ne_true]
  dsimp only
  rw [ho, hf, if_neg Bool.false_ne_true, if_neg (by omega), if_neg (by rw [hs]; exact Bool.false_ne_true)]
  rfl

/-- A window that shows its word or its lack of one: PRESENT of FacetStatus follows, and the command completes with what the window has written. -/
theorem windowEnd_completes {dt k : Nat} {l : FacetLine} {s v : State} {ks : List Nat} {bs : List Block} {post : State → State → Prop}
    (hw : Instr.wf (.facetWindowEnd dt k l) = true) (he : effFacetWindowEnd k l (s.found dt) = showPresent v)
    (hk : Keeps ks bs (windowRead k l (s.found dt)) v) (hs : Obj.facetStatus ∈ ks) (hb : Block.facet ∈ bs)
    (hp : ∀ t, (∀ j, j ≠ Obj.facetStatus → t.get j = v.get j) → post (s.found dt) t) :
    Completes (.facetWindowEnd dt k l) dt s ks bs post := by
  refine completes_of (eff := effFacetWindowEnd k l) hw rfl (hp _ (fun j hj => ?_)) ?_
  · rw [he, settle_get, (showPresent_keeps v).get (by simpa using hj)]
  · rw [he]
    exact (keeps_mono (windowRead_keeps k l _) (by simp) (by simpa using hb)).trans
      (hk.trans (keeps_mono (showPresent_keeps v) (by simpa using hs) (by simp)))

/-! A clean word (R230). -/

/-- What an EMPTY window shows of a clean word: it is CANDIDATE (R230, R235). -/
def candidateValue (w : Nat) : Nat := w / 2 ^ 20 * 2 ^ 28 + bits w 4 16 * 2 ^ 12 + 1 * 2

/-- The TYPE of a clean word fits its field (R228). -/
theorem facetClean_type {w : Nat} (h : facetClean w = true) : w / 2 ^ 20 < 16 := by
  unfold facetClean at h
  rw [Bool.and_eq_true, List.contains_iff_mem] at h
  obtain ⟨-, h⟩ := h
  simp only [List.mem_cons, List.not_mem_nil, or_false] at h
  omega

theorem candidateValue_fields {w : Nat} (h : w / 2 ^ 20 < 16) :
    bits (candidateValue w) 1 2 = 1 ∧ bits (candidateValue w) 28 4 = w / 2 ^ 20 ∧ bits (candidateValue w) 12 16 = bits w 4 16 := by
  have hv : bits w 4 16 < 2 ^ 16 := bits_lt w 4 16
  unfold candidateValue
  generalize w / 2 ^ 20 = t at h ⊢
  generalize bits w 4 16 = v at hv ⊢
  unfold bits
  refine ⟨?_, ?_, ?_⟩ <;> omega

/-- An EMPTY window takes a clean word. -/
theorem facetCleanWord_empty {k w : Nat} {s : State} (h : s.facetState k = 0) :
    ∃ x, facetCleanWord k w s =
      facetLimitsGone k (((s.set (Obj.facetValue + (k + 1)) (candidateValue w)).set (Obj.facetStamp + (k + 1)) s.ringTime).setFacetWin k x) := by
  unfold facetCleanWord
  rw [h]
  exact ⟨_, rfl⟩

/-- The objects of a window that takes a word, and those that follow. -/
def wordObjects (k : Nat) : List Nat := [Obj.facetValue + (k + 1), Obj.facetStamp + (k + 1), Obj.facetLimitStatus, Obj.facetStatus]

theorem facetCleanWord_candidate {k w : Nat} {s : State} (hk : k < 8) (h : s.facetState k = 0) :
    Keeps (wordObjects k) [.facet, .flt] s (facetCleanWord k w s) ∧
      (facetCleanWord k w s).get (Obj.facetValue + (k + 1)) = candidateValue w ∧
      (facetCleanWord k w s).get (Obj.facetStamp + (k + 1)) = s.ringTime := by
  obtain ⟨x, e⟩ := facetCleanWord_empty (w := w) h
  set a := s.set (Obj.facetValue + (k + 1)) (candidateValue w)
  set b := a.set (Obj.facetStamp + (k + 1)) s.ringTime
  have ka : Keeps (wordObjects k) [.facet, .flt] s a := keeps_set _ s _ (by simp [wordObjects])
  have kb : Keeps (wordObjects k) [.facet, .flt] a b := keeps_set _ a _ (by simp [wordObjects])
  have kw : Keeps [] [.facet] b (b.setFacetWin k x) := facet_keeps [] b _
  have kg := facetLimitsGone_keeps k (b.setFacetWin k x)
  have hl : Obj.facetStamp + (k + 1) ≠ Obj.facetLimitStatus := by simp only [Obj.facetStamp, Obj.facetLimitStatus]; omega
  rw [e]
  refine ⟨((ka.trans kb).trans (keeps_mono kw (by simp) (by simp))).trans (keeps_mono kg (by simp [wordObjects]) (fun _ => id)), ?_, ?_⟩
  · rw [kg.get (by simpa using facetValue_ne hk (.inr (by decide))), kw.get (by simp),
      State.get_set_ne a _ (facetValue_ne hk (.inr (by omega))), State.get_set_self]
  · rw [kg.get (by simpa using hl), kw.get (by simp), State.get_set_self]

theorem windowEnd_clean (dt k w : Nat) (l : FacetLine) (s : State) (hw : Instr.wf (.facetWindowEnd dt k l) = true) (hk : k ≤ 6)
    (hr : (s.found dt).facetRuns = true) (hs : (s.found dt).facet.stopped = false)
    (hf : twoFaults ((s.found dt).facet.lastFault :: slotFaults k l) = false) (h0 : (s.found dt).facetState k = 0)
    (hl : lineWord l = .bits w) (hc : facetClean w = true) :
    Completes (.facetWindowEnd dt k l) dt s
      [Obj.facetValue + (k + 1), Obj.facetStamp + (k + 1), Obj.facetLimitStatus, Obj.facetStatus] [.facet, .flt] (fun u t =>
        t.facetState k = 1 ∧ bits (t.get (Obj.facetValue + (k + 1))) 28 4 = w / 2 ^ 20 ∧
          bits (t.get (Obj.facetValue + (k + 1))) 12 16 = bits w 4 16 ∧ t.get (Obj.facetStamp + (k + 1)) = u.ringTime) := by
  have hk8 : k < 8 := by omega
  obtain ⟨kv, hv, ht⟩ := facetCleanWord_candidate (w := w) (s := windowRead k l (s.found dt)) hk8 h0
  have he : effFacetWindowEnd k l (s.found dt) = showPresent (facetCleanWord k w (windowRead k l (s.found dt))) := by
    rw [effFacetWindowEnd_reads hk hr hs hf, hl]
    unfold facetWindow
    dsimp only
    rw [if_pos hc]
  obtain ⟨c1, c2, c3⟩ := candidateValue_fields (facetClean_type hc)
  have hstamp : Obj.facetStamp + (k + 1) ≠ Obj.facetStatus := by simp only [Obj.facetStamp, Obj.facetStatus]; omega
  refine windowEnd_completes hw he kv (by simp) (by simp) (fun t hg => ?_)
  have hx : t.get (Obj.facetValue + (k + 1)) = candidateValue w := (hg _ (facetValue_ne hk8 (.inl (by decide)))).trans hv
  refine ⟨?_, ?_, ?_, (hg _ hstamp).trans ht⟩
  · unfold State.facetState
    rw [hx, c1]
  · rw [hx, c2]
  · rw [hx, c3]

/-! A window without a clean word (R230). -/

/-- FacetValue of a window without a clean word: AGE counts, STATE and ERR take their values, TYPE and VALUE stay (R230, R235). -/
def noWordValue (v st : Nat) (err : Bool) : Nat := setBits (setBits (setBits v 4 8 (min 255 (bits v 4 8 + 1))) 1 2 st) 0 1 (num err)

theorem noWordValue_state (v : Nat) {st : Nat} (err : Bool) (h : st < 4) : bits (noWordValue v st err) 1 2 = st := by
  unfold noWordValue
  rw [bits_setBits_above _ _ _ _ _ _ (by decide), bits_setBits]
  exact Nat.mod_eq_of_lt h

theorem noWordValue_err (v st : Nat) (err : Bool) : bit (noWordValue v st err) 0 = err := bit_setBits_self _ _ _

theorem noWordValue_age (v st : Nat) (err : Bool) : bits (noWordValue v st err) 4 8 = min 255 (bits v 4 8 + 1) := by
  unfold noWordValue
  rw [bits_setBits_above _ _ _ _ _ _ (by decide), bits_setBits_above _ _ _ _ _ _ (by decide), bits_setBits]
  exact Nat.mod_eq_of_lt (by omega)

theorem noWordValue_shown (v st : Nat) (err : Bool) : bits (noWordValue v st err) 12 20 = bits v 12 20 := by
  unfold noWordValue
  rw [bits_setBits_above _ _ _ _ _ _ (by decide), bits_setBits_above _ _ _ _ _ _ (by decide), bits_setBits_above _ _ _ _ _ _ (by decide)]

theorem facetNoWord_eq (k st : Nat) (err : Bool) (s : State) :
    facetNoWord k st err s =
      facetLimitsGone k (s.set (Obj.facetValue + (k + 1)) (noWordValue (s.get (Obj.facetValue + (k + 1))) st err)) := rfl

theorem facetNoWord_keeps (k st : Nat) (err : Bool) (s : State) :
    Keeps [Obj.facetValue + (k + 1), Obj.facetLimitStatus] [.facet, .flt] s (facetNoWord k st err s) :=
  facetNoWord_eq k st err s ▸ (keeps_set _ s _ (by simp)).trans (keeps_mono (facetLimitsGone_keeps k _) (by simp) (fun _ => id))

theorem facetNoWord_value {k : Nat} (hk : k < 8) (st : Nat) (err : Bool) (s : State) :
    (facetNoWord k st err s).get (Obj.facetValue + (k + 1)) = noWordValue (s.get (Obj.facetValue + (k + 1))) st err := by
  rw [facetNoWord_eq, (facetLimitsGone_keeps k _).get (by simpa using facetValue_ne hk (.inr (by decide))), State.get_set_self]

/-- A window that stays PRESENT or becomes LOSING writes its FacetValue alone. -/
theorem facetNoWord_occupied {k st : Nat} (err : Bool) (s : State) (h2 : 2 ≤ st) (h4 : st < 4) :
    facetNoWord k st err s = s.set (Obj.facetValue + (k + 1)) (noWordValue (s.get (Obj.facetValue + (k + 1))) st err) := by
  rw [facetNoWord_eq]
  refine facetLimitsGone_occupied ?_
  unfold State.facetState
  rw [State.get_set_self, noWordValue_state _ _ h4]
  exact h2

/-- A bad word in a window that is EMPTY or CANDIDATE counts, and the window is EMPTY (R230). -/
theorem facetBad_free {k : Nat} {s : State} (hk : k < 8) (h : s.facetState k < 2) :
    facetBad k s = facetNoWord k 0 true (({ s with facet := { s.facet with badFrame := true } } : State).count (Obj.facetErrorCount + (k + 1)) 16) := by
  have ha : ({ s with facet := { s.facet with badFrame := true } } : State).facetState k = s.facetState k := rfl
  have hb : (({ s with facet := { s.facet with badFrame := true } } : State).count (Obj.facetErrorCount + (k + 1)) 16).facetState k =
      s.facetState k := facetState_congr (State.get_count_ne _ _ (facetValue_ne hk (.inr (by simp only [Obj.facetStamp, Obj.facetErrorCount]; omega))))
  unfold facetBad
  dsimp only
  rw [ha, hb, if_neg (by omega), if_neg (by omega)]

theorem windowEnd_bad (dt k : Nat) (l : FacetLine) (s : State) (hw : Instr.wf (.facetWindowEnd dt k l) = true) (hk : k ≤ 6)
    (hr : (s.found dt).facetRuns = true) (hs : (s.found dt).facet.stopped = false)
    (hf : twoFaults ((s.found dt).facet.lastFault :: slotFaults k l) = false) (h2 : (s.found dt).facetState k < 2) (hl : lineWord l = .timing) :
    Completes (.facetWindowEnd dt k l) dt s
      [Obj.facetValue + (k + 1), Obj.facetErrorCount + (k + 1), Obj.facetLimitStatus, Obj.facetStatus] [.facet, .flt] (fun u t =>
        t.facetState k = 0 ∧ bit (t.get (Obj.facetValue + (k + 1))) 0 = true ∧
          t.get (Obj.facetErrorCount + (k + 1)) = sat 65535 (u.get (Obj.facetErrorCount + (k + 1)) + 1)) := by
  have hk8 : k < 8 := by omega
  set r := windowRead k l (s.found dt)
  set b : State := { r with facet := { r.facet with badFrame := true } }
  set c := b.count (Obj.facetErrorCount + (k + 1)) 16
  have he : effFacetWindowEnd k l (s.found dt) = showPresent (facetNoWord k 0 true c) := by
    rw [effFacetWindowEnd_reads hk hr hs hf, hl]
    exact congrArg showPresent (facetBad_free (s := r) hk8 h2)
  have kn := facetNoWord_keeps k 0 true c
  have kc : Keeps [Obj.facetErrorCount + (k + 1)] [.facet] r c := (facet_keeps _ r _).trans (keeps_count _ b 16 (by simp))
  have hv := facetNoWord_value hk8 0 true c
  have hcount : Obj.facetErrorCount + (k + 1) ∉ [Obj.facetValue + (k + 1), Obj.facetLimitStatus] := by
    simp [Obj.facetErrorCount, Obj.facetValue, Obj.facetLimitStatus]
    omega
  have hstatus : Obj.facetErrorCount + (k + 1) ≠ Obj.facetStatus := by simp only [Obj.facetErrorCount, Obj.facetStatus]; omega
  refine windowEnd_completes hw he ((keeps_mono kc (by simp) (by simp)).trans (keeps_mono kn (by simp) (fun _ => id))) (by simp) (by simp)
    (fun t hg => ?_)
  have hx := (hg _ (facetValue_ne hk8 (.inl (by decide)))).trans hv
  refine ⟨?_, ?_, ?_⟩
  · unfold State.facetState
    rw [hx, noWordValue_state _ _ (by decide)]
  · rw [hx, noWordValue_err]
  · rw [hg _ hstatus, kn.get hcount, State.get_count_self]
    rfl

theorem windowEnd_missing (dt k : Nat) (l : FacetLine) (s : State) (hw : Instr.wf (.facetWindowEnd dt k l) = true) (hk : k ≤ 6)
    (hr : (s.found dt).facetRuns = true) (hs : (s.found dt).facet.stopped = false)
    (hf : twoFaults ((s.found dt).facet.lastFault :: slotFaults k l) = false) (h2 : (s.found dt).facetState k = 2) (hl : lineWord l = .missing) :
    Completes (.facetWindowEnd dt k l) dt s [Obj.facetValue + (k + 1), Obj.facetStatus] [.facet] (fun u t =>
      t.facetState k = 3 ∧
        bits (t.get (Obj.facetValue + (k + 1))) 4 8 = min 255 (bits (u.get (Obj.facetValue + (k + 1))) 4 8 + 1) ∧
        bits (t.get (Obj.facetValue + (k + 1))) 12 20 = bits (u.get (Obj.facetValue + (k + 1))) 12 20) := by
  set r := windowRead k l (s.found dt)
  have hm : facetMissing k false r = r.set (Obj.facetValue + (k + 1)) (noWordValue (r.get (Obj.facetValue + (k + 1))) 3 false) := by
    unfold facetMissing
    rw [show r.facetState k = 2 from h2]
    exact facetNoWord_occupied false r (by decide) (by decide)
  have he : effFacetWindowEnd k l (s.found dt) = showPresent (facetMissing k false r) := by
    rw [effFacetWindowEnd_reads hk hr hs hf, hl]
    rfl
  rw [hm] at he
  refine windowEnd_completes hw he (keeps_set _ r _ (by simp)) (by simp) (by simp) (fun t hg => ?_)
  have hx := (hg _ (facetValue_ne (show k < 8 by omega) (.inl (by decide)))).trans (State.get_set_self r _ _)
  refine ⟨?_, ?_, ?_⟩
  · unfold State.facetState
    rw [hx, noWordValue_state _ _ (by decide)]
  · rw [hx, noWordValue_age]
    rfl
  · rw [hx, noWordValue_shown]
    rfl

/-! Line faults (R232). -/

theorem registers_0D : Registers 0x0D := by unfold Registers; decide

/-- A frame that has been stopped for no more than 4 ms stays so, and a further line fault does nothing. -/
theorem effFacetLineFault_stopped {s : State} (hr : s.facetRuns = true) (hs : s.facet.stopped = true) (hc : s.clk ≤ s.facet.frameAt + 4 * ms) :
    effFacetLineFault s = s := by
  have ho : facetFrameOver s = s := by
    unfold facetFrameOver
    rw [decide_eq_false (by omega), Bool.and_false, if_neg Bool.false_ne_true]
  unfold effFacetLineFault facetStops
  rw [hr, ho, hs]
  rfl

/-- The frame stops, and FacetStatus shows it. -/
def frameHalted (s : State) : State := { s with facet := { s.facet with stopped := true, faulty := true } }.setBitOf Obj.facetStatus 1 true

/-- The frame counts as a bad one, and 0Dh is about to set with its cause. -/
def frameStopped (s : State) : State :=
  { frameHalted s with facet := { (frameHalted s).facet with badFrame := true } }.set Obj.facetTimingCause 3

theorem effFacetLineFault_stops {s : State} (hr : s.facetRuns = true) (hs : s.facet.stopped = false) :
    effFacetLineFault s = faultOccur 0x0D (frameStopped s) := by
  have ho : facetFrameOver s = s := by
    unfold facetFrameOver
    rw [hs, Bool.false_and, if_neg Bool.false_ne_true]
  unfold effFacetLineFault facetStops
  rw [hr, ho, hs]
  rfl

theorem frameStopped_keeps (s : State) : Keeps [Obj.facetStatus, Obj.facetTimingCause] [.facet] s (frameStopped s) := by
  have h1 : Keeps [Obj.facetStatus, Obj.facetTimingCause] [.facet] s (frameHalted s) := (facet_keeps _ s _).trans (keeps_set _ _ _ (by simp))
  exact (h1.trans (facet_keeps _ _ _)).trans (keeps_set _ _ _ (by simp))

theorem frameHalted_shown (s : State) : bit ((frameHalted s).get Obj.facetStatus) 1 = true := by
  unfold frameHalted
  rw [bit_setBitOf, if_pos rfl]

theorem frameStopped_shown (s : State) : bit ((frameStopped s).get Obj.facetStatus) 1 = true :=
  (congrArg (bit · 1) (State.get_set_ne _ _ (by decide))).trans (frameHalted_shown s)

theorem facetLineFault_stops (dt : Nat) (s : State) (hr : (s.found dt).facetRuns = true) (hs : (s.found dt).facet.stopped = false)
    (h0 : (s.found dt).faultOn 0x0D = false) (h3 : (s.found dt).get (faultObj Obj.faultSeverity 0x0D) ≠ 3) :
    Completes (.facetLineFault dt) dt s ([Obj.facetStatus, Obj.facetTimingCause] ++ faultObjects 0x0D) (.facet :: faultBlocks) (fun _ t =>
      t.facet.stopped = true ∧ bit (t.get Obj.facetStatus) 1 = true ∧ t.get Obj.facetTimingCause = 3 ∧ t.faultOn 0x0D = true) := by
  refine completes_settled (eff := effFacetLineFault) rfl rfl ?_
  generalize s.found dt = u at hr hs h0 h3 ⊢
  rw [effFacetLineFault_stops hr hs]
  have kx := frameStopped_keeps u
  obtain ⟨kf, hf⟩ := faultOccur_mild (s := frameStopped u) h0 (by decide) (by rw [kx.get (by decide)]; exact h3) registers_0D.2.1
  refine ⟨⟨?_, ?_, ?_, ?_⟩, ((keeps_mono kx (fun _ => List.mem_append_left _) (by simp)).trans
    (keeps_mono kf (fun _ => List.mem_append_right _) (fun _ => List.mem_cons_of_mem _))).settle⟩
  · rw [settle_facet, show (faultOccur 0x0D (frameStopped u)).facet = (frameStopped u).facet from kf.2 .facet (by decide)]
    rfl
  · rw [settle_get, kf.get (by decide), frameStopped_shown]
  · rw [settle_get, kf.get (by decide)]
    exact State.get_set_self _ _ _
  · rw [settle_faultOn, hf]

/-- Settles O59: the start of the bus, a window by the word that its slots decode to, and a line fault in a frame that is stopped or not. -/
theorem facetBusRuns : Obligations.FacetBusRuns := by
  unfold Obligations.FacetBusRuns
  exact ⟨facetPowerPhaseEnd_runs, windowEnd_clean, windowEnd_bad, windowEnd_missing,
    fun dt s hr hs hc => completes_idle (eff := effFacetLineFault) rfl rfl (effFacetLineFault_stopped hr hs hc), facetLineFault_stops⟩

end Sys2Proof.Machine
end

section
namespace Sys2Proof.Machine

/-! The auxiliary converter goes on or rests as it did: no action of a plan, of a mode or of a source starts or ends a conversion (R211). -/

/-- The conversion in progress is as it was. -/
structure Samples (s t : State) : Prop where
  busy : t.aux.busy = s.aux.busy

theorem Samples.refl (s : State) : Samples s s := ⟨rfl⟩

theorem Samples.trans {s t u : State} (h : Samples s t) (g : Samples t u) : Samples s u := ⟨g.busy.trans h.busy⟩

/-- An update of anything but the auxiliary converter. -/
theorem Samples.after {s t : State} (h : Samples s t) {pending clk ringTime freeCtr objs latest staged notifyQ port mode time cells cur facet plan bal
    loupe xfer ring safe flt check test nvm} : Samples s ⟨pending, clk, ringTime, freeCtr, objs, latest, staged, notifyQ, port, mode, time,
      cells, cur, t.aux, facet, plan, bal, loupe, xfer, ring, safe, flt, check, test, nvm⟩ := ⟨h.busy⟩

theorem Samples.set (s : State) (k v : Nat) : Samples s (s.set k v) := ⟨rfl⟩

theorem Samples.ite {s t u : State} {p : Prop} [Decidable p] (h : Samples s t) (g : Samples s u) : Samples s (if p then t else u) := by
  split_ifs
  · exact h
  · exact g

theorem Samples.foldl {α : Type} {f : State → α → State} {s t : State} {l : List α} (h : Samples s t) (hf : ∀ s x, Samples s (f s x)) :
    Samples s (l.foldl f t) := by
  induction l generalizing t with
  | nil => exact h
  | cons x l ih => exact ih (h.trans (hf t x))

theorem Keeps.samples {ks : List Nat} {bs : List Block} {s t : State} (h : Keeps ks bs s t) (hb : Block.aux ∉ bs) : Samples s t :=
  ⟨congrArg AuxEng.busy (h.2 .aux hb : t.aux = s.aux)⟩

/-! The plan (R150, R152, R239, R276). -/

theorem stopExcitation_samples (s : State) : Samples s (stopExcitation s) := .trans (.after (.after (.refl s))) (.ite (.set _ _ _) (.refl _))

theorem closeOutputs_samples (s : State) : Samples s (closeOutputs s) := by
  have hr : ∀ t, Samples t (restStage t) := fun t => .ite (.after (.trans (.trans (.set t _ _) (.set _ _ _)) (.set _ _ _))) (.refl t)
  exact ⟨((stopExcitation_samples s).trans (hr _)).busy⟩

theorem setChannel_samples (n c : Nat) (s : State) : Samples s (setChannel n c s) := .ite (.set _ _ _) (.trans (.set _ _ _) (.set _ _ _))

theorem setSp_samples (k : Nat) (e : SpareEng) (s : State) : Samples s (s.setSp k e) := .ite (.after (.refl s)) (.after (.refl s))

theorem armSpare_samples (k n : Nat) (b : Bool) (s : State) : Samples s (armSpare k n b s) := .trans (.set s _ _) (setSp_samples _ _ _)

theorem freeSpare_samples (k : Nat) (s : State) : Samples s (freeSpare k s) := .trans (.set s _ _) (setSp_samples _ _ _)

theorem keep_samples (k v : Nat) (s : State) : Samples s (s.keep k v) := keep_eq k v s ▸ .after (.set s k v)

theorem coverHere_samples (k n : Nat) (s : State) : Samples s (coverHere k n s) := by
  unfold coverHere
  dsimp only
  refine .after (.trans ?_ (setSp_samples _ _ _))
  exact .trans (.trans (.set s _ _) (setChannel_samples _ _ _)) (keep_samples _ _ _)

theorem handBack_samples (k : Nat) (s : State) : Samples s (handBack k s) := by
  unfold handBack
  dsimp only
  split_ifs
  · exact .refl s
  · exact coverHere_samples _ _ _
  · exact .trans (armSpare_samples _ _ _ _) (setSp_samples _ _ _)
  · exact setSp_samples _ _ _

theorem sliceResult_samples (k n r : Nat) (b : Bool) (s : State) : Samples s (sliceResult k n r b s) := by
  unfold sliceResult
  refine .trans ?_ (.ite (.set _ _ _) (.ite (.set _ _ _) (.refl _)))
  exact .ite (.trans (.set _ _ _) (.set _ _ _)) (.set _ _ _)

theorem sliceRelease_samples (x : Slice) (s : State) : Samples s (sliceRelease x s) := by
  unfold sliceRelease
  refine .trans ?_ (.ite (handBack_samples _ _) (.refl _))
  refine .trans ?_ (.ite (.after (.refl _)) (.refl _))
  exact .ite (.after (.after (.refl s))) (.refl s)

theorem abortSlices_samples (p : Slice → Bool) (s : State) : Samples s (abortSlices p s) :=
  .foldl (.after (.refl s)) (fun t x => .trans (.ite (.refl t) (sliceResult_samples _ _ _ _ t)) (sliceRelease_samples x _))

theorem retireChannel_samples (n : Nat) (s : State) : Samples s (retireChannel n s) := by
  unfold retireChannel
  dsimp only
  split
  · exact .after (.trans (.foldl (.after (.refl s)) (fun t x => sliceResult_samples _ _ _ _ t)) (setSp_samples _ _ _))
  · split
    · exact .after (.trans (abortSlices_samples _ s) (armSpare_samples _ _ _ _))
    · exact .after (setSp_samples _ _ s)
    · exact .trans (.after (.refl s)) (setChannel_samples _ _ _)

theorem applyCellCount_samples (s : State) : Samples s (applyCellCount s) := by
  have hr : ∀ k n t, Samples t (releaseSpare k n t) := fun k n t =>
    .ite (armSpare_samples _ _ _ t) (.trans (freeSpare_samples _ t) (setSp_samples _ _ _))
  have hc : ∀ t, Samples t (restoreCovers t) := fun t => .ite (.refl t) (.foldl (.refl t) (fun u _ => .ite (retireChannel_samples _ u) (.refl u)))
  unfold applyCellCount
  refine .trans (.after (.foldl (.foldl (.after (.refl s)) ?_) ?_)) (hc _)
  · exact fun t k => .ite (hr _ _ t) (.refl t)
  · exact fun t i => .trans (setChannel_samples _ _ t) (.set _ _ _)

/-- The outputs of the plan close, and no slice goes on. -/
theorem planEnds_samples (s : State) : Samples s (closeOutputs (abortSlices (fun _ => true) (newWindow s))) :=
  .trans (.trans (.after (.refl s)) (abortSlices_samples _ _)) (closeOutputs_samples _)

theorem startRom_samples (s : State) : Samples s (startRom s) := by
  have hm : ∀ t, Samples t (mirrorCodes t) := fun t => .after (.trans (.set t _ _) (.set _ _ _))
  have hs := ((planEnds_samples s).trans (applyCellCount_samples _)).trans (hm _)
  exact ⟨hs.busy⟩

theorem haltPlan_samples (s : State) : Samples s (haltPlan s) := .after (.after (planEnds_samples s))

theorem planForMode_samples (m : Nat) (s : State) : Samples s (planForMode m s) := by
  unfold planForMode
  have hr : Samples s (if s.plan.running = RunningPlan.none then startRom s else s) := .ite (startRom_samples s) (.refl s)
  refine .ite (.ite (.refl s) (.ite (.after hr) (.ite (.after hr) hr))) ?_
  exact .ite (haltPlan_samples s) (.ite (.after (.refl s)) (startRom_samples s))

/-! A change of mode, and the entry into SAFE (R94, R109, R457). -/

/-- ICX that powers up has no channel converted yet, and ends no conversion. -/
theorem icxUp_samples (s : State) : Samples s (icxUp s) := ⟨rfl⟩

theorem event_samples (a b : Nat) (s : State) : Samples s (event a b s) := (event_keeps a b s).samples (by decide)

theorem changeMode_samples (m c : Nat) (s : State) : Samples s (changeMode m c s) := by
  unfold changeMode
  refine .trans (.trans (.after (.trans ?_ (abortSlices_samples _ _))) (planForMode_samples _ _)) (event_samples _ _ _)
  refine .trans (.trans ?_ (.ite (icxUp_samples _) (.refl _))) (.ite (.trans (.after (.set _ _ _)) (.set _ _ _)) (.refl _))
  refine .trans (.trans (.trans (.trans ?_ (.set _ _ _)) (.set _ _ _)) (.set _ _ _)) (.set _ _ _)
  exact .ite (.after (.trans (abortSlices_samples _ s) (.set _ _ _))) (.refl s)

theorem overtake_samples (s : State) : Samples s (overtake s) := by
  unfold overtake
  split
  · exact .refl s
  · exact .trans (.after (.refl s)) (.set _ _ _)

theorem endTransfer_samples (n : Nat) (s : State) : Samples s (endTransfer n s) := by
  have ha : Samples s (alsoEnds n s) := by
    unfold alsoEnds
    split
    · exact .ite (.after (.refl s)) (.refl s)
    · exact .refl s
  refine .ite ha (.after (.trans (.after ?_) (.set _ _ _)))
  exact .trans (.trans (.trans (.set s _ _) (.set _ _ _)) (.set _ _ _)) (.set _ _ _)

theorem loupeEndPoint_samples (c : Nat) (s : State) : Samples s (loupeEndPoint c s) := by
  have hf : ∀ p, Samples s (loupeFinish p c s) := fun p =>
    .ite (.trans (.set _ _ _) (.set _ _ _)) (.foldl (.trans (.set _ _ _) (.set _ _ _)) (fun t i => .trans (.set t _ _) (.set _ _ _)))
  unfold loupeEndPoint
  split
  · exact .refl s
  · exact .after (.after (.trans (hf _) (.ite (.set _ _ _) (.refl _))))

theorem endLoupe_samples (s : State) : Samples s (endLoupe s) :=
  .ite (.refl s) (.after (.trans (.trans (loupeEndPoint_samples 2 s) (.set _ _ _)) (.ite (.after (.set _ _ _)) (.refl _))))

theorem enterSafe_samples (s : State) : Samples s (enterSafe s) :=
  .ite (.after (.trans (.trans (.trans (endTransfer_samples 5 s) (endLoupe_samples _)) (changeMode_samples _ _ _)) (overtake_samples _))) (.refl s)

theorem faultOccur_samples {c : Nat} (hr : Registers c) (s : State) : Samples s (faultOccur c s) := by
  obtain ⟨f, k, -, e | ⟨g, e, -⟩⟩ := faultOccur_either s hr
  · exact e ▸ k.samples (by decide)
  · exact e ▸ .after (.trans (k.samples (by decide)) (enterSafe_samples f))

theorem faultFollow_samples {c : Nat} (hr : Registers c) (b : Bool) (s : State) : Samples s (faultFollow c b s) :=
  .ite (.ite (.refl s) (faultOccur_samples hr s)) (.ite (.after (.refl s)) (.refl s))

end Sys2Proof.Machine
end

section
namespace Sys2Proof.Machine

/-! The result of a conversion stands while its checks follow (R211, R215, R221). -/

/-- An object that is no result and no stamp of a channel. -/
abbrev BesideResults (k : Nat) : Prop := k < Obj.auxResult ∨ Obj.auxStamp + 0x20 ≤ k

/-- A channel shows a result and a stamp, the converter rests, and no slice or point is under way. -/
structure Converted (c w x : Nat) (s : State) : Prop where
  channel : c ≤ 0x1D
  result : s.get (Obj.auxResult + (c + 1)) = w
  stamp : s.get (Obj.auxStamp + (c + 1)) = x
  rest : s.aux.busy = none
  calm : Calm s

theorem registers_7 : Registers 7 := by unfold Registers; decide

theorem registers_0C : Registers 0x0C := by unfold Registers; decide

theorem registers_0F : Registers 0x0F := by unfold Registers; decide

theorem registers_14 : Registers 0x14 := by unfold Registers; decide

/-- The entry into SAFE writes no result. -/
theorem safeObjects_beside : ∀ k ∈ safeObjects, BesideResults k := by decide

section
variable {c w x : Nat} {s t : State}

/-- An object of a list beside the results is not the one shown. -/
theorem Converted.notMem (h : Converted c w x s) {ks : List Nat} (hk : ∀ k ∈ ks, BesideResults k) :
    Obj.auxResult + (c + 1) ∉ ks ∧ Obj.auxStamp + (c + 1) ∉ ks := by
  have hc := h.channel
  simp only [BesideResults, Obj.auxResult, Obj.auxStamp] at hk ⊢
  constructor <;> intro hm <;> have := hk _ hm <;> omega

theorem Converted.rests (h : Converted c w x s) (hr : Rests (Obj.auxResult + (c + 1)) s t) (hx : Rests (Obj.auxStamp + (c + 1)) s t)
    (hu : Samples s t) : Converted c w x t :=
  ⟨h.channel, hr.get.trans h.result, hx.get.trans h.stamp, hu.busy.trans h.rest, hr.calm h.calm⟩

theorem Converted.set (h : Converted c w x s) {k : Nat} (v : Nat) (hk : BesideResults k) : Converted c w x (s.set k v) := by
  obtain ⟨h1, h2⟩ := h.notMem (ks := [k]) (by simpa using hk)
  exact h.rests (.set s v (by simpa using h1)) (.set s v (by simpa using h2)) (.set s k v)

/-- An update that leaves the objects, the conversion, the slices and the point. -/
theorem Converted.after (h : Converted c w x s) {pending clk ringTime freeCtr latest staged notifyQ port mode time cells cur request notYet runs
    cycleRes pullRef dieAt hotRun facet plan bal xfer ring safe flt check nvm} : Converted c w x ⟨pending, clk, ringTime, freeCtr, s.objs, latest,
      staged, notifyQ, port, mode, time, cells, cur, ⟨s.aux.busy, request, notYet, runs, cycleRes, pullRef, dieAt, hotRun⟩, facet, plan, bal, s.loupe,
      xfer, ring, safe, flt, check, s.test, nvm⟩ := ⟨h.channel, h.result, h.stamp, h.rest, h.calm⟩

theorem Converted.keeps (h : Converted c w x s) {ks : List Nat} {bs : List Block} (k : Keeps ks bs s t) (hk : ∀ k ∈ ks, BesideResults k)
    (ha : Block.aux ∉ bs) (ht : Block.test ∉ bs) (hl : Block.loupe ∉ bs) : Converted c w x t :=
  h.rests (k.rests (h.notMem hk).1 ht hl) (k.rests (h.notMem hk).2 ht hl) (k.samples ha)

theorem Converted.stays (h : Converted c w x s) {ks : List Nat} (k : Stays ks s t) (hk : ∀ k ∈ ks, BesideResults k) (hu : Samples s t) :
    Converted c w x t := h.rests (k.rests (h.notMem hk).1) (k.rests (h.notMem hk).2) hu

theorem Converted.occur (h : Converted c w x s) {n : Nat} (hr : Registers n) (hk : ∀ k ∈ faultObjects n, BesideResults k) :
    Converted c w x (faultOccur n s) := by
  obtain ⟨h1, h2⟩ := h.notMem safeObjects_beside
  exact h.rests (faultOccur_rests hr (h.notMem hk).1 h1 h.calm) (faultOccur_rests hr (h.notMem hk).2 h2 h.calm) (faultOccur_samples hr s)

theorem Converted.follow (h : Converted c w x s) {n : Nat} (b : Bool) (hr : Registers n) (hk : ∀ k ∈ faultObjects n, BesideResults k) :
    Converted c w x (faultFollow n b s) := by
  obtain ⟨h1, h2⟩ := h.notMem safeObjects_beside
  exact h.rests (faultFollow_rests b hr (h.notMem hk).1 h1 h.calm) (faultFollow_rests b hr (h.notMem hk).2 h2 h.calm) (faultFollow_samples hr b s)

/-! Range (R213, R221). -/

theorem Converted.auxRangeEnds (h : Converted c w x s) : Converted c w x (auxRangeEnds s) :=
  iteInduction (fun _ => h.follow false registers_0C (by decide)) (fun _ => h)

/-- The debounced range condition of a channel, with the counts that the converter keeps of it. -/
def rangeNoted (n : Nat) (runs : List (Nat × Nat × Nat)) (on : Bool) (s : State) : State :=
  ({ s with aux := { s.aux with runs := runs } }).setBitOf Obj.auxRangeStatus n on

theorem auxRangeCheck_form (n : Nat) (out : Bool) (s : State) :
    ∃ runs on sets cause, auxRangeCheck n out s =
      if sets = true then faultOccur 0x0C ((rangeNoted n runs on s).set Obj.auxRangeCause cause) else auxRangeEnds (rangeNoted n runs on s) :=
  ⟨_, _, _, _, rfl⟩

theorem Converted.auxRangeCheck (h : Converted c w x s) (n : Nat) (out : Bool) : Converted c w x (auxRangeCheck n out s) := by
  obtain ⟨runs, on, sets, cause, e⟩ := auxRangeCheck_form n out s
  have hu : Converted c w x (rangeNoted n runs on s) := h.after.set _ (by decide)
  rw [e]
  exact iteInduction (fun _ => (hu.set _ (by decide)).occur registers_0C (by decide)) (fun _ => hu.auxRangeEnds)

/-! Thermistors (R204, R220, R331). -/

theorem Converted.shuntReading (h : Converted c w x s) (src : Nat) (v : Option Int) : Converted c w x (shuntReading src v s) := by
  cases v with
  | none => exact h
  | some t =>
    have hu : Converted c w x (if s.get Obj.shuntTempSource = src then s.set Obj.shuntTemperature (ofInt 16 t) else s) :=
      iteInduction (fun _ => h.set _ (by decide)) (fun _ => h)
    exact hu.after

theorem Converted.axTemperature (h : Converted c w x s) (n code : Nat) : Converted c w x (axTemperature n code s) := by
  have hs : ∀ v, Converted c w x (s.set (Obj.axTemperature + n) v) :=
    fun v => h.set v (.inr (by simp only [Obj.auxStamp, Obj.axTemperature]; omega))
  unfold Machine.axTemperature
  refine iteInduction (fun _ => hs _) (fun _ => ?_)
  split
  · exact iteInduction (fun _ => hs _) (fun _ => (hs _).after)
  · exact (hs _).after

theorem Converted.gatesOff (h : Converted c w x s) : Converted c w x (gatesOff s) :=
  h.keeps (gatesOff_ends s).keeps (by simp) (by decide) (by decide) (by decide)

theorem Converted.stopExcitation (h : Converted c w x s) : Converted c w x (stopExcitation s) :=
  h.stays (stopExcitation_stays s) (by decide) (stopExcitation_samples s)

/-- No point is in progress that could end. -/
theorem Converted.loupeEndPoint (h : Converted c w x s) (code : Nat) : Converted c w x (loupeEndPoint code s) := by
  unfold Machine.loupeEndPoint
  rw [h.calm.2]
  exact h

theorem Converted.transferFault (h : Converted c w x s) {n : Nat} (code : Nat) (hr : Registers n) (hk : ∀ k ∈ faultObjects n, BesideResults k) :
    Converted c w x (transferFault n code s) := by
  unfold Machine.transferFault
  extract_lets a y b d
  have ha : Converted c w x a := h.stays (endTransfer_stays code s) safeObjects_beside (endTransfer_samples code s)
  have hb : Converted c w x b := iteInduction (fun _ => ha.after.stopExcitation.loupeEndPoint 2) (fun _ => ha)
  have hd : Converted c w x d := hb.occur hr hk
  exact iteInduction (fun _ => hd) (fun _ => hd.gatesOff)

theorem Converted.axFeeds (h : Converted c w x s) (n : Nat) : Converted c w x (axFeeds n s) := by
  unfold Machine.axFeeds
  extract_lets v t u
  have ht : Converted c w x t := h.shuntReading _ _
  have hu : Converted c w x u := iteInduction (fun _ => ht.transferFault 3 registers_14 (by decide)) (fun _ => ht)
  exact iteInduction (fun _ => hu) (fun _ => hu.gatesOff)

/-! Die temperatures (R216, R218). -/

theorem Converted.dieExclusion (h : Converted c w x s) : Converted c w x (dieExclusion s) := by
  unfold Machine.dieExclusion
  split
  · extract_lets m y new t
    have ht : Converted c w x t := h.set _ (by decide)
    exact iteInduction (fun _ => (ht.set _ (by decide)).occur registers_0C (by decide)) (fun _ => ht.auxRangeEnds)
  · exact h

theorem Converted.dieOvertemp (h : Converted c w x s) : Converted c w x (dieOvertemp s) := by
  unfold Machine.dieOvertemp
  split
  · exact h
  · extract_lets lim run y u
    have hu : Converted c w x u := h.after
    have hf : ∀ b, Converted c w x (faultFollow 0x0F b u) := fun b => hu.follow b registers_0F (by decide)
    exact iteInduction (fun _ => hf true) (fun _ => iteInduction (fun _ => hf false) (fun _ => hu))

theorem Converted.dieResult (h : Converted c w x s) (k code : Nat) : Converted c w x (dieResult k code s) := by
  unfold Machine.dieResult
  extract_lets t u v
  have ht : Converted c w x t := h.set _ (.inr (by simp only [Obj.auxStamp, Obj.dieTemperature]; omega))
  exact ht.after.dieExclusion.dieOvertemp.shuntReading _ _

/-! The stack sum (R185). -/

theorem Converted.plausibility (h : Converted c w x s) : Converted c w x (plausibility s) :=
  iteInduction (fun _ => h.keeps (faultLapse_keeps 7 s) (by simp) (by decide) (by decide) (by decide))
    (fun _ => h.follow false registers_7 (by decide))

theorem Converted.stackCheck (h : Converted c w x s) : Converted c w x (stackCheck s) := by
  unfold Machine.stackCheck
  split
  · exact h
  · extract_lets e far row t y u
    have ht : Converted c w x t := h.set _ (by decide)
    have hu : Converted c w x u := ht.after
    exact iteInduction (fun _ => (hu.set _ (by decide)).occur registers_7 (by decide)) (fun _ => hu.plausibility)

end

/-! The end of a conversion (R210, R211, R215). -/

/-- AuxResult of a regular conversion: its code, with OPEN, RANGE, SATURATED and the channel's own flag (R215). -/
def resultWord (b : AuxConv) (codes : List Nat) (s : State) : Nat :=
  meanCode codes * 2 ^ 16 + num (b.channel < 16 && bit (s.get Obj.auxOpenStatus) b.channel) * 8 + num (s.auxRange b.channel (meanCode codes)) * 4 +
    num (codes.any (fun x => x = 0 || x = 0xFFFF)) * 2 + num (b.channel = 0x11 && !s.test.refOn)

theorem resultWord_code (b : AuxConv) (codes : List Nat) (s : State) : resultWord b codes s / 65536 = meanCode codes := by
  have hn : ∀ b, num b ≤ 1 := by decide
  unfold resultWord
  have h1 := hn (b.channel < 16 && bit (s.get Obj.auxOpenStatus) b.channel)
  have h2 := hn (s.auxRange b.channel (meanCode codes))
  have h3 := hn (codes.any (fun x => x = 0 || x = 0xFFFF))
  have h4 := hn (b.channel = 0x11 && !s.test.refOn)
  omega

/-- The word and the stamp of a conversion are shown. -/
theorem converted_shown {b : AuxConv} {s : State} (w : Nat) (hc : b.channel ≤ 0x1D) (hb : s.aux.busy = none) (c : Calm s) :
    Converted b.channel w (wrap48 (b.e + 130))
      ((s.set (Obj.auxResult + (b.channel + 1)) w).set (Obj.auxStamp + (b.channel + 1)) (wrap48 (b.e + 130))) := by
  refine ⟨hc, ?_, State.get_set_self _ _ _, hb, c⟩
  rw [State.get_set_ne _ _ (by simp only [Obj.auxResult, Obj.auxStamp]; omega), State.get_set_self]

theorem auxResult_converted {b : AuxConv} {s : State} (codes : List Nat) (hc : b.channel ≤ 0x1D) (hb : s.aux.busy = none) (c : Calm s) :
    Converted b.channel (resultWord b codes s) (wrap48 (b.e + 130)) (auxResult b codes s) := by
  have ht := converted_shown (resultWord b codes s) hc hb c
  unfold auxResult
  extract_lets n v range sat w t y u
  have hu : Converted b.channel (resultWord b codes s) (wrap48 (b.e + 130)) u := ht.after.auxRangeCheck n range
  clear_value u
  refine iteInduction (fun _ => ?_) (fun _ => ?_)
  · exact (hu.after.axTemperature _ _).axFeeds _
  · exact iteInduction (fun _ => hu.dieResult _ _) (fun _ => iteInduction (fun _ => hu.after.stackCheck) (fun _ => hu))

theorem auxConversionComplete_shows (dt : Nat) (volts : List Int) (b : AuxConv) (s : State) (hb : (s.found dt).aux.busy = some b)
    (hc : b.channel ≤ 0x1D) (hd : b.diag = false) (c : Calm (s.found dt)) :
    Leads (.auxConversionComplete dt volts) dt s (fun _ t =>
      t.aux.busy = none ∧ t.get (Obj.auxResult + (b.channel + 1)) / 65536 = meanCode (auxCodes (2 ^ b.avg) volts) ∧
        t.get (Obj.auxStamp + (b.channel + 1)) = (b.e + 130) % 2 ^ 48) := by
  refine leads_of (eff := effAuxConversionComplete volts) rfl rfl ?_
  generalize s.found dt = u at hb c ⊢
  have he : effAuxConversionComplete volts u = auxResult b (auxCodes (2 ^ b.avg) volts) { u with aux := { u.aux with busy := none } } := by
    unfold effAuxConversionComplete
    rw [hb]
    dsimp only
    rw [if_neg (by unfold refDifference; omega), hd, if_neg Bool.false_ne_true]
  have h := auxResult_converted (s := { u with aux := { u.aux with busy := none } }) (auxCodes (2 ^ b.avg) volts) hc rfl ⟨c.1, c.2⟩
  rw [he, settle_aux, settle_get, settle_get]
  refine ⟨h.rest, ?_, h.stamp⟩
  rw [h.result, resultWord_code]

end Sys2Proof.Machine
end

section
namespace Sys2Proof.Machine

/-! Conversions that start (R211, R212, R266). -/

theorem aux_keeps (ks : List Nat) (s : State) (x : AuxEng) : Keeps ks [.aux] s { s with aux := x } :=
  ⟨fun _ _ => rfl, fun b hb => by cases b <;> simp_all [Block.same]⟩

/-- A conversion as it starts (R211). -/
def conversion (channel avg : Nat) (adhoc : Bool) (s : State) : AuxConv :=
  ⟨channel, avg, s.ringTime, channel < 16 && bit s.plan.axPulls channel, s.cycle, adhoc⟩

/-- The converter at rest takes a conversion while ICX has power. -/
theorem startAux_rest {channel avg : Nat} {adhoc : Bool} {s : State} (hx : s.on .icx = true) (hb : s.aux.busy = none) :
    startAux channel avg adhoc s = { s with aux := { s.aux with busy := some (conversion channel avg adhoc s) } } := by
  unfold startAux
  rw [hx, hb, if_neg (by decide)]
  rfl

theorem aux_starts (dt select : Nat) (s : State) (hw : Instr.wf (.aux dt select) = true) (hr : (s.found dt).planRuns = true)
    (hx : (s.found dt).on .icx = true) (hb : (s.found dt).aux.busy = none) :
    Completes (.aux dt select) dt s [] [.aux] (fun u t =>
      ∃ b, t.aux = { u.aux with busy := some b } ∧ b.channel = u.auxEntry select % 256 ∧ b.avg = bits (u.auxEntry select) 8 3 ∧
        b.e = u.ringTime ∧ b.cycle = u.cycle) := by
  have he : effAux select (s.found dt) = startAux ((s.found dt).auxEntry select % 256) (bits ((s.found dt).auxEntry select) 8 3) false (s.found dt) := by
    unfold effAux
    rw [hr, Bool.not_true, if_neg Bool.false_ne_true]
  rw [startAux_rest hx hb] at he
  refine completes_of (eff := effAux select) hw rfl ?_ (he ▸ aux_keeps [] _ _)
  rw [he, settle_aux]
  exact ⟨_, rfl, rfl, rfl, rfl, rfl⟩

theorem adhocSlot_serves (dt channel at_ : Nat) (s : State) (hr : (s.found dt).planRuns = true) (hx : (s.found dt).on .icx = true)
    (hb : (s.found dt).aux.busy = none) (hq : (s.found dt).aux.request = some (channel, at_)) :
    Completes (.adhocSlot dt) dt s [] [.aux] (fun u t =>
      if at_ < u.clk then
        t.aux.request = none ∧ ∃ b, t.aux.busy = some b ∧ b.channel = channel ∧ b.avg = 0 ∧ b.e = u.ringTime ∧ b.adhoc = true
      else t.aux = u.aux) := by
  refine completes_settled (eff := effAdhocSlot) rfl rfl ?_
  generalize s.found dt = u at hr hx hb hq ⊢
  have he : effAdhocSlot u = if at_ < u.clk then startAux channel 0 true { u with aux := { u.aux with request := none } } else u := by
    unfold effAdhocSlot
    rw [hr, Bool.not_true, if_neg Bool.false_ne_true, hq]
  rw [settle_aux, he]
  split_ifs
  · rw [startAux_rest (s := { u with aux := { u.aux with request := none } }) hx hb]
    exact ⟨⟨rfl, _, rfl, rfl, rfl, rfl, rfl⟩, (aux_keeps [] u _).settle⟩
  · exact ⟨rfl, (Keeps.refl _ _ u).settle⟩

/-! Bits of a mask (R222). -/

theorem ofBits_succ (n : Nat) (f : Nat → Bool) : ofBits (n + 1) f = 2 ^ n * num (f n) + ofBits n f := by
  unfold ofBits
  rw [List.range_succ, List.foldl_append]
  exact (Nat.add_comm _ _).trans (congrArg (· + _) (Nat.mul_comm _ _))

theorem testBit_num (b : Bool) : (num b).testBit 0 = b := by cases b <;> rfl

theorem ofBits_lt (n : Nat) (f : Nat → Bool) : ofBits n f < 2 ^ n := by
  induction n with
  | zero => exact Nat.one_pos
  | succ n ih =>
    have hn : num (f n) ≤ 1 := (show ∀ b, num b ≤ 1 by decide) _
    have hp : 2 ^ n * num (f n) ≤ 2 ^ n * 1 := Nat.mul_le_mul_left _ hn
    rw [ofBits_succ, Nat.pow_succ]
    omega

theorem bit_ofBits {n i : Nat} (f : Nat → Bool) (h : i < n) : bit (ofBits n f) i = f i := by
  rw [bit_eq_testBit]
  induction n with
  | zero => exact absurd h (Nat.not_lt_zero i)
  | succ n ih =>
    rw [ofBits_succ, Nat.testBit_two_pow_mul_add _ (ofBits_lt n f)]
    split_ifs with hi
    · exact ih hi
    · obtain rfl : i = n := by omega
      rw [Nat.sub_self, testBit_num]

theorem bit_bits {v lo w i : Nat} (h : i < w) : bit (bits v lo w) i = bit v (lo + i) := by
  unfold bits
  rw [bit_eq_testBit, bit_eq_testBit, Nat.testBit_mod_two_pow, Nat.testBit_div_two_pow, decide_eq_true h, Bool.true_and, Nat.add_comm]

theorem sub_and_div_two (a m : Nat) : (a - (a &&& m)) / 2 = a / 2 - (a / 2 &&& m / 2) := by
  have hd : (a &&& m) / 2 = (a / 2 &&& m / 2) := Nat.and_div_two
  have hm := Nat.and_mod_two_eq_one (a := a) (b := m)
  have hl : a &&& m ≤ a := Nat.and_le_left
  omega

/-- The bits of a mask are taken from a number. -/
theorem bit_sub_and (a m i : Nat) : bit (a - (a &&& m)) i = (bit a i && !bit m i) := by
  simp only [bit_eq_testBit]
  induction i generalizing a m with
  | zero =>
    have hm := Nat.and_mod_two_eq_one (a := a) (b := m)
    have hl : a &&& m ≤ a := Nat.and_le_left
    rw [Bool.eq_iff_iff]
    simp only [Nat.testBit_zero, Bool.and_eq_true, Bool.not_eq_true', decide_eq_true_eq, decide_eq_false_iff_not]
    omega
  | succ i ih => rw [Nat.testBit_succ, sub_and_div_two, ih, ← Nat.testBit_succ, ← Nat.testBit_succ]

/-! The open-wire currents (R178, R222, R253). -/

/-- The inputs of a selection whose pull currents can be switched (R222). -/
def pullMask (sel : Nat) (s : State) : Nat :=
  ofBits 16 (fun i => bit sel i && (bits (s.get (Obj.auxInputConfig + (i + 1))) 0 2 == 1 || bits (s.get (Obj.auxInputConfig + (i + 1))) 0 2 == 2))

theorem axCurrents_plan (on : Bool) (sel : Nat) (s : State) :
    (axCurrents on sel s).plan =
      { s.plan with axPulls := if on then s.plan.axPulls ||| pullMask sel s else s.plan.axPulls - (s.plan.axPulls &&& pullMask sel s) } := rfl

theorem axCurrents_keeps (on : Bool) (sel : Nat) (s : State) : Keeps [] [.plan, .aux] s (axCurrents on sel s) := by
  have h : ∀ p x, Keeps [] [.plan, .aux] s { s with plan := p, aux := x } := fun p x =>
    (keeps_mono (plan_keeps [] s p) (by simp) (by simp)).trans (keeps_mono (aux_keeps [] _ x) (by simp) (by simp))
  exact h _ _

/-- An input of the selection follows the command, and every other one stays. -/
theorem axCurrents_pull (on : Bool) (sel : Nat) (s : State) {i : Nat} (h : i < 16) :
    bit (axCurrents on sel s).plan.axPulls i =
      if bit sel i && (bits (s.get (Obj.auxInputConfig + (i + 1))) 0 2 == 1 || bits (s.get (Obj.auxInputConfig + (i + 1))) 0 2 == 2) then on
      else bit s.plan.axPulls i := by
  have hm : bit (pullMask sel s) i = (bit sel i &&
      (bits (s.get (Obj.auxInputConfig + (i + 1))) 0 2 == 1 || bits (s.get (Obj.auxInputConfig + (i + 1))) 0 2 == 2)) := bit_ofBits _ h
  rw [axCurrents_plan, ← hm]
  cases on with
  | true =>
    rw [if_pos rfl, bit_or]
    cases bit (pullMask sel s) i <;> simp
  | false =>
    rw [if_neg Bool.false_ne_true, bit_sub_and]
    cases bit (pullMask sel s) i <;> simp

/-- OPENWIRE with its bit 1 switches the sense-pin currents. -/
def cellCurrentsTo (param : Nat) (s : State) : State :=
  if bit param 1 then (if bit param 0 then cellCurrentsOn s else cellCurrentsOff s) else s

theorem cellCurrentsOff_plan (s : State) : (cellCurrentsOff s).plan = { s.plan with cellCurrents := false } := by
  unfold cellCurrentsOff
  split_ifs with h
  · rw [← (Bool.not_eq_true' _).mp h]
  · rfl

theorem cellCurrentsTo_plan (param : Nat) (s : State) :
    (cellCurrentsTo param s).plan = { s.plan with cellCurrents := if bit param 1 then bit param 0 else s.plan.cellCurrents } := by
  unfold cellCurrentsTo
  split_ifs with h1 h0
  · rw [h0]
    rfl
  · rw [Bool.eq_false_iff.mpr h0]
    exact cellCurrentsOff_plan s
  · rfl

theorem cellCurrentsTo_keeps (param : Nat) (s : State) : Keeps [] [.plan, .cells] s (cellCurrentsTo param s) := by
  have h : ∀ p c, Keeps [] [.plan, .cells] s { s with plan := p, cells := c } := fun p c =>
    (keeps_mono (plan_keeps [] s p) (by simp) (by simp)).trans (keeps_mono (cells_keeps [] _ c) (by simp) (by simp))
  unfold cellCurrentsTo
  exact keeps_ite _ (keeps_ite _ (h _ _) (keeps_ite _ (.refl _ _ _) (h _ _))) (.refl _ _ _)

theorem openwire_switches (dt param : Nat) (s : State) (hw : Instr.wf (.openwire dt param) = true) (hr : (s.found dt).planRuns = true) :
    Completes (.openwire dt param) dt s [] [.plan, .cells, .aux, .test] (fun u t =>
      t.plan.cellCurrents = (if bit param 1 then bit param 0 else u.plan.cellCurrents) ∧ t.plan.held = u.plan.held ∧
        ∀ i, i < 16 → bit t.plan.axPulls i =
          if bit param (16 + i) && (bits (u.get (Obj.auxInputConfig + (i + 1))) 0 2 == 1 || bits (u.get (Obj.auxInputConfig + (i + 1))) 0 2 == 2)
          then bit param 0 else bit u.plan.axPulls i) := by
  refine completes_settled (eff := effOpenwire param) hw rfl ?_
  generalize s.found dt = u at hr ⊢
  have he : effOpenwire param u = sourcesSeen (axCurrents (bit param 0) (bits param 16 16) (cellCurrentsTo param u)) := by
    unfold effOpenwire
    rw [hr, Bool.not_true, if_neg Bool.false_ne_true]
    rfl
  have kc := cellCurrentsTo_keeps param u
  have hp := cellCurrentsTo_plan param u
  rw [he]
  generalize cellCurrentsTo param u = v at kc hp ⊢
  have ka := axCurrents_keeps (bit param 0) (bits param 16 16) v
  have hs : (sourcesSeen (axCurrents (bit param 0) (bits param 16 16) v)).plan = (axCurrents (bit param 0) (bits param 16 16) v).plan := rfl
  have kt : Keeps [] [.plan, .cells, .aux, .test] u (sourcesSeen (axCurrents (bit param 0) (bits param 16 16) v)) :=
    ((keeps_mono kc (by simp) (by simp)).trans (keeps_mono ka (by simp) (by simp))).trans (keeps_mono (test_keeps [] _ _) (by simp) (by simp))
  refine ⟨⟨?_, ?_, fun i hi => ?_⟩, kt.settle⟩
  · rw [settle_plan, hs, axCurrents_plan, hp]
  · rw [settle_plan, hs, axCurrents_plan, hp]
  · rw [settle_plan, hs, axCurrents_pull _ _ v hi, kc.get (by simp), hp, bit_bits hi]

/-- Settles O35: a conversion that AUX or an ADHOC slot starts, the result that stands after every check of it, and the currents of OPENWIRE. -/
theorem auxEntriesRun : Obligations.AuxEntriesRun := by
  unfold Obligations.AuxEntriesRun
  exact ⟨aux_starts, adhocSlot_serves, fun dt volts b s => auxConversionComplete_shows dt volts b s, openwire_switches⟩

end Sys2Proof.Machine
end

section
namespace Sys2Proof.Machine

/-! Slots and banks as the blocks hold them (R257, R258, R260). -/

theorem active_of_plan {s t : State} (h : t.plan = s.plan) : t.active = s.active := by
  unfold State.active
  rw [h]

theorem inactive_of_plan {s t : State} (h : t.plan = s.plan) : t.inactive = s.inactive := by
  unfold State.inactive
  rw [h]

theorem slotImage_of_plan {s t : State} (h : t.plan = s.plan) (k : Nat) : t.slotImage k = s.slotImage k := by
  unfold State.slotImage
  rw [h]

theorem backs_of_plan {s t : State} (h : t.plan = s.plan) (k : Nat) : t.backs k = s.backs k := by
  unfold State.backs
  rw [active_of_plan h, inactive_of_plan h]

theorem showVerdict_plan (v : Option (Nat × Nat)) (s : State) : (showVerdict v s).plan = s.plan := by
  rcases v with _ | ⟨c, i⟩
  · exact State.setField_plan _ _ _ _ _
  · exact (State.set_plan _ _ _).trans (State.setField_plan _ _ _ _ _)

theorem setInactive_keeps (b : Bank) (s : State) : Keeps [] [.plan] s (s.setInactive b) := by
  unfold State.setInactive
  split <;> exact plan_keeps _ _ _

theorem setInactive_inactive (b : Bank) (s : State) : (s.setInactive b).inactive = b := by
  cases h : s.plan.activeB <;> simp [State.setInactive, State.inactive, h]

theorem setInactive_active (b : Bank) (s : State) : (s.setInactive b).active = s.active := by
  cases h : s.plan.activeB <;> simp [State.setInactive, State.active, h]

theorem setSlot_slotImage_self (k : Nat) (s : State) : (setSlot k [] s).slotImage k = [] := by
  simp [setSlot, State.slotImage, List.getD_eq_getElem?_getD, List.getElem?_set]
  split <;> rfl

theorem setSlot_slotImage_ne {k m : Nat} (l : List Nat) (s : State) (h : m ≠ k) : (setSlot k l s).slotImage m = s.slotImage m := by
  simp [setSlot, State.slotImage, List.getD_eq_getElem?_getD, List.getElem?_set_ne h.symm]

/-! What LOAD, DISCARD, ERASE and CANCEL come to (R258, R260, R283). -/

/-- A command that is done shows in PlanControl. -/
def shownAs (v : Nat) : WriteRes → WriteRes
  | .done t => .done (t.set Obj.planControl v)
  | r => r

theorem planControl_fields {m k : Nat} (hm : m < 4) (hk : k < 16) : bits (m + 256 * k) 0 2 = m ∧ bits (m + 256 * k) 8 4 = k := by
  unfold bits
  omega

theorem writePlanControl_load {m : Nat} (ok : Bool) (s : State) (hm : m < 4) :
    writePlanControl (m + 256 * 1) ok s = shownAs (0x100 + m) (loadSlot m s) := by
  obtain ⟨h0, h8⟩ := planControl_fields (k := 1) hm (by decide)
  unfold writePlanControl
  dsimp only
  rw [h0, h8]
  cases loadSlot m s <;> rfl

theorem writePlanControl_discard (ok : Bool) (s : State) :
    writePlanControl (0 + 256 * 2) ok s =
      shownAs 0x200 (if s.plan.switchAt.isSome then rejected 2 s else .done (s.setInactive Bank.empty)) := by
  cases h : s.plan.switchAt.isSome <;> simp [writePlanControl, bits, shownAs, h]

theorem writePlanControl_erase {m : Nat} (ok : Bool) (s : State) (hm : m < 4) :
    writePlanControl (m + 256 * 3) ok s = shownAs (0x300 + m) (eraseSlot m ok s) := by
  obtain ⟨h0, h8⟩ := planControl_fields (k := 3) hm (by decide)
  unfold writePlanControl
  dsimp only
  rw [h0, h8]
  cases eraseSlot m ok s <;> rfl

theorem writePlanControl_cancel (ok : Bool) (s : State) :
    writePlanControl (0 + 256 * 4) ok s = shownAs 0x400 (if s.plan.switchAt.isNone then rejected 4 s else .done (cancelSwitch s)) := by
  cases h : s.plan.switchAt.isNone <;> simp [writePlanControl, bits, shownAs, h]

theorem loadSlot_empty {m : Nat} {s : State} (h : s.slotImage m = []) : loadSlot m s = rejected 1 s := by
  simp [loadSlot, h]

theorem loadSlot_pending {m : Nat} {s : State} (h : s.slotImage m ≠ []) (hp : s.plan.switchAt.isSome = true) :
    loadSlot m s = rejected 2 s := by
  simp [loadSlot, h, hp]

theorem loadSlot_checked {m : Nat} {s : State} (h : s.slotImage m ≠ []) (hp : ¬ s.plan.switchAt.isSome = true) :
    loadSlot m s =
      if (bankFault false (s.slotImage m) s).isSome then
        rejected 5 ((showVerdict (bankFault false (s.slotImage m) s) s).setInactive Bank.empty)
      else .done ((showVerdict (bankFault false (s.slotImage m) s) s).setInactive ⟨s.slotImage m, m, true⟩) := by
  simp only [loadSlot, List.isEmpty_iff, h, hp, if_false, Bool.false_eq_true]

/-! A write of PlanControl by the host (R260). -/

/-- PlanControl in its table. -/
def planControlRow : ObjRow :=
  ⟨0x0600, 0x0600, 0x00, 0x00, .uint, 2, .rw, false, false, false, false, 0x0, 0xF03, .fields [(8, 4, 1, 4)]⟩

theorem lookup_planControl : lookup 0x0600 0 = .inr planControlRow := by decide +kernel

/-- Of the operand of a slot its two low bits remain. -/
theorem planControl_masked : ∀ slot < 256, ∀ k < 5, (slot + 256 * k) &&& 0xF03 = slot % 4 + 256 * k := by decide +kernel

/-- A command to PlanControl comes to its destination. -/
theorem writeObject_planControl {slot k : Nat} (c : Ctx) (s : State) (hs : slot < 256) (h1 : 1 ≤ k) (h2 : k ≤ 4) :
    writeObject c Obj.planControl planControlRow (ofLe [slot, k]) s = writePlanControl (slot % 4 + 256 * k) c.storeOk s := by
  have hv : ofLe [slot, k] &&& 0xF03 = slot % 4 + 256 * k := by
    rw [show ofLe [slot, k] = slot + 256 * k by simp [ofLe]]
    exact planControl_masked slot hs k (by omega)
  obtain ⟨-, h8⟩ := planControl_fields (m := slot % 4) (k := k) (by omega) (by omega)
  have hi : (!planControlRow.inRange (slot % 4 + 256 * k)) = false := by
    unfold ObjRow.inRange planControlRow
    simp [h8, h1, h2]
  have hd : writeValue c Obj.planControl (slot % 4 + 256 * k) s = writePlanControl (slot % 4 + 256 * k) c.storeOk s := rfl
  unfold writeObject
  dsimp only
  rw [show planControlRow.mask = 0xF03 from rfl, hv, hi, if_neg Bool.false_ne_true, hd]
  cases writePlanControl (slot % 4 + 256 * k) c.storeOk s <;> rfl

/-- The packet of a command to PlanControl, as it arrives. -/
theorem planControl_eq {s : State} {c : Ctx} {n slot k : Nat} (h : HeardMaster s c n 2 0x0600 0) (hs : slot < 256) (h1 : 1 ≤ k)
    (h2 : k ≤ 4) :
    arrive ⟨c, 2, 0x0600, 0, [slot, k], 0⟩ s =
      settleUpdate (conclude ⟨{ c with src := .host (s.client n) }, 2, 0x0600, 0, [slot, k], 0⟩ []
        (writePlanControl (slot % 4 + 256 * k) c.storeOk (received n s))) := by
  have hw := host_writes h [slot, k] 0 lookup_planControl (received_writeAccess h.master (by decide) (.inl rfl)) (by decide) rfl
  rwa [show objKey 0x0600 0 = Obj.planControl from rfl, writeObject_planControl _ _ hs h1 h2] at hw

theorem received_plan (n : Nat) (s : State) : (received n s).plan = s.plan := (received_keeps n s).2 .plan (by decide)

/-- What a command to PlanControl writes beside PlanControl: the outcome of a validation, or nothing. -/
def VerdictOnly (ks : List Nat) : Prop := ∀ k ∈ ks, k = Obj.planStatus ∨ k = Obj.planRejectDetail

theorem VerdictOnly.spares {ks : List Nat} (h : VerdictOnly ks) :
    ∀ k ∈ [Obj.domainStatus, Obj.supervisorState, Obj.updateStatus, Obj.nodeAddress, Obj.hostPortActive], k ∉ Obj.planControl :: ks := by
  intro k hk hm
  have hv : k = Obj.planControl ∨ k = Obj.planStatus ∨ k = Obj.planRejectDetail := (List.mem_cons.mp hm).imp id (h k)
  rcases hv with rfl | rfl | rfl <;> exact absurd hk (by decide)

section
variable {s u : State} {c : Ctx} {n slot k : Nat} {ks : List Nat}

/-- A command that is refused with DETAIL `d` is answered so, and leaves the banks and slots as its refusal does. -/
theorem planControl_refused {d : Nat} (h : HeardMaster s c n 2 0x0600 0) (hs : slot < 256) (h1 : 1 ≤ k) (h2 : k ≤ 4)
    (hw : writePlanControl (slot % 4 + 256 * k) c.storeOk (received n s) = rejected d u)
    (hk : Keeps ks [.plan] (received n s) u) (hv : VerdictOnly ks) :
    let t := settle (arrive ⟨c, 2, 0x0600, 0, [slot, k], 0⟩ s)
    Keeps (Obj.planControl :: ks) [.port, .bal, .flt, .plan] s t ∧ Refused s t c n 0x0600 0 0x0A d ∧ t.plan = u.plan := by
  rw [planControl_eq h hs h1 h2, hw]
  have ku := keeps_mono hk (fun _ => List.mem_cons_of_mem Obj.planControl) (fun _ => id)
  obtain ⟨kt, ht⟩ := conclude_refuses h.toHeard [slot, k] [] 0 0x0A d (.of_keeps h.toHeard ku hv.spares (by simp))
  refine ⟨Keeps.settle (((keeps_mono (received_keeps n s) (by simp) (by simp)).trans (keeps_mono ku (fun _ => id) (by simp))).trans
    (keeps_mono kt (by simp) (by simp))), ?_, ?_⟩
  · unfold Refused
    rw [settle_port]
    exact ht
  · rw [settle_plan]
    exact kt.2 .plan (by decide)

/-- A command that is done is answered and shows in PlanControl. -/
theorem planControl_accepted {v : Nat} (h : HeardMaster s c n 2 0x0600 0) (hs : slot < 256) (h1 : 1 ≤ k) (h2 : k ≤ 4)
    (hw : writePlanControl (slot % 4 + 256 * k) c.storeOk (received n s) = shownAs v (.done u))
    (hk : Keeps ks [.plan] (received n s) u) (hv : VerdictOnly ks) :
    let t := settle (arrive ⟨c, 2, 0x0600, 0, [slot, k], 0⟩ s)
    Keeps (Obj.planControl :: ks) [.port, .bal, .flt, .plan] s t ∧ Answered s t c n 2 0x0600 0 [] ∧ t.plan = u.plan ∧
      t.get Obj.planControl = v := by
  rw [planControl_eq h hs h1 h2, hw]
  have ku : Keeps (Obj.planControl :: ks) [.plan] (received n s) (u.set Obj.planControl v) :=
    (keeps_mono hk (fun _ => List.mem_cons_of_mem _) (fun _ => id)).trans (keeps_set _ u v List.mem_cons_self)
  obtain ⟨kt, ht⟩ := conclude_accepts h.toHeard [slot, k] [] 0 (.of_keeps h.toHeard ku hv.spares (by simp))
  refine ⟨Keeps.settle (((keeps_mono (received_keeps n s) (by simp) (by simp)).trans (keeps_mono ku (fun _ => id) (by simp))).trans
    (keeps_mono kt (by simp) (by simp))), ?_, ?_, ?_⟩
  · unfold Answered
    rw [settle_port]
    exact ht
  · rw [settle_plan]
    exact kt.2 .plan (by decide)
  · rw [settle_get]
    exact (kt.get (by simp)).trans (State.get_set_self u _ v)

end

/-- LOAD: a good image goes into the inactive bank, one that its checks refuse leaves it empty (R260). -/
theorem load_runs {s : State} {c : Ctx} {n slot : Nat} (h : HeardMaster s c n 2 0x0600 0) (hs : slot < 256) :
    let t := settle (effLoad c slot s)
    (if s.slotImage (slot % 4) = [] then Refused s t c n 0x0600 0 0x0A 1 ∧ t.plan = s.plan
     else if s.plan.switchAt.isSome then Refused s t c n 0x0600 0 0x0A 2 ∧ t.plan = s.plan
     else if (bankFault false (s.slotImage (slot % 4)) (received n s)).isSome then
       Refused s t c n 0x0600 0 0x0A 5 ∧ t.inactive = Bank.empty ∧ t.active = s.active
     else Answered s t c n 2 0x0600 0 [] ∧ t.inactive = ⟨s.slotImage (slot % 4), slot % 4, true⟩ ∧ t.active = s.active ∧
       t.get Obj.planControl = 0x100 + slot % 4) ∧
    Keeps [Obj.planControl, Obj.planStatus, Obj.planRejectDetail] [.port, .bal, .flt, .plan] s t := by
  intro t
  set r := received n s
  have hp : r.plan = s.plan := received_plan n s
  have hi : r.slotImage (slot % 4) = s.slotImage (slot % 4) := slotImage_of_plan hp _
  have hl := writePlanControl_load (m := slot % 4) c.storeOk r (by omega)
  have hv : VerdictOnly [Obj.planStatus, Obj.planRejectDetail] := by simp [VerdictOnly]
  have kr : Keeps [Obj.planStatus, Obj.planRejectDetail] [.plan] r r := .refl _ _ _
  rw [← hi]
  by_cases h1 : r.slotImage (slot % 4) = []
  · rw [loadSlot_empty h1] at hl
    obtain ⟨kt, ht, hq⟩ := planControl_refused h hs (by decide) (by decide) hl kr hv
    rw [if_pos h1]
    exact ⟨⟨ht, hq.trans hp⟩, kt⟩
  rw [if_neg h1, ← hp]
  by_cases h2 : r.plan.switchAt.isSome = true
  · rw [loadSlot_pending h1 h2] at hl
    obtain ⟨kt, ht, hq⟩ := planControl_refused h hs (by decide) (by decide) hl kr hv
    rw [if_pos h2]
    exact ⟨⟨ht, hq⟩, kt⟩
  rw [if_neg h2]
  rw [loadSlot_checked h1 h2] at hl
  set w := showVerdict (bankFault false (r.slotImage (slot % 4)) r) r
  have ha : w.active = s.active := active_of_plan ((showVerdict_plan _ r).trans hp)
  have kw (b : Bank) : Keeps [Obj.planStatus, Obj.planRejectDetail] [.plan] r (w.setInactive b) :=
    (showVerdict_keeps _ r).trans (keeps_mono (setInactive_keeps b w) (by simp) (fun _ => id))
  by_cases h3 : (bankFault false (r.slotImage (slot % 4)) r).isSome = true
  · rw [if_pos h3] at hl ⊢
    obtain ⟨kt, ht, hq⟩ := planControl_refused h hs (by decide) (by decide) hl (kw _) hv
    exact ⟨⟨ht, (inactive_of_plan hq).trans (setInactive_inactive _ w), (active_of_plan hq).trans ((setInactive_active _ w).trans ha)⟩, kt⟩
  · rw [if_neg h3] at hl ⊢
    obtain ⟨kt, ht, hq, hg⟩ := planControl_accepted h hs (by decide) (by decide) hl (kw _) hv
    exact ⟨⟨ht, (inactive_of_plan hq).trans (setInactive_inactive _ w),
      (active_of_plan hq).trans ((setInactive_active _ w).trans ha), hg⟩, kt⟩

/-- DISCARD: the inactive bank becomes empty, but not while a switch is pending (R260). -/
theorem discard_runs {s : State} {c : Ctx} {n : Nat} (h : HeardMaster s c n 2 0x0600 0) :
    let t := settle (effDiscard c s)
    (if s.plan.switchAt.isSome then Refused s t c n 0x0600 0 0x0A 2 ∧ t.plan = s.plan
     else Answered s t c n 2 0x0600 0 [] ∧ t.inactive = Bank.empty ∧ t.active = s.active ∧ t.get Obj.planControl = 0x200) ∧
    Keeps [Obj.planControl] [.port, .bal, .flt, .plan] s t := by
  intro t
  set r := received n s
  have hp : r.plan = s.plan := received_plan n s
  have hl := writePlanControl_discard c.storeOk r
  have hv : VerdictOnly [] := by simp [VerdictOnly]
  rw [← hp]
  by_cases h2 : r.plan.switchAt.isSome = true
  · rw [if_pos h2] at hl ⊢
    obtain ⟨kt, ht, hq⟩ := planControl_refused (slot := 0) h (by decide) (by decide) (by decide) hl (.refl [] _ r) hv
    exact ⟨⟨ht, hq⟩, kt⟩
  · rw [if_neg h2] at hl ⊢
    obtain ⟨kt, ht, hq, hg⟩ := planControl_accepted (slot := 0) h (by decide) (by decide) (by decide) hl (setInactive_keeps _ r) hv
    exact ⟨⟨ht, (inactive_of_plan hq).trans (setInactive_inactive _ r),
      (active_of_plan hq).trans ((setInactive_active _ r).trans (active_of_plan hp)), hg⟩, kt⟩

/-- ERASE: a slot that backs no bank becomes empty, and no other slot changes (R258, R260). -/
theorem erase_runs {s : State} {c : Ctx} {n slot : Nat} (h : HeardMaster s c n 2 0x0600 0) (hs : slot < 256) (ho : c.storeOk = true) :
    let t := settle (effErase c slot s)
    (if s.backs (slot % 4) ≠ 0 then Refused s t c n 0x0600 0 0x0A 3 ∧ t.plan = s.plan
     else Answered s t c n 2 0x0600 0 [] ∧ t.slotImage (slot % 4) = [] ∧
       (∀ m, m ≠ slot % 4 → t.slotImage m = s.slotImage m) ∧ t.get Obj.planControl = 0x300 + slot % 4) ∧
    Keeps [Obj.planControl] [.port, .bal, .flt, .plan] s t := by
  intro t
  set r := received n s
  have hp : r.plan = s.plan := received_plan n s
  have hl := writePlanControl_erase (m := slot % 4) c.storeOk r (by omega)
  have hv : VerdictOnly [] := by simp [VerdictOnly]
  rw [← backs_of_plan hp]
  by_cases hb : r.backs (slot % 4) ≠ 0
  · rw [eraseSlot, if_pos (bne_iff_ne.mpr hb)] at hl
    obtain ⟨kt, ht, hq⟩ := planControl_refused h hs (by decide) (by decide) hl (.refl [] _ r) hv
    rw [if_pos hb]
    exact ⟨⟨ht, hq.trans hp⟩, kt⟩
  · rw [eraseSlot, if_neg (by simpa using hb), ho, if_neg (by decide)] at hl
    rw [← ho] at hl
    obtain ⟨kt, ht, hq, hg⟩ := planControl_accepted h hs (by decide) (by decide) hl (plan_keeps [] r _) hv
    rw [if_neg hb]
    exact ⟨⟨ht, (slotImage_of_plan hq _).trans (setSlot_slotImage_self _ r),
      fun m hm => (slotImage_of_plan hq m).trans ((setSlot_slotImage_ne [] r hm).trans (slotImage_of_plan hp m)), hg⟩, kt⟩

/-- CANCEL: a pending switch goes (R260). -/
theorem cancel_runs {s : State} {c : Ctx} {n : Nat} (h : HeardMaster s c n 2 0x0600 0) :
    let t := settle (effCancel c s)
    (if s.plan.switchAt = none then Refused s t c n 0x0600 0 0x0A 4
     else Answered s t c n 2 0x0600 0 [] ∧ t.plan.switchAt = none ∧ t.get Obj.planControl = 0x400) ∧
    Keeps [Obj.planControl] [.port, .bal, .flt, .plan] s t := by
  intro t
  set r := received n s
  have hp : r.plan = s.plan := received_plan n s
  have hl := writePlanControl_cancel c.storeOk r
  have hv : VerdictOnly [] := by simp [VerdictOnly]
  rw [← hp]
  by_cases h4 : r.plan.switchAt = none
  · rw [if_pos (by simp [h4])] at hl
    obtain ⟨kt, ht, -⟩ := planControl_refused (slot := 0) h (by decide) (by decide) (by decide) hl (.refl [] _ r) hv
    rw [if_pos h4]
    exact ⟨ht, kt⟩
  · rw [if_neg (by simpa using h4)] at hl
    obtain ⟨kt, ht, hq, hg⟩ := planControl_accepted (slot := 0) h (by decide) (by decide) (by decide) hl (plan_keeps [] r _) hv
    rw [if_neg h4]
    exact ⟨⟨ht, congrArg PlanEng.switchAt hq, hg⟩, kt⟩

/-- Settles O20: each command comes to PlanControl with the low bits of its slot, where it is refused by its rule, or done and answered. -/
theorem planControlRuns : Obligations.PlanControlRuns := by
  unfold Obligations.PlanControlRuns
  refine ⟨fun dt c n slot s hw h => completes_settled (eff := effLoad c slot) hw rfl (load_runs h ?_),
    fun dt c n s hw h => completes_settled (eff := effDiscard c) hw rfl (discard_runs h),
    fun dt c n slot s hw ho h => completes_settled (eff := effErase c slot) hw rfl (erase_runs h ?_ ho),
    fun dt c n s hw h => completes_settled (eff := effCancel c) hw rfl (cancel_runs h)⟩
  · exact of_decide_eq_true (Bool.and_eq_true_iff.mp hw).2
  · exact of_decide_eq_true (Bool.and_eq_true_iff.mp hw).2

end Sys2Proof.Machine
end

section
namespace Sys2Proof.Machine

/-! A write of PlanImage of more bytes than a DOMAIN holds (R49, R259). -/

/-- PlanImage in its table. -/
def planImageRow : ObjRow := ⟨0x0610, 0x0610, 0x00, 0x00, .domain, 0, .rw, false, false, false, false, 0x0, 0x0, .any⟩

theorem lookup_planImage : lookup 0x0610 0 = .inr planImageRow := by decide +kernel

/-- An image beyond the 262144 bytes of a DOMAIN is refused with LENGTH, before PlanImage sees it. -/
theorem planImageWrite_tooLong {s : State} {c : Ctx} {n : Nat} {image : List Nat} (h : HeardMaster s c n 5 0x0610 0)
    (hl : 262144 < image.length) :
    effPlanImageWrite c image s =
      settleUpdate (refuse ⟨{ c with src := .host (s.client n) }, 5, 0x0610, 0, [], 0⟩ 8 0 (received n s)) := by
  have hr := h.ready
  have hc : (received n s).coreAbsent planImageRow = false := by simp_all [State.coreAbsent, State.supReady, received_get]
  have ha : (received n s).writeAccess { c with src := .host (s.client n) } (objKey 0x0610 0) planImageRow = 0 :=
    received_writeAccess h.master (by decide) (.inl rfl)
  have hd : domainLength 0x0610 image.length = false := by simpa [domainLength] using hl
  show arrive ⟨c, wholeOp, 0x0610, 0, image, 0⟩ s = _
  rw [arrive_heard h.toHeard image 0 rfl rfl]
  congr 1
  show cmdWhole _ _ = _
  unfold cmdWhole
  simp only [lookup_planImage, hc, ha, hd]
  rfl

/-- In READY, with client 0 MASTER and every plan slot empty. -/
def readyMaster : State :=
  let s := State.reset.setAll [(Obj.supervisorState, 0), (Obj.modeStatus, Mode.ready), (Obj.domainStatus, modeDomains Mode.ready),
    (Obj.hostPortActive, 1)]
  { s with port := { s.port with sessions := [⟨0, 2, 1, 0⟩] } }

theorem readyMaster_heard : HeardMaster (readyMaster.found 1) policyHost 0 5 0x0610 0 := by
  refine ⟨⟨rfl, ?_, ?_, ?_, ?_, ?_, ?_, ?_, ?_, ?_⟩, ?_, ?_⟩ <;> decide +kernel

theorem bytesOk_replicate {m n : Nat} (h : n ≤ m) : bytesOk m (List.replicate n 0) = true := by
  simp [bytesOk, isByte, h]

/-- An image one byte longer than a DOMAIN is well-formed as an operand. -/
theorem exists_longImage : ∃ image, image.length = 262145 ∧ bytesOk (2 ^ 32 - 1) image = true :=
  ⟨List.replicate 262145 0, List.length_replicate, bytesOk_replicate (by norm_num)⟩

/-- All that waits for the host is the refusal with LENGTH. -/
theorem readyMaster_outQ {image : List Nat} (hl : 262144 < image.length) :
    (settle (effPlanImageWrite policyHost image (readyMaster.found 1))).port.outQ =
      [⟨.response 0, packetBytes 255 7 ((readyMaster.found 1).answerAddr policyHost) 0x0610 0 (abortData 8 0)⟩] := by
  rw [planImageWrite_tooLong readyMaster_heard hl]
  decide +kernel

theorem exec_planImageWrite (dt : Nat) {c : Ctx} {image : List Nat} (s : State) (hw : Instr.wf (.planImageWrite dt c image) = true) :
    exec (.planImageWrite dt c image) s = .next (settle (effPlanImageWrite c image (s.found dt))) := by
  show run (Instr.wf (.planImageWrite dt c image)) dt (effPlanImageWrite c image) s = _
  rw [hw]
  rfl

/-- Refutes O21: its second clause bounds the image nowhere. One of 262145 bytes, more than a DOMAIN holds, is refused with LENGTH (R49) before
the checks of R259 see it, where the clause says DETAIL 05h of 0Ah, since no image of that length is good. -/
theorem not_planSwitchRuns : ¬ Obligations.PlanSwitchRuns := by
  unfold Obligations.PlanSwitchRuns
  rintro ⟨-, h, -⟩
  obtain ⟨image, hn, hb⟩ := exists_longImage
  have hw : Instr.wf (.planImageWrite 1 policyHost image) = true := by
    show (policyHost.wf && bytesOk (2 ^ 32 - 1) image) = true
    rw [hb]
    rfl
  obtain ⟨t, he, ht, -⟩ := h 1 policyHost 0 image readyMaster hw (by decide) readyMaster_heard (by decide +kernel) (by decide +kernel)
    (by decide +kernel)
  rw [exec_planImageWrite 1 readyMaster hw, Host.Outcome.next.injEq] at he
  have hq : t.port.outQ = _ := he ▸ readyMaster_outQ (by omega)
  unfold Refused Answered at ht
  rw [hq, hn] at ht
  split_ifs at ht
  · exact absurd ht.1 (by decide +kernel)
  · exact absurd ht.1 (by decide +kernel)

end Sys2Proof.Machine
end

section
namespace Sys2Proof.Machine

/-! A set for the head's own host that fails again, while 08h leads to SAFE and a Loupe point of no such number is in progress (R312, R445). -/

/-- A Loupe point of a number far beyond 15, whose LoupePointStatus would stand where IntegrityDiscards stands. -/
def strayLoupePoint : LoupePoint := { strayPoint with point := Obj.integrityDiscards - Obj.loupePointStatus - 1 }

/-- The head in LOUPE with that point in progress, with 08h leading to SAFE; StreamControl selects the REPORT. -/
def strayReport : State :=
  let s := State.reset.setAll [(Obj.supervisorState, 0), (Obj.modeStatus, Mode.loupe), (Obj.domainStatus, modeDomains Mode.loupe),
    (Obj.ringRole, 2), (Obj.streamControl, 0x10001), (Obj.loupeSessionStatus, 2 ^ 16), (faultObj Obj.faultSeverity 8, 3)]
  { s with
    plan := { s.plan with running := .rom }
    loupe := { s.loupe with point := some strayLoupePoint } }

/-- A set whose CRC-32C has failed at H3, and fails again when it is read again. -/
def failsAgain : SetCheck := ⟨[], false, false⟩

theorem strayReport_found :
    (strayReport.found 1).planRuns = true ∧ (strayReport.found 1).reports 0x10000 = true ∧ (strayReport.found 1).streamSelects = true ∧
      (strayReport.found 1).isHead = true ∧ (strayReport.found 1).chosen = none ∧ (strayReport.found 1).get Obj.integrityDiscards = 0 := by
  and_intros <;> decide +kernel

/-- The discard counts and sets 08h, the entry into SAFE ends the point, and INCOMPLETE is written over the count. -/
theorem strayReport_discarded : (settle (effReport 0x10000 failsAgain (strayReport.found 1))).get Obj.integrityDiscards = 2 * 2 ^ 28 := by
  decide +kernel

theorem exec_report (dt : Nat) {param : Nat} {host : SetCheck} (s : State) (hw : Instr.wf (.report dt ⟨param, host⟩) = true) :
    exec (.report dt ⟨param, host⟩) s = .next (settle (effReport param host (s.found dt))) := by
  show run (Instr.wf (.report dt ⟨param, host⟩)) dt (effReport param host) s = _
  rw [hw]
  rfl

/-- Refutes O36: its third clause says of every state what IntegrityDiscards reads after a discard, and asks nothing of the Loupe point in
progress. The discard sets 08h (R445), which may lead to SAFE, which ends the point INCOMPLETE (R313). A point of a number outside 0 to 15, which
no mask brings but the statement admits, has its status written beyond LoupePointStatus: there it overwrites IntegrityDiscards. -/
theorem not_reportRuns : ¬ Obligations.ReportRuns := by
  unfold Obligations.ReportRuns
  rintro ⟨-, -, h⟩
  obtain ⟨hp, hr, hs, hh, hc, h0⟩ := strayReport_found
  obtain ⟨t, he, -, -, ht⟩ := h 1 0x10000 failsAgain strayReport (by decide) hp hr hs hh rfl rfl rfl (fun x hx => by simp [hc] at hx)
  rw [exec_report 1 strayReport (by decide), Host.Outcome.next.injEq] at he
  rw [← he, strayReport_discarded, h0] at ht
  exact absurd ht (by decide)

end Sys2Proof.Machine
end

section
namespace Sys2Proof.Machine

/-! The end of a slice whose spare is neither S1 nor S2 (R152, R467). -/

/-- A CONVERTER slice of cell 3 whose token has come, with a spare whose SpareState would stand where SliceLast of kind 01h stands. -/
def straySlice : Slice :=
  { kind := 1, e := 0, length := 0, target := 3, spare := Obj.sliceLast + 1 - Obj.spareState, loopAt := none, word := 0, planOn := 0,
    told := true }

/-- After a reset, with that slice running, SliceLast of kind 01h at 0300h, and the channel of cell 3 claiming S2. -/
def straySpare : State :=
  let s := State.reset.set (Obj.sliceLast + 1) 0x300
  { s with
    cells := { s.cells with sp2 := { s.cells.sp2 with claim := 3 } }
    test := { s.test with slices := [straySlice] } }

/-- A loop-back within its limits, with the right signature. -/
def loopPasses : SliceOut := ⟨true, .loop 10 10, []⟩

theorem straySpare_found :
    (straySpare.found 1).test.slices = [straySlice] ∧ (straySpare.found 1).sliceOver straySlice = true ∧
      (straySpare.found 1).get (Obj.sliceLast + 1) = 0x300 := by
  and_intros <;> decide +kernel

/-- The spare goes on covering its cell, which its SpareState shows: the count in SliceLast is written over. -/
theorem straySpare_released : (settle (effSliceEnd 1 3 false loopPasses (straySpare.found 1))).get (Obj.sliceLast + 1) = 0x303 := by
  decide +kernel

theorem exec_sliceEnd (dt : Nat) {kind n : Nat} {token : Bool} {o : SliceOut} (s : State)
    (hw : Instr.wf (.sliceEnd dt kind n token o) = true) :
    exec (.sliceEnd dt kind n token o) s = .next (settle (effSliceEnd kind n token o (s.found dt))) := by
  show run (Instr.wf (.sliceEnd dt kind n token o)) dt (effSliceEnd kind n token o) s = _
  rw [hw]
  rfl

/-- Refutes O37: its sixth clause says of every slice that SliceLast stays at its end once its token has come, and asks nothing of the spare that
the slice has taken. The end of a CONVERTER slice lets its spare go, or on to the channel that has claimed it (R152). A spare of a number other
than 1 and 2, which no slice takes but the statement admits, has its state written beyond SpareState: there it overwrites SliceLast. -/
theorem not_slicesRun : ¬ Obligations.SlicesRun := by
  unfold Obligations.SlicesRun
  rintro ⟨-, -, -, -, -, h, -⟩
  obtain ⟨hx, ho, hl⟩ := straySpare_found
  obtain ⟨t, he, -, ht⟩ := h 1 1 3 false loopPasses straySlice straySpare (by decide) hx rfl rfl ho
  rw [exec_sliceEnd 1 straySpare (by decide), Host.Outcome.next.injEq] at he
  rw [if_pos (show straySlice.told = true from rfl), ← he, straySpare_released, hl] at ht
  exact absurd ht (by decide)

end Sys2Proof.Machine
end
